-- ==== Sys2Proof/Word.lean ====
section
/-!
DEFINITION. The word types of the LQ8 and their plainest arithmetic: a 32-bit register word, a 64-bit epoch, and
saturating counters, as R14 and the register tables of the spec use them.
-/
namespace Sys2Proof

/-- A BAR0 register word (R17). -/
abbrev Word := BitVec 32

/-- A 64-bit epoch: a count of ticks (Terms, 00_scope). -/
abbrev Epoch := BitVec 64

/-- One frame is 4 t (Terms, 00_scope). -/
abbrev ticksPerFrame : Nat := 4

/-- One granule is 16 t (Terms, 00_scope). -/
abbrev ticksPerGranule : Nat := 16

/-- The tick is 400 ps: ticks in a number of microseconds (Terms, 00_scope). -/
def ticksOfMicroseconds (n : Nat) : Nat := n * 2500

/-- Ticks in a number of milliseconds. -/
def ticksOfMilliseconds (n : Nat) : Nat := n * 2500000

/-- Ticks in a number of seconds. -/
def ticksOfSeconds (n : Nat) : Nat := n * 2500000000

end Sys2Proof
end

