-- ==== Sys2Proof/Syntax.lean ====
section
/-!
DEFINITION. The commands of the LQ8, one constructor for each row of spec/opcode_table.json, in the table's order. A command
is an access of the host, an event on a pin, or one step that a unit of the part makes by itself (log entry 1 says who sends a
command and when). `rid` is the PCI Express Requester ID of an access, 0xFFFF the MP; `r` is a Rank, `e` an engine of the Rank,
`p` a port or a Dalid port, `l` a lane, `k` a mailbox slot or an output, `uid` the number the model gives a descriptor when its
fetch is issued, `wait` the microseconds that the MP reports of its wait.
-/
namespace Sys2Proof

/-- The commands. Each docstring is the row's own summary. (DESIGN CHOICE, log 1; DESIGN CHOICE, log 4.) -/
inductive Instr where
  /-- REGISTER_WRITE (R14): A BAR0 write to a register that has no row of its own is taken or refused by its type, the mode (R533), locks, seal and range rules. -/
  | registerWrite (rid addr : Nat) (value : BitVec 32)
  /-- BAR0_8_BYTE_ACCESS (R106): An aligned 8-byte BAR0 access is carried out as a low-half then high-half 32-bit access in one tick, counting as one access. -/
  | bar08ByteAccess (rid addr : Nat) (write : Bool) (value : BitVec 64)
  /-- BAR0_BAD_WIDTH_ACCESS (R107): A BAR0 access of another width or alignment returns 0 or has no effect and sets the access-error flag with CAUSE 0x3. -/
  | bar0BadWidthAccess (rid addr : Nat) (write : Bool)
  /-- PAIR_LOW_READ (R71): A read of a 64-bit pair's low half returns it and copies the high half into the requester's read shadow. -/
  | pairLowRead (rid addr : Nat)
  /-- PAIR_HIGH_READ (R72): A read of a high half returns and empties the shadow if it is tagged with that pair, otherwise the live high half. -/
  | pairHighRead (rid addr : Nat)
  /-- PAIR_LOW_WRITE (R73): A write of a low half of a wo or rw pair is held in the requester's write shadow without error. -/
  | pairLowWrite (rid addr : Nat) (value : BitVec 32)
  /-- PAIR_HIGH_WRITE (R73): A write of a high half commits both halves in one tick, judging every allow or refuse condition once at the commit. -/
  | pairHighWrite (rid addr : Nat) (value : BitVec 32)
  /-- REQUEST_SETUP (R33): A write of BRD_MODE.REQ naming SETUP changes the mode by row 1 of Table 01-8 or refuses it. -/
  | requestSetup
  /-- REQUEST_STANDBY (R31): A request for STANDBY from SETUP enters STANDBY, powering down the Rank analog sections. -/
  | requestStandby
  /-- REQUEST_ARMED (R36): A request for ARMED first deals with HOLD_SUPPLY, then enters ARMED from SETUP if lock, edge, supply and throttle conditions hold, or clears HOLD causes from HOLD. -/
  | requestArmed (warnOk hystOk : Bool)
  /-- REQUEST_HOLD (R534): A request for HOLD from ARMED, RUN or HOLD enters or stays in HOLD and sets HOLD_HOST. -/
  | requestHold
  /-- REQUEST_QUIESCE (R39): A request for QUIESCE enters QUIESCE and cancels every admitted shot not yet started. -/
  | requestQuiesce
  /-- REQUEST_CALIBRATE (R457): A request for CALIBRATE from SETUP enters CALIBRATE and starts the calibration routine if the PLL is locked and supplies are above warning. -/
  | requestCalibrate (warnOk : Bool)
  /-- REQUEST_TEST (R33): A request for TEST from SETUP enters TEST. -/
  | requestTest
  /-- REQUEST_SEALED (R38): A request for SEALED from SETUP is carried out only with SEAL_N fitted and the presence window open. -/
  | requestSealed
  /-- REQUEST_CLEAR (R37): A request for CLEAR, including any write with REQ 0x0, is refused with 0x1 except in CLEAR where it reports 0x0. -/
  | requestClear
  /-- REQUEST_HOLDOVER (R37): A request for HOLDOVER is refused with 0x1 except in HOLDOVER where it reports 0x0. -/
  | requestHoldover
  /-- REQUEST_TRIPPED (R37): A request for TRIPPED is refused with 0x1 except in TRIPPED where it reports 0x0. -/
  | requestTripped
  /-- REQUEST_UNDEFINED_MODE (R37): A request for a mode code 0xC to 0xF is refused with REQ_RESULT 0xA. -/
  | requestUndefinedMode (code : Nat)
  /-- POWER_ON (R50): A power-on restarts the part from the first power-up stage whatever its mode. -/
  | powerOn
  /-- INTERNAL_POWER_GOOD (R503): After every rail has been above its reset level for 2 ms, outputs take the power-up state of R49 and stage 0x1 begins. -/
  | internalPowerGood
  /-- POWER_UP_STAGE_END (R50): A power-up stage ends without fault and the next stage starts, or a fault stops power-up and sets BRD_BOOT.FAIL. -/
  | powerUpStageEnd (fault : Bool) (mask : Nat)
  /-- SUPPLY_RESET (R477): A rail below its reset level for 250 ticks restarts the part from the first stage with RESET_CAUSE 0x2. -/
  | supplyReset (rail : Nat)
  /-- SUPPLY_WARNING (R475): A rail below warning for 250 ticks sets DIP_ACTIVE, applies row 11 of Table 01-8, raises BRD_EVT.SUPPLY and opens a dip log entry. -/
  | supplyWarning (rail : Nat)
  /-- SUPPLY_RECOVERY (R475): After 2,500 ticks with every rail above warning plus hysteresis the dip ends, is logged, and row 12 applies or the dip is marked long. -/
  | supplyRecovery
  /-- CLR_N_FALL (R267): A recognised CLR_N low aborts every shot, puts every output in its CLR_N state and resets the output control registers. -/
  | clrNFall
  /-- CLRCODE_APPLY (R300): At R + 5,001 a BIAS output whose clear span differed from the span in force takes BIA_CLRCODEk.CODE. -/
  | clrcodeApply (r k : Nat)
  /-- PERST_N_ASSERT (R56): PERST_N assertion clears the Clock and rings, aborts shots and abandons untimed work without entries, and records RESET_CAUSE. -/
  | perstNAssert
  /-- PERST_N_RELEASE (R51): Release of PERST_N lets the PCI Express endpoint leave reset and complete configuration requests within 100 ms. -/
  | perstNRelease
  /-- HOT_RESET (R56): A hot reset acts as PERST_N assertion on the Clock, rings, shots and untimed work. -/
  | hotReset
  /-- FUNCTION_LEVEL_RESET (R56): A function-level reset acts as PERST_N assertion on the Clock, rings, shots and untimed work. -/
  | functionLevelReset
  /-- LINK_RECOVERY (R100): The link leaves recovery, and if capacity falls below reserved stream bandwidth BRD_EVT.LINK is raised and delivery holds the excess in order. -/
  | linkRecovery (rate width : Nat) (flit : Bool)
  /-- EPOCH_IN_EDGE (R61): A REFIN rising edge finds EPOCH_IN newly high and the edge is accepted or ignored by the conditions of R61. -/
  | epochInEdge
  /-- REFIN_LOSS (R91): At the detection tick 2.5 REFIN periods after the last edge, HOLDOVER, LOST and SUSPECT set, LOCK clears and row 15 applies. -/
  | refinLoss
  /-- REFIN_RESTORED (R94): REFIN returns within tolerance and the tick PLL starts to re-lock and slew into alignment. -/
  | refinRestored
  /-- PLL_LOCKED (R94): At the end of the alignment slew HOLDOVER clears, LOCK sets and row 16 of Table 01-8 applies. -/
  | pllLocked
  /-- EPO_TRIM_WRITE (R67): A write of EPO_TRIM in SETUP sets LOAD and FINE, a FINE change slewing the tick phase; outside SETUP it is refused with CAUSE 0x1. -/
  | epoTrimWrite (rid : Nat) (value : BitVec 32)
  /-- ALARM_ENABLE (R69): Enabling an epoch alarm arms it, and one whose compare value is already past sets LATE to fire in the next tick. -/
  | alarmEnable (rid n : Nat) (value : BitVec 32)
  /-- ALARM_FIRE (R68): An enabled alarm fires in the tick of its compare value, sets FIRED, signals engines and TDCs, and advances or disables itself. -/
  | alarmFire (n : Nat)
  /-- BRD_EVT_EN_WRITE (R110): A write of BRD_EVT_EN that enables a bit already set raises MSI-X vector 0. -/
  | brdEvtEnWrite (rid : Nat) (value : BitVec 32)
  /-- ANGLE_REFERENCE_EDGE (R77): A recognised reference edge measures and accepts or rejects the period, updates rate and lock, and resets the phase to OFS. -/
  | angleReferenceEdge
  /-- ANGLE_INCREMENT_EDGE (R77): An ENCODER increment edge advances k and sets the phase to its encoder position. -/
  | angleIncrementEdge
  /-- ANGLE_STALL (R78): No reference or increment edge within its time limit clears LOCK and sets LOCK_LOST and STALL. -/
  | angleStall
  /-- ANGLE_CFG_WRITE (R79): A write of EPO_ANG_CFG or EPO_ANG_ENC clears LOCK and restarts acquisition, unless an admitted shot names an angle window. -/
  | angleCfgWrite (rid : Nat) (enc : Bool) (value : BitVec 32)
  /-- ANGLE_WINDOW_EDGE (R80): An angle window's enter or leave edge reaches the engines of every Rank 8 t after the angle crosses. -/
  | angleWindowEdge (n : Nat)
  /-- EPO_CAL_STEP (R85): A commit of EPO_CAL_STEP adds its signed value to the calendar offset and increments STEP_GEN if non-zero. -/
  | epoCalStep (rid : Nat) (high : BitVec 32)
  /-- EPO_CAL_RATE_ADJ (R86): A write of EPO_CAL_RATE_ADJ adds to EPO_CAL_RATE with saturation, setting RATE_SAT if it saturates. -/
  | epoCalRateAdj (rid : Nat) (value : BitVec 32)
  /-- DISCIPLINE_WATCH_EXPIRY (R87): WATCH seconds of ticks without a step commit or rate adjustment clear DISCIPLINED. -/
  | disciplineWatchExpiry
  /-- SNAPSHOT_GO (R89): A write of EPO_SNAP_CTRL.GO captures at once with SRC 0 or arms a capture on the selected source, emptying DONE. -/
  | snapshotGo (rid : Nat) (value : BitVec 32)
  /-- SNAPSHOT_CAPTURE (R89): The first rising edge of the armed source captures epoch, calendar and angle status in one tick and sets DONE. -/
  | snapshotCapture
  /-- SQ_ENABLE (R113): Setting EN of an SQ sets head and tail to 0, or is refused with CAUSE 0xA if its CQ is disabled. -/
  | sqEnable (rid n : Nat) (value : BitVec 32)
  /-- SQ_DISABLE (R114): Clearing EN of an SQ stops fetching; fetched descriptors are decided and those not yet fetched lapse. -/
  | sqDisable (rid n : Nat)
  /-- CQ_ENABLE (R113): Setting EN of a CQ sets head, tail and pass count to 0. -/
  | cqEnable (rid n : Nat) (value : BitVec 32)
  /-- CQ_DISABLE (R114): Clearing EN of a CQ is refused with CAUSE 0x8 while entries are owed or an enabled SQ names it. -/
  | cqDisable (rid n : Nat)
  /-- RING_CFG_WRITE (R535): A write of ring configuration while EN is 0 stores it, or has no effect with CAUSE 0xB or 0x9 for a bad size or vector. -/
  | ringCfgWrite (rid addr : Nat) (value : BitVec 32)
  /-- SQ_TAIL_DOORBELL (R120): An SQ tail doorbell takes a new tail within range and free space, or puts the SQ in ERROR with a ring event. -/
  | sqTailDoorbell (rid n : Nat) (value : BitVec 32)
  /-- CQ_HEAD_DOORBELL (R121): A CQ head doorbell takes a new head within range, or has no effect with CAUSE 0x6 or 0xC. -/
  | cqHeadDoorbell (rid n : Nat) (value : BitVec 32)
  /-- DESCRIPTOR_FETCH (R125): The ring engine issues the read requests for the next fetchable descriptor once CQ credit, holding room and Clock room allow. -/
  | descriptorFetch (sq slots : Nat) (barrier : Bool)
  /-- DESCRIPTOR_ARRIVAL (R125): The last byte of a descriptor's last slot is received, fixing its arrival epoch and handing it to the Clock. -/
  | descriptorArrival (sq uid : Nat) (base : BitVec 512) (ext : List (BitVec 512))
  /-- FETCH_ERROR (R137): A failed descriptor read puts the SQ in ERROR, sets PCI_DMA_ERR, raises BRD_EVT.RING and writes a ring event. -/
  | fetchError (sq uid kind : Nat)
  /-- SHOT (R154): A SHOT descriptor is checked against every format, claim and budget rule and accepted or declined with an admission entry. -/
  | shot (sq : Nat)
  /-- GANG_PREPARE (R167): A Rank shard receives a prepare message, runs its checks, takes tentative holds and answers yes or no. -/
  | gangPrepare (r : Nat)
  /-- GANG_COMMIT (R167): When every shard has answered, the Board shard commits all holds or releases them and declines the gang. -/
  | gangCommit
  /-- ABORT (R158): An ABORT descriptor is decided and fixes the abort epoch A = D + 64 for the targeted shots. -/
  | abort (sq : Nat)
  /-- NOP_DESCRIPTOR (R129): A NOP descriptor is checked and receives its final entry directly after its admission entry, acting as a fence with BARRIER. -/
  | nopDescriptor (sq : Nat)
  /-- LOAD_MICRO (R196): A LOAD_MICRO descriptor is admitted and writes an image into the named engines' micro stores and their Record Store copies. -/
  | loadMicro (sq : Nat) (image : List (Option (BitVec 32)))
  /-- LOAD_NANO (R196): A LOAD_NANO descriptor is admitted and writes an image into the nano stores of the named Ranks and their copies. -/
  | loadNano (sq : Nat) (image : List (Option (BitVec 256)))
  /-- LOAD_CACHE (R221): A LOAD_CACHE descriptor is admitted, marks touched blocks not resident and writes the image into cache and backing copy. -/
  | loadCache (sq : Nat) (image : List (Option (BitVec 32)))
  /-- LOAD_COMPLETE (R197): A load's final entry is written once every store and its copy hold the image, making touched blocks resident. -/
  | loadComplete (uid : Nat) (kinds : BitVec 4)
  /-- STREAM_WINDOW (R245): A STREAM_WINDOW descriptor is checked and admitted to supply a stream's segments over its play interval. -/
  | streamWindow (sq : Nat) (data : List (BitVec 32))
  /-- RECORD_SET_ALLOC (R332): A RECORD_SET ALLOC descriptor is admitted and begins allocating a record set in the pool. -/
  | recordSetAlloc (sq : Nat)
  /-- RECORD_SET_READY (R333): An allocating record set becomes READY and its ALLOC receives its final entry. -/
  | recordSetReady (uid : Nat) (pages : List Nat)
  /-- RECORD_SET_RECYCLE (R334): A RECORD_SET RECYCLE descriptor is admitted to free the oldest delivered filled segments of a set. -/
  | recordSetRecycle (sq : Nat)
  /-- RECYCLE_DONE (R333): The recycled segments are free and the RECYCLE receives its final entry. -/
  | recycleDone (uid : Nat)
  /-- RELEASE (R396): A RELEASE descriptor is admitted and puts each named set in RELEASING. -/
  | release (sq : Nat)
  /-- RELEASE_DONE (R397): Every named set has delivered its records and returned its pages, and the RELEASE receives its final entry. -/
  | releaseDone (uid : Nat)
  /-- FINAL_ENTRY (R26): The Board writes a descriptor's final completion entry once its records are delivered and 640 t have passed since its end of shot. -/
  | finalEntry (uid : Nat)
  /-- COALESCE_TIMEOUT (R134): At a tick whose epoch is a multiple of 256, a CQ whose oldest pending entry is TIME × 256 t old raises its vector. -/
  | coalesceTimeout (n : Nat)
  /-- MSIX_UNMASK (R135): Unmasking a vector whose Pending Bit is set sends its message. -/
  | msixUnmask (rid v : Nat)
  /-- MAILBOX_POST (R141): Host software writes STATE POSTED to a slot and the MP is notified of the request. -/
  | mailboxPost (k seq cmd len expire opt : Nat) (payload : List (BitVec 8))
  /-- MAILBOX_CANCEL (R143): A cancel written in POSTED moves the slot to DONE with STATUS CANCELLED; in BUSY it has no effect. -/
  | mailboxCancel (k : Nat)
  /-- MAILBOX_EXPIRE (R143): A request not started within EXPIRE ms moves to DONE with STATUS EXPIRED and is not carried out. -/
  | mailboxExpire (k : Nat)
  /-- ECHO (R141): The MP replies with a payload repeating the request payload. -/
  | echo (k wait : Nat)
  /-- VERSION (R141): The MP replies with the firmware version, FW_SLOT and SERVER. -/
  | version (k wait : Nat)
  /-- SHOT_START (R225): At ball tick s each claimed port begins rest granules, its channel state and private slot offset are reset, and ARMED moves to RUN. -/
  | shotStart (uid : Nat)
  /-- ENGINE_LEAD (R179): At s − 256 each claimed engine loads its start state from ENTRY and ARG. -/
  | engineLead (r e : Nat)
  /-- SPAN_FENCE (R149): At START_EPOCH + SPAN every engine of the shot still running or draining is stopped and the fence is counted. -/
  | spanFence (uid : Nat)
  /-- ABORT_EPOCH (R158): At abort epoch A each targeted shot is cancelled or its engines stop, with status ABORTED_HOST. -/
  | abortEpoch (uid : Nat)
  /-- END_OF_SHOT (R26): The last scheduled sample has played and the last verdict is delivered, freeing the shot's exclusive claims. -/
  | endOfShot (uid : Nat)
  /-- CLAIM_RELEASE (R151): At the end of a flow or space claim's interval its bandwidth and space are freed, freeing the reservation with its last claim. -/
  | claimRelease (uid : Nat)
  /-- FAILURE_NOTICE (R168): At F + 24 the fabric delivers a failure notice to every Rank, and with GANG_STOP the survivors stop at their next boundary. -/
  | failureNotice (uid r : Nat)
  /-- CLK_STATS_CLR (R177): A write of CLK_CTRL.STATS_CLR clears MAX_DECISION, CLK_GUARD, CLK_DROP and every decline count. -/
  | clkStatsClr (rid : Nat) (value : BitVec 32)
  /-- NOP (R186): The NOP microword does nothing for its cycle length. -/
  | nop (r e : Nat)
  /-- PLAY (R186): The PLAY microword applies its nanoword at its ball tick if its condition holds. -/
  | play (r e : Nat)
  /-- JMP (R186): The JMP microword goes to its target if its condition holds. -/
  | jmp (r e : Nat)
  /-- CALL (R188): The CALL microword pushes PC + 1 and goes to its target if its condition holds, faulting on overflow. -/
  | call (r e : Nat)
  /-- RET (R188): The RET microword pops the return stack into PC if its condition holds, faulting on underflow. -/
  | ret (r e : Nat)
  /-- LDC (R186): The LDC microword loads a counter with its 16-bit value. -/
  | ldc (r e : Nat)
  /-- LOOP (R187): The LOOP microword decrements a non-zero counter and jumps to its target if the result is not 0. -/
  | loop (r e : Nat)
  /-- ADDC (R186): The ADDC microword adds its value to a counter modulo 2^16. -/
  | addc (r e : Nat)
  /-- TEST (R186): The TEST microword sets FLAG to whether a counter equals its value. -/
  | test (r e : Nat)
  /-- VARM (R198): The VARM microword arms a verdict latch for its ARMS source, frees earlier arms and takes staging slots for its distinct targets. -/
  | varm (r e : Nat)
  /-- STAGING_COMPLETE (R198): Staging of a latch's arms completes at I + 8 + 4n. -/
  | stagingComplete (r e latch : Nat)
  /-- BRV (R200): The BRV microword begins waiting on a latch, testing it at poll ticks. -/
  | brv (r e : Nat)
  /-- BRV_END (R200): At a poll tick with a captured verdict and staging complete, BRV ends and the arm TARGET[v] issues 8 t later. -/
  | brvEnd (r e : Nat)
  /-- BRV_TIMEOUT (R200): At the first poll tick at or after I + T without a verdict, BRV ends with v = 0xF. -/
  | brvTimeout (r e : Nat)
  /-- WAITA (R206): The WAITA microword begins waiting for a firing of an epoch alarm. -/
  | waita (r e : Nat)
  /-- WAITW (R206): The WAITW microword begins waiting for an angle window to be inside or not inside. -/
  | waitw (r e : Nat)
  /-- WAIT_END (R206): At a poll tick where the awaited event has occurred the wait ends with FLAG 0. -/
  | waitEnd (r e : Nat)
  /-- WAIT_TIMEOUT (R206): At the first poll tick at or after I + T the wait ends with FLAG 1. -/
  | waitTimeout (r e : Nat)
  /-- QUIET (R186): The QUIET microword declares a quiet point at its ball tick for the engine's claimed FFX and BIAS ports. -/
  | quiet (r e : Nat)
  /-- STOP (R184): The STOP microword ends the routine; started work plays on and ports then rest. -/
  | stop (r e : Nat)
  /-- NANOWORD_APPLY (R193): At a PLAY's ball tick the nanoword applies its port, acquisition, bias, FRAME and marker commands in fixed order. -/
  | nanowordApply (r e : Nat)
  /-- PORT_START (R228): A START takes effect on its port, cutting the current piece or waiting behind a streamed segment, and sets the channel state. -/
  | portStart (r p : Nat)
  /-- PORT_JUMP (R231): A JUMP reaching a port becomes its pending JUMP, to be committed at a segment boundary. -/
  | portJump (r p : Nat)
  /-- PORT_HALT (R228): A HALT takes effect on its port and the port rests. -/
  | portHalt (r p : Nat)
  /-- PORT_MODIFY (R229): A MODIFY applies FSLOT, PH, PHASE and AMP to the channel state of whatever plays. -/
  | portModify (r p : Nat)
  /-- SEGMENT_COMMIT (R230): At a port's commit tick the piece beginning at the next boundary is chosen from the pending command, the next repetition or a rest granule. -/
  | segmentCommit (r p : Nat)
  /-- MICRO_TRAP (R210): An uncorrectable microword or nanoword read makes the engine save its micro-state and retry from the Record Store copy. -/
  | microTrap (r e : Nat) (nano : Bool) (addr due : Nat)
  /-- TRAP_RETRY_END (R212): A retry restores the engine by the due tick and resumes it exactly, or fails and makes the Rank fail. -/
  | trapRetryEnd (r e : Nat)
  /-- STREAM_MISSING (R251): At a stream's lead tick with the next window not admitted, the engine traps with cause STREAM_MISSING and arms the fallback. -/
  | streamMissing (r n : Nat)
  /-- CACHE_REWRITE (R224): The Board rewrites a poisoned cache word from its backing copy within 2,000 t of the read. -/
  | cacheRewrite (r word : Nat)
  /-- STREAM_WINDOW_END (R250): At the end of a window's play or its owner's end or stop, unplayed data is dropped, space released and the window's final entry follows. -/
  | streamWindowEnd (uid : Nat)
  /-- STREAM_READ_FAILURE (R139): A failed read of stream data poisons the affected data and sets PCI_DMA_ERR.STREAM. -/
  | streamReadFailure (uid first count : Nat)
  /-- SE_STATS_CLR (R216): A write of SE_CTRL.STATS_CLR clears SE_STAGE.PEAK, SE_CONFLICT, SE_TRAPS and every SE_TRAPe.COUNT. -/
  | seStatsClr (rid r : Nat)
  /-- RNK_STRM_CLR (R255): A write of RNK_STRM_CTRL.CLR clears RNK_STRM_STAT. -/
  | rnkStrmClr (rid r : Nat)
  /-- DRV_CTRL_WRITE (R266): A write of DRV_CTRLd, DRV_ROTX_CTRLf or DRV_MRK_CTRL stores MUTE, FSC and SHIFT, or is refused with CAUSE 0x4 while claimed. -/
  | drvCtrlWrite (rid r line : Nat) (value : BitVec 32)
  /-- LINE_SETTING_EFFECT (R268): A written MUTE, FSC or SHIFT takes effect at the first frame tick 64 t after the write. -/
  | lineSettingEffect (r line : Nat)
  /-- FSC_SETTLE_END (R271): 5,000 t after an FSC change the line leaves zero differential and returns to its MUTE state. -/
  | fscSettleEnd (r line : Nat)
  /-- SLOT_EFFECT (R276): A committed setup slot write takes effect for FREQ, PHOFS and gain at the first frame tick 64 t after the commit. -/
  | slotEffect (r f : Nat)
  /-- INTERP_EFFECT (R278): A written SYN_CHc.INTERP takes effect at the first frame tick 64 t after the write. -/
  | interpEffect (r c : Nat)
  /-- SYN_STATS_CLR (R285): A write of SYN_CTRL.STATS_CLR clears every SAT and LIM_HIT count and every bit of DRV_HIT and DRV_HIT2. -/
  | synStatsClr (rid r : Nat)
  /-- CALIBRATION_STAGE_END (R458): A stage of the calibration routine ends and the next one runs. -/
  | calibrationStageEnd (six : Bool) (meas : Int) (results : List (Nat × Nat × Nat × List (BitVec 16)))
  /-- CALIBRATION_END (R460): The routine ends, every result is applied in one tick and row 17 returns the part to SETUP. -/
  | calibrationEnd
  /-- RANGE_CHANGE_REQUEST (R303): A write of FFX_CTRLk.SPAN or BIA_CTRLk.SPAN does nothing, cancels, or sets a pending range change. -/
  | rangeChangeRequest (rid r : Nat) (bias : Bool) (k : Nat) (value : BitVec 32)
  /-- RANGE_HOLD_BEGIN (R304): A pending range change begins its hold: SPAN_NOW takes the new span and the output plays code 0. -/
  | rangeHoldBegin (r : Nat) (bias : Bool) (k : Nat)
  /-- RANGE_HOLD_END (R306): After H ticks the hold ends and FFX plays its due sample or BIAS stays at 0 V in the new span. -/
  | rangeHoldEnd (r : Nat) (bias : Bool) (k : Nat)
  /-- FFX_VAL_EFFECT (R293): A written FFX_VALk takes effect as x at the first tick 64 t later outside a range-change hold. -/
  | ffxValEffect (r k : Nat)
  /-- BIA_VAL_EFFECT (R295): An accepted BIA_VALk write takes effect at the first tick 64 t after it, 25,000 t after the last update and outside a hold. -/
  | biaValEffect (r k : Nat)
  /-- LIMIT_EFFECT (R297): A written LIM or VLIM takes effect 64 t later, clamping any BIAS value above the new limit at once. -/
  | limitEffect (r : Nat) (bias : Bool) (k : Nat)
  /-- PREDISTORTION_EFFECT (R291): A written FFX_PD0k or FFX_PD1k takes effect 64 t later with both term states set to the current x. -/
  | predistortionEffect (r k : Nat)
  /-- FFX_STATS_CLR (R313): A write of FFX_CTRL.STATS_CLR clears every FFX_STATk, FFX_DROPk and FFX_HIT. -/
  | ffxStatsClr (rid r : Nat)
  /-- BIA_STATS_CLR (R314): A write of BIA_CTRL.STATS_CLR clears every BIA_STATk and BIA_HIT. -/
  | biaStatsClr (rid r : Nat)
  /-- FILT_EFFECT (R318): A written DMD_TONEk.FILT takes effect at a frame tick 64 t later, clearing the filter history and making frames invalid. -/
  | filtEffect (r k : Nat)
  /-- GAIN_EFFECT (R318): A written DMD_RXCFGf.GAIN takes effect at a frame tick 64 t later and makes 16 frames of every tone of the feedline invalid. -/
  | gainEffect (r f : Nat)
  /-- RESULT_WINDOW_ARM (R320): An acquisition command arms its result window at b + DELAY, or is dropped if the window is busy. -/
  | resultWindowArm (r k : Nat)
  /-- WINDOW_OPEN (R328): An armed window opens at its scheduled frame tick or the frame tick after its trigger, and any trace capture begins. -/
  | windowOpen (r k : Nat) (unit : Bool)
  /-- FORCED_TRIGGER (R328): With no trigger by H + TIMEOUT a forced trigger opens the window and FORCED is set. -/
  | forcedTrigger (r k : Nat) (unit : Bool)
  /-- INTEGRATION_END (R321): At end of integration B the window's point is computed over its valid frames. -/
  | integrationEnd (r k : Nat) (ue : Bool)
  /-- VERDICT_ON_FABRIC (R343): At B + 20 the window's verdict is put on the verdict fabric. -/
  | verdictOnFabric (r k : Nat)
  /-- ROUTE_ENQUEUE (R354): At B + 28 a verdict mapped to a route enters the queue of each OUT port with D = B + 194, subject to policing. -/
  | routeEnqueue (r k : Nat)
  /-- VERDICT_DELIVERY (R343): At B + 44 the fabric delivers the verdict to every populated Rank and VRD_LASTj. -/
  | verdictDelivery (r k : Nat)
  /-- CAPTURE_END (R330): A trace capture ends and its record completes, and the unit begins re-arming. -/
  | captureEnd (r u : Nat)
  /-- TRACE_REARM (R331): DEAD ticks after a capture ends the trace unit is re-armed. -/
  | traceRearm (r u : Nat)
  /-- RECORD_DELIVERY (R395): A completed record is written to host memory in SEQ order, payload first, then VALID, then the MIRROR count. -/
  | recordDelivery (set : Nat)
  /-- STREAM_THROUGH_DRAIN_END (R338): A stream-through capture finishes draining and its header and VALID are written. -/
  | streamThroughDrainEnd (set lost : Nat)
  /-- DMD_STATS_CLR (R341): A write of DMD_CTRL.STATS_CLR clears DMD_INV and every DMD_RXSTATf.OVR. -/
  | dmdStatsClr (rid r : Nat)
  /-- ACQ_STATS_CLR (R342): A write of ACQ_CTRL.STATS_CLR clears ACQ_STAT and every FORCED and MISSED count. -/
  | acqStatsClr (rid r : Nat)
  /-- BLOCK_TRANSMIT (R356): A port's transmit side sends its queued verdicts in delivery-tick, route and group order as verdict blocks. -/
  | blockTransmit (l : Nat)
  /-- VERDICT_BLOCK_RECEIVED (R357): A received data block is checked, its DUE decoded, and it is held for delivery or discarded as late or bad. -/
  | verdictBlockReceived (l : Nat) (block : BitVec 64)
  /-- ROUTE_FORWARD (R355): At D − 16 a received verdict enters each OUT port queue with delivery tick D + 150 and HOP increased. -/
  | routeForward (n : Nat)
  /-- ROUTED_DELIVERY (R345): At delivery tick D a routed verdict on a LOCAL route is delivered to every Rank as one event. -/
  | routedDelivery (n : Nat)
  /-- LOSS_CAPTURE (R358): At X + 16 every latch armed on a lost route and not full captures 0xE and the loss is counted. -/
  | lossCapture (n : Nat)
  /-- FRAME_TRANSMIT (R364): A lane begins a frame of 64 blocks with COMMA and IDLE, followed by LOSS, verdict, MGMT and IDLE blocks. -/
  | frameTransmit (l : Nat)
  /-- EPOCH_CHECK_SEND (R364): Once every 64 frames a lane sends an EPOCH_CHECK block carrying the epoch of its first bit. -/
  | epochCheckSend (l : Nat)
  /-- PORT_ID_SEND (R364): Once every 64 frames, 32 frames after EPOCH_CHECK, a lane sends a PORT_ID block. -/
  | portIdSend (l : Nat)
  /-- COMMA (R366): A received COMMA marks frame position 0 for frame lock, or a bad one is discarded in CTL_ERR. -/
  | comma (l : Nat) (body : BitVec 56)
  /-- IDLE (R365): A received IDLE at frame position 1 may be deleted or repeated by the elastic buffer for rate matching. -/
  | idle (l fill : Nat)
  /-- EPOCH_CHECK (R367): A received EPOCH_CHECK gives EPOCH_DELTA and passes or fails, moving the lane between CHECK and TRAINED. -/
  | epochCheck (l : Nat) (data : BitVec 48)
  /-- PORT_ID (R363): A received PORT_ID records the partner's serial and port number in PEER_LO and PEER_HI. -/
  | portId (l : Nat) (data : BitVec 48)
  /-- EQ_REQ (R368): A received EQ_REQ sets the lane's PRE and POST when EQ_REMOTE is 1, and is answered with EQ_ACK. -/
  | eqReq (l : Nat) (data : BitVec 48)
  /-- EQ_ACK (R368): A received EQ_ACK answers an EQ_REQ during training. -/
  | eqAck (l : Nat) (data : BitVec 48)
  /-- LOSS_LO (R358): A received LOSS_LO notice makes the routes 0–47 it names lost. -/
  | lossLo (l : Nat) (data : BitVec 48)
  /-- LOSS_HI (R358): A received LOSS_HI notice makes the routes 48–63 it names lost. -/
  | lossHi (l : Nat) (data : BitVec 48)
  /-- CLOCK_RECOVERED (R371): A lane in CDR recovers its clock and moves to BLOCK to seek block lock. -/
  | clockRecovered (l : Nat)
  /-- BLOCK_LOCK (R366): After 64 consecutive blocks with valid headers the lane has block lock and moves to FRAME. -/
  | blockLock (l : Nat)
  /-- FRAME_LOCK (R366): COMMA at the expected distance in 2 successive frames gives frame lock and moves the lane to CHECK. -/
  | frameLock (l : Nat)
  /-- LOCK_LOSS (R366): 16 bad headers in 64 blocks, or 2 frames without COMMA, makes the lane lose lock and enter FAULT. -/
  | lockLoss (l : Nat)
  /-- FAULT_RETRY (R371): With AUTO set, a lane in FAULT returns to CDR after 1 ms. -/
  | faultRetry (l : Nat)
  /-- MSH_RTE_WRITE (R347): A write of MSH_RTEn updates the route entry and its STATE as DECLARED, OVER or OFF, unless a shot claims the route. -/
  | mshRteWrite (rid n word : Nat) (value : BitVec 32)
  /-- LANE_ENABLE (R371): Setting a lane's bit in LANE_EN moves it to CDR, and clearing it moves it to DISABLED. -/
  | laneEnable (rid p : Nat) (value : BitVec 32)
  /-- LOOP_SELECT (R369): A write of DLD_PORTp.CFG.LOOP puts the port's lanes into the selected loopback, unless a shot claims a route through it. -/
  | loopSelect (rid p : Nat) (value : BitVec 32)
  /-- TXEQ_EFFECT (R368): A change of a lane's transmit taps takes effect at its next frame boundary. -/
  | txeqEffect (l : Nat)
  /-- VRD_STATS_CLR (R346): A write of VRD_CTRL.STATS_CLR clears VRD_CNT, VRD_POISON and VRD_LOSS. -/
  | vrdStatsClr (rid : Nat)
  /-- MSH_STATS_CLR (R373): A write of MSH_CTRL.STATS_CLR clears every MSH_RTSTATn. -/
  | mshStatsClr (rid : Nat) (value : BitVec 32)
  /-- DLD_STATS_CLR (R374): A write of DLD_CTRL.STATS_CLR clears every port and lane counter. -/
  | dldStatsClr (rid : Nat)
  /-- TRAIN_PORT (R372): The MP trains a port, exchanging EQ_REQ and EQ_ACK, and replies OK when it is UP within 100 ms. -/
  | trainPort (k wait : Nat) (reqs : List (Nat × Nat × Nat))
  /-- EYE_SCAN (R372): The MP measures a locked lane's eye opening and replies with it. -/
  | eyeScan (k wait h v : Nat)
  /-- RESET_PORT (R372): The MP restarts a port's lanes from CDR. -/
  | resetPort (k wait : Nat)
  /-- SCRUB_READ (R387): The scrubber reads the next codeword in address order and corrects, poisons and logs as a read does. -/
  | scrubRead
  /-- SCRUB_PASS_END (R387): A scrub pass ends, PASSES counts it and the next pass begins at address 0. -/
  | scrubPassEnd
  /-- ERROR_INJECT (R391): A write of BRD_MEM_INJ.GO in TEST inverts NBITS bits of the stored codeword, or elsewhere is refused with CAUSE 0x1. -/
  | errorInject (rid : Nat) (value : BitVec 32)
  /-- LOG_CLR (R400): A write of BRD_MEM_CTRL.LOG_CLR empties the error log and clears LOST. -/
  | logClr (rid : Nat)
  /-- MEM_STATS_CLR (R400): A write of BRD_MEM_CTRL.STATS_CLR clears every BRD_MEM_CNTs. -/
  | memStatsClr (rid : Nat)
  /-- TRIGGER_EDGE (R403): A TRIG_IN edge held DEGLITCH + 1 samples is stamped and reaches result windows and snapshots. -/
  | triggerEdge (n : Nat) (rising : Bool)
  /-- TDC_ARM (R408): A write of TDC_CTRLc.ARM moves the channel from IDLE or DONE to ARMED. -/
  | tdcArm (rid c : Nat)
  /-- TDC_DISARM (R414): A write of TDC_CTRLc.DISARM moves the channel to IDLE and abandons any open window. -/
  | tdcDisarm (rid c : Nat)
  /-- TDC_START (R408): The first start event of an ARMED channel opens the TDC window and records its event time. -/
  | tdcStart (c f : Nat)
  /-- TDC_STOP (R409): A stop event in a running window is measured and reported, or counted as EARLY, LATE, BUSY or EXTRA. -/
  | tdcStop (c f : Nat)
  /-- TDC_WINDOW_CLOSE (R408): The TDC window closes WIN ticks after its start and the channel enters CONVERTING. -/
  | tdcWindowClose (c : Nat)
  /-- TDC_POST (R412): Within 410 t of closing, the window's results are posted in one tick, SEQ increments and the channel enters DONE or ARMED. -/
  | tdcPost (c : Nat)
  /-- TDC_STATS_CLR (R420): A write of TDC_CTRL.STATS_CLR clears trigger counts and every EARLY, MISS and LOST counter. -/
  | tdcStatsClr (rid : Nat)
  /-- SENSOR_PERIOD_BOUNDARY (R424): At a sensor period boundary pending configuration changes take effect and faults may clear. -/
  | sensorPeriodBoundary (c : Nat) (cmClear compClear : Bool)
  /-- SENSOR_POST (R425): At B + P + 2,500 a channel forms and filters its raw result, posts result and temperature, and increments SEQ. -/
  | sensorPost (c : Nat) (xR xX : Int) (big : Bool)
  /-- HEATER_CODE_EFFECT (R436): A loop's new code takes effect at the posting tick + 2,500. -/
  | heaterCodeEffect (k : Nat)
  /-- SENSOR_FAULT (R430): A common-mode or compliance condition held for 1 ms sets the channel's fault, counts it and raises BRD_EVT.CRYO. -/
  | sensorFault (c : Nat) (cm : Bool) (mv : Int)
  /-- NO_SENSOR (R437): TIMEOUT seconds without a loop update set NO_SENSOR and the output takes FALLBACK. -/
  | noSensor (k : Nat)
  /-- LOOP_ENABLE (R438): Setting LOOP_EN loads iacc from the output in force and sets the loop to HOLD. -/
  | loopEnable (rid k : Nat) (value : BitVec 32)
  /-- LOOP_DISABLE (R438): Clearing LOOP_EN sets the loop to OFF with the output holding its code. -/
  | loopDisable (rid k : Nat) (value : BitVec 32)
  /-- HTR_VAL_EFFECT (R434): A written HTR_VALk takes effect at the first tick 64 t after the write. -/
  | htrValEffect (k : Nat)
  /-- HEATER_COMPLIANCE (R435): A heater unable to deliver its current sets COMP and raises BRD_EVT.CRYO. -/
  | heaterCompliance (k : Nat) (bad : Bool)
  /-- SNS_STATS_CLR (R450): A write of SNS_CTRL.STATS_CLR clears every SNS_STATc.FAULTS. -/
  | snsStatsClr (rid : Nat)
  /-- MONITOR_SLOT_END (R441): A monitor slot ends and the visit moves on from discharge, settling or sampling, posting a group result at a group's last slot. -/
  | monitorSlotEnd (sample : Int) (clip : Bool) (mp : List (Nat × Nat × Nat × Nat))
  /-- URGENT_GO (R444): A write of MON_URG.GO sets BUSY and requests one urgent visit preempting the table at the next slot boundary. -/
  | urgentGo (rid : Nat) (value : BitVec 32)
  /-- TABLE_RUN (R443): Setting MON_CTRL.RUN starts the table at entry 0 at the next slot boundary. -/
  | tableRun (rid : Nat) (value : BitVec 32)
  /-- TABLE_STOP (R443): Clearing MON_CTRL.RUN stops the table at the next slot boundary, discarding the group in progress. -/
  | tableStop (rid : Nat) (value : BitVec 32)
  /-- CURVE_WRITE (R453): The MP writes breakpoints into a user table's shadow copy. -/
  | curveWrite (k wait : Nat)
  /-- CURVE_COMMIT (R429): The MP checks a shadow table and makes it active in one step, or fails. -/
  | curveCommit (k wait : Nat)
  /-- CURVE_READ (R453): The MP replies with NPOINTS and active entries of a user table. -/
  | curveRead (k wait : Nat)
  /-- CURVE_SAVE (R453): The MP writes every active user table to the curve banks of the SPI flash. -/
  | curveSave (k wait : Nat) (ok : Bool)
  /-- CURVE_CLEAR (R453): The MP sets a user table's NPOINTS to 0 at the next result boundary. -/
  | curveClear (k wait : Nat)
  /-- SEAL_FITTED (R471): SEAL_N low for 1 ms counts as fitted. -/
  | sealFitted
  /-- SEAL_REMOVED (R471): SEAL_N high for 250 ticks counts as removed and SEALED returns to SETUP by row 18. -/
  | sealRemoved
  /-- PRESENCE_PRESS (R471): PRESENCE_N low for 20 ms after a high level records a press and opens or restarts the presence window. -/
  | presencePress
  /-- PRESENCE_WINDOW_EXPIRY (R471): 30 s after the last press the presence window closes and SEALED returns to SETUP by row 18. -/
  | presenceWindowExpiry
  /-- FW_INFO (R488): The MP replies with validity, SEQ, version and length of each firmware slot. -/
  | fwInfo (k wait : Nat)
  /-- FW_WRITE (R470): Under its seal condition the MP writes data into the firmware slot not running, erasing it on a write at offset 0. -/
  | fwWrite (k wait : Nat) (ok : Bool)
  /-- FW_COMMIT (R470): Under its seal condition the MP carries out steps 4–6 of R468 for the firmware slot. -/
  | fwCommit (k wait : Nat) (ok : Bool)
  /-- FLASH_READ (R488): The MP replies with bytes read from the SPI flash. -/
  | flashRead (k wait : Nat)
  /-- CAL_INFO (R488): The MP replies with the header of each calibration bank, or zeros for an invalid bank. -/
  | calInfo (k wait : Nat)
  /-- CAL_COMMIT (R468): In SEALED the MP writes the running calibration to the target bank by the two-bank method and clears UNSAVED. -/
  | calCommit (k wait : Nat) (ok : Bool)
  /-- CAL_TABLE_READ (R488): The MP replies with the flatness table of one RF line. -/
  | calTableRead (k wait : Nat)
  /-- CAL_TABLE_WRITE (R488): In SEALED the MP loads a line's flatness table, which applies at a frame tick 64 t later and clears STALE. -/
  | calTableWrite (k wait : Nat)
  /-- MP_LOAD (R484): The MP replies with its load, age, slip and largest recent backlog. -/
  | mpLoad (k wait : Nat)
  /-- TRIP_LOG_READ (R482): The MP replies with the indexed trip record from the trip log. -/
  | tripLogRead (k wait : Nat)
  /-- TRIP_LOG_ERASE (R488): In SEALED the MP erases the trip log. -/
  | tripLogErase (k wait : Nat)
  /-- SWEEP_DEMAND (R478): A write of THM_CTRL.SWEEP demands a temperature sweep. -/
  | sweepDemand (rid : Nat)
  /-- SCHEDULED_SWEEP (R478): The MP's schedule demands a sweep every THM_SCHED.PERIOD ms. -/
  | scheduledSweep
  /-- SWEEP_BACKSTOP (R478): 50 ms after the start of the last sweep with none since, the hardware demands a sweep and counts BACKSTOP. -/
  | sweepBackstop
  /-- SWEEP_END (R478): At the end of a sweep every THM_TEMPn, the throttle level and the shutdown test are updated together. -/
  | sweepEnd (temps : List (Option Int))
  /-- THROTTLE_REACHES_7 (R166): In the tick after a sweep raises L to 7, row 13 closes admission and enters HOLD with HOLD_THROTTLE. -/
  | throttleReaches7
  /-- THROTTLE_FALLS_BELOW_7 (R166): In the tick after a sweep lowers L below 7, row 14 clears HOLD_THROTTLE. -/
  | throttleFallsBelow7
  /-- FLOOR_WRITE (R479): A write of THM_FLOOR recomputes the throttle level in the tick of the write. -/
  | floorWrite (rid : Nat) (value : BitVec 32)
  /-- DMA_STOP (R481): Once the last entry after a trip is written, within 50 µs of Z, the Board stops all DMA. -/
  | dmaStop
  /-- TRIP_LOG_APPEND (R482): The flash controller appends the trip record to the trip log within 200 ms, erasing the oldest sector if full. -/
  | tripLogAppend
  /-- TRANSITION_COMPLETE (R33): A requested mode transition that takes time, such as STANDBY to SETUP within 200 µs, completes: BRD_MODE.BUSY clears, the Rank analog sections are back, FFX outputs return to their x and every tone's frames are made invalid. -/
  | transitionComplete
  /-- BUS_MASTER_ENABLE_WRITE (R100): A configuration write that clears Bus Master Enable holds all record and completion delivery in the Record Store, and setting it again lets delivery resume in order with LATE_DELIVERY on late final entries. -/
  | busMasterEnableWrite (enable : Bool)
  /-- BAD_SYNC_HEADER (R362): A Dalid block received with a sync header other than 01 or 10 is discarded, counted in BAD_HDR, and loses every route entering by that port. -/
  | badSyncHeader (l : Nat)
  /-- UNKNOWN_CONTROL_BLOCK (R363): A received control block of an undefined TYPE, or a MGMT block of a reserved SUB, is discarded and counted in CTL_ERR without causing a loss. -/
  | unknownControlBlock (l : Nat)
  deriving DecidableEq, Repr

end Sys2Proof
end

