-- ==== Sys2Proof/Decode.lean ====
section
/-!
DEFINITION. The commands that a word of the opcode table spells. The table gives bits to none of its rows: a command comes to the
block as an access, an event on a pin or an event inside, never as a word.
-/
namespace Sys2Proof

/-- The command that a word of `nbits` bits spells: none, since no row of the table has bits. (DESIGN CHOICE, log 116.) -/
def decodeTableWord (_nbits _w : Nat) : Option Instr := none

end Sys2Proof
end

