-- ==== Sys2Proof/Config.lean ====
section
/-!
DEFINITION. What an implementation of the LQ8 fixes (the ordering code's figures, Table 00-1) and the free values: the
opaque constants that stand for a value the spec leaves open.
-/
namespace Sys2Proof

/-- The ordering codes (R1). -/
inductive Part where
  | lq8_2
  | lq8_4
  | lq8_8
  deriving DecidableEq, Repr

/-- Populated Rank positions (R4, Table 00-1). -/
def Part.ranks : Part → Nat
  | .lq8_2 => 2
  | .lq8_4 => 4
  | .lq8_8 => 8

/-- Populated memory stacks (R4, Table 00-1). -/
def Part.stacks : Part → Nat
  | .lq8_2 => 2
  | .lq8_4 => 4
  | .lq8_8 => 4

/-- Record Store reservation cap in units of 100 MB/s (Table 00-1, Table 04-13). -/
def Part.rsCap : Part → Nat
  | .lq8_2 => 15000
  | .lq8_4 => 30000
  | .lq8_8 => 30000

/-- Default and largest power ceiling in units of 10 mW (Table 04-11). -/
def Part.powerCeiling : Part → Nat
  | .lq8_2 => 12600
  | .lq8_4 => 21400
  | .lq8_8 => 35000

/-- P_floor in units of 10 mW (Table 04-6). -/
def Part.powerFloor : Part → Nat
  | .lq8_2 => 7400
  | .lq8_4 => 11000
  | .lq8_8 => 14200

/-- BRD_ID of the part (R7, Table 00-2). -/
def Part.brdId (p : Part) : Nat := 0x08000110 + p.ranks * 0x100000 + p.stacks * 0x10000

/-! ### Free values: nothing constrains them -/

/-- The sample x of an RO_RX (R315): Rank, feedline, tick, and sample 0-3 of the tick. It comes from the cryostat. -/
opaque Config.rxSample : Nat → Nat → Nat → Nat → BitVec 12

/-- What a codeword with four or more inverted bits reads as (R379): none, a detected error; else some data. (DESIGN CHOICE, log 11.) -/
opaque Config.beyondCode : Nat → Option (BitVec 64)

/-- Inverted bits of a codeword after a second injection (R391 does not say which bits it inverts). (DESIGN CHOICE, log 12.) -/
opaque Config.mergedFlips : Nat → Nat

/-- Where in the delivery holding region each copy of the n-th held entry lies, in 32-byte places (R385 does not say). (DESIGN CHOICE, log 13.) -/
opaque Config.holdingPlace : Nat → Nat → Nat

/-- The capture tick from which the i-th payload word comes that a stream-through capture with dropped samples delivered
(R338 does not say which staged bytes are overwritten): the free counter and i. (DESIGN CHOICE, log 14.) -/
opaque Config.drainTick : Nat → Nat → Nat

/-- The error of curves 1 and 2 in µK before it is brought within 1 mK (Table 13-2), by resistance. (DESIGN CHOICE, log 15.) -/
opaque Config.platinumError : Int → Int

/-- What a product outside signed 64 bits counts as in a stage loop (R436 states no result there), by its exact value. (DESIGN CHOICE, log 16.) -/
opaque Config.wideProduct : Int → BitVec 64

/-- Whether an abandoned load had written its i-th word, to the store or to the copy (R45 says that they may hold a mix). (DESIGN CHOICE, log 17.) -/
opaque Config.loadReached : Nat → Nat → Bool

/-- The bytes of the SPI flash whose contents the spec does not state: by the writing they come from and their offset. (DESIGN CHOICE, log 18.) -/
opaque Config.flashByte : Nat → Nat → BitVec 8

/-- The calibration temperatures that the factory bank holds, in 1/16 °C, by sensor code. (DESIGN CHOICE, log 19.) -/
opaque Config.factoryTemp : Nat → Int

/-- BODY_CRC and LENGTH of a body whose layout the spec does not state, by the writing. -/
opaque Config.bodyCrc : Nat → BitVec 32
opaque Config.bodyLength : Nat → Nat

/-- What the MP reports of its own load (R484), by tick: queued items beside posted slots, percent busy, age of the oldest
item in µs, and the largest BACKLOG of the last 10 s. (DESIGN CHOICE, log 20.) -/
opaque Config.mpItems : Nat → Nat
opaque Config.mpBusy : Nat → Nat
opaque Config.mpAge : Nat → Nat
opaque Config.mpPeak : Nat → Nat

/-- WAIT of a reply to a request that the MP never started (Table 03-24 does not say), by the tick of the reply. (DESIGN CHOICE, log 21.) -/
opaque Config.noWait : Nat → Nat

end Sys2Proof
end

