-- ==== Sys2Proof/Machine/Regs.lean ====
section
/-!
DEFINITION. The BAR0 register map (R105, Table 03-5): the offset of every register, its bit fields, its reset value and the
bits of each type (Table 00-5), row by row from the register tables of the spec. A name is the manual's; a register
of an array takes its index (and a Rank's register first the Rank).
-/
namespace Sys2Proof.Machine

/-- A bit field of a register: its offset in BAR0 and its most and least significant bits. -/
structure Fld where
  addr : Nat
  hi : Nat
  lo : Nat
  deriving DecidableEq, Repr

/-- The number of bits of a field. -/
def Fld.width (f : Fld) : Nat := f.hi + 1 - f.lo

/-- Where Rank r's window begins (R105). -/
def rankBase (r : Nat) : Nat := 0x100000 + r * 0x100000

/-- One row of the register map: a register or an array of registers in one or two dimensions, with its reset value,
the bit at which the index is added to it (a register whose reset value is its own number), and the masks of its fields
by type: rw, w1c, wo and rw under seal. -/
structure RegRow where
  base : Nat
  rank : Bool
  n1 : Nat
  s1 : Nat
  n2 : Nat
  s2 : Nat
  reset : Nat
  idx : Option Nat
  rwMask : Nat
  w1cMask : Nat
  woMask : Nat
  sealMask : Nat
  deriving DecidableEq, Repr

/-- BRD_ID (Table 00-2). -/
def Reg.BRD_ID : Nat := 0x0
/-- BRD_MODE (Table 01-5). -/
def Reg.BRD_MODE : Nat := 0x10
def Reg.BRD_MODE_BUSY : Fld := ⟨Reg.BRD_MODE, 31, 31⟩
def Reg.BRD_MODE_REQ_RESULT : Fld := ⟨Reg.BRD_MODE, 27, 24⟩
def Reg.BRD_MODE_HOLD_HOST : Fld := ⟨Reg.BRD_MODE, 18, 18⟩
def Reg.BRD_MODE_HOLD_THROTTLE : Fld := ⟨Reg.BRD_MODE, 17, 17⟩
def Reg.BRD_MODE_HOLD_SUPPLY : Fld := ⟨Reg.BRD_MODE, 16, 16⟩
def Reg.BRD_MODE_PREV : Fld := ⟨Reg.BRD_MODE, 15, 12⟩
/-- BRD_MODE_LAST (Table 01-6). -/
def Reg.BRD_MODE_LAST : Nat := 0x14
def Reg.BRD_MODE_LAST_COUNT : Fld := ⟨Reg.BRD_MODE_LAST, 31, 16⟩
def Reg.BRD_MODE_LAST_TO : Fld := ⟨Reg.BRD_MODE_LAST, 15, 12⟩
def Reg.BRD_MODE_LAST_FROM : Fld := ⟨Reg.BRD_MODE_LAST, 11, 8⟩
def Reg.BRD_MODE_LAST_EVENT : Fld := ⟨Reg.BRD_MODE_LAST, 7, 0⟩
/-- BRD_BOOT (Table 01-10). -/
def Reg.BRD_BOOT : Nat := 0x18
def Reg.BRD_BOOT_RANK_READY : Fld := ⟨Reg.BRD_BOOT, 31, 24⟩
def Reg.BRD_BOOT_STACK_READY : Fld := ⟨Reg.BRD_BOOT, 23, 20⟩
def Reg.BRD_BOOT_FAIL : Fld := ⟨Reg.BRD_BOOT, 19, 16⟩
def Reg.BRD_BOOT_CAL_VALID : Fld := ⟨Reg.BRD_BOOT, 15, 15⟩
def Reg.BRD_BOOT_CAL_BANK : Fld := ⟨Reg.BRD_BOOT, 14, 14⟩
def Reg.BRD_BOOT_FW_SLOT : Fld := ⟨Reg.BRD_BOOT, 13, 13⟩
def Reg.BRD_BOOT_RESET_CAUSE : Fld := ⟨Reg.BRD_BOOT, 11, 8⟩
def Reg.BRD_BOOT_STAGE : Fld := ⟨Reg.BRD_BOOT, 7, 4⟩
/-- BRD_EVT (Table 03-7). -/
def Reg.BRD_EVT : Nat := 0x20
/-- BRD_EVT_EN (Table 03-7). -/
def Reg.BRD_EVT_EN : Nat := 0x24
/-- BRD_ACC_ERR (Table 03-6). -/
def Reg.BRD_ACC_ERR : Nat := 0x28
def Reg.BRD_ACC_ERR_FLAG : Fld := ⟨Reg.BRD_ACC_ERR, 31, 31⟩
def Reg.BRD_ACC_ERR_CAUSE : Fld := ⟨Reg.BRD_ACC_ERR, 27, 24⟩
def Reg.BRD_ACC_ERR_COUNT : Fld := ⟨Reg.BRD_ACC_ERR, 23, 16⟩
def Reg.BRD_ACC_ERR_REQ : Fld := ⟨Reg.BRD_ACC_ERR, 15, 0⟩
/-- BRD_ACC_ADDR (R109). -/
def Reg.BRD_ACC_ADDR : Nat := 0x2C
/-- BRD_MP_LOAD (Table 14-11). -/
def Reg.BRD_MP_LOAD : Nat := 0x40
/-- BRD_MP_AGE (Table 14-11). -/
def Reg.BRD_MP_AGE : Nat := 0x44
/-- BRD_MP_SLIP (Table 14-11). -/
def Reg.BRD_MP_SLIP : Nat := 0x48
def Reg.BRD_MP_SLIP_SWEEPS : Fld := ⟨Reg.BRD_MP_SLIP, 31, 16⟩
def Reg.BRD_MP_SLIP_EXPIRED : Fld := ⟨Reg.BRD_MP_SLIP, 15, 0⟩
/-- BRD_RS_CFG (Table 11-7). -/
def Reg.BRD_RS_CFG : Nat := 0x10000
def Reg.BRD_RS_CFG_CE_THR : Fld := ⟨Reg.BRD_RS_CFG, 15, 8⟩
def Reg.BRD_RS_CFG_LOG_CE1 : Fld := ⟨Reg.BRD_RS_CFG, 7, 7⟩
def Reg.BRD_RS_CFG_SCRUB_EN : Fld := ⟨Reg.BRD_RS_CFG, 0, 0⟩
/-- BRD_RS_STAT (Table 11-7). -/
def Reg.BRD_RS_STAT : Nat := 0x10004
def Reg.BRD_RS_STAT_PASSES : Fld := ⟨Reg.BRD_RS_STAT, 31, 16⟩
def Reg.BRD_RS_STAT_PROGRESS : Fld := ⟨Reg.BRD_RS_STAT, 7, 0⟩
/-- BRD_MEM_CTRL (Table 11-7). -/
def Reg.BRD_MEM_CTRL : Nat := 0x10008
/-- BRD_MEM_LOGSTAT (Table 11-7). -/
def Reg.BRD_MEM_LOGSTAT : Nat := 0x1000C
def Reg.BRD_MEM_LOGSTAT_LOST : Fld := ⟨Reg.BRD_MEM_LOGSTAT, 31, 16⟩
def Reg.BRD_MEM_LOGSTAT_NEWEST : Fld := ⟨Reg.BRD_MEM_LOGSTAT, 11, 8⟩
def Reg.BRD_MEM_LOGSTAT_COUNT : Fld := ⟨Reg.BRD_MEM_LOGSTAT, 4, 0⟩
/-- BRD_MEM_INJ (Table 11-8). -/
def Reg.BRD_MEM_INJ : Nat := 0x10010
def Reg.BRD_MEM_INJ_NBITS : Fld := ⟨Reg.BRD_MEM_INJ, 1, 0⟩
/-- BRD_RS_POOL (Table 11-8). -/
def Reg.BRD_RS_POOL : Nat := 0x10014
/-- BRD_MEM_INJ_ADDR_LO (Table 11-8). -/
def Reg.BRD_MEM_INJ_ADDR_LO : Nat := 0x10018
/-- BRD_MEM_CNTs_CE1 (Table 11-8). -/
def Reg.BRD_MEM_CNTs_CE1 (s : Nat) : Nat := 0x10040 + s * 16
/-- BRD_MEM_CNTs_CE2 (Table 11-8). -/
def Reg.BRD_MEM_CNTs_CE2 (s : Nat) : Nat := 0x10044 + s * 16
/-- BRD_MEM_CNTs_UE (Table 11-8). -/
def Reg.BRD_MEM_CNTs_UE (s : Nat) : Nat := 0x10048 + s * 16
/-- BRD_MEM_CNTs_POISON (Table 11-8). -/
def Reg.BRD_MEM_CNTs_POISON (s : Nat) : Nat := 0x1004C + s * 16
/-- BRD_RSET_SEL (Table 11-10). -/
def Reg.BRD_RSET_SEL : Nat := 0x10020
/-- BRD_RSET_INFO0 (Table 11-10). -/
def Reg.BRD_RSET_INFO0 : Nat := 0x10024
/-- BRD_RSET_INFO1 (Table 11-10). -/
def Reg.BRD_RSET_INFO1 : Nat := 0x10028
/-- BRD_RSET_INFO2 (Table 11-10). -/
def Reg.BRD_RSET_INFO2 : Nat := 0x1002C
/-- BRD_RSET_INFO3 (Table 11-10). -/
def Reg.BRD_RSET_INFO3 : Nat := 0x10030
/-- BRD_RSET_DONE_LO (Table 11-10). -/
def Reg.BRD_RSET_DONE_LO : Nat := 0x10038
/-- BRD_RSET_DONE_HI (Table 11-10). -/
def Reg.BRD_RSET_DONE_HI : Nat := 0x1003C
/-- BRD_MEM_LOGe_W0 (Table 11-9). -/
def Reg.BRD_MEM_LOGe_W0 (e : Nat) : Nat := 0x10200 + e * 32
def Reg.BRD_MEM_LOGe_W0_V (e : Nat) : Fld := ⟨Reg.BRD_MEM_LOGe_W0 e, 31, 31⟩
/-- BRD_MEM_LOGe_RSA_LO (Table 11-9). -/
def Reg.BRD_MEM_LOGe_RSA_LO (e : Nat) : Nat := 0x10208 + e * 32
/-- BRD_MEM_LOGe_EPOCH_LO (Table 11-9). -/
def Reg.BRD_MEM_LOGe_EPOCH_LO (e : Nat) : Nat := 0x10210 + e * 32
/-- EPO_REF (Table 02-3). -/
def Reg.EPO_REF : Nat := 0x40000
def Reg.EPO_REF_LOSS_COUNT : Fld := ⟨Reg.EPO_REF, 31, 16⟩
def Reg.EPO_REF_SUSPECT : Fld := ⟨Reg.EPO_REF, 7, 7⟩
def Reg.EPO_REF_HOLDOVER : Fld := ⟨Reg.EPO_REF, 6, 6⟩
def Reg.EPO_REF_LOCK : Fld := ⟨Reg.EPO_REF, 5, 5⟩
def Reg.EPO_REF_LOST : Fld := ⟨Reg.EPO_REF, 4, 4⟩
/-- EPO_TRIM (Table 02-4). -/
def Reg.EPO_TRIM : Nat := 0x40004
def Reg.EPO_TRIM_LOAD : Fld := ⟨Reg.EPO_TRIM, 31, 16⟩
/-- EPO_SYNC (Table 02-5). -/
def Reg.EPO_SYNC : Nat := 0x40008
def Reg.EPO_SYNC_EVERY : Fld := ⟨Reg.EPO_SYNC, 1, 1⟩
def Reg.EPO_SYNC_ARM : Fld := ⟨Reg.EPO_SYNC, 0, 0⟩
/-- EPO_SYNC_STAT (Table 02-6). -/
def Reg.EPO_SYNC_STAT : Nat := 0x4000C
def Reg.EPO_SYNC_STAT_GEN : Fld := ⟨Reg.EPO_SYNC_STAT, 31, 24⟩
def Reg.EPO_SYNC_STAT_IGNORED : Fld := ⟨Reg.EPO_SYNC_STAT, 23, 8⟩
def Reg.EPO_SYNC_STAT_MISMATCH : Fld := ⟨Reg.EPO_SYNC_STAT, 3, 3⟩
def Reg.EPO_SYNC_STAT_REFUSED_BUSY : Fld := ⟨Reg.EPO_SYNC_STAT, 2, 2⟩
def Reg.EPO_SYNC_STAT_ACCEPTED : Fld := ⟨Reg.EPO_SYNC_STAT, 1, 1⟩
/-- EPO_ANG_CFG (Table 02-11). -/
def Reg.EPO_ANG_CFG : Nat := 0x40200
def Reg.EPO_ANG_CFG_DEGLITCH : Fld := ⟨Reg.EPO_ANG_CFG, 31, 16⟩
def Reg.EPO_ANG_CFG_TOL : Fld := ⟨Reg.EPO_ANG_CFG, 15, 8⟩
def Reg.EPO_ANG_CFG_AVG : Fld := ⟨Reg.EPO_ANG_CFG, 7, 6⟩
def Reg.EPO_ANG_CFG_HORIZON : Fld := ⟨Reg.EPO_ANG_CFG, 5, 4⟩
def Reg.EPO_ANG_CFG_SOURCE : Fld := ⟨Reg.EPO_ANG_CFG, 1, 0⟩
/-- EPO_ANG_ENC (Table 02-12). -/
def Reg.EPO_ANG_ENC : Nat := 0x40204
def Reg.EPO_ANG_ENC_N : Fld := ⟨Reg.EPO_ANG_ENC, 31, 16⟩
def Reg.EPO_ANG_ENC_OFS : Fld := ⟨Reg.EPO_ANG_ENC, 15, 0⟩
/-- EPO_ANG_STAT (Table 02-13). -/
def Reg.EPO_ANG_STAT : Nat := 0x40208
def Reg.EPO_ANG_STAT_COUNT_ERR : Fld := ⟨Reg.EPO_ANG_STAT, 3, 3⟩
def Reg.EPO_ANG_STAT_STALL : Fld := ⟨Reg.EPO_ANG_STAT, 2, 2⟩
def Reg.EPO_ANG_STAT_LOCK_LOST : Fld := ⟨Reg.EPO_ANG_STAT, 1, 1⟩
def Reg.EPO_ANG_STAT_LOCK : Fld := ⟨Reg.EPO_ANG_STAT, 0, 0⟩
/-- EPO_ANG_LIM (Table 02-14). -/
def Reg.EPO_ANG_LIM : Nat := 0x40214
def Reg.EPO_ANG_LIM_GUARD : Fld := ⟨Reg.EPO_ANG_LIM, 15, 0⟩
/-- EPO_CAL_CTRL (Table 02-16). -/
def Reg.EPO_CAL_CTRL : Nat := 0x40300
def Reg.EPO_CAL_CTRL_WATCH : Fld := ⟨Reg.EPO_CAL_CTRL, 31, 24⟩
def Reg.EPO_CAL_CTRL_STEP_GEN : Fld := ⟨Reg.EPO_CAL_CTRL, 23, 20⟩
def Reg.EPO_CAL_CTRL_RATE_SAT : Fld := ⟨Reg.EPO_CAL_CTRL, 1, 1⟩
def Reg.EPO_CAL_CTRL_DISCIPLINED : Fld := ⟨Reg.EPO_CAL_CTRL, 0, 0⟩
/-- EPO_SNAP_CTRL (Table 02-17). -/
def Reg.EPO_SNAP_CTRL : Nat := 0x40380
def Reg.EPO_SNAP_CTRL_DONE : Fld := ⟨Reg.EPO_SNAP_CTRL, 31, 31⟩
def Reg.EPO_SNAP_CTRL_SRC : Fld := ⟨Reg.EPO_SNAP_CTRL, 7, 4⟩
/-- EPO_SNAP_ANG (Table 02-18). -/
def Reg.EPO_SNAP_ANG : Nat := 0x40398
/-- EPO_AWINn (Table 02-15). -/
def Reg.EPO_AWINn (n : Nat) : Nat := 0x40240 + n * 4
def Reg.EPO_AWINn_LO (n : Nat) : Fld := ⟨Reg.EPO_AWINn n, 31, 16⟩
def Reg.EPO_AWINn_HI (n : Nat) : Fld := ⟨Reg.EPO_AWINn n, 15, 0⟩
/-- EPO_ALM_CTRLn (Table 02-8). -/
def Reg.EPO_ALM_CTRLn (n : Nat) : Nat := 0x40100 + n * 16
def Reg.EPO_ALM_CTRLn_FIRED (n : Nat) : Fld := ⟨Reg.EPO_ALM_CTRLn n, 31, 31⟩
def Reg.EPO_ALM_CTRLn_LATE (n : Nat) : Fld := ⟨Reg.EPO_ALM_CTRLn n, 30, 30⟩
def Reg.EPO_ALM_CTRLn_LOST (n : Nat) : Fld := ⟨Reg.EPO_ALM_CTRLn n, 29, 29⟩
def Reg.EPO_ALM_CTRLn_IRQ (n : Nat) : Fld := ⟨Reg.EPO_ALM_CTRLn n, 8, 8⟩
def Reg.EPO_ALM_CTRLn_EN (n : Nat) : Fld := ⟨Reg.EPO_ALM_CTRLn n, 0, 0⟩
/-- EPO_ALM_CMP_LOn (Table 02-9). -/
def Reg.EPO_ALM_CMP_LOn (n : Nat) : Nat := 0x40104 + n * 16
/-- EPO_ALM_REPn (Table 02-9). -/
def Reg.EPO_ALM_REPn (n : Nat) : Nat := 0x4010C + n * 16
/-- EPO_PERIOD (Table 02-7). -/
def Reg.EPO_PERIOD : Nat := 0x40010
/-- EPO_NOW_LO (Table 02-7). -/
def Reg.EPO_NOW_LO : Nat := 0x40018
/-- EPO_NOW_HI (Table 02-7). -/
def Reg.EPO_NOW_HI : Nat := 0x4001C
/-- EPO_LAST_IN_LO (Table 02-7). -/
def Reg.EPO_LAST_IN_LO : Nat := 0x40020
/-- EPO_ANG_PERIOD (Table 02-7). -/
def Reg.EPO_ANG_PERIOD : Nat := 0x4020C
/-- EPO_ANG_RATE (Table 02-7). -/
def Reg.EPO_ANG_RATE : Nat := 0x40210
/-- EPO_ANG_REF_LO (Table 02-7). -/
def Reg.EPO_ANG_REF_LO : Nat := 0x40218
/-- EPO_CAL_RATE (Table 02-7). -/
def Reg.EPO_CAL_RATE : Nat := 0x40304
/-- EPO_CAL_NOW_LO (Table 02-7). -/
def Reg.EPO_CAL_NOW_LO : Nat := 0x40308
/-- EPO_CAL_NOW_HI (Table 02-7). -/
def Reg.EPO_CAL_NOW_HI : Nat := 0x4030C
/-- EPO_CAL_RAW_LO (Table 02-7). -/
def Reg.EPO_CAL_RAW_LO : Nat := 0x40310
/-- EPO_CAL_RAW_HI (Table 02-7). -/
def Reg.EPO_CAL_RAW_HI : Nat := 0x40314
/-- EPO_CAL_OFS_LO (Table 02-7). -/
def Reg.EPO_CAL_OFS_LO : Nat := 0x40318
/-- EPO_CAL_STEP_LO (Table 02-7). -/
def Reg.EPO_CAL_STEP_LO : Nat := 0x40320
/-- EPO_CAL_STEP_HI (Table 02-7). -/
def Reg.EPO_CAL_STEP_HI : Nat := 0x40324
/-- EPO_CAL_RATE_ADJ (Table 02-7). -/
def Reg.EPO_CAL_RATE_ADJ : Nat := 0x40328
/-- EPO_SNAP_EPO_LO (Table 02-7). -/
def Reg.EPO_SNAP_EPO_LO : Nat := 0x40388
/-- EPO_SNAP_CAL_LO (Table 02-7). -/
def Reg.EPO_SNAP_CAL_LO : Nat := 0x40390
/-- PCI_LINK (Table 03-13). -/
def Reg.PCI_LINK : Nat := 0x20000
def Reg.PCI_LINK_FLIT : Fld := ⟨Reg.PCI_LINK, 31, 31⟩
def Reg.PCI_LINK_RATE : Fld := ⟨Reg.PCI_LINK, 27, 24⟩
def Reg.PCI_LINK_WIDTH : Fld := ⟨Reg.PCI_LINK, 23, 16⟩
def Reg.PCI_LINK_RETRAINS : Fld := ⟨Reg.PCI_LINK, 15, 8⟩
def Reg.PCI_LINK_UP : Fld := ⟨Reg.PCI_LINK, 0, 0⟩
/-- PCI_STREAM_CAP (Table 03-13). -/
def Reg.PCI_STREAM_CAP : Nat := 0x20004
/-- PCI_DMA_ERR (Table 03-13). -/
def Reg.PCI_DMA_ERR : Nat := 0x20008
def Reg.PCI_DMA_ERR_LATE_DELIVERY : Fld := ⟨Reg.PCI_DMA_ERR, 5, 5⟩
def Reg.PCI_DMA_ERR_STREAM : Fld := ⟨Reg.PCI_DMA_ERR, 4, 4⟩
/-- PCI_SQ_BASE_LO (Table 03-8). -/
def Reg.PCI_SQ_BASE_LO (n : Nat) : Nat := 0x21000 + n * 32
/-- PCI_CQ_BASE_LO (Table 03-8). -/
def Reg.PCI_CQ_BASE_LO (n : Nat) : Nat := 0x22000 + n * 32
def Reg.PCI_CQ_BASE_LO_BASE_LO (n : Nat) : Fld := ⟨Reg.PCI_CQ_BASE_LO n, 31, 12⟩
/-- PCI_CQ_BASE_HI (Table 03-8). -/
def Reg.PCI_CQ_BASE_HI (n : Nat) : Nat := 0x22004 + n * 32
/-- PCI_SQ_CFG (Table 03-9). -/
def Reg.PCI_SQ_CFG (n : Nat) : Nat := 0x21008 + n * 32
def Reg.PCI_SQ_CFG_EN (n : Nat) : Fld := ⟨Reg.PCI_SQ_CFG n, 31, 31⟩
def Reg.PCI_SQ_CFG_SIZE_LOG2 (n : Nat) : Fld := ⟨Reg.PCI_SQ_CFG n, 20, 16⟩
def Reg.PCI_SQ_CFG_CQ (n : Nat) : Fld := ⟨Reg.PCI_SQ_CFG n, 5, 0⟩
/-- PCI_SQ_STAT (Table 03-10). -/
def Reg.PCI_SQ_STAT (n : Nat) : Nat := 0x2100C + n * 32
/-- PCI_SQ_TAIL (R133). -/
def Reg.PCI_SQ_TAIL (n : Nat) : Nat := 0x21010 + n * 32
/-- PCI_CQ_CFG (Table 03-11). -/
def Reg.PCI_CQ_CFG (n : Nat) : Nat := 0x22008 + n * 32
def Reg.PCI_CQ_CFG_EN (n : Nat) : Fld := ⟨Reg.PCI_CQ_CFG n, 31, 31⟩
def Reg.PCI_CQ_CFG_SIZE_LOG2 (n : Nat) : Fld := ⟨Reg.PCI_CQ_CFG n, 20, 16⟩
def Reg.PCI_CQ_CFG_VECTOR (n : Nat) : Fld := ⟨Reg.PCI_CQ_CFG n, 7, 0⟩
/-- PCI_CQ_COAL (Table 03-12). -/
def Reg.PCI_CQ_COAL (n : Nat) : Nat := 0x2200C + n * 32
def Reg.PCI_CQ_COAL_TIME (n : Nat) : Fld := ⟨Reg.PCI_CQ_COAL n, 31, 16⟩
def Reg.PCI_CQ_COAL_COUNT (n : Nat) : Fld := ⟨Reg.PCI_CQ_COAL n, 7, 0⟩
/-- PCI_CQ_STAT (Table 03-12). -/
def Reg.PCI_CQ_STAT (n : Nat) : Nat := 0x22010 + n * 32
/-- PCI_CQ_HEAD (Table 03-12). -/
def Reg.PCI_CQ_HEAD (n : Nat) : Nat := 0x22014 + n * 32
/-- CLK_CTRL (Table 04-10). -/
def Reg.CLK_CTRL : Nat := 0x30000
def Reg.CLK_CTRL_HOST_PCT : Fld := ⟨Reg.CLK_CTRL, 15, 8⟩
/-- CLK_PWR_CEIL (Table 04-11). -/
def Reg.CLK_PWR_CEIL : Nat := 0x30004
def Reg.CLK_PWR_CEIL_CEIL : Fld := ⟨Reg.CLK_PWR_CEIL, 15, 0⟩
/-- CLK_PWR_STAT (Table 04-11). -/
def Reg.CLK_PWR_STAT : Nat := 0x30008
/-- CLK_PWR_FLOOR (Table 04-12). -/
def Reg.CLK_PWR_FLOOR : Nat := 0x30014
/-- CLK_RS (Table 04-13). -/
def Reg.CLK_RS : Nat := 0x30020
/-- CLK_HOST (Table 04-13). -/
def Reg.CLK_HOST : Nat := 0x30024
/-- CLK_HOST_H2D (Table 04-13). -/
def Reg.CLK_HOST_H2D : Nat := 0x30028
/-- CLK_RS_FREE (Table 04-13). -/
def Reg.CLK_RS_FREE : Nat := 0x3002C
/-- CLK_BACKLOG (Table 04-14). -/
def Reg.CLK_BACKLOG : Nat := 0x30030
def Reg.CLK_BACKLOG_MAX_DECISION : Fld := ⟨Reg.CLK_BACKLOG, 31, 16⟩
/-- CLK_TABLE (Table 04-14). -/
def Reg.CLK_TABLE : Nat := 0x30034
/-- CLK_GUARD (Table 04-14). -/
def Reg.CLK_GUARD : Nat := 0x30038
def Reg.CLK_GUARD_FENCE : Fld := ⟨Reg.CLK_GUARD, 31, 16⟩
def Reg.CLK_GUARD_PORT : Fld := ⟨Reg.CLK_GUARD, 15, 0⟩
/-- CLK_LAST_DECLINE (Table 04-15). -/
def Reg.CLK_LAST_DECLINE : Nat := 0x30050
/-- CLK_DROP_LO (Table 04-15). -/
def Reg.CLK_DROP_LO : Nat := 0x30040
/-- CLK_ACCEPT_LO (Table 04-15). -/
def Reg.CLK_ACCEPT_LO : Nat := 0x30048
/-- CLK_SHARDn (Table 04-16). -/
def Reg.CLK_SHARDn (n : Nat) : Nat := 0x30080 + n * 4
/-- CLK_DECLINE_CNTk (Table 04-16). -/
def Reg.CLK_DECLINE_CNTk (k : Nat) : Nat := 0x30100 + k * 4
/-- VRD_CTRL (Table 10-1). -/
def Reg.VRD_CTRL : Nat := 0x50000
/-- VRD_CNT_LO (Table 10-1). -/
def Reg.VRD_CNT_LO : Nat := 0x50008
/-- VRD_POISON (Table 10-1). -/
def Reg.VRD_POISON : Nat := 0x50010
/-- VRD_LOSS (Table 10-1). -/
def Reg.VRD_LOSS : Nat := 0x50014
/-- VRD_LASTj (Table 10-2). -/
def Reg.VRD_LASTj (j : Nat) : Nat := 0x50100 + j * 4
/-- MSH_CTRL (Table 10-12). -/
def Reg.MSH_CTRL : Nat := 0x60000
def Reg.MSH_CTRL_MAX_HOPS : Fld := ⟨Reg.MSH_CTRL, 11, 8⟩
/-- MSH_PORTLOADp (Table 10-12). -/
def Reg.MSH_PORTLOADp (p : Nat) : Nat := 0x60010 + p * 4
def Reg.MSH_PORTLOADp_CAP (p : Nat) : Fld := ⟨Reg.MSH_PORTLOADp p, 31, 16⟩
def Reg.MSH_PORTLOADp_LOAD (p : Nat) : Fld := ⟨Reg.MSH_PORTLOADp p, 15, 0⟩
/-- MSH_RTEn (Table 10-13). -/
def Reg.MSH_RTEn (n : Nat) : Nat := 0x60100 + n * 8
def Reg.MSH_RTEn_EN (n : Nat) : Fld := ⟨Reg.MSH_RTEn n, 31, 31⟩
def Reg.MSH_RTEn_STATE (n : Nat) : Fld := ⟨Reg.MSH_RTEn n, 30, 29⟩
def Reg.MSH_RTEn_OUT (n : Nat) : Fld := ⟨Reg.MSH_RTEn n, 19, 16⟩
def Reg.MSH_RTEn_LOCAL (n : Nat) : Fld := ⟨Reg.MSH_RTEn n, 11, 11⟩
def Reg.MSH_RTEn_IN (n : Nat) : Fld := ⟨Reg.MSH_RTEn n, 10, 8⟩
/-- MSH_RTEn_SLOTS (Table 10-13). -/
def Reg.MSH_RTEn_SLOTS (n : Nat) : Nat := 0x60104 + n * 8
def Reg.MSH_RTEn_SLOTS_SLOTS (n : Nat) : Fld := ⟨Reg.MSH_RTEn_SLOTS n, 8, 0⟩
/-- MSH_RTSTATn (Table 10-14). -/
def Reg.MSH_RTSTATn (n : Nat) : Nat := 0x60800 + n * 8
def Reg.MSH_RTSTATn_POLICED (n : Nat) : Fld := ⟨Reg.MSH_RTSTATn n, 31, 16⟩
def Reg.MSH_RTSTATn_LOSS (n : Nat) : Fld := ⟨Reg.MSH_RTSTATn n, 15, 0⟩
/-- MSH_RTSTATn_CARRIED (Table 10-14). -/
def Reg.MSH_RTSTATn_CARRIED (n : Nat) : Nat := 0x60804 + n * 8
/-- MSH_SRCt (Table 10-14). -/
def Reg.MSH_SRCt (t : Nat) : Nat := 0x61000 + t * 4
def Reg.MSH_SRCt_V (t : Nat) : Fld := ⟨Reg.MSH_SRCt t, 31, 31⟩
def Reg.MSH_SRCt_ROUTE (t : Nat) : Fld := ⟨Reg.MSH_SRCt t, 14, 9⟩
def Reg.MSH_SRCt_SLOT (t : Nat) : Fld := ⟨Reg.MSH_SRCt t, 8, 0⟩
/-- DLD_CTRL (Table 10-15). -/
def Reg.DLD_CTRL : Nat := 0x70000
/-- DLD_THR (Table 10-15). -/
def Reg.DLD_THR : Nat := 0x70004
def Reg.DLD_THR_ERR_THR : Fld := ⟨Reg.DLD_THR, 15, 0⟩
/-- DLD_PORTp_CFG (Table 10-16). -/
def Reg.DLD_PORTp_CFG (p : Nat) : Nat := 0x70100 + p * 64
def Reg.DLD_PORTp_CFG_LOOP (p : Nat) : Fld := ⟨Reg.DLD_PORTp_CFG p, 10, 8⟩
def Reg.DLD_PORTp_CFG_AUTO (p : Nat) : Fld := ⟨Reg.DLD_PORTp_CFG p, 4, 4⟩
def Reg.DLD_PORTp_CFG_LANE_EN (p : Nat) : Fld := ⟨Reg.DLD_PORTp_CFG p, 3, 0⟩
/-- DLD_PORTp_STAT (Table 10-16). -/
def Reg.DLD_PORTp_STAT (p : Nat) : Nat := 0x70104 + p * 64
def Reg.DLD_PORTp_STAT_STATE (p : Nat) : Fld := ⟨Reg.DLD_PORTp_STAT p, 31, 28⟩
def Reg.DLD_PORTp_STAT_LANES_UP (p : Nat) : Fld := ⟨Reg.DLD_PORTp_STAT p, 27, 24⟩
def Reg.DLD_PORTp_STAT_EPOCH_DELTA (p : Nat) : Fld := ⟨Reg.DLD_PORTp_STAT p, 15, 0⟩
/-- DLD_PORTp_TXLOST (Table 10-16). -/
def Reg.DLD_PORTp_TXLOST (p : Nat) : Nat := 0x70108 + p * 64
/-- DLD_PORTp_RXDROP (Table 10-16). -/
def Reg.DLD_PORTp_RXDROP (p : Nat) : Nat := 0x7010C + p * 64
def Reg.DLD_PORTp_RXDROP_HOP_DROP (p : Nat) : Fld := ⟨Reg.DLD_PORTp_RXDROP p, 31, 16⟩
def Reg.DLD_PORTp_RXDROP_ROUTE_MISMATCH (p : Nat) : Fld := ⟨Reg.DLD_PORTp_RXDROP p, 15, 0⟩
/-- DLD_PORTp_PEER_LO (Table 10-16). -/
def Reg.DLD_PORTp_PEER_LO (p : Nat) : Nat := 0x70110 + p * 64
/-- DLD_PORTp_PEER_HI (Table 10-16). -/
def Reg.DLD_PORTp_PEER_HI (p : Nat) : Nat := 0x70114 + p * 64
def Reg.DLD_PORTp_PEER_HI_VALID (p : Nat) : Fld := ⟨Reg.DLD_PORTp_PEER_HI p, 31, 31⟩
def Reg.DLD_PORTp_PEER_HI_PORT (p : Nat) : Fld := ⟨Reg.DLD_PORTp_PEER_HI p, 9, 8⟩
def Reg.DLD_PORTp_PEER_HI_SERIAL_HI (p : Nat) : Fld := ⟨Reg.DLD_PORTp_PEER_HI p, 7, 0⟩
/-- DLD_PORTp_EPOCH_ERR (Table 10-16). -/
def Reg.DLD_PORTp_EPOCH_ERR (p : Nat) : Nat := 0x70118 + p * 64
def Reg.DLD_PORTp_EPOCH_ERR_COUNT (p : Nat) : Fld := ⟨Reg.DLD_PORTp_EPOCH_ERR p, 15, 0⟩
/-- DLD_LANEl_TXEQ (Table 10-17). -/
def Reg.DLD_LANEl_TXEQ (l : Nat) : Nat := 0x71000 + l * 32
def Reg.DLD_LANEl_TXEQ_EQ_REMOTE (l : Nat) : Fld := ⟨Reg.DLD_LANEl_TXEQ l, 31, 31⟩
def Reg.DLD_LANEl_TXEQ_POST (l : Nat) : Fld := ⟨Reg.DLD_LANEl_TXEQ l, 20, 16⟩
def Reg.DLD_LANEl_TXEQ_MAIN (l : Nat) : Fld := ⟨Reg.DLD_LANEl_TXEQ l, 13, 8⟩
def Reg.DLD_LANEl_TXEQ_PRE (l : Nat) : Fld := ⟨Reg.DLD_LANEl_TXEQ l, 3, 0⟩
/-- DLD_LANEl_STAT (Table 10-17). -/
def Reg.DLD_LANEl_STAT (l : Nat) : Nat := 0x71004 + l * 32
def Reg.DLD_LANEl_STAT_STATE (l : Nat) : Fld := ⟨Reg.DLD_LANEl_STAT l, 31, 28⟩
def Reg.DLD_LANEl_STAT_FILL (l : Nat) : Fld := ⟨Reg.DLD_LANEl_STAT l, 27, 24⟩
def Reg.DLD_LANEl_STAT_LOCK_LOSS (l : Nat) : Fld := ⟨Reg.DLD_LANEl_STAT l, 23, 16⟩
def Reg.DLD_LANEl_STAT_RM_REP (l : Nat) : Fld := ⟨Reg.DLD_LANEl_STAT l, 15, 8⟩
def Reg.DLD_LANEl_STAT_RM_DEL (l : Nat) : Fld := ⟨Reg.DLD_LANEl_STAT l, 7, 0⟩
/-- DLD_LANEl_ERR0 (Table 10-17). -/
def Reg.DLD_LANEl_ERR0 (l : Nat) : Nat := 0x71008 + l * 32
def Reg.DLD_LANEl_ERR0_BAD_HDR (l : Nat) : Fld := ⟨Reg.DLD_LANEl_ERR0 l, 31, 16⟩
def Reg.DLD_LANEl_ERR0_CRC (l : Nat) : Fld := ⟨Reg.DLD_LANEl_ERR0 l, 15, 0⟩
/-- DLD_LANEl_ERR1 (Table 10-17). -/
def Reg.DLD_LANEl_ERR1 (l : Nat) : Nat := 0x7100C + l * 32
def Reg.DLD_LANEl_ERR1_LATE (l : Nat) : Fld := ⟨Reg.DLD_LANEl_ERR1 l, 31, 16⟩
def Reg.DLD_LANEl_ERR1_CTL_ERR (l : Nat) : Fld := ⟨Reg.DLD_LANEl_ERR1 l, 15, 0⟩
/-- DLD_LANEl_TEST (Table 10-17). -/
def Reg.DLD_LANEl_TEST (l : Nat) : Nat := 0x71010 + l * 32
def Reg.DLD_LANEl_TEST_PRBS_EN (l : Nat) : Fld := ⟨Reg.DLD_LANEl_TEST l, 31, 31⟩
def Reg.DLD_LANEl_TEST_PRBS_ERR (l : Nat) : Fld := ⟨Reg.DLD_LANEl_TEST l, 30, 0⟩
/-- CAL_CTRL (Table 14-12). -/
def Reg.CAL_CTRL : Nat := 0x80000
def Reg.CAL_CTRL_TDC_EN : Fld := ⟨Reg.CAL_CTRL, 4, 4⟩
def Reg.CAL_CTRL_FFX_EN : Fld := ⟨Reg.CAL_CTRL, 3, 3⟩
def Reg.CAL_CTRL_RX_EN : Fld := ⟨Reg.CAL_CTRL, 2, 2⟩
def Reg.CAL_CTRL_RF_EN : Fld := ⟨Reg.CAL_CTRL, 1, 1⟩
/-- CAL_VREF (Table 14-12). -/
def Reg.CAL_VREF : Nat := 0x80004
def Reg.CAL_VREF_VREF : Fld := ⟨Reg.CAL_VREF, 23, 0⟩
/-- CAL_CFG (Table 14-12). -/
def Reg.CAL_CFG : Nat := 0x80008
def Reg.CAL_CFG_TDRIFT : Fld := ⟨Reg.CAL_CFG, 7, 0⟩
/-- CAL_STAT (Table 14-12). -/
def Reg.CAL_STAT : Nat := 0x8000C
def Reg.CAL_STAT_RESULT : Fld := ⟨Reg.CAL_STAT, 31, 28⟩
def Reg.CAL_STAT_CAUSE : Fld := ⟨Reg.CAL_STAT, 27, 24⟩
def Reg.CAL_STAT_FAILED : Fld := ⟨Reg.CAL_STAT, 15, 0⟩
/-- CAL_STORE (Table 14-12). -/
def Reg.CAL_STORE : Nat := 0x80010
def Reg.CAL_STORE_UNSAVED : Fld := ⟨Reg.CAL_STORE, 29, 29⟩
/-- CAL_STORE_SEQ (Table 14-12). -/
def Reg.CAL_STORE_SEQ : Nat := 0x80014
/-- CAL_RESULTS (Table 14-12). -/
def Reg.CAL_RESULTS : Nat := 0x80018
def Reg.CAL_RESULTS_TDC_FAIL : Fld := ⟨Reg.CAL_RESULTS, 3, 3⟩
def Reg.CAL_RESULTS_TDC_PASS : Fld := ⟨Reg.CAL_RESULTS, 2, 2⟩
def Reg.CAL_RESULTS_MON_STALE : Fld := ⟨Reg.CAL_RESULTS, 1, 1⟩
def Reg.CAL_RESULTS_MON_PASS : Fld := ⟨Reg.CAL_RESULTS, 0, 0⟩
/-- CAL_VCAL_MEAS (Table 14-12). -/
def Reg.CAL_VCAL_MEAS : Nat := 0x8001C
/-- CAL_SEAL (Table 14-12). -/
def Reg.CAL_SEAL : Nat := 0x80020
def Reg.CAL_SEAL_SEAL_FITTED : Fld := ⟨Reg.CAL_SEAL, 31, 31⟩
def Reg.CAL_SEAL_PRESSES : Fld := ⟨Reg.CAL_SEAL, 23, 16⟩
/-- PWR_STAT (Table 14-13). -/
def Reg.PWR_STAT : Nat := 0x90000
def Reg.PWR_STAT_BELOW_WARN : Fld := ⟨Reg.PWR_STAT, 31, 16⟩
def Reg.PWR_STAT_NEWEST : Fld := ⟨Reg.PWR_STAT, 10, 8⟩
def Reg.PWR_STAT_DIP_ACTIVE : Fld := ⟨Reg.PWR_STAT, 0, 0⟩
/-- PWR_EVT (Table 14-13). -/
def Reg.PWR_EVT : Nat := 0x90004
def Reg.PWR_EVT_WARN_SEEN : Fld := ⟨Reg.PWR_EVT, 31, 16⟩
def Reg.PWR_EVT_LONG_DIP : Fld := ⟨Reg.PWR_EVT, 1, 1⟩
def Reg.PWR_EVT_DIP : Fld := ⟨Reg.PWR_EVT, 0, 0⟩
/-- PWR_DIPCNT (Table 14-13). -/
def Reg.PWR_DIPCNT : Nat := 0x90008
def Reg.PWR_DIPCNT_LONG : Fld := ⟨Reg.PWR_DIPCNT, 31, 16⟩
def Reg.PWR_DIPCNT_SHORT : Fld := ⟨Reg.PWR_DIPCNT, 15, 0⟩
/-- PWR_DIPLOGk_START_LO (Table 14-13). -/
def Reg.PWR_DIPLOGk_START_LO (k : Nat) : Nat := 0x90100 + k * 16
/-- PWR_DIPLOGk_LEN (Table 14-13). -/
def Reg.PWR_DIPLOGk_LEN (k : Nat) : Nat := 0x90108 + k * 16
/-- PWR_DIPLOGk (Table 14-13). -/
def Reg.PWR_DIPLOGk (k : Nat) : Nat := 0x9010C + k * 16
def Reg.PWR_DIPLOGk_LONG (k : Nat) : Fld := ⟨Reg.PWR_DIPLOGk k, 1, 1⟩
def Reg.PWR_DIPLOGk_V (k : Nat) : Fld := ⟨Reg.PWR_DIPLOGk k, 0, 0⟩
/-- THM_CTRL (Table 14-14). -/
def Reg.THM_CTRL : Nat := 0xA0000
/-- THM_STAT (Table 14-14). -/
def Reg.THM_STAT : Nat := 0xA0004
def Reg.THM_STAT_LEVEL : Fld := ⟨Reg.THM_STAT, 31, 28⟩
def Reg.THM_STAT_LEVEL_T : Fld := ⟨Reg.THM_STAT, 27, 24⟩
def Reg.THM_STAT_HOTTEST : Fld := ⟨Reg.THM_STAT, 23, 16⟩
def Reg.THM_STAT_RUNNING : Fld := ⟨Reg.THM_STAT, 0, 0⟩
/-- THM_CNT (Table 14-14). -/
def Reg.THM_CNT : Nat := 0xA0008
def Reg.THM_CNT_BACKSTOP : Fld := ⟨Reg.THM_CNT, 31, 16⟩
def Reg.THM_CNT_SWEEPS : Fld := ⟨Reg.THM_CNT, 15, 0⟩
/-- THM_THROT (Table 14-14). -/
def Reg.THM_THROT : Nat := 0xA000C
def Reg.THM_THROT_BASE : Fld := ⟨Reg.THM_THROT, 31, 16⟩
def Reg.THM_THROT_STEP : Fld := ⟨Reg.THM_THROT, 15, 8⟩
def Reg.THM_THROT_HYST : Fld := ⟨Reg.THM_THROT, 7, 0⟩
/-- THM_FLOOR (Table 14-14). -/
def Reg.THM_FLOOR : Nat := 0xA0010
def Reg.THM_FLOOR_FLOOR : Fld := ⟨Reg.THM_FLOOR, 2, 0⟩
/-- THM_TRIP (Table 14-14). -/
def Reg.THM_TRIP : Nat := 0xA0014
def Reg.THM_TRIP_LIMIT : Fld := ⟨Reg.THM_TRIP, 15, 0⟩
/-- THM_SCHED (Table 14-14). -/
def Reg.THM_SCHED : Nat := 0xA0018
def Reg.THM_SCHED_PERIOD : Fld := ⟨Reg.THM_SCHED, 15, 0⟩
/-- THM_SWEEP_LO (Table 14-14). -/
def Reg.THM_SWEEP_LO : Nat := 0xA0020
/-- THM_TEMPn (Table 14-14). -/
def Reg.THM_TEMPn (n : Nat) : Nat := 0xA0100 + n * 4
def Reg.THM_TEMPn_VALID (n : Nat) : Fld := ⟨Reg.THM_TEMPn n, 31, 31⟩
def Reg.THM_TEMPn_TEMP (n : Nat) : Fld := ⟨Reg.THM_TEMPn n, 15, 0⟩
/-- THM_TDCFGn (Table 14-14). -/
def Reg.THM_TDCFGn (n : Nat) : Nat := 0xA0200 + n * 4
def Reg.THM_TDCFGn_EN (n : Nat) : Fld := ⟨Reg.THM_TDCFGn n, 31, 31⟩
def Reg.THM_TDCFGn_ACTION (n : Nat) : Fld := ⟨Reg.THM_TDCFGn n, 25, 24⟩
def Reg.THM_TDCFGn_LIMIT (n : Nat) : Fld := ⟨Reg.THM_TDCFGn n, 15, 0⟩
/-- THM_TRIPREC (Table 14-14). -/
def Reg.THM_TRIPREC (j : Nat) : Nat := 0xA0400 + j * 4
/-- TDC_CTRL (Table 12-6). -/
def Reg.TDC_CTRL : Nat := 0xB0000
/-- TDC_TRIGi (Table 12-6). -/
def Reg.TDC_TRIGi (i : Nat) : Nat := 0xB0010 + i * 4
def Reg.TDC_TRIGi_DEGLITCH (i : Nat) : Fld := ⟨Reg.TDC_TRIGi i, 5, 4⟩
/-- TDC_TRIGCNTi (Table 12-6). -/
def Reg.TDC_TRIGCNTi (i : Nat) : Nat := 0xB0020 + i * 4
/-- TDC_TRIGSTAT (Table 12-6). -/
def Reg.TDC_TRIGSTAT : Nat := 0xB0030
/-- TDC_CFGc (Table 12-7). -/
def Reg.TDC_CFGc (c : Nat) : Nat := 0xB0100 + c * 256
def Reg.TDC_CFGc_START_SRC (c : Nat) : Fld := ⟨Reg.TDC_CFGc c, 31, 24⟩
def Reg.TDC_CFGc_STOP_SRC (c : Nat) : Fld := ⟨Reg.TDC_CFGc c, 23, 16⟩
def Reg.TDC_CFGc_REPEAT (c : Nat) : Fld := ⟨Reg.TDC_CFGc c, 13, 13⟩
def Reg.TDC_CFGc_MAX_STOPS (c : Nat) : Fld := ⟨Reg.TDC_CFGc c, 12, 8⟩
/-- TDC_WINc (Table 12-7). -/
def Reg.TDC_WINc (c : Nat) : Nat := 0xB0104 + c * 256
def Reg.TDC_WINc_WIN (c : Nat) : Fld := ⟨Reg.TDC_WINc c, 23, 0⟩
/-- TDC_CTRLc (Table 12-7). -/
def Reg.TDC_CTRLc (c : Nat) : Nat := 0xB0108 + c * 256
/-- TDC_STATc (Table 12-7). -/
def Reg.TDC_STATc (c : Nat) : Nat := 0xB010C + c * 256
def Reg.TDC_STATc_STATE (c : Nat) : Fld := ⟨Reg.TDC_STATc c, 31, 28⟩
def Reg.TDC_STATc_EPOCH_RESET (c : Nat) : Fld := ⟨Reg.TDC_STATc c, 27, 27⟩
def Reg.TDC_STATc_HOLDOVER (c : Nat) : Fld := ⟨Reg.TDC_STATc c, 26, 26⟩
def Reg.TDC_STATc_NSTOPS (c : Nat) : Fld := ⟨Reg.TDC_STATc c, 20, 16⟩
def Reg.TDC_STATc_SEQ (c : Nat) : Fld := ⟨Reg.TDC_STATc c, 15, 0⟩
/-- TDC_EARLYc (Table 12-8). -/
def Reg.TDC_EARLYc (c : Nat) : Nat := 0xB0110 + c * 256
def Reg.TDC_EARLYc_EARLY (c : Nat) : Fld := ⟨Reg.TDC_EARLYc c, 31, 16⟩
def Reg.TDC_EARLYc_LATE (c : Nat) : Fld := ⟨Reg.TDC_EARLYc c, 15, 0⟩
/-- TDC_MISSc (Table 12-8). -/
def Reg.TDC_MISSc (c : Nat) : Nat := 0xB0114 + c * 256
def Reg.TDC_MISSc_EXTRA (c : Nat) : Fld := ⟨Reg.TDC_MISSc c, 31, 16⟩
def Reg.TDC_MISSc_BUSY (c : Nat) : Fld := ⟨Reg.TDC_MISSc c, 15, 0⟩
/-- TDC_START_LOc (Table 12-8). -/
def Reg.TDC_START_LOc (c : Nat) : Nat := 0xB0118 + c * 256
/-- TDC_STARTFc (Table 12-8). -/
def Reg.TDC_STARTFc (c : Nat) : Nat := 0xB0120 + c * 256
def Reg.TDC_STARTFc_F0 (c : Nat) : Fld := ⟨Reg.TDC_STARTFc c, 8, 0⟩
/-- TDC_LOSTc (Table 12-8). -/
def Reg.TDC_LOSTc (c : Nat) : Nat := 0xB0124 + c * 256
def Reg.TDC_LOSTc_START_LOST (c : Nat) : Fld := ⟨Reg.TDC_LOSTc c, 15, 0⟩
/-- TDC_RES_LOc_j (Table 12-9). -/
def Reg.TDC_RES_LOc_j (c : Nat) (j : Nat) : Nat := 0xB0140 + c * 256 + j * 8
/-- TDC_RES_HIc_j (Table 12-9). -/
def Reg.TDC_RES_HIc_j (c : Nat) (j : Nat) : Nat := 0xB0144 + c * 256 + j * 8
def Reg.TDC_RES_HIc_j_V (c : Nat) (j : Nat) : Fld := ⟨Reg.TDC_RES_HIc_j c j, 31, 31⟩
def Reg.TDC_RES_HIc_j_BELOW_RES (c : Nat) (j : Nat) : Fld := ⟨Reg.TDC_RES_HIc_j c j, 30, 30⟩
def Reg.TDC_RES_HIc_j_D_HI (c : Nat) (j : Nat) : Fld := ⟨Reg.TDC_RES_HIc_j c j, 7, 0⟩
/-- MON_CTRL (Table 13-13). -/
def Reg.MON_CTRL : Nat := 0xC0000
def Reg.MON_CTRL_LEN : Fld := ⟨Reg.MON_CTRL, 15, 8⟩
def Reg.MON_CTRL_LP : Fld := ⟨Reg.MON_CTRL, 1, 1⟩
def Reg.MON_CTRL_RUN : Fld := ⟨Reg.MON_CTRL, 0, 0⟩
/-- MON_STAT (Table 13-13). -/
def Reg.MON_STAT : Nat := 0xC0004
def Reg.MON_STAT_PASSES : Fld := ⟨Reg.MON_STAT, 31, 16⟩
/-- MON_URG (Table 13-13). -/
def Reg.MON_URG : Nat := 0xC0010
def Reg.MON_URG_BUSY : Fld := ⟨Reg.MON_URG, 30, 30⟩
def Reg.MON_URG_DONE : Fld := ⟨Reg.MON_URG, 29, 29⟩
def Reg.MON_URG_SRC : Fld := ⟨Reg.MON_URG, 15, 0⟩
/-- MON_URG_CFG (Table 13-13). -/
def Reg.MON_URG_CFG : Nat := 0xC0014
def Reg.MON_URG_CFG_DELAY : Fld := ⟨Reg.MON_URG_CFG, 23, 16⟩
def Reg.MON_URG_CFG_SHIFT : Fld := ⟨Reg.MON_URG_CFG, 11, 8⟩
def Reg.MON_URG_CFG_AVG : Fld := ⟨Reg.MON_URG_CFG, 3, 0⟩
/-- MON_URG_RES (Table 13-13). -/
def Reg.MON_URG_RES : Nat := 0xC0018
/-- MON_URG_FLG (Table 13-13). -/
def Reg.MON_URG_FLG : Nat := 0xC001C
def Reg.MON_URG_FLG_FLAGS : Fld := ⟨Reg.MON_URG_FLG, 7, 0⟩
/-- MON_URG_EPO_LO (Table 13-13). -/
def Reg.MON_URG_EPO_LO : Nat := 0xC0020
/-- MON_ENTe (Table 13-14). -/
def Reg.MON_ENTe (e : Nat) : Nat := 0xC1000 + e * 8
def Reg.MON_ENTe_SRC (e : Nat) : Fld := ⟨Reg.MON_ENTe e, 31, 16⟩
def Reg.MON_ENTe_REPEAT (e : Nat) : Fld := ⟨Reg.MON_ENTe e, 15, 8⟩
def Reg.MON_ENTe_DELAY (e : Nat) : Fld := ⟨Reg.MON_ENTe e, 7, 0⟩
/-- MON_ENTe_W1 (Table 13-14). -/
def Reg.MON_ENTe_W1 (e : Nat) : Nat := 0xC1004 + e * 8
def Reg.MON_ENTe_W1_SHIFT (e : Nat) : Fld := ⟨Reg.MON_ENTe_W1 e, 11, 8⟩
def Reg.MON_ENTe_W1_AVG (e : Nat) : Fld := ⟨Reg.MON_ENTe_W1 e, 3, 0⟩
/-- MON_RESe (Table 13-14). -/
def Reg.MON_RESe (e : Nat) : Nat := 0xC2000 + e * 16
/-- MON_RESe_W1 (Table 13-14). -/
def Reg.MON_RESe_W1 (e : Nat) : Nat := 0xC2004 + e * 16
def Reg.MON_RESe_W1_SEQ (e : Nat) : Fld := ⟨Reg.MON_RESe_W1 e, 31, 24⟩
def Reg.MON_RESe_W1_REP (e : Nat) : Fld := ⟨Reg.MON_RESe_W1 e, 23, 16⟩
/-- MON_RESe_EPOCH_LO (Table 13-14). -/
def Reg.MON_RESe_EPOCH_LO (e : Nat) : Nat := 0xC2008 + e * 16
/-- SNS_CTRL (Table 13-10). -/
def Reg.SNS_CTRL : Nat := 0xD0000
/-- SNS_CURVES (Table 13-10). -/
def Reg.SNS_CURVES : Nat := 0xD0010
/-- SNS_CFGc (Table 13-11). -/
def Reg.SNS_CFGc (c : Nat) : Nat := 0xD0100 + c * 64
def Reg.SNS_CFGc_EN (c : Nat) : Fld := ⟨Reg.SNS_CFGc c, 31, 31⟩
def Reg.SNS_CFGc_CAL_EN (c : Nat) : Fld := ⟨Reg.SNS_CFGc c, 30, 30⟩
def Reg.SNS_CFGc_CURVE (c : Nat) : Fld := ⟨Reg.SNS_CFGc c, 23, 16⟩
def Reg.SNS_CFGc_EXC (c : Nat) : Fld := ⟨Reg.SNS_CFGc c, 14, 12⟩
def Reg.SNS_CFGc_TAU (c : Nat) : Fld := ⟨Reg.SNS_CFGc c, 10, 8⟩
/-- SNS_PERc (Table 13-11). -/
def Reg.SNS_PERc (c : Nat) : Nat := 0xD0104 + c * 64
def Reg.SNS_PERc_PER (c : Nat) : Fld := ⟨Reg.SNS_PERc c, 9, 0⟩
/-- SNS_CMc (Table 13-11). -/
def Reg.SNS_CMc (c : Nat) : Nat := 0xD0108 + c * 64
/-- SNS_STATc (Table 13-11). -/
def Reg.SNS_STATc (c : Nat) : Nat := 0xD010C + c * 64
def Reg.SNS_STATc_SEQ (c : Nat) : Fld := ⟨Reg.SNS_STATc c, 31, 16⟩
def Reg.SNS_STATc_FAULTS (c : Nat) : Fld := ⟨Reg.SNS_STATc c, 15, 8⟩
def Reg.SNS_STATc_TEMP_OK (c : Nat) : Fld := ⟨Reg.SNS_STATc c, 7, 7⟩
def Reg.SNS_STATc_FILLING (c : Nat) : Fld := ⟨Reg.SNS_STATc c, 6, 6⟩
def Reg.SNS_STATc_CURVE_RANGE (c : Nat) : Fld := ⟨Reg.SNS_STATc c, 5, 5⟩
def Reg.SNS_STATc_CURVE_EMPTY (c : Nat) : Fld := ⟨Reg.SNS_STATc c, 4, 4⟩
def Reg.SNS_STATc_FAULT_COMP (c : Nat) : Fld := ⟨Reg.SNS_STATc c, 3, 3⟩
def Reg.SNS_STATc_FAULT_CM (c : Nat) : Fld := ⟨Reg.SNS_STATc c, 2, 2⟩
def Reg.SNS_STATc_OVR (c : Nat) : Fld := ⟨Reg.SNS_STATc c, 1, 1⟩
def Reg.SNS_STATc_INVALID (c : Nat) : Fld := ⟨Reg.SNS_STATc c, 0, 0⟩
/-- SNS_RES_LOc (Table 13-11). -/
def Reg.SNS_RES_LOc (c : Nat) : Nat := 0xD0110 + c * 64
/-- SNS_QUADc (Table 13-11). -/
def Reg.SNS_QUADc (c : Nat) : Nat := 0xD0118 + c * 64
/-- SNS_TEMPc (Table 13-11). -/
def Reg.SNS_TEMPc (c : Nat) : Nat := 0xD011C + c * 64
/-- SNS_EPO_LOc (Table 13-11). -/
def Reg.SNS_EPO_LOc (c : Nat) : Nat := 0xD0120 + c * 64
/-- SNS_FILLc (Table 13-11). -/
def Reg.SNS_FILLc (c : Nat) : Nat := 0xD0128 + c * 64
/-- SNS_LEFTc (Table 13-11). -/
def Reg.SNS_LEFTc (c : Nat) : Nat := 0xD012C + c * 64
/-- HTR_CTRLk (Table 13-12). -/
def Reg.HTR_CTRLk (k : Nat) : Nat := 0xE0100 + k * 64
def Reg.HTR_CTRLk_CLEAR (k : Nat) : Fld := ⟨Reg.HTR_CTRLk k, 31, 31⟩
def Reg.HTR_CTRLk_LOOP_EN (k : Nat) : Fld := ⟨Reg.HTR_CTRLk k, 0, 0⟩
/-- HTR_VALk (Table 13-12). -/
def Reg.HTR_VALk (k : Nat) : Nat := 0xE0104 + k * 64
/-- HTR_LOOPk (Table 13-12). -/
def Reg.HTR_LOOPk (k : Nat) : Nat := 0xE0108 + k * 64
def Reg.HTR_LOOPk_OUT_MODE (k : Nat) : Fld := ⟨Reg.HTR_LOOPk k, 8, 8⟩
def Reg.HTR_LOOPk_SRC (k : Nat) : Fld := ⟨Reg.HTR_LOOPk k, 2, 0⟩
/-- HTR_SPk (Table 13-12). -/
def Reg.HTR_SPk (k : Nat) : Nat := 0xE010C + k * 64
/-- HTR_KPk (Table 13-12). -/
def Reg.HTR_KPk (k : Nat) : Nat := 0xE0110 + k * 64
/-- HTR_KIk (Table 13-12). -/
def Reg.HTR_KIk (k : Nat) : Nat := 0xE0114 + k * 64
/-- HTR_CEILk (Table 13-12). -/
def Reg.HTR_CEILk (k : Nat) : Nat := 0xE0118 + k * 64
def Reg.HTR_CEILk_CEIL (k : Nat) : Fld := ⟨Reg.HTR_CEILk k, 19, 0⟩
/-- HTR_RATEk (Table 13-12). -/
def Reg.HTR_RATEk (k : Nat) : Nat := 0xE011C + k * 64
def Reg.HTR_RATEk_RATE (k : Nat) : Fld := ⟨Reg.HTR_RATEk k, 19, 0⟩
/-- HTR_TMAXk (Table 13-12). -/
def Reg.HTR_TMAXk (k : Nat) : Nat := 0xE0120 + k * 64
/-- HTR_SAFEk (Table 13-12). -/
def Reg.HTR_SAFEk (k : Nat) : Nat := 0xE0124 + k * 64
def Reg.HTR_SAFEk_TIMEOUT (k : Nat) : Fld := ⟨Reg.HTR_SAFEk k, 31, 24⟩
def Reg.HTR_SAFEk_FALLBACK (k : Nat) : Fld := ⟨Reg.HTR_SAFEk k, 19, 0⟩
/-- HTR_STATk (Table 13-12). -/
def Reg.HTR_STATk (k : Nat) : Nat := 0xE0128 + k * 64
def Reg.HTR_STATk_STATE (k : Nat) : Fld := ⟨Reg.HTR_STATk k, 31, 28⟩
def Reg.HTR_STATk_SAT_HI (k : Nat) : Fld := ⟨Reg.HTR_STATk k, 3, 3⟩
def Reg.HTR_STATk_SAT_RATE (k : Nat) : Fld := ⟨Reg.HTR_STATk k, 2, 2⟩
def Reg.HTR_STATk_COMP (k : Nat) : Fld := ⟨Reg.HTR_STATk k, 1, 1⟩
def Reg.HTR_STATk_OVERTEMP_SEEN (k : Nat) : Fld := ⟨Reg.HTR_STATk k, 0, 0⟩
/-- HTR_IACCk (Table 13-12). -/
def Reg.HTR_IACCk (k : Nat) : Nat := 0xE012C + k * 64
def Reg.HTR_IACCk_IACC (k : Nat) : Fld := ⟨Reg.HTR_IACCk k, 19, 0⟩
/-- HTR_UPD_LOk (Table 13-12). -/
def Reg.HTR_UPD_LOk (k : Nat) : Nat := 0xE0130 + k * 64
/-- RNK_MRK_SKEWk (Table 06-9). -/
def Reg.RNK_MRK_SKEWk (r : Nat) (k : Nat) : Nat := rankBase r + 0x400 + k * 4
def Reg.RNK_MRK_SKEWk_SKEW (r : Nat) (k : Nat) : Fld := ⟨Reg.RNK_MRK_SKEWk r k, 7, 0⟩
/-- RNK_MRK_STAT (Table 06-9). -/
def Reg.RNK_MRK_STAT (r : Nat) : Nat := rankBase r + 0x420
/-- RNK_CACHE_RESw (Table 06-10). -/
def Reg.RNK_CACHE_RESw (r : Nat) (w : Nat) : Nat := rankBase r + 0x500 + w * 4
/-- RNK_STRM_STAT (Table 06-11). -/
def Reg.RNK_STRM_STAT (r : Nat) : Nat := rankBase r + 0x600
def Reg.RNK_STRM_STAT_STARVED (r : Nat) : Fld := ⟨Reg.RNK_STRM_STAT r, 31, 16⟩
def Reg.RNK_STRM_STAT_MISS (r : Nat) : Fld := ⟨Reg.RNK_STRM_STAT r, 15, 0⟩
/-- RNK_STRM_CTRL (Table 06-11). -/
def Reg.RNK_STRM_CTRL (r : Nat) : Nat := rankBase r + 0x604
/-- RNK_STRM_Sn (Table 06-11). -/
def Reg.RNK_STRM_Sn (r : Nat) (n : Nat) : Nat := rankBase r + 0x800 + n * 8
/-- RNK_STRM_Sn_WSEQ (Table 06-11). -/
def Reg.RNK_STRM_Sn_WSEQ (r : Nat) (n : Nat) : Nat := rankBase r + 0x804 + n * 8
/-- SE_RUN (Table 05-18). -/
def Reg.SE_RUN (r : Nat) : Nat := rankBase r + 0x10000
/-- SE_WAIT (Table 05-18). -/
def Reg.SE_WAIT (r : Nat) : Nat := rankBase r + 0x10004
/-- SE_STAGE (Table 05-18). -/
def Reg.SE_STAGE (r : Nat) : Nat := rankBase r + 0x10008
def Reg.SE_STAGE_PEAK (r : Nat) : Fld := ⟨Reg.SE_STAGE r, 15, 8⟩
/-- SE_CONFLICT (Table 05-19). -/
def Reg.SE_CONFLICT (r : Nat) : Nat := rankBase r + 0x1000C
/-- SE_TRAPS (Table 05-19). -/
def Reg.SE_TRAPS (r : Nat) : Nat := rankBase r + 0x10010
/-- SE_CTRL (Table 05-19). -/
def Reg.SE_CTRL (r : Nat) : Nat := rankBase r + 0x10014
/-- SE_CFGe (Table 05-20). -/
def Reg.SE_CFGe (r : Nat) (e : Nat) : Nat := rankBase r + 0x10100 + e * 32
def Reg.SE_CFGe_FLUX_ONLY (r : Nat) (e : Nat) : Fld := ⟨Reg.SE_CFGe r e, 0, 0⟩
/-- SE_STATe (Table 05-20). -/
def Reg.SE_STATe (r : Nat) (e : Nat) : Nat := rankBase r + 0x10104 + e * 32
/-- SE_FAULTe (Table 05-21). -/
def Reg.SE_FAULTe (r : Nat) (e : Nat) : Nat := rankBase r + 0x10108 + e * 32
def Reg.SE_FAULTe_VALID (r : Nat) (e : Nat) : Fld := ⟨Reg.SE_FAULTe r e, 31, 31⟩
def Reg.SE_FAULTe_CODE (r : Nat) (e : Nat) : Fld := ⟨Reg.SE_FAULTe r e, 23, 16⟩
def Reg.SE_FAULTe_PC (r : Nat) (e : Nat) : Fld := ⟨Reg.SE_FAULTe r e, 12, 0⟩
/-- SE_TRAPe (Table 05-21). -/
def Reg.SE_TRAPe (r : Nat) (e : Nat) : Nat := rankBase r + 0x1010C + e * 32
def Reg.SE_TRAPe_COUNT (r : Nat) (e : Nat) : Fld := ⟨Reg.SE_TRAPe r e, 31, 16⟩
def Reg.SE_TRAPe_CAUSE (r : Nat) (e : Nat) : Fld := ⟨Reg.SE_TRAPe r e, 15, 8⟩
/-- SE_SHOTe (Table 05-21). -/
def Reg.SE_SHOTe (r : Nat) (e : Nat) : Nat := rankBase r + 0x10110 + e * 32
def Reg.SE_SHOTe_SQ (r : Nat) (e : Nat) : Fld := ⟨Reg.SE_SHOTe r e, 21, 16⟩
def Reg.SE_SHOTe_TAG (r : Nat) (e : Nat) : Fld := ⟨Reg.SE_SHOTe r e, 15, 0⟩
/-- SE_ISSUED_LOe (Table 05-22). -/
def Reg.SE_ISSUED_LOe (r : Nat) (e : Nat) : Nat := rankBase r + 0x10118 + e * 32
/-- SE_SAVEe (Table 05-22). -/
def Reg.SE_SAVEe (r : Nat) (e : Nat) (j : Nat) : Nat := rankBase r + 0x11000 + e * 128 + j * 4
/-- SYN_CTRL (Table 07-10). -/
def Reg.SYN_CTRL (r : Nat) : Nat := rankBase r + 0x20000
/-- SYN_SLOT_LOCK_LO (Table 07-10). -/
def Reg.SYN_SLOT_LOCK_LO (r : Nat) : Nat := rankBase r + 0x20010
/-- SYN_SLOT_LOCK_HI (Table 07-10). -/
def Reg.SYN_SLOT_LOCK_HI (r : Nat) : Nat := rankBase r + 0x20014
/-- SYN_SLOT_LOf (Table 07-11). -/
def Reg.SYN_SLOT_LOf (r : Nat) (f : Nat) : Nat := rankBase r + 0x21000 + f * 8
/-- SYN_SLOT_HIf (Table 07-11). -/
def Reg.SYN_SLOT_HIf (r : Nat) (f : Nat) : Nat := rankBase r + 0x21004 + f * 8
/-- SYN_CHc (Table 07-11). -/
def Reg.SYN_CHc (r : Nat) (c : Nat) : Nat := rankBase r + 0x22000 + c * 8
def Reg.SYN_CHc_INTERP (r : Nat) (c : Nat) : Fld := ⟨Reg.SYN_CHc r c, 0, 0⟩
/-- SYN_CHSTATc (Table 07-11). -/
def Reg.SYN_CHSTATc (r : Nat) (c : Nat) : Nat := rankBase r + 0x22004 + c * 8
/-- DRV_HIT (Table 07-14). -/
def Reg.DRV_HIT (r : Nat) : Nat := rankBase r + 0x40004
/-- DRV_HIT2 (Table 07-14). -/
def Reg.DRV_HIT2 (r : Nat) : Nat := rankBase r + 0x40008
/-- DRV_MRK_CTRL (Table 07-12). -/
def Reg.DRV_MRK_CTRL (r : Nat) : Nat := rankBase r + 0x40300
def Reg.DRV_MRK_CTRL_CLEAR (r : Nat) : Fld := ⟨Reg.DRV_MRK_CTRL r, 31, 31⟩
/-- DRV_CTRLd (Table 07-12). -/
def Reg.DRV_CTRLd (r : Nat) (d : Nat) : Nat := rankBase r + 0x40100 + d * 16
/-- DRV_ROTX_CTRLf (Table 07-12). -/
def Reg.DRV_ROTX_CTRLf (r : Nat) (f : Nat) : Nat := rankBase r + 0x40200 + f * 16
/-- FFX_CTRL (Table 08-11). -/
def Reg.FFX_CTRL (r : Nat) : Nat := rankBase r + 0x50000
/-- FFX_HIT (Table 08-11). -/
def Reg.FFX_HIT (r : Nat) : Nat := rankBase r + 0x50004
/-- FFX_CTRLk (Table 08-12). -/
def Reg.FFX_CTRLk (r : Nat) (k : Nat) : Nat := rankBase r + 0x50100 + k * 32
def Reg.FFX_CTRLk_CLEAR (r : Nat) (k : Nat) : Fld := ⟨Reg.FFX_CTRLk r k, 31, 31⟩
def Reg.FFX_CTRLk_SPAN (r : Nat) (k : Nat) : Fld := ⟨Reg.FFX_CTRLk r k, 0, 0⟩
/-- FFX_VALk (Table 08-12). -/
def Reg.FFX_VALk (r : Nat) (k : Nat) : Nat := rankBase r + 0x50104 + k * 32
/-- FFX_LIMk (Table 08-12). -/
def Reg.FFX_LIMk (r : Nat) (k : Nat) : Nat := rankBase r + 0x50108 + k * 32
def Reg.FFX_LIMk_LIM (r : Nat) (k : Nat) : Fld := ⟨Reg.FFX_LIMk r k, 14, 0⟩
/-- FFX_PD0k (Table 08-13). -/
def Reg.FFX_PD0k (r : Nat) (k : Nat) : Nat := rankBase r + 0x5010C + k * 32
/-- FFX_PD1k (Table 08-13). -/
def Reg.FFX_PD1k (r : Nat) (k : Nat) : Nat := rankBase r + 0x50110 + k * 32
/-- FFX_STATk (Table 08-13). -/
def Reg.FFX_STATk (r : Nat) (k : Nat) : Nat := rankBase r + 0x50114 + k * 32
def Reg.FFX_STATk_LIM_HIT (r : Nat) (k : Nat) : Fld := ⟨Reg.FFX_STATk r k, 31, 16⟩
def Reg.FFX_STATk_SAT (r : Nat) (k : Nat) : Fld := ⟨Reg.FFX_STATk r k, 15, 0⟩
/-- FFX_DROPk (Table 08-13). -/
def Reg.FFX_DROPk (r : Nat) (k : Nat) : Nat := rankBase r + 0x50118 + k * 32
/-- FFX_CALk (Table 08-13). -/
def Reg.FFX_CALk (r : Nat) (k : Nat) : Nat := rankBase r + 0x5011C + k * 32
def Reg.FFX_CALk_STALE (r : Nat) (k : Nat) : Fld := ⟨Reg.FFX_CALk r k, 31, 31⟩
/-- BIA_CTRL (Table 08-14). -/
def Reg.BIA_CTRL (r : Nat) : Nat := rankBase r + 0x60000
/-- BIA_HIT (Table 08-14). -/
def Reg.BIA_HIT (r : Nat) : Nat := rankBase r + 0x60004
/-- BIA_CTRLk (Table 08-15). -/
def Reg.BIA_CTRLk (r : Nat) (k : Nat) : Nat := rankBase r + 0x60100 + k * 32
def Reg.BIA_CTRLk_CLEAR (r : Nat) (k : Nat) : Fld := ⟨Reg.BIA_CTRLk r k, 31, 31⟩
def Reg.BIA_CTRLk_CAL_EN (r : Nat) (k : Nat) : Fld := ⟨Reg.BIA_CTRLk r k, 8, 8⟩
def Reg.BIA_CTRLk_SPAN (r : Nat) (k : Nat) : Fld := ⟨Reg.BIA_CTRLk r k, 1, 0⟩
/-- BIA_VALk (Table 08-15). -/
def Reg.BIA_VALk (r : Nat) (k : Nat) : Nat := rankBase r + 0x60104 + k * 32
/-- BIA_LIMk (Table 08-15). -/
def Reg.BIA_LIMk (r : Nat) (k : Nat) : Nat := rankBase r + 0x60108 + k * 32
def Reg.BIA_LIMk_VLIM (r : Nat) (k : Nat) : Fld := ⟨Reg.BIA_LIMk r k, 19, 0⟩
/-- BIA_CLRCODEk (Table 08-15). -/
def Reg.BIA_CLRCODEk (r : Nat) (k : Nat) : Nat := rankBase r + 0x6010C + k * 32
def Reg.BIA_CLRCODEk_SPAN (r : Nat) (k : Nat) : Fld := ⟨Reg.BIA_CLRCODEk r k, 21, 20⟩
def Reg.BIA_CLRCODEk_CODE (r : Nat) (k : Nat) : Fld := ⟨Reg.BIA_CLRCODEk r k, 19, 0⟩
/-- BIA_LAST_LOk (Table 08-16). -/
def Reg.BIA_LAST_LOk (r : Nat) (k : Nat) : Nat := rankBase r + 0x60110 + k * 32
/-- BIA_STATk (Table 08-16). -/
def Reg.BIA_STATk (r : Nat) (k : Nat) : Nat := rankBase r + 0x60118 + k * 32
def Reg.BIA_STATk_DROP (r : Nat) (k : Nat) : Fld := ⟨Reg.BIA_STATk r k, 31, 16⟩
def Reg.BIA_STATk_LIM_HIT (r : Nat) (k : Nat) : Fld := ⟨Reg.BIA_STATk r k, 15, 0⟩
/-- BIA_CALk (Table 08-16). -/
def Reg.BIA_CALk (r : Nat) (k : Nat) : Nat := rankBase r + 0x6011C + k * 32
def Reg.BIA_CALk_STALE (r : Nat) (k : Nat) : Fld := ⟨Reg.BIA_CALk r k, 31, 31⟩
/-- DMD_CTRL (Table 09-10). -/
def Reg.DMD_CTRL (r : Nat) : Nat := rankBase r + 0x30000
/-- DMD_INV (Table 09-10). -/
def Reg.DMD_INV (r : Nat) : Nat := rankBase r + 0x30004
/-- DMD_TONEk (Table 09-10). -/
def Reg.DMD_TONEk (r : Nat) (k : Nat) : Nat := rankBase r + 0x30200 + k * 4
def Reg.DMD_TONEk_FILT (r : Nat) (k : Nat) : Fld := ⟨Reg.DMD_TONEk r k, 1, 0⟩
/-- DMD_RXCFGf (Table 09-11). -/
def Reg.DMD_RXCFGf (r : Nat) (f : Nat) : Nat := rankBase r + 0x30100 + f * 16
def Reg.DMD_RXCFGf_GAIN (r : Nat) (f : Nat) : Fld := ⟨Reg.DMD_RXCFGf r f, 2, 0⟩
/-- DMD_RXSTATf (Table 09-11). -/
def Reg.DMD_RXSTATf (r : Nat) (f : Nat) : Nat := rankBase r + 0x30104 + f * 16
def Reg.DMD_RXSTATf_OVR (r : Nat) (f : Nat) : Fld := ⟨Reg.DMD_RXSTATf r f, 31, 16⟩
/-- DMD_RXCALf (Table 09-11). -/
def Reg.DMD_RXCALf (r : Nat) (f : Nat) : Nat := rankBase r + 0x30108 + f * 16
def Reg.DMD_RXCALf_STALE (r : Nat) (f : Nat) : Fld := ⟨Reg.DMD_RXCALf r f, 31, 31⟩
/-- ACQ_CTRL (Table 09-12). -/
def Reg.ACQ_CTRL (r : Nat) : Nat := rankBase r + 0x70000
/-- ACQ_STAT (Table 09-12). -/
def Reg.ACQ_STAT (r : Nat) : Nat := rankBase r + 0x70004
def Reg.ACQ_STAT_BUSY_DROP (r : Nat) : Fld := ⟨Reg.ACQ_STAT r, 31, 16⟩
def Reg.ACQ_STAT_NOREC (r : Nat) : Fld := ⟨Reg.ACQ_STAT r, 15, 0⟩
/-- ACQ_SETLOCK (Table 09-12). -/
def Reg.ACQ_SETLOCK (r : Nat) : Nat := rankBase r + 0x70008
def Reg.ACQ_SETLOCK_DLOCK (r : Nat) : Fld := ⟨Reg.ACQ_SETLOCK r, 31, 16⟩
def Reg.ACQ_SETLOCK_WLOCK (r : Nat) : Fld := ⟨Reg.ACQ_SETLOCK r, 15, 0⟩
/-- ACQ_RWCFGk (Table 09-13). -/
def Reg.ACQ_RWCFGk (r : Nat) (k : Nat) : Nat := rankBase r + 0x70100 + k * 16
def Reg.ACQ_RWCFGk_TIMEOUT (r : Nat) (k : Nat) : Fld := ⟨Reg.ACQ_RWCFGk r k, 31, 16⟩
def Reg.ACQ_RWCFGk_STRICT (r : Nat) (k : Nat) : Fld := ⟨Reg.ACQ_RWCFGk r k, 8, 8⟩
def Reg.ACQ_RWCFGk_TRIG_SRC (r : Nat) (k : Nat) : Fld := ⟨Reg.ACQ_RWCFGk r k, 2, 0⟩
/-- ACQ_RWTHRk (Table 09-13). -/
def Reg.ACQ_RWTHRk (r : Nat) (k : Nat) : Nat := rankBase r + 0x70104 + k * 16
def Reg.ACQ_RWTHRk_THR (r : Nat) (k : Nat) : Fld := ⟨Reg.ACQ_RWTHRk r k, 17, 0⟩
/-- ACQ_RWSTATk (Table 09-13). -/
def Reg.ACQ_RWSTATk (r : Nat) (k : Nat) : Nat := rankBase r + 0x70108 + k * 16
def Reg.ACQ_RWSTATk_VERDICT (r : Nat) (k : Nat) : Fld := ⟨Reg.ACQ_RWSTATk r k, 19, 16⟩
def Reg.ACQ_RWSTATk_FORCED (r : Nat) (k : Nat) : Fld := ⟨Reg.ACQ_RWSTATk r k, 15, 0⟩
/-- ACQ_TRCFGu (Table 09-14). -/
def Reg.ACQ_TRCFGu (r : Nat) (u : Nat) : Nat := rankBase r + 0x70400 + u * 16
def Reg.ACQ_TRCFGu_TIMEOUT (r : Nat) (u : Nat) : Fld := ⟨Reg.ACQ_TRCFGu r u, 31, 16⟩
def Reg.ACQ_TRCFGu_TRIG_SRC (r : Nat) (u : Nat) : Fld := ⟨Reg.ACQ_TRCFGu r u, 2, 0⟩
/-- ACQ_TRPOSTu (Table 09-14). -/
def Reg.ACQ_TRPOSTu (r : Nat) (u : Nat) : Nat := rankBase r + 0x70404 + u * 16
def Reg.ACQ_TRPOSTu_POST (r : Nat) (u : Nat) : Fld := ⟨Reg.ACQ_TRPOSTu r u, 23, 0⟩
/-- ACQ_TRSTATu (Table 09-14). -/
def Reg.ACQ_TRSTATu (r : Nat) (u : Nat) : Nat := rankBase r + 0x70408 + u * 16
def Reg.ACQ_TRSTATu_DEAD (r : Nat) (u : Nat) : Fld := ⟨Reg.ACQ_TRSTATu r u, 24, 16⟩
def Reg.ACQ_TRSTATu_MISSED (r : Nat) (u : Nat) : Fld := ⟨Reg.ACQ_TRSTATu r u, 15, 0⟩
/-- ACQ_WHDRw (Table 09-15). -/
def Reg.ACQ_WHDRw (r : Nat) (w : Nat) : Nat := rankBase r + 0x70600 + w * 4
def Reg.ACQ_WHDRw_RSHIFT (r : Nat) (w : Nat) : Fld := ⟨Reg.ACQ_WHDRw r w, 21, 16⟩
def Reg.ACQ_WHDRw_SPF_LOG2 (r : Nat) (w : Nat) : Fld := ⟨Reg.ACQ_WHDRw r w, 10, 9⟩
def Reg.ACQ_WHDRw_LEN (r : Nat) (w : Nat) : Fld := ⟨Reg.ACQ_WHDRw r w, 8, 0⟩
/-- ACQ_Ww_i (Table 09-15). -/
def Reg.ACQ_Ww_i (r : Nat) (w : Nat) (i : Nat) : Nat := rankBase r + 0x78000 + w * 1024 + i * 4
def Reg.ACQ_Ww_i_WQ (r : Nat) (w : Nat) (i : Nat) : Fld := ⟨Reg.ACQ_Ww_i r w i, 31, 16⟩
def Reg.ACQ_Ww_i_WI (r : Nat) (w : Nat) (i : Nat) : Fld := ⟨Reg.ACQ_Ww_i r w i, 15, 0⟩
/-- ACQ_RGNd_j_CI (Table 09-15). -/
def Reg.ACQ_RGNd_j_CI (r : Nat) (d : Nat) (j : Nat) : Nat := rankBase r + 0x7C000 + d * 256 + j * 16
/-- ACQ_RGNd_j_CQ (Table 09-15). -/
def Reg.ACQ_RGNd_j_CQ (r : Nat) (d : Nat) (j : Nat) : Nat := rankBase r + 0x7C004 + d * 256 + j * 16
/-- ACQ_RGNd_j_RAD (Table 09-15). -/
def Reg.ACQ_RGNd_j_RAD (r : Nat) (d : Nat) (j : Nat) : Nat := rankBase r + 0x7C008 + d * 256 + j * 16
/-- ACQ_DHDRd (Table 09-15). -/
def Reg.ACQ_DHDRd (r : Nat) (d : Nat) : Nat := rankBase r + 0x7C0C0 + d * 256
def Reg.ACQ_DHDRd_NSTATES (r : Nat) (d : Nat) : Fld := ⟨Reg.ACQ_DHDRd r d, 3, 0⟩
/-- PCI_MSIXv_ADDR_LO (R133). -/
def Reg.PCI_MSIXv_ADDR_LO (v : Nat) : Nat := 0x28000 + v * 16
/-- PCI_MSIXv_CTRL (R133). -/
def Reg.PCI_MSIXv_CTRL (v : Nat) : Nat := 0x2800C + v * 16
def Reg.PCI_MSIXv_CTRL_MASK (v : Nat) : Fld := ⟨Reg.PCI_MSIXv_CTRL v, 0, 0⟩
/-- PCI_PBAw (R133). -/
def Reg.PCI_PBAw (w : Nat) : Nat := 0x29000 + w * 4

/-- The rows of the BRD block. -/
def regRowsBrd : List RegRow :=
  [⟨0x0, false, 1, 4, 1, 4, 0x8000110, none, 0x0, 0x0, 0x0, 0x0⟩,
   ⟨0x10, false, 1, 4, 1, 4, 0x0, none, 0x0, 0x0, 0xF0, 0x0⟩,
   ⟨0x14, false, 1, 4, 1, 4, 0x0, none, 0x0, 0x0, 0x0, 0x0⟩,
   ⟨0x18, false, 1, 4, 1, 4, 0x0, none, 0x0, 0x0, 0x0, 0x0⟩,
   ⟨0x20, false, 1, 4, 1, 4, 0x0, none, 0x0, 0x3FFF, 0x0, 0x0⟩,
   ⟨0x24, false, 1, 4, 1, 4, 0x0, none, 0x3FFF, 0x0, 0x0, 0x0⟩,
   ⟨0x28, false, 1, 4, 1, 4, 0x0, none, 0x0, 0x80000000, 0x0, 0x0⟩,
   ⟨0x2C, false, 1, 4, 1, 4, 0x0, none, 0x0, 0x0, 0x0, 0x0⟩,
   ⟨0x40, false, 1, 4, 1, 4, 0x0, none, 0x0, 0x0, 0x0, 0x0⟩,
   ⟨0x44, false, 1, 4, 1, 4, 0x0, none, 0x0, 0x0, 0x0, 0x0⟩,
   ⟨0x48, false, 1, 4, 1, 4, 0x0, none, 0x0, 0x0, 0x0, 0x0⟩,
   ⟨0x10000, false, 1, 4, 1, 4, 0x4001, none, 0xFF8F, 0x0, 0x0, 0x0⟩,
   ⟨0x10004, false, 1, 4, 1, 4, 0x0, none, 0x0, 0x0, 0x0, 0x0⟩,
   ⟨0x10008, false, 1, 4, 1, 4, 0x0, none, 0x0, 0x0, 0x3, 0x0⟩,
   ⟨0x1000C, false, 1, 4, 1, 4, 0x0, none, 0x0, 0x0, 0x0, 0x0⟩,
   ⟨0x10010, false, 1, 4, 1, 4, 0x1, none, 0x3, 0x0, 0x80000000, 0x0⟩,
   ⟨0x10014, false, 1, 4, 1, 4, 0x0, none, 0x0, 0x0, 0x0, 0x0⟩,
   ⟨0x10018, false, 1, 4, 1, 4, 0x0, none, 0xFFFFFFFF, 0x0, 0x0, 0x0⟩,
   ⟨0x1001C, false, 1, 4, 1, 4, 0x0, none, 0xFFFFFFFF, 0x0, 0x0, 0x0⟩,
   ⟨0x10040, false, 4, 16, 1, 4, 0x0, none, 0x0, 0x0, 0x0, 0x0⟩,
   ⟨0x10044, false, 4, 16, 1, 4, 0x0, none, 0x0, 0x0, 0x0, 0x0⟩,
   ⟨0x10048, false, 4, 16, 1, 4, 0x0, none, 0x0, 0x0, 0x0, 0x0⟩,
   ⟨0x1004C, false, 4, 16, 1, 4, 0x0, none, 0x0, 0x0, 0x0, 0x0⟩,
   ⟨0x10020, false, 1, 4, 1, 4, 0x0, none, 0xFFF, 0x0, 0x0, 0x0⟩,
   ⟨0x10024, false, 1, 4, 1, 4, 0x0, none, 0x0, 0x0, 0x0, 0x0⟩,
   ⟨0x10028, false, 1, 4, 1, 4, 0x0, none, 0x0, 0x0, 0x0, 0x0⟩,
   ⟨0x1002C, false, 1, 4, 1, 4, 0x0, none, 0x0, 0x0, 0x0, 0x0⟩,
   ⟨0x10030, false, 1, 4, 1, 4, 0x0, none, 0x0, 0x0, 0x0, 0x0⟩,
   ⟨0x10038, false, 1, 4, 1, 4, 0x0, none, 0x0, 0x0, 0x0, 0x0⟩,
   ⟨0x1003C, false, 1, 4, 1, 4, 0x0, none, 0x0, 0x0, 0x0, 0x0⟩,
   ⟨0x10200, false, 16, 32, 1, 4, 0x0, none, 0x0, 0x0, 0x0, 0x0⟩,
   ⟨0x10208, false, 16, 32, 1, 4, 0x0, none, 0x0, 0x0, 0x0, 0x0⟩,
   ⟨0x1020C, false, 16, 32, 1, 4, 0x0, none, 0x0, 0x0, 0x0, 0x0⟩,
   ⟨0x10210, false, 16, 32, 1, 4, 0x0, none, 0x0, 0x0, 0x0, 0x0⟩,
   ⟨0x10214, false, 16, 32, 1, 4, 0x0, none, 0x0, 0x0, 0x0, 0x0⟩]
/-- The rows of the EPO block. -/
def regRowsEpo : List RegRow :=
  [⟨0x40000, false, 1, 4, 1, 4, 0xC0, none, 0x0, 0x10, 0x0, 0x0⟩,
   ⟨0x40004, false, 1, 4, 1, 4, 0x0, none, 0xFFFF003F, 0x0, 0x0, 0x0⟩,
   ⟨0x40008, false, 1, 4, 1, 4, 0x0, none, 0x3, 0x0, 0x0, 0x0⟩,
   ⟨0x4000C, false, 1, 4, 1, 4, 0x0, none, 0x0, 0xE, 0x0, 0x0⟩,
   ⟨0x40200, false, 1, 4, 1, 4, 0x2950, none, 0xFFFFFFF3, 0x0, 0x0, 0x0⟩,
   ⟨0x40204, false, 1, 4, 1, 4, 0x10000, none, 0xFFFFFFFF, 0x0, 0x0, 0x0⟩,
   ⟨0x40208, false, 1, 4, 1, 4, 0x0, none, 0x0, 0xA, 0x0, 0x0⟩,
   ⟨0x40214, false, 1, 4, 1, 4, 0x0, none, 0xFFFF, 0x0, 0x0, 0x0⟩,
   ⟨0x40300, false, 1, 4, 1, 4, 0x0, none, 0xFF000001, 0x2, 0x0, 0x0⟩,
   ⟨0x40380, false, 1, 4, 1, 4, 0x0, none, 0xF0, 0x0, 0x1, 0x0⟩,
   ⟨0x40398, false, 1, 4, 1, 4, 0x0, none, 0x0, 0x0, 0x0, 0x0⟩,
   ⟨0x40240, false, 8, 4, 1, 4, 0x0, none, 0xFFFFFFFF, 0x0, 0x0, 0x0⟩,
   ⟨0x40100, false, 16, 16, 1, 4, 0x0, none, 0x101, 0xE0000000, 0x0, 0x0⟩,
   ⟨0x40104, false, 16, 16, 1, 4, 0x0, none, 0xFFFFFFFF, 0x0, 0x0, 0x0⟩,
   ⟨0x40108, false, 16, 16, 1, 4, 0x0, none, 0xFFFFFFFF, 0x0, 0x0, 0x0⟩,
   ⟨0x4010C, false, 16, 16, 1, 4, 0x0, none, 0xFFFFFFFF, 0x0, 0x0, 0x0⟩,
   ⟨0x40010, false, 1, 4, 1, 4, 0x0, none, 0xFFFFFFFF, 0x0, 0x0, 0x0⟩,
   ⟨0x40018, false, 1, 4, 1, 4, 0x0, none, 0x0, 0x0, 0x0, 0x0⟩,
   ⟨0x4001C, false, 1, 4, 1, 4, 0x0, none, 0x0, 0x0, 0x0, 0x0⟩,
   ⟨0x40020, false, 1, 4, 1, 4, 0x0, none, 0x0, 0x0, 0x0, 0x0⟩,
   ⟨0x40024, false, 1, 4, 1, 4, 0x0, none, 0x0, 0x0, 0x0, 0x0⟩,
   ⟨0x4020C, false, 1, 4, 1, 4, 0x0, none, 0x0, 0x0, 0x0, 0x0⟩,
   ⟨0x40210, false, 1, 4, 1, 4, 0x0, none, 0x0, 0x0, 0x0, 0x0⟩,
   ⟨0x40218, false, 1, 4, 1, 4, 0x0, none, 0x0, 0x0, 0x0, 0x0⟩,
   ⟨0x4021C, false, 1, 4, 1, 4, 0x0, none, 0x0, 0x0, 0x0, 0x0⟩,
   ⟨0x40304, false, 1, 4, 1, 4, 0x0, none, 0x0, 0x0, 0x0, 0x0⟩,
   ⟨0x40308, false, 1, 4, 1, 4, 0x0, none, 0x0, 0x0, 0x0, 0x0⟩,
   ⟨0x4030C, false, 1, 4, 1, 4, 0x0, none, 0x0, 0x0, 0x0, 0x0⟩,
   ⟨0x40310, false, 1, 4, 1, 4, 0x0, none, 0x0, 0x0, 0x0, 0x0⟩,
   ⟨0x40314, false, 1, 4, 1, 4, 0x0, none, 0x0, 0x0, 0x0, 0x0⟩,
   ⟨0x40318, false, 1, 4, 1, 4, 0x0, none, 0x0, 0x0, 0x0, 0x0⟩,
   ⟨0x4031C, false, 1, 4, 1, 4, 0x0, none, 0x0, 0x0, 0x0, 0x0⟩,
   ⟨0x40320, false, 1, 4, 1, 4, 0x0, none, 0x0, 0x0, 0xFFFFFFFF, 0x0⟩,
   ⟨0x40324, false, 1, 4, 1, 4, 0x0, none, 0x0, 0x0, 0xFFFFFFFF, 0x0⟩,
   ⟨0x40328, false, 1, 4, 1, 4, 0x0, none, 0x0, 0x0, 0xFFFFFFFF, 0x0⟩,
   ⟨0x40388, false, 1, 4, 1, 4, 0x0, none, 0x0, 0x0, 0x0, 0x0⟩,
   ⟨0x4038C, false, 1, 4, 1, 4, 0x0, none, 0x0, 0x0, 0x0, 0x0⟩,
   ⟨0x40390, false, 1, 4, 1, 4, 0x0, none, 0x0, 0x0, 0x0, 0x0⟩,
   ⟨0x40394, false, 1, 4, 1, 4, 0x0, none, 0x0, 0x0, 0x0, 0x0⟩]
/-- The rows of the PCI block. -/
def regRowsPci : List RegRow :=
  [⟨0x20000, false, 1, 4, 1, 4, 0x0, none, 0x0, 0x0, 0x0, 0x0⟩,
   ⟨0x20004, false, 1, 4, 1, 4, 0x0, none, 0x0, 0x0, 0x0, 0x0⟩,
   ⟨0x20008, false, 1, 4, 1, 4, 0x0, none, 0x0, 0x3F, 0x0, 0x0⟩,
   ⟨0x21000, false, 64, 32, 1, 4, 0x0, none, 0xFFFFF000, 0x0, 0x0, 0x0⟩,
   ⟨0x21004, false, 64, 32, 1, 4, 0x0, none, 0xFFFFFFFF, 0x0, 0x0, 0x0⟩,
   ⟨0x22000, false, 64, 32, 1, 4, 0x0, none, 0xFFFFF000, 0x0, 0x0, 0x0⟩,
   ⟨0x22004, false, 64, 32, 1, 4, 0x0, none, 0xFFFFFFFF, 0x0, 0x0, 0x0⟩,
   ⟨0x21008, false, 64, 32, 1, 4, 0x40000, some 0, 0x801F003F, 0x0, 0x0, 0x0⟩,
   ⟨0x2100C, false, 64, 32, 1, 4, 0x0, none, 0x0, 0x0, 0x0, 0x0⟩,
   ⟨0x21010, false, 64, 32, 1, 4, 0x0, none, 0x0, 0x0, 0x0, 0x0⟩,
   ⟨0x22008, false, 64, 32, 1, 4, 0x40002, some 0, 0x801F00FF, 0x0, 0x0, 0x0⟩,
   ⟨0x2200C, false, 64, 32, 1, 4, 0x1, none, 0xFFFF00FF, 0x0, 0x0, 0x0⟩,
   ⟨0x22010, false, 64, 32, 1, 4, 0x8000000, none, 0x0, 0x0, 0x0, 0x0⟩,
   ⟨0x22014, false, 64, 32, 1, 4, 0x0, none, 0x0, 0x0, 0x0, 0x0⟩,
   ⟨0x28000, false, 256, 16, 1, 4, 0x0, none, 0xFFFFFFFC, 0x0, 0x0, 0x0⟩,
   ⟨0x28004, false, 256, 16, 1, 4, 0x0, none, 0xFFFFFFFF, 0x0, 0x0, 0x0⟩,
   ⟨0x28008, false, 256, 16, 1, 4, 0x0, none, 0xFFFFFFFF, 0x0, 0x0, 0x0⟩,
   ⟨0x2800C, false, 256, 16, 1, 4, 0x1, none, 0x1, 0x0, 0x0, 0x0⟩,
   ⟨0x29000, false, 8, 4, 1, 4, 0x0, none, 0x0, 0x0, 0x0, 0x0⟩]
/-- The rows of the CLK block. -/
def regRowsClk : List RegRow :=
  [⟨0x30000, false, 1, 4, 1, 4, 0x5A00, none, 0xFF00, 0x0, 0x1, 0x0⟩,
   ⟨0x30004, false, 1, 4, 1, 4, 0x0, none, 0xFFFF, 0x0, 0x0, 0x0⟩,
   ⟨0x30008, false, 1, 4, 1, 4, 0x0, none, 0x0, 0x0, 0x0, 0x0⟩,
   ⟨0x3000C, false, 1, 4, 1, 4, 0xA231932, none, 0x0, 0x0, 0x0, 0x0⟩,
   ⟨0x30010, false, 1, 4, 1, 4, 0x78020000, none, 0x0, 0x0, 0x0, 0x0⟩,
   ⟨0x30014, false, 1, 4, 1, 4, 0x0, none, 0x0, 0x0, 0x0, 0x0⟩,
   ⟨0x30020, false, 1, 4, 1, 4, 0x0, none, 0x0, 0x0, 0x0, 0x0⟩,
   ⟨0x30024, false, 1, 4, 1, 4, 0x0, none, 0x0, 0x0, 0x0, 0x0⟩,
   ⟨0x30028, false, 1, 4, 1, 4, 0x0, none, 0x0, 0x0, 0x0, 0x0⟩,
   ⟨0x3002C, false, 1, 4, 1, 4, 0x0, none, 0x0, 0x0, 0x0, 0x0⟩,
   ⟨0x30030, false, 1, 4, 1, 4, 0x0, none, 0x0, 0x0, 0x0, 0x0⟩,
   ⟨0x30034, false, 1, 4, 1, 4, 0x4000, none, 0x0, 0x0, 0x0, 0x0⟩,
   ⟨0x30038, false, 1, 4, 1, 4, 0x0, none, 0x0, 0x0, 0x0, 0x0⟩,
   ⟨0x30050, false, 1, 4, 1, 4, 0x0, none, 0x0, 0x0, 0x0, 0x0⟩,
   ⟨0x30040, false, 1, 4, 1, 4, 0x0, none, 0x0, 0x0, 0x0, 0x0⟩,
   ⟨0x30044, false, 1, 4, 1, 4, 0x0, none, 0x0, 0x0, 0x0, 0x0⟩,
   ⟨0x30048, false, 1, 4, 1, 4, 0x0, none, 0x0, 0x0, 0x0, 0x0⟩,
   ⟨0x3004C, false, 1, 4, 1, 4, 0x0, none, 0x0, 0x0, 0x0, 0x0⟩,
   ⟨0x30080, false, 8, 4, 1, 4, 0x10006000, none, 0x0, 0x0, 0x0, 0x0⟩,
   ⟨0x30100, false, 64, 4, 1, 4, 0x0, none, 0x0, 0x0, 0x0, 0x0⟩]
/-- The rows of the VRD block. -/
def regRowsVrd : List RegRow :=
  [⟨0x50000, false, 1, 4, 1, 4, 0x0, none, 0x0, 0x0, 0x1, 0x0⟩,
   ⟨0x50008, false, 1, 4, 1, 4, 0x0, none, 0x0, 0x0, 0x0, 0x0⟩,
   ⟨0x5000C, false, 1, 4, 1, 4, 0x0, none, 0x0, 0x0, 0x0, 0x0⟩,
   ⟨0x50010, false, 1, 4, 1, 4, 0x0, none, 0x0, 0x0, 0x0, 0x0⟩,
   ⟨0x50014, false, 1, 4, 1, 4, 0x0, none, 0x0, 0x0, 0x0, 0x0⟩,
   ⟨0x50100, false, 32, 4, 1, 4, 0xFFFFFFFF, none, 0x0, 0x0, 0x0, 0x0⟩]
/-- The rows of the MSH block. -/
def regRowsMsh : List RegRow :=
  [⟨0x60000, false, 1, 4, 1, 4, 0x800, none, 0xF00, 0x0, 0x1, 0x0⟩,
   ⟨0x60010, false, 4, 4, 1, 4, 0x0, none, 0x0, 0x0, 0x0, 0x0⟩,
   ⟨0x60100, false, 64, 8, 1, 4, 0x0, none, 0x800F0F00, 0x0, 0x0, 0x0⟩,
   ⟨0x60104, false, 64, 8, 1, 4, 0x0, none, 0x1FF, 0x0, 0x0, 0x0⟩,
   ⟨0x60800, false, 64, 8, 1, 4, 0x0, none, 0x0, 0x0, 0x0, 0x0⟩,
   ⟨0x60804, false, 64, 8, 1, 4, 0x0, none, 0x0, 0x0, 0x0, 0x0⟩,
   ⟨0x61000, false, 256, 4, 1, 4, 0x0, none, 0x80007FFF, 0x0, 0x0, 0x0⟩]
/-- The rows of the DLD block. -/
def regRowsDld : List RegRow :=
  [⟨0x70000, false, 1, 4, 1, 4, 0x0, none, 0x0, 0x0, 0x1, 0x0⟩,
   ⟨0x70004, false, 1, 4, 1, 4, 0x100, none, 0xFFFF, 0x0, 0x0, 0x0⟩,
   ⟨0x70100, false, 4, 64, 1, 4, 0x10, none, 0x71F, 0x0, 0x0, 0x0⟩,
   ⟨0x70104, false, 4, 64, 1, 4, 0x0, none, 0x0, 0x0, 0x0, 0x0⟩,
   ⟨0x70108, false, 4, 64, 1, 4, 0x0, none, 0x0, 0x0, 0x0, 0x0⟩,
   ⟨0x7010C, false, 4, 64, 1, 4, 0x0, none, 0x0, 0x0, 0x0, 0x0⟩,
   ⟨0x70110, false, 4, 64, 1, 4, 0x0, none, 0x0, 0x0, 0x0, 0x0⟩,
   ⟨0x70114, false, 4, 64, 1, 4, 0x0, none, 0x0, 0x0, 0x0, 0x0⟩,
   ⟨0x70118, false, 4, 64, 1, 4, 0x0, none, 0x0, 0x0, 0x0, 0x0⟩,
   ⟨0x71000, false, 16, 32, 1, 4, 0x80083304, none, 0x801F000F, 0x0, 0x0, 0x0⟩,
   ⟨0x71004, false, 16, 32, 1, 4, 0x0, none, 0x0, 0x0, 0x0, 0x0⟩,
   ⟨0x71008, false, 16, 32, 1, 4, 0x0, none, 0x0, 0x0, 0x0, 0x0⟩,
   ⟨0x7100C, false, 16, 32, 1, 4, 0x0, none, 0x0, 0x0, 0x0, 0x0⟩,
   ⟨0x71010, false, 16, 32, 1, 4, 0x0, none, 0x80000000, 0x0, 0x0, 0x0⟩]
/-- The rows of the CAL block. -/
def regRowsCal : List RegRow :=
  [⟨0x80000, false, 1, 4, 1, 4, 0x1E, none, 0x1E, 0x0, 0x0, 0x0⟩,
   ⟨0x80004, false, 1, 4, 1, 4, 0x989680, none, 0xFFFFFF, 0x0, 0x0, 0x0⟩,
   ⟨0x80008, false, 1, 4, 1, 4, 0x50, none, 0xFF, 0x0, 0x0, 0x0⟩,
   ⟨0x8000C, false, 1, 4, 1, 4, 0x0, none, 0x0, 0x0, 0x0, 0x0⟩,
   ⟨0x80010, false, 1, 4, 1, 4, 0x0, none, 0x0, 0x0, 0x0, 0x0⟩,
   ⟨0x80014, false, 1, 4, 1, 4, 0x0, none, 0x0, 0x0, 0x0, 0x0⟩,
   ⟨0x80018, false, 1, 4, 1, 4, 0x2, none, 0x0, 0x0, 0x0, 0x0⟩,
   ⟨0x8001C, false, 1, 4, 1, 4, 0x0, none, 0x0, 0x0, 0x0, 0x0⟩,
   ⟨0x80020, false, 1, 4, 1, 4, 0x0, none, 0x0, 0x0, 0x0, 0x0⟩]
/-- The rows of the PWR block. -/
def regRowsPwr : List RegRow :=
  [⟨0x90000, false, 1, 4, 1, 4, 0x0, none, 0x0, 0x0, 0x0, 0x0⟩,
   ⟨0x90004, false, 1, 4, 1, 4, 0x0, none, 0x0, 0xFFFF0003, 0x0, 0x0⟩,
   ⟨0x90008, false, 1, 4, 1, 4, 0x0, none, 0x0, 0x0, 0x0, 0x0⟩,
   ⟨0x90100, false, 8, 16, 1, 4, 0x0, none, 0x0, 0x0, 0x0, 0x0⟩,
   ⟨0x90104, false, 8, 16, 1, 4, 0x0, none, 0x0, 0x0, 0x0, 0x0⟩,
   ⟨0x90108, false, 8, 16, 1, 4, 0x0, none, 0x0, 0x0, 0x0, 0x0⟩,
   ⟨0x9010C, false, 8, 16, 1, 4, 0x0, none, 0x0, 0x0, 0x0, 0x0⟩]
/-- The rows of the THM block. -/
def regRowsThm : List RegRow :=
  [⟨0xA0000, false, 1, 4, 1, 4, 0x0, none, 0x0, 0x0, 0x1, 0x0⟩,
   ⟨0xA0004, false, 1, 4, 1, 4, 0x0, none, 0x0, 0x0, 0x0, 0x0⟩,
   ⟨0xA0008, false, 1, 4, 1, 4, 0x0, none, 0x0, 0x0, 0x0, 0x0⟩,
   ⟨0xA000C, false, 1, 4, 1, 4, 0x5F02020, none, 0xFFFFFFFF, 0x0, 0x0, 0x0⟩,
   ⟨0xA0010, false, 1, 4, 1, 4, 0x0, none, 0x7, 0x0, 0x0, 0x0⟩,
   ⟨0xA0014, false, 1, 4, 1, 4, 0x730, none, 0x0, 0x0, 0x0, 0xFFFF⟩,
   ⟨0xA0018, false, 1, 4, 1, 4, 0xA, none, 0xFFFF, 0x0, 0x0, 0x0⟩,
   ⟨0xA0020, false, 1, 4, 1, 4, 0x0, none, 0x0, 0x0, 0x0, 0x0⟩,
   ⟨0xA0024, false, 1, 4, 1, 4, 0x0, none, 0x0, 0x0, 0x0, 0x0⟩,
   ⟨0xA0100, false, 24, 4, 1, 4, 0x0, none, 0x0, 0x0, 0x0, 0x0⟩,
   ⟨0xA0200, false, 8, 4, 1, 4, 0x640, none, 0x80000000, 0x0, 0x0, 0x300FFFF⟩,
   ⟨0xA0400, false, 16, 4, 1, 4, 0x0, none, 0x0, 0x0, 0x0, 0x0⟩]
/-- The rows of the TDC block. -/
def regRowsTdc : List RegRow :=
  [⟨0xB0000, false, 1, 4, 1, 4, 0x0, none, 0x0, 0x0, 0x1, 0x0⟩,
   ⟨0xB0010, false, 4, 4, 1, 4, 0x100, none, 0x330, 0x0, 0x0, 0x0⟩,
   ⟨0xB0020, false, 4, 4, 1, 4, 0x0, none, 0x0, 0x0, 0x0, 0x0⟩,
   ⟨0xB0030, false, 1, 4, 1, 4, 0x0, none, 0x0, 0x0, 0x0, 0x0⟩,
   ⟨0xB0100, false, 8, 256, 1, 4, 0x1000, none, 0xFFFFFF00, 0x0, 0x0, 0x0⟩,
   ⟨0xB0104, false, 8, 256, 1, 4, 0x0, none, 0xFFFFFF, 0x0, 0x0, 0x0⟩,
   ⟨0xB0108, false, 8, 256, 1, 4, 0x0, none, 0x0, 0x0, 0x3, 0x0⟩,
   ⟨0xB010C, false, 8, 256, 1, 4, 0x0, none, 0x0, 0x0, 0x0, 0x0⟩,
   ⟨0xB0110, false, 8, 256, 1, 4, 0x0, none, 0x0, 0x0, 0x0, 0x0⟩,
   ⟨0xB0114, false, 8, 256, 1, 4, 0x0, none, 0x0, 0x0, 0x0, 0x0⟩,
   ⟨0xB0118, false, 8, 256, 1, 4, 0x0, none, 0x0, 0x0, 0x0, 0x0⟩,
   ⟨0xB011C, false, 8, 256, 1, 4, 0x0, none, 0x0, 0x0, 0x0, 0x0⟩,
   ⟨0xB0120, false, 8, 256, 1, 4, 0x0, none, 0x0, 0x0, 0x0, 0x0⟩,
   ⟨0xB0124, false, 8, 256, 1, 4, 0x0, none, 0x0, 0x0, 0x0, 0x0⟩,
   ⟨0xB0140, false, 8, 256, 16, 8, 0x0, none, 0x0, 0x0, 0x0, 0x0⟩,
   ⟨0xB0144, false, 8, 256, 16, 8, 0x0, none, 0x0, 0x0, 0x0, 0x0⟩]
/-- The rows of the MON block. -/
def regRowsMon : List RegRow :=
  [⟨0xC0000, false, 1, 4, 1, 4, 0x100, none, 0xFF03, 0x0, 0x0, 0x0⟩,
   ⟨0xC0004, false, 1, 4, 1, 4, 0xC000, none, 0x0, 0x0, 0x0, 0x0⟩,
   ⟨0xC0010, false, 1, 4, 1, 4, 0x2000, none, 0xFFFF, 0x0, 0x80000000, 0x0⟩,
   ⟨0xC0014, false, 1, 4, 1, 4, 0x10001, none, 0xFF0F0F, 0x0, 0x0, 0x0⟩,
   ⟨0xC0018, false, 1, 4, 1, 4, 0x0, none, 0x0, 0x0, 0x0, 0x0⟩,
   ⟨0xC001C, false, 1, 4, 1, 4, 0x0, none, 0x0, 0x0, 0x0, 0x0⟩,
   ⟨0xC0020, false, 1, 4, 1, 4, 0x0, none, 0x0, 0x0, 0x0, 0x0⟩,
   ⟨0xC0024, false, 1, 4, 1, 4, 0x0, none, 0x0, 0x0, 0x0, 0x0⟩,
   ⟨0xC1000, false, 128, 8, 1, 4, 0x20000001, none, 0xFFFFFFFF, 0x0, 0x0, 0x0⟩,
   ⟨0xC1004, false, 128, 8, 1, 4, 0x1, none, 0xF0F, 0x0, 0x0, 0x0⟩,
   ⟨0xC2000, false, 128, 16, 1, 4, 0x0, none, 0x0, 0x0, 0x0, 0x0⟩,
   ⟨0xC2004, false, 128, 16, 1, 4, 0x0, none, 0x0, 0x0, 0x0, 0x0⟩,
   ⟨0xC2008, false, 128, 16, 1, 4, 0x0, none, 0x0, 0x0, 0x0, 0x0⟩,
   ⟨0xC200C, false, 128, 16, 1, 4, 0x0, none, 0x0, 0x0, 0x0, 0x0⟩]
/-- The rows of the SNS block. -/
def regRowsSns : List RegRow :=
  [⟨0xD0000, false, 1, 4, 1, 4, 0x0, none, 0x0, 0x0, 0x1, 0x0⟩,
   ⟨0xD0010, false, 1, 4, 1, 4, 0x0, none, 0x0, 0x0, 0x0, 0x0⟩,
   ⟨0xD0100, false, 8, 64, 1, 4, 0x100, none, 0xC0FF7700, 0x0, 0x0, 0x0⟩,
   ⟨0xD0104, false, 8, 64, 1, 4, 0x100, none, 0x3FF, 0x0, 0x0, 0x0⟩,
   ⟨0xD0108, false, 8, 64, 1, 4, 0x1F4FE0C, none, 0xFFFFFFFF, 0x0, 0x0, 0x0⟩,
   ⟨0xD010C, false, 8, 64, 1, 4, 0x1, none, 0x0, 0x0, 0x0, 0x0⟩,
   ⟨0xD0110, false, 8, 64, 1, 4, 0x0, none, 0x0, 0x0, 0x0, 0x0⟩,
   ⟨0xD0114, false, 8, 64, 1, 4, 0x0, none, 0x0, 0x0, 0x0, 0x0⟩,
   ⟨0xD0118, false, 8, 64, 1, 4, 0x0, none, 0x0, 0x0, 0x0, 0x0⟩,
   ⟨0xD011C, false, 8, 64, 1, 4, 0x0, none, 0x0, 0x0, 0x0, 0x0⟩,
   ⟨0xD0120, false, 8, 64, 1, 4, 0x0, none, 0x0, 0x0, 0x0, 0x0⟩,
   ⟨0xD0124, false, 8, 64, 1, 4, 0x0, none, 0x0, 0x0, 0x0, 0x0⟩,
   ⟨0xD0128, false, 8, 64, 1, 4, 0x10000, none, 0x0, 0x0, 0x0, 0x0⟩,
   ⟨0xD012C, false, 8, 64, 1, 4, 0x0, none, 0x0, 0x0, 0x0, 0x0⟩]
/-- The rows of the HTR block. -/
def regRowsHtr : List RegRow :=
  [⟨0xE0100, false, 4, 64, 1, 4, 0x80000000, none, 0x1, 0x0, 0x0, 0x0⟩,
   ⟨0xE0104, false, 4, 64, 1, 4, 0x0, none, 0xFFFFF, 0x0, 0x0, 0x0⟩,
   ⟨0xE0108, false, 4, 64, 1, 4, 0x0, some 0, 0x107, 0x0, 0x0, 0x0⟩,
   ⟨0xE010C, false, 4, 64, 1, 4, 0x0, none, 0xFFFFFFFF, 0x0, 0x0, 0x0⟩,
   ⟨0xE0110, false, 4, 64, 1, 4, 0x0, none, 0xFFFFFFFF, 0x0, 0x0, 0x0⟩,
   ⟨0xE0114, false, 4, 64, 1, 4, 0x0, none, 0xFFFFFFFF, 0x0, 0x0, 0x0⟩,
   ⟨0xE0118, false, 4, 64, 1, 4, 0xFFFFF, none, 0xFFFFF, 0x0, 0x0, 0x0⟩,
   ⟨0xE011C, false, 4, 64, 1, 4, 0x0, none, 0xFFFFF, 0x0, 0x0, 0x0⟩,
   ⟨0xE0120, false, 4, 64, 1, 4, 0xFFFFFFFF, none, 0xFFFFFFFF, 0x0, 0x0, 0x0⟩,
   ⟨0xE0124, false, 4, 64, 1, 4, 0xA000000, none, 0xFF0FFFFF, 0x0, 0x0, 0x0⟩,
   ⟨0xE0128, false, 4, 64, 1, 4, 0x0, none, 0x0, 0x1, 0x0, 0x0⟩,
   ⟨0xE012C, false, 4, 64, 1, 4, 0x0, none, 0x0, 0x0, 0x0, 0x0⟩,
   ⟨0xE0130, false, 4, 64, 1, 4, 0x0, none, 0x0, 0x0, 0x0, 0x0⟩,
   ⟨0xE0134, false, 4, 64, 1, 4, 0x0, none, 0x0, 0x0, 0x0, 0x0⟩]
/-- The rows of the RNK block. -/
def regRowsRnk : List RegRow :=
  [⟨0x400, true, 8, 4, 1, 4, 0x0, none, 0xFF, 0x0, 0x0, 0x0⟩,
   ⟨0x420, true, 1, 4, 1, 4, 0x0, none, 0x0, 0x0, 0x0, 0x0⟩,
   ⟨0x500, true, 48, 4, 1, 4, 0x0, none, 0x0, 0x0, 0x0, 0x0⟩,
   ⟨0x600, true, 1, 4, 1, 4, 0x0, none, 0x0, 0x0, 0x0, 0x0⟩,
   ⟨0x604, true, 1, 4, 1, 4, 0x0, none, 0x0, 0x0, 0x1, 0x0⟩,
   ⟨0x800, true, 256, 8, 1, 4, 0x0, none, 0x0, 0x0, 0x0, 0x0⟩,
   ⟨0x804, true, 256, 8, 1, 4, 0x0, none, 0x0, 0x0, 0x0, 0x0⟩]
/-- The rows of the SE block. -/
def regRowsSe : List RegRow :=
  [⟨0x10000, true, 1, 4, 1, 4, 0x0, none, 0x0, 0x0, 0x0, 0x0⟩,
   ⟨0x10004, true, 1, 4, 1, 4, 0x0, none, 0x0, 0x0, 0x0, 0x0⟩,
   ⟨0x10008, true, 1, 4, 1, 4, 0x0, none, 0x0, 0x0, 0x0, 0x0⟩,
   ⟨0x1000C, true, 1, 4, 1, 4, 0x0, none, 0x0, 0x0, 0x0, 0x0⟩,
   ⟨0x10010, true, 1, 4, 1, 4, 0x0, none, 0x0, 0x0, 0x0, 0x0⟩,
   ⟨0x10014, true, 1, 4, 1, 4, 0x0, none, 0x0, 0x0, 0x1, 0x0⟩,
   ⟨0x10100, true, 24, 32, 1, 4, 0x0, none, 0x1, 0x0, 0x0, 0x0⟩,
   ⟨0x10104, true, 24, 32, 1, 4, 0x0, none, 0x0, 0x0, 0x0, 0x0⟩,
   ⟨0x10108, true, 24, 32, 1, 4, 0x0, none, 0x0, 0x80000000, 0x0, 0x0⟩,
   ⟨0x1010C, true, 24, 32, 1, 4, 0x0, none, 0x0, 0x0, 0x0, 0x0⟩,
   ⟨0x10110, true, 24, 32, 1, 4, 0x0, none, 0x0, 0x0, 0x0, 0x0⟩,
   ⟨0x10118, true, 24, 32, 1, 4, 0x0, none, 0x0, 0x0, 0x0, 0x0⟩,
   ⟨0x1011C, true, 24, 32, 1, 4, 0x0, none, 0x0, 0x0, 0x0, 0x0⟩,
   ⟨0x11000, true, 24, 128, 32, 4, 0x0, none, 0x0, 0x0, 0x0, 0x0⟩]
/-- The rows of the SYN block. -/
def regRowsSyn : List RegRow :=
  [⟨0x20000, true, 1, 4, 1, 4, 0x0, none, 0x0, 0x0, 0x1, 0x0⟩,
   ⟨0x20010, true, 1, 4, 1, 4, 0x0, none, 0xFFFFFFFF, 0x0, 0x0, 0x0⟩,
   ⟨0x20014, true, 1, 4, 1, 4, 0x0, none, 0xFFFFFFFF, 0x0, 0x0, 0x0⟩,
   ⟨0x21000, true, 128, 8, 1, 4, 0x0, none, 0xFFFFFFFF, 0x0, 0x0, 0x0⟩,
   ⟨0x21004, true, 128, 8, 1, 4, 0x0, none, 0xFFFF00FF, 0x0, 0x0, 0x0⟩,
   ⟨0x22000, true, 64, 8, 1, 4, 0x0, some 8, 0x1, 0x0, 0x0, 0x0⟩,
   ⟨0x22004, true, 64, 8, 1, 4, 0x7FFF0000, none, 0x0, 0x0, 0x0, 0x0⟩]
/-- The rows of the DRV block. -/
def regRowsDrv : List RegRow :=
  [⟨0x40004, true, 1, 4, 1, 4, 0x0, none, 0x0, 0xFFFFFFFF, 0x0, 0x0⟩,
   ⟨0x40008, true, 1, 4, 1, 4, 0x0, none, 0x0, 0xF, 0x0, 0x0⟩,
   ⟨0x40300, true, 1, 4, 1, 4, 0x800000FF, none, 0xFF, 0x0, 0x0, 0x0⟩,
   ⟨0x40100, true, 16, 16, 1, 4, 0x80000001, none, 0x31, 0x0, 0x0, 0x0⟩,
   ⟨0x40200, true, 2, 16, 1, 4, 0x80000401, none, 0x731, 0x0, 0x0, 0x0⟩,
   ⟨0x40104, true, 16, 16, 1, 4, 0xCCD, none, 0x0, 0x0, 0x0, 0x7FFF⟩,
   ⟨0x40204, true, 2, 16, 1, 4, 0xCCD, none, 0x0, 0x0, 0x0, 0x7FFF⟩,
   ⟨0x40108, true, 16, 16, 1, 4, 0x0, none, 0x0, 0x0, 0x0, 0x0⟩,
   ⟨0x40208, true, 2, 16, 1, 4, 0x0, none, 0x0, 0x0, 0x0, 0x0⟩,
   ⟨0x4010C, true, 16, 16, 1, 4, 0x80000000, none, 0x0, 0x0, 0x0, 0x0⟩,
   ⟨0x4020C, true, 2, 16, 1, 4, 0x80000000, none, 0x0, 0x0, 0x0, 0x0⟩]
/-- The rows of the FFX block. -/
def regRowsFfx : List RegRow :=
  [⟨0x50000, true, 1, 4, 1, 4, 0x0, none, 0x0, 0x0, 0x1, 0x0⟩,
   ⟨0x50004, true, 1, 4, 1, 4, 0x0, none, 0x0, 0xFFFFFFFF, 0x0, 0x0⟩,
   ⟨0x50100, true, 32, 32, 1, 4, 0x80000000, none, 0x1, 0x0, 0x0, 0x0⟩,
   ⟨0x50104, true, 32, 32, 1, 4, 0x0, none, 0xFFFF, 0x0, 0x0, 0x0⟩,
   ⟨0x50108, true, 32, 32, 1, 4, 0xCCD, none, 0x0, 0x0, 0x0, 0x7FFF⟩,
   ⟨0x5010C, true, 32, 32, 1, 4, 0x0, none, 0xFFFFFFFF, 0x0, 0x0, 0x0⟩,
   ⟨0x50110, true, 32, 32, 1, 4, 0x0, none, 0xFFFFFFFF, 0x0, 0x0, 0x0⟩,
   ⟨0x50114, true, 32, 32, 1, 4, 0x0, none, 0x0, 0x0, 0x0, 0x0⟩,
   ⟨0x50118, true, 32, 32, 1, 4, 0x0, none, 0x0, 0x0, 0x0, 0x0⟩,
   ⟨0x5011C, true, 32, 32, 1, 4, 0x80000000, none, 0x0, 0x0, 0x0, 0x0⟩]
/-- The rows of the BIA block. -/
def regRowsBia : List RegRow :=
  [⟨0x60000, true, 1, 4, 1, 4, 0x0, none, 0x0, 0x0, 0x1, 0x0⟩,
   ⟨0x60004, true, 1, 4, 1, 4, 0x0, none, 0x0, 0xFFFFFFFF, 0x0, 0x0⟩,
   ⟨0x60100, true, 32, 32, 1, 4, 0x80000802, none, 0x103, 0x0, 0x0, 0x0⟩,
   ⟨0x60104, true, 32, 32, 1, 4, 0x0, none, 0xFFFFF, 0x0, 0x0, 0x0⟩,
   ⟨0x60108, true, 32, 32, 1, 4, 0x10000, none, 0x0, 0x0, 0x0, 0xFFFFF⟩,
   ⟨0x6010C, true, 32, 32, 1, 4, 0x200000, none, 0x0, 0x0, 0x0, 0x3FFFFF⟩,
   ⟨0x60110, true, 32, 32, 1, 4, 0x0, none, 0x0, 0x0, 0x0, 0x0⟩,
   ⟨0x60114, true, 32, 32, 1, 4, 0x0, none, 0x0, 0x0, 0x0, 0x0⟩,
   ⟨0x60118, true, 32, 32, 1, 4, 0x0, none, 0x0, 0x0, 0x0, 0x0⟩,
   ⟨0x6011C, true, 32, 32, 1, 4, 0x80000000, none, 0x0, 0x0, 0x0, 0x0⟩]
/-- The rows of the DMD block. -/
def regRowsDmd : List RegRow :=
  [⟨0x30000, true, 1, 4, 1, 4, 0x0, none, 0x0, 0x0, 0x1, 0x0⟩,
   ⟨0x30004, true, 1, 4, 1, 4, 0x0, none, 0x0, 0x0, 0x0, 0x0⟩,
   ⟨0x30200, true, 32, 4, 1, 4, 0x0, none, 0x3, 0x0, 0x0, 0x0⟩,
   ⟨0x30100, true, 2, 16, 1, 4, 0x0, none, 0x7, 0x0, 0x0, 0x0⟩,
   ⟨0x30104, true, 2, 16, 1, 4, 0x0, none, 0x0, 0x0, 0x0, 0x0⟩,
   ⟨0x30108, true, 2, 16, 1, 4, 0x80000000, none, 0x0, 0x0, 0x0, 0x0⟩]
/-- The rows of the ACQ block. -/
def regRowsAcq : List RegRow :=
  [⟨0x70000, true, 1, 4, 1, 4, 0x0, none, 0x0, 0x0, 0x1, 0x0⟩,
   ⟨0x70004, true, 1, 4, 1, 4, 0x0, none, 0x0, 0x0, 0x0, 0x0⟩,
   ⟨0x70008, true, 1, 4, 1, 4, 0x0, none, 0xFFFFFFFF, 0x0, 0x0, 0x0⟩,
   ⟨0x70100, true, 32, 16, 1, 4, 0x100000, none, 0xFFFF0107, 0x0, 0x0, 0x0⟩,
   ⟨0x70104, true, 32, 16, 1, 4, 0x0, none, 0x3FFFF, 0x0, 0x0, 0x0⟩,
   ⟨0x70108, true, 32, 16, 1, 4, 0xF0000, none, 0x0, 0x0, 0x0, 0x0⟩,
   ⟨0x70400, true, 2, 16, 1, 4, 0x100000, none, 0xFFFF0007, 0x0, 0x0, 0x0⟩,
   ⟨0x70404, true, 2, 16, 1, 4, 0x10, none, 0xFFFFFF, 0x0, 0x0, 0x0⟩,
   ⟨0x70408, true, 2, 16, 1, 4, 0x0, none, 0x0, 0x0, 0x0, 0x0⟩,
   ⟨0x70600, true, 16, 4, 1, 4, 0x0, none, 0x3F07FF, 0x0, 0x0, 0x0⟩,
   ⟨0x78000, true, 16, 1024, 256, 4, 0x0, none, 0xFFFFFFFF, 0x0, 0x0, 0x0⟩,
   ⟨0x7C000, true, 16, 256, 12, 16, 0x0, none, 0x0, 0x0, 0x0, 0x0⟩,
   ⟨0x7C004, true, 16, 256, 12, 16, 0x0, none, 0x0, 0x0, 0x0, 0x0⟩,
   ⟨0x7C008, true, 16, 256, 12, 16, 0x0, none, 0x0, 0x0, 0x0, 0x0⟩,
   ⟨0x7C0C0, true, 16, 256, 1, 4, 0x0, none, 0xF, 0x0, 0x0, 0x0⟩]

/-- Every row of the map. -/
def regRowsBoard : List RegRow := regRowsBrd ++ regRowsEpo ++ regRowsPci ++ regRowsClk ++ regRowsVrd ++ regRowsMsh ++ regRowsDld ++ regRowsCal ++ regRowsPwr ++ regRowsThm ++ regRowsTdc ++ regRowsMon ++ regRowsSns ++ regRowsHtr

/-- Every row of a Rank's window. -/
def regRowsRank : List RegRow := regRowsRnk ++ regRowsSe ++ regRowsSyn ++ regRowsDrv ++ regRowsFfx ++ regRowsBia ++ regRowsDmd ++ regRowsAcq

/-- The index of an offset in a row, if the offset is one of the row's registers. -/
def RegRow.index? (row : RegRow) (off : Nat) : Option Nat :=
  if off < row.base then none
  else
    let d := off - row.base
    let i := d / row.s1
    let e := d % row.s1
    if row.n1 = 1 then
      (if d = 0 then some 0 else none)
    else if i < row.n1 then
      (if row.n2 = 1 then (if e = 0 then some i else none)
       else if e / row.s2 < row.n2 ∧ e % row.s2 = 0 then some i else none)
    else none

/-- The first row of a list that holds an offset, with the index. -/
def findRow : List RegRow → Nat → Option (RegRow × Nat)
  | [], _ => none
  | row :: t, off =>
    match row.index? off with
    | some i => some (row, i)
    | none => findRow t off

/-- The Rank whose window holds an address, with the offset in it; none for the Board block. -/
def rankOf? (addr : Nat) : Option (Nat × Nat) :=
  if addr < 0x100000 then none else some (addr / 0x100000 - 1, addr % 0x100000)

/-- The row of the map at a BAR0 address (R105). -/
def regRow? (addr : Nat) : Option (RegRow × Nat) :=
  match rankOf? addr with
  | none => findRow regRowsBoard addr
  | some (r, off) => if r < 8 then findRow regRowsRank off else none

/-- The reset value the register tables give; for a register whose reset depends on the part, the part's value. (DESIGN CHOICE, log 9.) -/
def regReset (p : Part) (addr : Nat) : Word :=
  if addr = Reg.BRD_ID then BitVec.ofNat 32 p.brdId
  else if addr = Reg.CLK_PWR_CEIL then BitVec.ofNat 32 p.powerCeiling
  else
    match regRow? addr with
    | none => 0
    | some (row, i) =>
      match row.idx with
      | none => BitVec.ofNat 32 row.reset
      | some b => BitVec.ofNat 32 (row.reset + i * 2 ^ b)
end Sys2Proof.Machine
end

