-- ==== Sys2Proof/Machine/Table.lean ====
section
/-!
DEFINITION. Tables: sparse arrays of like things (registers, engines, ports, stored words) as lists of key and value
pairs in one canonical form: keys strictly rising, and no entry equal to what an unlisted key reads as. Equal arrays
are then equal data. The default of a table is a function of the key and is named beside the table's field.
-/
namespace Sys2Proof.Machine

/-- A sparse array: the keys whose value differs from the default, in rising order. (DESIGN CHOICE, log 10.) -/
abbrev Table (α : Type) := List (Nat × α)

/-- The value at a key: the listed one, else the default. The search stops at the first greater key. -/
def Table.get {α : Type} (dflt : Nat → α) : Table α → Nat → α
  | [], k => dflt k
  | (j, v) :: t, k => if k < j then dflt k else if k = j then v else Table.get dflt t k

/-- Writing a key keeps the canonical form: writing the default removes the entry. -/
def Table.set {α : Type} [DecidableEq α] (dflt : Nat → α) : Table α → Nat → α → Table α
  | [], k, v => if v = dflt k then [] else [(k, v)]
  | (j, w) :: t, k, v =>
    if k < j then (if v = dflt k then (j, w) :: t else (k, v) :: (j, w) :: t)
    else if k = j then
      (if v = dflt k then t.dropWhile (fun e => decide (e.1 ≤ k)) else (k, v) :: t)
    else (j, w) :: Table.set dflt t k v

/-- Change the value at a key by a function. -/
def Table.update {α : Type} [DecidableEq α] (dflt : Nat → α) (t : Table α) (k : Nat) (f : α → α) : Table α :=
  t.set dflt k (f (t.get dflt k))

/-- The keys of a table rise strictly above a bound and no listed value is the default. -/
def Table.wfAbove {α : Type} [DecidableEq α] (dflt : Nat → α) : Option Nat → Table α → Bool
  | _, [] => true
  | none, (j, v) :: t => decide (v ≠ dflt j) && Table.wfAbove dflt (some j) t
  | some b, (j, v) :: t => decide (b < j) && decide (v ≠ dflt j) && Table.wfAbove dflt (some j) t

/-- The canonical form of a table. -/
def Table.wf {α : Type} [DecidableEq α] (dflt : Nat → α) (t : Table α) : Bool := Table.wfAbove dflt none t

/-- Write the same function at every key of a list. -/
def Table.updateAll {α : Type} [DecidableEq α] (dflt : Nat → α) (t : Table α) (ks : List Nat) (f : Nat → α → α) :
    Table α :=
  ks.foldl (fun t k => t.update dflt k (f k)) t

end Sys2Proof.Machine
end

