-- ==== Sys2Proof/Machine/State.lean ====
section
/-!
DEFINITION. The state of the LQ8 block as plain data: the queue of waiting commands, the clocks, the BAR0 registers, and the
state of every unit that the spec gives beyond its registers. A time called a tick counts `now`; one called an epoch is in
the count of the epoch register, which an accepted EPOCH_IN edge may set (R62).
-/
namespace Sys2Proof.Machine

/-- The twelve modes (R29, Table 01-4). -/
inductive Mode where
  | clear | setup | standby | armed | run | hold | quiesce | holdover | calibrate | test | sealed | tripped
  deriving DecidableEq, Repr

/-- The code of a mode (Table 01-4). -/
def Mode.code : Mode → Nat
  | .clear => 0 | .setup => 1 | .standby => 2 | .armed => 3 | .run => 4 | .hold => 5 | .quiesce => 6
  | .holdover => 7 | .calibrate => 8 | .test => 9 | .sealed => 10 | .tripped => 11

/-- A read or write shadow of one requester (R71, R73): the address of the pair's low half and the held word. -/
structure Shadow where
  pair : Nat
  word : Word
  deriving DecidableEq, Repr

/-- The state of the angle estimator (R77) beyond the EPO registers. -/
structure Angle where
  ph : Nat              -- the 48-bit phase
  shown : Nat           -- the angle, which holds while LOCK is 0 (R78)
  rate : Nat            -- 2^-32 angle units per tick
  pAvg : Nat            -- averaged period
  pLast : Nat           -- last measured period
  eRef : Nat            -- epoch of the last reference edge
  history : List Nat    -- accepted periods, newest first
  outliers : Nat        -- successive outliers
  accepted : Nat        -- successive accepted periods
  k : Nat               -- increment edges since the reference edge
  incCount : Nat
  refAt : Nat           -- tick of the last reference edge (or of the start of acquisition)
  edgeAt : Nat          -- tick of the last edge of either kind
  seen : List Nat       -- angle windows inside, as the engines see them (R80)
  moving : List (Nat × Nat × Bool)  -- (tick of arrival, window, inside) on the way to the engines
  inside : List Nat     -- angle windows inside now
  deriving DecidableEq, Repr

/-- A fetch of one descriptor: slots, BARRIER as its header holds it, and the descriptor once its last byte came. -/
structure Desc where
  uid : Nat
  sq : Nat
  base : BitVec 512
  ext : List (BitVec 512)
  arrival : Nat         -- arrival epoch (R125)
  arrivalAt : Nat       -- the tick of arrival
  deriving DecidableEq, Repr

structure Fetch where
  uid : Nat
  slots : Nat
  barrier : Bool
  desc : Option Desc
  deriving DecidableEq, Repr

/-- A submission ring (R111-R127). -/
structure Sq where
  head : Nat
  tail : Nat
  fetchPos : Nat
  err : Option Nat      -- in ERROR: the low nibble of the status that caused it
  queue : List Fetch    -- fetches issued and descriptors fetched and not yet decided, oldest first
  barrier : Option Nat  -- the descriptor whose BARRIER holds later fetches (R127)
  deriving DecidableEq, Repr

/-- A completion ring (R113-R134). -/
structure Cq where
  head : Nat
  tail : Nat
  pass : Nat
  owed : Nat
  evtLost : Nat
  count : Nat           -- entries written since the last message
  oldest : Nat          -- tick at which the oldest pending entry was written
  deriving DecidableEq, Repr

/-- A posted write of the part to the host: bytes at an address (little-endian in a number), or an MSI-X message. -/
inductive Posted where
  | mem (addr : Nat) (len : Nat) (data : Nat)
  | msix (vector : Nat)
  deriving DecidableEq, Repr

/-- A completion entry or message held back in the delivery holding region (R100, R102); `final` marks a final entry,
`due` is the tick by which R26 wants it in host memory. -/
structure Held where
  out : Posted
  final : Bool
  due : Nat
  deriving DecidableEq, Repr

/-- Why and when the running engines of a shot stop early. -/
structure StopAt where
  epoch : Nat
  immediate : Bool
  deriving DecidableEq, Repr

inductive ShotPhase where
  | admitted   -- accepted, its start epoch not reached
  | running
  | ended      -- end of shot reached, cancelled or stopped; the final entry is owed
  deriving DecidableEq, Repr

/-- An accepted SHOT until its final entry is written. -/
structure Shot where
  desc : Desc
  phase : ShotPhase
  endAt : Nat                -- the tick of its last sample or delivered verdict so far, of its cancellation or its stop
  stamp : Nat                -- the 24-byte stamp of that tick, which its final entry carries
  started : Bool             -- its start epoch has been reached
  fixed : Bool               -- the stamp is that of an abort, a cancellation or a trip and does not move
  status : List Nat          -- the STATUS codes whose cause has applied (R132)
  flags : List Nat           -- the FLAGS bits that are set (Table 03-19)
  failed : List (Nat × Nat)  -- failed Ranks with the epoch F of the failure
  failedMask : List Nat      -- failed Ranks to report in DETAIL
  abort : Option StopAt      -- abort epoch A
  gangStop : Option Nat      -- F + 24 of R169
  exclusive : Bool           -- claims whose interval ends at s + n are still held (R151)
  flow : Bool                -- claims that run to s + n + 5,000 are still held (R151)
  segsLeft : Nat             -- record-set segments reserved and not yet filled
  records : Nat              -- records of the shot completed and not yet in host memory
  abortedBy : List Nat       -- uids of ABORT descriptors that stopped or cancelled it
  silent : Bool              -- a reset of the function ends it in the next tick without an entry (R41)
  deriving DecidableEq, Repr

/-- The kinds of accepted untimed work (R45). -/
inductive WorkKind where
  | abort | loadMicro | loadNano | loadCache | alloc | recycle | release | nop
  deriving DecidableEq, Repr

/-- Accepted untimed work until its final entry is written. -/
structure Work where
  desc : Desc
  kind : WorkKind
  done : Bool                -- its work has ended
  endAt : Nat
  stamp : Nat
  status : Nat
  flags : List Nat
  image : List (Option (BitVec 32))  -- a load: its words; none: the read failed (R197)
  deriving DecidableEq, Repr

/-- An admitted stream window until its final entry is written (R245-R250). -/
structure StreamWin where
  desc : Desc
  owner : Nat                -- uid of the owning shot
  started : Nat              -- segments started
  data : List (Option (BitVec 32))  -- the window's data in words; none: poisoned (R139)
  ended : Bool
  endAt : Nat
  stamp : Nat
  status : Nat
  flags : List Nat
  deriving DecidableEq, Repr

/-- A stream of a Rank (R245-R255): open from the decision of its window 0. -/
structure Stream where
  isOpen : Bool
  starved : Bool
  engine : Nat
  owner : Nat
  wseq : Nat                 -- WSEQ of the window that holds the next segment
  next : Nat                 -- position of the next segment within its window
  admitted : Nat             -- windows admitted
  lastIn : Bool              -- the last window has been admitted
  deriving DecidableEq, Repr

/-- A gang between its prepare and its commit (R167). -/
structure Gang where
  desc : Desc
  board : Option Nat                        -- the Board shard's first failing code, none: yes
  answers : List (Nat × Option Nat)         -- Rank shards that have answered
  deriving DecidableEq, Repr

/-- Verdict latch states (Table 05-17). -/
inductive LatchState where
  | unarmed | armed | full
  deriving DecidableEq, Repr

/-- A verdict latch of Gambit (Table 05-1, R198). -/
structure Latch where
  st : LatchState
  source : Nat
  value : Nat
  arms : Nat                 -- ARMS nanoword address
  targets : List Nat         -- TARGET[0] to TARGET[0xF]
  slots : Nat                -- staging slots held
  armedAt : Nat              -- arming epoch
  stagedAt : Nat             -- epoch at which staging completes
  staged : Bool              -- staging is complete
  deriving DecidableEq, Repr

/-- What an engine in WAIT waits for. -/
inductive WaitFor where
  | brv (latch : Nat)
  | alarm (n : Nat)
  | window (n : Nat) (outside : Bool)
  deriving DecidableEq, Repr

structure Wait where
  what : WaitFor
  since : Nat                -- issue tick I
  limit : Nat                -- I + T
  deriving DecidableEq, Repr

/-- Engine states of SE_STATe.STATE (Table 05-20), but for TRAP, which the field `trap` shows. -/
inductive EnginePhase where
  | idle | lead | run | wait | drain
  deriving DecidableEq, Repr

/-- What an issued microword does at its ball tick. -/
inductive BallAct where
  | nano (addr : Nat) (word : BitVec 256)
  | boundary                 -- the boundary of a microword that does nothing at the balls (R182)
  | quiet
  | stop                     -- STOP (R184)
  | halt                     -- a stop at a microword boundary (R158, R169)
  | fault (code : Nat) (pc : Nat)
  deriving DecidableEq, Repr

structure Ball where
  epoch : Nat
  act : BallAct
  deriving DecidableEq, Repr

/-- A micro-trap in progress (R210): its cause, the due tick of the word (R212), the address of the word and whether
it is a nanoword. -/
structure Trap where
  cause : Nat
  due : Nat
  addr : Nat
  nano : Bool
  deriving DecidableEq, Repr

/-- An armed stream fallback of an engine (R251). -/
structure Fallback where
  stream : Nat
  lead : Nat                 -- lead tick
  wseq : Nat                 -- the window that was not admitted
  loopAt : Nat               -- FB_LOOP
  exitAt : Nat               -- FB_EXIT
  chosen : Bool              -- taken at a wait: the microword after the wait is FB_EXIT (R252)
  deriving DecidableEq, Repr

/-- A sequencer engine: the micro-state of Table 05-1 and what the model keeps of it between issue and ball. -/
structure Engine where
  phase : EnginePhase
  shot : Nat                 -- uid of the shot that claims it (meaningful unless idle)
  pc : Nat                   -- address of the next microword to issue
  cur : Nat                  -- address of the last microword issued
  nextIssue : Nat            -- issue tick of the next microword, as an epoch
  c0 : BitVec 16
  c1 : BitVec 16
  c2 : BitVec 16
  c3 : BitVec 16
  flag : Bool
  rstack : List Nat          -- return addresses, newest first
  vl0 : Latch
  vl1 : Latch
  vl2 : Latch
  vl3 : Latch
  halted : Bool              -- issues no further microword: STOP, a fault or a stop is on its way to the balls
  wait : Option Wait
  balls : List Ball          -- issued and not yet at the balls, oldest first
  trap : Option Trap         -- a micro-trap in progress
  fallbacks : List Fallback
  partialLoad : Bool         -- SE_STATe.MICRO_PARTIAL
  deriving DecidableEq, Repr

/-- A word of an on-die store with its poison bit: none, or the cause of the failed load (R197). -/
structure Cell (w : Nat) where
  word : BitVec w
  poison : Bool
  deriving DecidableEq, Repr

/-- The classes of port that play segments. -/
inductive PortClass where
  | ldc | tone | ffx
  deriving DecidableEq, Repr

/-- What a port plays between two segment boundaries (06, How a port plays). -/
inductive Piece where
  | rest
  | cached (seg : Nat) (len : Nat) (left : Nat)                 -- granules, repetitions still to come
  | streamed (stream : Nat) (win : Nat) (index : Nat) (frames : Nat)   -- with its 8-t dead time
  deriving DecidableEq, Repr

/-- A port command (Table 05-7) on its way, with the engine that gave it. -/
structure PortCmd where
  engine : Nat
  opc : Nat
  streamed : Bool
  seg : Nat
  len : Nat
  fslot : Nat
  phOp : Nat
  phase : Nat
  amp : BitVec 16
  rep : Nat
  deriving DecidableEq, Repr

/-- A logical drive channel, tone or FFX output as a player of pieces. -/
structure Port where
  shot : Option Nat          -- the running shot that claims it
  piece : Piece
  eng : Nat                  -- the engine that started the piece
  start : Nat                -- ball tick at which the piece began
  stop : Nat                 -- the segment boundary at which it ends
  committed : Option (Piece × Nat)   -- the piece that begins at the boundary, with its engine
  commCmd : Option PortCmd   -- the command whose channel state the committed piece brings
  pend : Option PortCmd      -- the pending JUMP, or a START or HALT that waits (R229)
  queue : List (Nat × PortCmd)       -- commands with the epoch at which they take effect
  fslot : Nat
  vph : BitVec 16
  amp : BitVec 16
  initAt : Option Nat        -- epoch at which R226 and R241 set the channel state
  muteFrom : Option Nat      -- poisoned piece: zero or hold from this epoch (R224)
  deriving DecidableEq, Repr

/-- A frequency slot (06, Frequency slots and phase). -/
structure Slot where
  freq : BitVec 40
  phofs : BitVec 16
  deriving DecidableEq, Repr

/-- A FRAME entry that waits for its frame tick (R227). -/
structure FrameEntry where
  epoch : Nat
  rank : Nat
  slot : Nat
  op : Nat
  freq : BitVec 40
  phofs : BitVec 16
  deriving DecidableEq, Repr

/-- An edge of a marker output at a 50-ps sample index (R242). -/
structure MrkEdge where
  at50 : Int
  ball : Nat
  level : Bool
  eng : Nat                  -- the engine whose marker field made it
  deriving DecidableEq, Repr

/-- The settings in force on a DRV line or an RO_TX (R266-R271): MUTE, FSC and SHIFT, the written settings that wait
for their frame tick with the first tick they may take effect, and the end of an FSC settling. -/
structure Line where
  mute : Bool
  fsc : Nat
  shift : Nat
  pend : List (Nat × Bool × Nat × Nat)
  settle : Option Nat
  deriving DecidableEq, Repr

/-- What a channel gives to its line in a tick: its scaled envelope, whether it is interpolated, its carrier and its gain. -/
structure SynChan where
  port : Nat
  ui : Int
  uq : Int
  linear : Bool
  freq : BitVec 40
  ph : BitVec 16
  gain : Int
  deriving DecidableEq, Repr

/-- A tick of a Live line whose codes wait for the next frame's envelopes (R260, LINEAR). -/
structure SynTick where
  epoch : Nat
  count : Nat                -- the count that gives the phases (R65)
  chans : List SynChan
  deriving DecidableEq, Repr

/-- The marker mutes in force on a Rank, with the written masks that wait (R266, R268). -/
structure MrkMute where
  mask : Nat
  pend : List (Nat × Nat)
  deriving DecidableEq, Repr

/-- A committed setup slot write that waits for its frame tick (R276). -/
structure SlotWrite where
  due : Nat
  slot : Nat                 -- Rank × 128 + slot
  freq : BitVec 40
  phofs : BitVec 16
  deriving DecidableEq, Repr

/-- A pending range change (R303, R304): the new span, and the first tick its hold may begin in if no admitted shot
claimed the output at the request. -/
structure RangeReq where
  span : Nat
  free : Bool                -- no admitted shot claimed the output at the request
  since : Nat                -- tick of the request
  deriving DecidableEq, Repr

/-- A flux output beyond its registers (08, The flux sample path). -/
structure Ffx where
  x : Int
  s0 : Int
  s1 : Int
  a0 : Nat
  k0 : Int
  a1 : Nat
  k1 : Int
  span : Nat                 -- span in force
  lim : Nat                  -- LIM in force
  valPend : Option (Nat × Int)
  pdPend : List (Nat × Bool × Nat × Int)   -- (tick, second term, A, K)
  limPend : List (Nat × Nat)
  range : Option RangeReq
  hold : Option Nat          -- tick at which the range-change hold ends
  quiet : Bool               -- a QUIET has fallen in this tick (R304)
  standbyX : Int             -- x on entry to STANDBY (R299)
  wasClear : Bool            -- in the Clear state before the CLR_N of this tick
  deriving DecidableEq, Repr

/-- A bias output beyond its registers. -/
structure Bia where
  code : Int                 -- code in force at the ball, after the clamp
  span : Nat
  lim : Nat
  last : Option Nat          -- tick of the last update (R293)
  valPend : Option (Nat × Int)
  limPend : List (Nat × Nat)
  range : Option RangeReq
  hold : Option Nat
  quiet : Bool
  clrAt : Option Nat         -- tick at which CLRCODE.CODE applies (R300)
  deriving DecidableEq, Repr

/-- An acquisition command on its way to its result window (Table 05-9, R320). -/
structure AcqCmd where
  shot : Nat
  engine : Nat
  rank : Nat
  tone : Nat
  ball : Nat                 -- ball tick b
  armAt : Nat                -- b + DELAY
  mode : Nat
  frames : Nat               -- N
  wset : Nat
  dset : Nat
  verd : Bool
  record : Bool
  utag : Nat
  deriving DecidableEq, Repr

/-- A whole frame of a tone or feedline: its frame tick, the filtered sample d', whether it is invalid, whether a sample of it
was over-range. -/
structure FrameOut where
  frame : Nat
  i : Int
  q : Int
  bad : Bool
  clip : Bool
  deriving DecidableEq, Repr

/-- A demodulated tone (R317, R318). -/
structure Tone where
  filt : Nat                 -- FILT in force
  filtPend : List (Nat × Nat)
  hist : List (Int × Int)    -- d of the past frames since the filter was cleared, newest first
  accI : Int                 -- sums of the frame in progress
  accQ : Int
  past : List FrameOut       -- the last whole frames, newest first (R404)
  badUntil : Nat             -- frames before this epoch are invalid
  deriving DecidableEq, Repr

/-- A feedline's receiver: the GAIN in force, those that wait, and the frames invalid for a capture (R318). -/
structure Feed where
  gain : Nat
  gainPend : List (Nat × Nat)
  badUntil : Nat
  clip : Bool                -- an over-range sample in the frame in progress
  past : List FrameOut       -- the last whole frames, newest first, as captures see them
  deriving DecidableEq, Repr

/-- A result window that is armed or open (R327, R328), or idle. -/
structure RWin where
  cmd : Option AcqCmd
  armedAt : Nat              -- arm tick H
  src : Nat                  -- trigger source in force
  timeout : Nat
  trig : Option Nat          -- trigger tick
  forced : Bool
  openAt : Option Nat        -- A
  stamp : Nat                -- stamp of tick A
  aI : Int
  aQ : Int
  inv : Nat
  clip : Bool
  traceMissed : Bool
  deriving DecidableEq, Repr

/-- The raw samples a capture covers: feedline, tick of its first sample, length in ticks (R330). -/
structure Capture where
  rank : Nat
  line : Nat
  start : Nat
  ticks : Nat
  deriving DecidableEq, Repr

/-- States of a trace unit (Table 09-14). -/
inductive UnitState where
  | ready | armed | capturing | rearming
  deriving DecidableEq, Repr

/-- A trace unit (R329-R331). -/
structure TraceUnit where
  st : UnitState
  cmd : Option AcqCmd
  armedAt : Nat
  src : Nat
  timeout : Nat
  trig : Option Nat
  forced : Bool
  openAt : Option Nat
  openTick : Nat             -- the tick of A by `now`
  endAt : Nat
  stamp : Nat
  inv : Nat
  clip : Bool
  endTick : Nat              -- tick at which the last capture ended
  lastShot : Option Nat      -- shot of the last capture
  dead : Nat                 -- DEAD of the last re-arm
  missed : Nat               -- captures not made since the unit's last record
  deriving DecidableEq, Repr

/-- What a record holds beyond its number and its segment (Tables 09-6 and 09-7). -/
structure RecData where
  shot : Nat
  kind : Nat
  rank : Nat
  tone : Nat
  utag : Nat
  verdict : Nat
  trigSrc : Nat
  trigOfs : Nat
  flags : List Nat
  inv : Nat
  stamp : Nat
  frames : Nat
  dset : Nat
  wset : Nat
  rI : Int
  rQ : Int
  dead : Nat
  missed : Nat
  cap : Option Capture
  deriving DecidableEq, Repr

/-- A window that has ended, until its verdict has been delivered everywhere (R343, R344). -/
structure Res where
  shot : Nat
  engine : Nat
  rank : Nat
  tone : Nat
  endAt : Nat                -- B
  verdict : Option Nat       -- none: VERD = 0
  record : Option RecData    -- completes at B + 20
  onFabric : Bool
  enqueued : Bool
  delivered : Bool
  deriving DecidableEq, Repr

/-- A filled segment of a record set (R334), until a RECYCLE. -/
structure Filled where
  seg : Nat
  seq : Nat
  shot : Nat
  header : BitVec 512        -- the header as completed
  words : Nat                -- payload codewords
  drop : Nat                 -- capture samples dropped
  through : Bool             -- a stream-through capture: delivered by the end of its drain
  cap : Option Capture
  delivered : Bool
  deriving DecidableEq, Repr

/-- States of a record set (Table 11-10). -/
inductive RSetState where
  | free | allocating | ready | releasing
  deriving DecidableEq, Repr

/-- A record set (R332-R338). -/
structure RSet where
  st : RSetState
  through : Bool
  segs : Nat
  pay : Nat
  stride : Nat
  base : Nat
  mirror : Option Nat
  pages : List Nat           -- pool pages, as RSA div 65,536
  held : Nat                 -- pages held, whether or not they are chosen yet
  fillPos : Nat
  count : Nat                -- records completed since ALLOC
  filled : List Filled       -- oldest first
  recycling : Nat            -- segments of accepted RECYCLEs that are not free yet
  deriving DecidableEq, Repr

/-- A stored codeword (R379): data, poison bit and the number of inverted bits. -/
structure Codeword where
  data : BitVec 64
  poison : Bool
  flips : Nat
  deriving DecidableEq, Repr

/-- A verdict in the queue of a Dalid port (R354, R355). -/
structure TxVerdict where
  port : Nat
  route : Nat
  slot : Nat
  value : Nat
  due : Nat                  -- delivery tick
  hop : Nat
  deriving DecidableEq, Repr

/-- A received verdict that is held for its delivery tick (R345, R355). -/
structure RxVerdict where
  route : Nat
  slot : Nat
  value : Nat
  due : Nat
  hop : Nat
  forwarded : Bool
  delivered : Bool
  deriving DecidableEq, Repr

/-- What R348 and R350 remember of a verdict placed on a route for a port: its slot and tick. -/
structure RouteSend where
  port : Nat
  route : Nat
  slot : Nat
  at_ : Nat
  deriving DecidableEq, Repr

/-- Lane states (Table 10-9). -/
inductive LaneState where
  | disabled | cdr | block | frame | check | trained | fault | loop
  deriving DecidableEq, Repr

/-- A Dalid lane beyond its registers. -/
structure DLane where
  st : LaneState
  since : Nat                -- tick of entry to FAULT
  good : Nat                 -- successive passing epoch checks
  headers : List Bool        -- validity of the last 64 headers, newest first
  rxPos : Nat                -- blocks since the last frame boundary seen
  commas : Nat               -- successive frames with COMMA at the expected distance
  missed : Nat               -- successive frames without
  frames : Nat               -- frames begun by the transmitter
  txPos : Nat                -- next block position of the frame in transmission
  pre : Nat                  -- transmit taps in force
  post : Nat
  mgmt : List (BitVec 64)    -- MGMT blocks waiting to be sent
  ack : Option Nat           -- DATA of the last EQ_ACK received
  lastCheck : Nat            -- frame number of the last EPOCH_CHECK and PORT_ID sent; 0: none
  lastId : Nat
  deriving DecidableEq, Repr

/-- A block sent on a lane: whether it is a data block, and its payload. -/
structure TxBlock where
  lane : Nat
  data : Bool
  payload : BitVec 64
  deriving DecidableEq, Repr

/-- States of a time-interval channel (Table 12-7). -/
inductive TdcState where
  | idle | armed | running | converting | done
  deriving DecidableEq, Repr

/-- A time-interval channel beyond its registers (R408-R412). -/
structure Tdc where
  st : TdcState
  startTick : Nat            -- tick of the start
  startEpoch : Nat
  f0 : Nat
  measured : List (Nat × Nat)   -- stops measured since the start: tick and ps, newest first
  reported : List Nat        -- intervals reported, in rising order
  below : Nat                -- how many of them are 0 with BELOW_RES
  deriving DecidableEq, Repr


/-- A sensor period [b, b + p) and whether its raw result is invalid (R422, R424). -/
structure SnsPeriod where
  b : Nat
  p : Nat
  bad : Bool
  deriving DecidableEq, Repr

/-- A sensor channel beyond its registers: the settings in force (Table 13-1), the period in progress, the ended period
whose result posts at a tick, invalid results due (R424), and the filter of R423. -/
structure Sns where
  on : Bool
  exc : Nat
  per : Nat
  tau : Nat
  cm : Word
  cur : Option SnsPeriod
  post : Option (Nat × SnsPeriod)
  left : Nat
  n : Nat
  yR : Int
  yX : Int
  restart : Bool             -- the filter restarts after the last invalid period
  faultCm : Bool
  faultComp : Bool
  cal : Bool                 -- the calibration routine covers the channel (R431)
  deriving DecidableEq, Repr

/-- A heater output beyond its registers: the code in force, a written code and a code of the loop that wait for their
ticks, and the loop's output (R433-R438). -/
structure Heater where
  code : Nat
  valPend : Option (Nat × Nat)
  codePend : Option (Nat × Nat)
  out : Nat
  satHi : Bool
  satLo : Bool
  last : Nat                 -- tick of the last update, or of the enabling
  deriving DecidableEq, Repr

/-- An urgent request (R444): from the host or the MP, with its source, DELAY, AVG and SHIFT. -/
structure MonReq where
  host : Bool
  src : Nat
  delay : Nat
  avg : Nat
  shift : Nat
  deriving DecidableEq, Repr

/-- The steps of a visit (R441). -/
inductive MonStep where
  | discharge | settle | sample
  deriving DecidableEq, Repr

/-- A visit (R441): for entry `entry` of the table, or urgent for the host or the MP. -/
structure MonVisit where
  urgent : Bool
  host : Bool
  entry : Nat
  src : Nat
  delay : Nat
  avg : Nat
  shift : Nat
  groups : Nat
  step : MonStep
  done : Nat                 -- slots of the step that have ended
  group : Nat                -- the group in progress, minus 1
  sum : Int
  clip : Bool
  resumed : Bool
  deriving DecidableEq, Repr

/-- The monitor ADC beyond its registers. -/
structure Monitor where
  slotAt : Option Nat        -- tick at which the slot in progress began
  lp : Bool                  -- low-power mode in force
  visit : Option MonVisit
  held : Option MonVisit     -- the interrupted visit of the table (R445)
  next : Nat                 -- next entry
  fresh : Bool               -- the table starts at entry 0 at the next boundary
  urgent : List MonReq       -- requests not yet begun, oldest first
  deriving DecidableEq, Repr

/-- States of a mailbox slot (Table 03-23); the MP starts and answers a request in one step of the model. -/
inductive MbxState where
  | free | posted | done
  deriving DecidableEq, Repr

/-- A reply (Table 03-24). -/
structure MbxReply where
  status : Nat
  seq : Nat
  age : Nat
  wait : Nat
  dataEpoch : Nat
  payload : List (BitVec 8)
  deriving DecidableEq, Repr

/-- A mailbox slot (R140-R143). -/
structure Mailbox where
  st : MbxState
  seq : Nat
  cmd : Nat
  len : Nat
  expire : Nat
  opt : Nat
  payload : List (BitVec 8)
  postedAt : Nat
  reply : Option MbxReply
  deriving DecidableEq, Repr

/-- The header of a valid bank or slot of the SPI flash (Table 14-4). -/
structure BankHdr where
  seq : Nat
  length : Nat
  crc : BitVec 32
  word : Nat                 -- bytes 20-23: VCAL_DECL, image version or 0
  stamp : Nat
  deriving DecidableEq, Repr

/-- A bank or slot: its header if it is valid (R467), and the number of the writing that its other bytes come from. -/
structure FlashBank where
  hdr : Option BankHdr
  writing : Nat
  deriving DecidableEq, Repr

/-- What a calibration bank holds: the limits and clear codes that differ from those of R273 and R296, the CAL registers of
the units it holds as stale, the monitor's staleness, the flatness tables and the calibration temperatures. -/
structure CalBody where
  limits : Table Word
  stale : List Nat
  monStale : Bool
  flat : Table (BitVec 16)
  temps : Table (Option Int) -- the calibration temperatures by sensor code
  deriving DecidableEq, Repr

/-- The calibration routine in progress (R458): the stage of 1-5 in progress (6: all have ended), whether stage 6 still
runs, and the results so far: unit, result code, low field of its CAL register, new flatness table. -/
structure Routine where
  stage : Nat
  six : Bool
  results : List (Nat × Nat × Nat × List (BitVec 16))
  temps : List (Nat × Int)   -- the calibration temperatures that the opening sweep records
  opening : Bool             -- the opening sweep has not ended
  startedAt : Nat            -- tick of entry to CALIBRATE
  deriving DecidableEq, Repr

/-- An open dip (R474): the epoch W - 249, the tick W, and the rails seen below their warning level. -/
structure Dip where
  start : Nat
  wAt : Nat
  rails : Nat
  deriving DecidableEq, Repr

/-- The thermal supervisor beyond its registers (R478): the tick at which the sweep in progress started, one more demanded
sweep, the tick of the last start, and calibration temperatures by code. -/
structure Thermal where
  running : Option Nat
  again : Bool
  startAt : Nat
  calTemps : Table (Option Int)
  schedAt : Nat              -- tick from which the MP's schedule counts
  changed : Option Nat       -- tick of the sweep or write that last moved L to or from 7
  deriving DecidableEq, Repr

/-- The state of the part. (DESIGN CHOICE, log 7.) -/
structure State where
  /-- The commands that are waiting, first in, first out. -/
  pending : List Instr
  /-- The ordering code (R1), fixed at manufacture. -/
  part : Part
  /-- The strap REFSEL: 10 MHz reference (02, Reference and tick). -/
  ref10M : Bool
  /-- The device serial number (Table 03-2), as Dalid partners see it (R363). -/
  serial : Nat
  /-- Ticks since power-on: the model's own count, by which elapsed times are measured. -/
  now : Nat
  /-- The epoch (R61-R66), and whether it has begun to count (stage 0x2). -/
  epoch : Epoch
  epochOn : Bool
  /-- A counter that numbers the free values (the model's own). -/
  freeCtr : Nat
  /-- The plain words of the BAR0 registers, by offset. -/
  regs : Table Word
  /-- What the last read returned (the model's own): the low 32 or all 64 bits. -/
  lastRead : BitVec 64
  /-- The read and the write shadow of each requester (R71, R73). -/
  readShadow : Table (Option Shadow)
  writeShadow : Table (Option Shadow)
  /-- BRD_RSET_SEL of each requester (R398). -/
  rsetSel : Table Nat
  /-- The mode (R29), and the mode that a transition in progress will enter (R31). -/
  mode : Mode
  transition : Option Mode
  /-- The time since internal power-good: its tick (R50). -/
  powerGoodAt : Option Nat
  /-- The calendar counters RAW and ACC (R84), and the tick of the last discipline (R87). -/
  calRaw : Nat
  calAcc : Int
  disciplineAt : Nat
  /-- The angle estimator (R77). -/
  angle : Angle
  /-- Each alarm: the tick it was enabled in, whether it was late then (R69), and the epoch of its last firing. -/
  alarmAt : Table Nat
  alarmLate : Table Bool
  alarmFired : Table (Option Nat)
  /-- A snapshot capture is armed (R89). -/
  snapArmed : Bool
  /-- The tick PLL is re-locking (R94); the loss epoch and the tick of the last loss (R91). -/
  relocking : Bool
  lossAt : Option (Nat × Nat)
  /-- The rings (03, Rings), the writes sent to the host (newest first) and those held back (R100, R102). -/
  sqs : Table Sq
  cqs : Table Cq
  nextUid : Nat
  busMaster : Bool
  /-- PERST_N holds the PCI Express endpoint in reset (R51). -/
  perst : Bool
  posted : List Posted
  holding : List Held
  /-- Codewords of the delivery holding region struck by an injected error since the entries in them were held (R385). -/
  holdHits : List Nat
  /-- The Board has stopped all DMA after a trip (R481). -/
  dmaStopped : Bool
  /-- The Clock: a gang in preparation, accepted shots, untimed work and stream windows (04). -/
  gang : Option Gang
  shots : List Shot
  works : List Work
  wins : List StreamWin
  streams : Table Stream
  /-- The engines (05) and the on-die stores: micro stores, nano stores with their residency, caches. -/
  engines : Table Engine
  micro : Table (Cell 32)
  nano : Table (Cell 256)
  nanoRes : Table Bool
  cache : Table (Cell 32)
  /-- Targets commanded in the current ball tick: epoch, target, engine (R194). -/
  commanded : List (Nat × Nat × Nat)
  /-- Ports, frequency slots, waiting slot writes and FRAME entries, markers (06). -/
  ports : Table Port
  slots : Table Slot
  slotWrites : List SlotWrite
  frames : List FrameEntry
  mrk : Table (List MrkEdge)
  mrkMute : Table MrkMute
  /-- RF lines, INTERP in force and waiting, flatness tables, ticks whose codes wait (07). -/
  lines : Table Line
  interp : Table Bool
  interpPend : List (Nat × Nat × Bool)
  flat : Table (BitVec 16)
  synth : Table (List SynTick)
  /-- Flux and bias outputs (08). -/
  ffx : Table Ffx
  bia : Table Bia
  /-- CLR_N was recognised, or TRIPPED entered, in this tick: the outputs of 08 move in the next one (R300). -/
  clrNext : Bool
  /-- Acquisition (09): commands not yet armed, demodulated tones, receivers, result windows, trace units, ended windows. -/
  acqs : List AcqCmd
  tones : Table Tone
  feeds : Table Feed
  rwins : Table RWin
  traces : Table TraceUnit
  results : List Res
  frameStamps : List (Nat × Nat)
  /-- Record sets (09, 11) and the codewords of the Record Store by RSA div 8, with the state of the scrubber: its word
  address, passes ended, the pass in which a word was last corrected, and corrections per stack in this pass. -/
  rsets : Table RSet
  mem : Table Codeword
  scrubPos : Nat
  scrubPass : Nat
  corrected : Table (Option Nat)
  passCe : Table Nat
  /-- The verdict fabric and the lanes (10): verdicts queued for ports, received verdicts held, what R350 counts, losses
  (route and tick X), lanes, loss notices waiting by port, and the blocks sent (newest first). -/
  txQueue : List TxVerdict
  rxHeld : List RxVerdict
  routeSends : List RouteSend
  losses : List (Nat × Nat)
  lanes : Table DLane
  lossNotices : List (Nat × Nat)
  dldSent : List TxBlock
  /-- The tick of the last accepted EPOCH_IN edge (Table 10-5), and the count that it replaced (R65). -/
  edgeAcceptedAt : Option Nat
  epochOld : Nat
  /-- The time-interval channels (12). -/
  tdcs : Table Tdc
  /-- The cryostat instruments (13): sensor channels, heaters, monitor ADC, user tables: shadows by table × 200 + index, the
  active tables, and the two curve banks of the flash. -/
  snss : Table Sns
  heaters : Table Heater
  mon : Monitor
  curveShadow : Table (Nat × Nat)
  curves : Table (List (Nat × Nat))
  /-- The mailbox (03) and its SERVER field. -/
  mbx : Table Mailbox
  server : Nat
  /-- A Dalid training that the MP has begun (R372): the mailbox slot that asked for it and the tick it began. -/
  training : Option (Nat × Nat)
  /-- The SPI flash (R465): firmware slots with their body bytes by slot × 2^24 + offset, calibration banks and curve banks
  with their contents, and the trip log, oldest first. -/
  fwBank : Table FlashBank
  fwBody : Table (Option (BitVec 8))
  calBank : Table FlashBank
  calBody : Table CalBody
  curveBank : Table FlashBank
  curveBody : Table (Table (List (Nat × Nat)))
  tripLog : List (BitVec 512)
  tripOwed : Bool
  /-- The calibration routine in progress (14). -/
  routine : Option Routine
  /-- The open dip (R474) and the tick of the last entry to TRIPPED. -/
  dip : Option Dip
  trippedAt : Option Nat
  /-- The presence window (R471): the tick at which it ends. -/
  window : Option Nat
  thm : Thermal
  /-- The tick in which P_eff last changed, and its value before (R166). -/
  peffWas : Nat × Nat
  /-- CAL_VREF of the routine whose results run (Table 14-4), and flatness tables that wait for their frame tick. -/
  calVref : Nat
  flatPend : List (Nat × Nat × List (BitVec 16))
  deriving DecidableEq, Repr

/-- Reasons for a fault: the machine stops. -/
inductive Fault where
  /-- An access to a BAR offset that does not exist: beyond the 16 MiB of BAR0 or the 64 doorbell pages of BAR2
  (R104). Raised by the BAR0 access commands and the doorbells. Safe: no access of the host's can reach there. -/
  | noSuchAddress
  deriving DecidableEq, Repr

/-- Reasons for a refusal. -/
inductive Refusal where
  /-- The command has no meaning in the model yet. Raised by an arm of `exec` only. Safe. -/
  | notModelled (mnemonic : String)
  deriving DecidableEq, Repr

/-- The LQ8 right after a power-on, before internal power-good: no unit runs, every register holds its reset value
(R14, the register tables; the log names what the spec leaves open), the mode is CLEAR (R52), no command waits. (DESIGN CHOICE, log 5; DESIGN CHOICE, log 6; PRESUMED, log 8.) -/
def State.reset : State :=
  { pending := []
    part := .lq8_8
    ref10M := false
    serial := 0
    now := 0
    epoch := 0
    epochOn := false
    freeCtr := 0
    regs := [(0x18, 0x100)]
    lastRead := 0
    readShadow := []
    writeShadow := []
    rsetSel := []
    mode := .clear
    transition := none
    powerGoodAt := none
    calRaw := 0
    calAcc := 0
    disciplineAt := 0
    angle := { ph := 0, shown := 0, rate := 0, pAvg := 0, pLast := 0, eRef := 0, history := [], outliers := 0, accepted := 0, k := 0,
               incCount := 0, refAt := 0, edgeAt := 0, seen := [], moving := [], inside := [] }
    alarmAt := []
    alarmLate := []
    alarmFired := []
    snapArmed := false
    relocking := false
    lossAt := none
    sqs := []
    cqs := []
    nextUid := 0
    busMaster := false
    perst := true
    posted := []
    holding := []
    holdHits := []
    dmaStopped := false
    gang := none
    shots := []
    works := []
    wins := []
    streams := []
    engines := []
    micro := []
    nano := []
    nanoRes := []
    cache := []
    commanded := []
    ports := []
    slots := []
    slotWrites := []
    frames := []
    mrk := []
    mrkMute := []
    lines := []
    interp := []
    interpPend := []
    flat := []
    synth := []
    ffx := []
    bia := []
    clrNext := false
    acqs := []
    tones := []
    feeds := []
    rwins := []
    traces := []
    results := []
    frameStamps := []
    rsets := []
    mem := []
    scrubPos := 0
    scrubPass := 0
    corrected := []
    passCe := []
    txQueue := []
    rxHeld := []
    routeSends := []
    losses := []
    lanes := []
    lossNotices := []
    dldSent := []
    edgeAcceptedAt := none
    epochOld := 0
    tdcs := []
    snss := []
    heaters := []
    mon := { slotAt := none, lp := false, visit := none, held := none, next := 0, fresh := false, urgent := [] }
    curveShadow := []
    curves := []
    mbx := []
    server := 0
    training := none
    fwBank := [(0, ⟨some ⟨1, 0, 0, 0, 0⟩, 0⟩)]
    fwBody := []
    calBank := [(0, ⟨some ⟨1, 0, 0, 10000000, 0⟩, 0⟩)]
    calBody := []
    curveBank := []
    curveBody := []
    tripLog := []
    tripOwed := false
    routine := none
    dip := none
    trippedAt := none
    window := none
    thm := { running := none, again := false, startAt := 0, calTemps := [], schedAt := 0, changed := none }
    peffWas := (0, 0)
    calVref := 10000000
    flatPend := [] }

end Sys2Proof.Machine
end

