-- ==== Sys2Proof/Machine/Flags.lean ====
section
/-!
DEFINITION. The flags words of the block: FLAGS of a completion entry (Table 03-19) and FLAGS of a record (Table 09-7). The block has no
arithmetic flags.
-/
namespace Sys2Proof.Machine

/-! ### Completion entries -/

/-- FLAGS bits. -/
def flBroken : Nat := 0
def flAngleLost : Nat := 1
def flSupplyDip : Nat := 2
def flStarved : Nat := 3
def flPoisoned : Nat := 4
def flForced : Nat := 5
def flDropped : Nat := 6
def flTrapped : Nat := 7
def flCalStale : Nat := 8
def flLate : Nat := 9

/-- The FLAGS word of a list of bits. -/
def flagWord (bits : List Nat) : Nat :=
  (List.range 10).foldl (fun acc b => if b ∈ bits then acc + 2 ^ b else acc) 0

/-! ### Records -/

/-- Bits of the record FLAGS (Table 09-7). -/
def rfForced : Nat := 0
def rfInvalid : Nat := 1
def rfPoisoned : Nat := 2
def rfTruncated : Nat := 3
def rfStreamed : Nat := 4
def rfOverrange : Nat := 5
def rfTraceMissed : Nat := 6
def rfStrictVoid : Nat := 7

def recFlagWord (bits : List Nat) : Nat :=
  (List.range 8).foldl (fun acc b => if b ∈ bits then acc + 2 ^ b else acc) 0

end Sys2Proof.Machine
end

