-- ==== Sys2Proof/Machine/Ops.lean ====
section
/-!
DEFINITION. The named operations over registers, fields, events, stamps and the host link that every meaning uses.
-/
namespace Sys2Proof.Machine

/-! ### Registers and fields -/

/-- The stored word of a register. -/
def State.rd (s : State) (addr : Nat) : Word := Table.get (regReset s.part) s.regs addr

/-- Store a register's word. -/
def State.wr (s : State) (addr : Nat) (v : Word) : State :=
  { s with regs := Table.set (regReset s.part) s.regs addr v }

/-- The bits hi..lo of a word. -/
def wordBits (w : Word) (hi lo : Nat) : Nat := w.toNat / 2 ^ lo % 2 ^ (hi + 1 - lo)

/-- A word with its bits hi..lo replaced. -/
def wordSet (w : Word) (hi lo v : Nat) : Word :=
  BitVec.ofNat 32 (w.toNat / 2 ^ (hi + 1) * 2 ^ (hi + 1) + v % 2 ^ (hi + 1 - lo) * 2 ^ lo + w.toNat % 2 ^ lo)

/-- The value of a field. -/
def State.get (s : State) (f : Fld) : Nat := wordBits (s.rd f.addr) f.hi f.lo

/-- Set a field. -/
def State.put (s : State) (f : Fld) (v : Nat) : State := s.wr f.addr (wordSet (s.rd f.addr) f.hi f.lo v)

/-- A one-bit field reads 1. -/
def State.flag (s : State) (f : Fld) : Bool := decide (s.get f = 1)

/-- Increment a counter field that saturates. -/
def State.bump (s : State) (f : Fld) : State :=
  if s.get f + 1 < 2 ^ f.width then s.put f (s.get f + 1) else s

/-- Add to a counter field that saturates. -/
def State.bumpBy (s : State) (f : Fld) (n : Nat) : State := s.put f (min (s.get f + n) (2 ^ f.width - 1))

/-- Increment a counter field that wraps. -/
def State.bumpWrap (s : State) (f : Fld) : State := s.put f ((s.get f + 1) % 2 ^ f.width)

/-- A whole register as a field. -/
def whole (addr : Nat) : Fld := ⟨addr, 31, 0⟩

/-- A 64-bit pair by the address of its low half. -/
def State.get64 (s : State) (lo : Nat) : Nat := (s.rd lo).toNat + (s.rd (lo + 4)).toNat * 2 ^ 32

def State.put64 (s : State) (lo : Nat) (v : Nat) : State :=
  (s.wr lo (BitVec.ofNat 32 v)).wr (lo + 4) (BitVec.ofNat 32 (v / 2 ^ 32))

/-- Add to a 64-bit counter pair. -/
def State.add64 (s : State) (lo n : Nat) : State := s.put64 lo ((s.get64 lo + n) % 2 ^ 64)

/-- The outcome of a register write: the state after it and the CAUSE of an access error, if it makes one (Table 03-6). -/
structure WriteOut where
  st : State
  err : Option Nat
  deriving DecidableEq, Repr

/-- The write is taken. -/
def taken (s : State) : WriteOut := ⟨s, none⟩

/-- The write has no effect and makes an access error. -/
def refusedBy (s : State) (cause : Nat) : WriteOut := ⟨s, some cause⟩

/-- Store the writable bits of a word by the masks of its row: rw bits are set, w1c bits are cleared by a 1 (R14), and bits
under seal are taken only in SEALED (R18). -/
def typedWrite (s : State) (row : RegRow) (addr : Nat) (v : Word) : WriteOut :=
  let old := s.rd addr
  let rwm := BitVec.ofNat 32 (row.rwMask + if s.mode = .sealed then row.sealMask else 0)
  let new := ((old &&& ~~~ rwm) ||| (v &&& rwm)) &&& ~~~ (v &&& BitVec.ofNat 32 row.w1cMask)
  let sm := BitVec.ofNat 32 row.sealMask
  if row.sealMask ≠ 0 ∧ s.mode ≠ .sealed then
    if row.rwMask = 0 then refusedBy s 5
    else ⟨s.wr addr new, if (v &&& sm) = (old &&& sm) then none else some 5⟩
  else taken (s.wr addr new)

/-! ### Messages, events and access errors -/

/-- A write of the part to the host: sent, or held while the link cannot take it (R100), or never sent after the trip
(R481). (DESIGN CHOICE, log 115.) -/
def State.send (s : State) (p : Posted) (final : Bool) (due : Nat) : State :=
  if s.dmaStopped then s
  else if s.busMaster ∧ s.holding = [] then { s with posted := p :: s.posted }
  else { s with holding := s.holding ++ [⟨p, final, due⟩] }

/-- The mask bit of an MSI-X vector. -/
def State.vectorMasked (s : State) (v : Nat) : Bool := s.flag (Reg.PCI_MSIXv_CTRL_MASK v)

/-- The Pending Bit of an MSI-X vector. -/
def pendingBit (v : Nat) : Fld := ⟨Reg.PCI_PBAw (v / 32), v % 32, v % 32⟩

/-- Raise an MSI-X vector: a masked one sets its Pending Bit (R135). -/
def State.raiseVector (s : State) (v : Nat) : State :=
  if s.vectorMasked v then s.put (pendingBit v) 1 else s.send (.msix v) false 0

/-- A Board event source sets its bit of BRD_EVT, and raises vector 0 when the enabled bit goes from 0 to 1 (R110). (DEDUCED, log 46.) -/
def State.event (s : State) (bit : Nat) : State :=
  let f : Fld := ⟨Reg.BRD_EVT, bit, bit⟩
  if s.flag f then s
  else
    let s1 := s.put f 1
    if s.flag ⟨Reg.BRD_EVT_EN, bit, bit⟩ then s1.raiseVector 0 else s1

/-- The bits of BRD_EVT (Table 03-7). -/
def evtMode : Nat := 0
def evtAlarm : Nat := 1
def evtAccess : Nat := 2
def evtRing : Nat := 3
def evtLink : Nat := 4
def evtThrottle : Nat := 5
def evtSupply : Nat := 6
def evtMemory : Nat := 7
def evtEpoch : Nat := 8
def evtAngle : Nat := 9
def evtCalendar : Nat := 10
def evtDalid : Nat := 11
def evtTdc : Nat := 12
def evtCryo : Nat := 13

/-- An access error (R109). -/
def State.accessError (s : State) (rid cause offset : Nat) : State :=
  let s1 :=
    if s.flag Reg.BRD_ACC_ERR_FLAG then s.bump Reg.BRD_ACC_ERR_COUNT
    else
      (((((s.put Reg.BRD_ACC_ERR_COUNT 0).bump Reg.BRD_ACC_ERR_COUNT).put Reg.BRD_ACC_ERR_FLAG 1).put
        Reg.BRD_ACC_ERR_CAUSE cause).put Reg.BRD_ACC_ERR_REQ rid).wr Reg.BRD_ACC_ADDR
        (BitVec.ofNat 32 (offset + if cause = 6 ∨ cause = 0xC then 2 ^ 24 else 0))
  s1.event evtAccess

/-- Finish a write: record its access error at an offset. -/
def WriteOut.finish (w : WriteOut) (rid offset : Nat) : State :=
  match w.err with
  | none => w.st
  | some c => w.st.accessError rid c offset

/-! ### Clocks and stamps -/

/-- The calendar value of the current tick (R84). -/
def State.calendar (s : State) : Nat :=
  ((s.calRaw + s.get64 Reg.EPO_CAL_OFS_LO + s.calAcc / 2 ^ 40) % 2 ^ 64).toNat

/-- The current angle (R77, R78). -/
def State.angleNow (s : State) : Nat := s.angle.shown

/-- The FLAGS byte of a stamp (Table 02-19, byte 18). -/
def State.stampFlags (s : State) : Nat :=
  s.get Reg.EPO_CAL_CTRL_STEP_GEN * 16 + s.get Reg.EPO_CAL_CTRL_DISCIPLINED * 8 + s.get Reg.EPO_ANG_STAT_LOCK * 4 +
    s.get Reg.EPO_REF_SUSPECT * 2 + s.get Reg.EPO_REF_HOLDOVER

/-- The 24-byte stamp of the current tick as a number (R90). -/
def State.stamp (s : State) : Nat :=
  s.epoch.toNat + s.calendar * 2 ^ 64 + s.angleNow * 2 ^ 128 + s.stampFlags * 2 ^ 144 +
    s.get Reg.EPO_SYNC_STAT_GEN * 2 ^ 152

/-- A stamp with its HOLDOVER bit set (R92). -/
def stampHoldover (st : Nat) : Nat := if st / 2 ^ 144 % 2 = 1 then st else st + 2 ^ 144

/-- The tick is a frame tick (R227). -/
def State.frameTick (s : State) : Bool := decide (s.epoch.toNat % 4 = 0)

/-- The first frame tick at or after an epoch. -/
def nextFrame (e : Nat) : Nat := (e + 3) / 4 * 4

/-! ### Rings -/

/-- A disabled ring's state. -/
def sqDefault (_ : Nat) : Sq := ⟨0, 0, 0, none, [], none⟩
def cqDefault (_ : Nat) : Cq := ⟨0, 0, 0, 0, 0, 0, 0⟩

def State.sq (s : State) (n : Nat) : Sq := s.sqs.get sqDefault n
def State.setSq (s : State) (n : Nat) (q : Sq) : State := { s with sqs := s.sqs.set sqDefault n q }
def State.cq (s : State) (n : Nat) : Cq := s.cqs.get cqDefault n
def State.setCq (s : State) (n : Nat) (q : Cq) : State := { s with cqs := s.cqs.set cqDefault n q }

/-- Slots of a ring (R111). -/
def State.sqSize (s : State) (n : Nat) : Nat := 2 ^ s.get (Reg.PCI_SQ_CFG_SIZE_LOG2 n)
def State.cqSize (s : State) (n : Nat) : Nat := 2 ^ s.get (Reg.PCI_CQ_CFG_SIZE_LOG2 n)
def State.sqEn (s : State) (n : Nat) : Bool := s.flag (Reg.PCI_SQ_CFG_EN n)
def State.cqEn (s : State) (n : Nat) : Bool := s.flag (Reg.PCI_CQ_CFG_EN n)

/-- The completion ring of a submission ring. -/
def State.cqOf (s : State) (n : Nat) : Nat := s.get (Reg.PCI_SQ_CFG_CQ n)

/-- Distance from one slot to another, around the ring. -/
def ringDist (size a b : Nat) : Nat := (a + size - b) % size

/-- Free slots of a CQ that are neither used nor kept (R124). -/
def State.cqFree (s : State) (n : Nat) : Nat :=
  s.cqSize n - 1 - ringDist (s.cqSize n) (s.cq n).tail (s.cq n).head

/-- The credit of a CQ (R124). -/
def State.cqCredit (s : State) (n : Nat) : Int := (s.cqFree n : Int) - 1 - (s.cq n).owed

/-- The host address of the next slot of a CQ. -/
def State.cqSlotAddr (s : State) (n : Nat) : Nat :=
  s.get (Reg.PCI_CQ_BASE_LO_BASE_LO n) * 4096 + (s.rd (Reg.PCI_CQ_BASE_HI n)).toNat * 2 ^ 32 + (s.cq n).tail * 32

/-- Bytes 0-7 of a completion entry (Table 03-17). -/
def entryLow (phase : Bool) (kind status sq detail tag flags : Nat) : Nat :=
  (if phase then 128 else 0) + kind + status * 2 ^ 8 + sq * 2 ^ 16 + detail * 2 ^ 24 + tag * 2 ^ 32 + flags * 2 ^ 48

/-- The coalescing conditions of a CQ hold, or the entry raises at once (R134). -/
def State.cqRaises (s : State) (n : Nat) (now : Bool) : Bool :=
  let q := s.cq n
  let t := s.get (Reg.PCI_CQ_COAL_TIME n)
  now || decide (max 1 (s.get (Reg.PCI_CQ_COAL_COUNT n)) ≤ q.count) ||
    (decide (t ≠ 0) && decide (q.count ≠ 0) && decide (q.oldest + t * 256 ≤ s.now))

/-- Raise the vector of a CQ: its pending count becomes 0 (R134). -/
def State.cqRaise (s : State) (n : Nat) : State :=
  (s.setCq n { s.cq n with count := 0 }).raiseVector (s.get (Reg.PCI_CQ_CFG_VECTOR n))

/-- Write one completion entry: bytes 8-31, then bytes 0-7 (R117), advance the tail and the pass (R116), and raise the
vector if R134 says so. (DEDUCED, log 45.) -/
def State.writeEntry (s : State) (n kind status sq detail tag flags stamp : Nat) (irq final : Bool) (due : Nat) : State :=
  let q := s.cq n
  let a := s.cqSlotAddr n
  let s1 := s.send (.mem (a + 8) 24 stamp) false 0
  let s2 := s1.send (.mem a 8 (entryLow (decide (q.pass % 2 = 0)) kind status sq detail tag flags)) final due
  let wrap := decide (q.tail + 1 = s.cqSize n)
  let s3 := s2.setCq n { q with
    tail := if wrap then 0 else q.tail + 1, pass := if wrap then q.pass + 1 else q.pass,
    count := q.count + 1, oldest := if q.count = 0 then s.now else q.oldest }
  if s3.cqRaises n irq then s3.cqRaise n else s3

/-- One entry owed to a CQ less. -/
def State.payOwed (s : State) (n k : Nat) : State := s.setCq n { s.cq n with owed := (s.cq n).owed - k }

/-- A ring event of an SQ, written to its CQ if a slot is free beyond those owed and the holding region has room, else
counted in EVT_LOST (R120, R124, R102). -/
def State.ringEvent (s : State) (sq status : Nat) : State :=
  let n := s.cqOf sq
  if (s.cq n).owed < s.cqFree n ∧ s.holding.length < 2097152 then
    s.writeEntry n 3 status sq 0 0 0 s.stamp true false 0
  else s.setCq n { s.cq n with evtLost := min 255 ((s.cq n).evtLost + 1) }

/-- Put an SQ into ERROR with a ring event (R120, R137). -/
def State.sqError (s : State) (sq status : Nat) : State :=
  ((s.setSq sq { s.sq sq with err := some (status % 16) }).event evtRing).ringEvent sq status

/-! ### Descriptor fields -/

/-- A field of a 64-byte slot: its first bit and width (R13: byte n begins at bit 8 n). -/
def slotField (w : BitVec 512) (bit width : Nat) : Nat := w.toNat / 2 ^ bit % 2 ^ width

namespace Desc
/-- The header (Table 03-14). -/
def typ (d : Desc) : Nat := slotField d.base 0 8
def extCount (d : Desc) : Nat := slotField d.base 8 4
def barrierBit (d : Desc) : Bool := decide (slotField d.base 23 1 = 1)
def genCheck (d : Desc) : Bool := decide (slotField d.base 22 1 = 1)
def angleEn (d : Desc) : Bool := decide (slotField d.base 21 1 = 1)
def irqFinal (d : Desc) : Bool := decide (slotField d.base 20 1 = 1)
def irqAdmit (d : Desc) : Bool := decide (slotField d.base 19 1 = 1)
def awin (d : Desc) : Nat := slotField d.base 16 3
def gen (d : Desc) : Nat := slotField d.base 24 8
def tag (d : Desc) : Nat := slotField d.base 32 16
def rankMask (d : Desc) : Nat := slotField d.base 48 8
def startEpoch (d : Desc) : Nat := slotField d.base 64 64
def span (d : Desc) : Nat := slotField d.base 128 32
/-- A field of the body, by its byte offset in the base slot, first bit in that byte, and width. -/
def body (d : Desc) (byte bit width : Nat) : Nat := slotField d.base (8 * byte + bit) width
/-- SHOT base slot (Table 04-1). -/
def d2hBw (d : Desc) : Nat := d.body 34 0 16
def recset (d : Desc) : Nat := d.body 36 0 16
def gangStop (d : Desc) : Bool := decide (d.body 38 0 1 = 1)
def recSegs (d : Desc) : Nat := d.body 40 0 32
def rsSpace (d : Desc) : Nat := d.body 44 0 32
def captureLen (d : Desc) : Nat := d.body 56 0 32
/-- The valid route claims: route and slots. -/
def routes (d : Desc) : List (Nat × Nat) :=
  [0, 1, 2, 3].filterMap fun i =>
    if d.body (48 + 2 * i) 15 1 = 1 then some (d.body (48 + 2 * i) 9 6, d.body (48 + 2 * i) 0 9) else none
/-- The Ranks that RANK_MASK names. -/
def ranks (d : Desc) : List Nat := (List.range 8).filter fun r => d.rankMask.testBit r
/-- The claim slot of a Rank: the k-th extension slot for the k-th set bit (R155). -/
def claim (d : Desc) (r : Nat) : BitVec 512 :=
  if d.rankMask.testBit r then d.ext.getD ((List.range r).countP fun q => d.rankMask.testBit q) 0 else 0
/-- Rank claim slot fields (Table 04-2). -/
def engines (d : Desc) (r : Nat) : Nat := slotField (d.claim r) 0 24
def ldc (d : Desc) (r : Nat) : Nat := slotField (d.claim r) 32 32
def tones (d : Desc) (r : Nat) : Nat := slotField (d.claim r) 64 32
def ffx (d : Desc) (r : Nat) : Nat := slotField (d.claim r) 96 32
def bias (d : Desc) (r : Nat) : Nat := slotField (d.claim r) 128 32
def mrk (d : Desc) (r : Nat) : Nat := slotField (d.claim r) 160 8
def trace (d : Desc) (r : Nat) : Nat := slotField (d.claim r) 168 2
def gambit (d : Desc) (r : Nat) : Nat := slotField (d.claim r) 176 8
def entry (d : Desc) (r : Nat) : Nat := slotField (d.claim r) 320 13
def rsBw (d : Desc) (r : Nat) : Nat := slotField (d.claim r) 336 16
def arg (d : Desc) (r : Nat) : Nat := slotField (d.claim r) 352 32
def nanoFirst (d : Desc) (r : Nat) : Nat := slotField (d.claim r) 384 16
def nanoCount (d : Desc) (r : Nat) : Nat := slotField (d.claim r) 400 16
/-- The valid cache ranges: first block and count. -/
def cacheRanges (d : Desc) (r : Nat) : List (Nat × Nat) :=
  [0, 1, 2, 3].filterMap fun i =>
    if slotField (d.claim r) (192 + 32 * i + 31) 1 = 1 then
      some (slotField (d.claim r) (192 + 32 * i + 16) 11, slotField (d.claim r) (192 + 32 * i) 11)
    else none
end Desc

/-! ### Shots -/

/-- Accepted shots that have not ended. -/
def State.liveShots (s : State) : List Shot := s.shots.filter fun x => decide (x.phase ≠ .ended)

/-- A shot by its number. -/
def State.shot? (s : State) (uid : Nat) : Option Shot := s.shots.find? fun x => decide (x.desc.uid = uid)

/-- Change a shot. -/
def State.updShot (s : State) (uid : Nat) (f : Shot → Shot) : State :=
  { s with shots := s.shots.map fun x => if x.desc.uid = uid then f x else x }

/-- Set FLAGS bits of a shot's final entry (Table 03-19). -/
def State.shotFlag (s : State) (uid bit : Nat) : State :=
  s.updShot uid fun x => if bit ∈ x.flags then x else { x with flags := bit :: x.flags }

/-- STATUS codes of final entries (Table 03-18). -/
def stComplete : Nat := 0x01
def stCancelledQuiesce : Nat := 0x10
def stAbortedClr : Nat := 0x11
def stAbortedHost : Nat := 0x12
def stRefLost : Nat := 0x20
def stThermalTrip : Nat := 0x21
def stMemUncorrectable : Nat := 0x22
def stGangPartial : Nat := 0x23

/-- A cause of a status applies to a shot (R132). -/
def State.shotStatus (s : State) (uid code : Nat) : State :=
  s.updShot uid fun x => if code ∈ x.status then x else { x with status := code :: x.status }

/-- A shot meets a poisoned word (R382): cause MEMORY breaks its promise. -/
def State.shotPoison (s : State) (uid : Nat) (memory : Bool) : State :=
  let s1 := s.shotFlag uid flPoisoned
  if memory then (s1.shotStatus uid stMemUncorrectable).shotFlag uid flBroken else s1

/-- A sample of a shot plays, or a verdict of it is delivered, in this tick: its end of shot is not earlier (R26). (DEDUCED, log 53.) -/
def State.touch (s : State) (uid : Nat) : State :=
  s.updShot uid fun x => if x.fixed then { x with endAt := s.now } else { x with endAt := s.now, stamp := s.stamp }

/-- Count samples dropped and mark the shot (R174, R270, R301). -/
def State.dropSamples (s : State) (uid n : Nat) : State :=
  if n = 0 then s else (s.add64 Reg.CLK_DROP_LO n).shotFlag uid flDropped

/-- A command without effect: CLK_GUARD.PORT and DROPPED (R148). -/
def State.guardPort (s : State) (uid : Nat) : State := (s.bump Reg.CLK_GUARD_PORT).shotFlag uid flDropped

/-- Some live shot satisfies a predicate. -/
def State.claimed (s : State) (p : Desc → Bool) : Bool := s.liveShots.any fun x => p x.desc

/-! ### Port numbers and defaults -/

/-- Ports of a Rank: logical drive channel c is c, tone k is 32 + k, FFX k is 64 + k. -/
def portKey (r p : Nat) : Nat := r * 96 + p

/-- The class of a port number. -/
def portClass (p : Nat) : PortClass := if p < 32 then .ldc else if p < 64 then .tone else .ffx

/-- A claim names a port. -/
def claimsPort (d : Desc) (r p : Nat) : Bool :=
  if p < 32 then (d.ldc r).testBit p else if p < 64 then (d.tones r).testBit (p - 32) else (d.ffx r).testBit (p - 64)

/-- A port at rest after reset: on its private slot (Table 07-11). -/
def portDefault (key : Nat) : Port :=
  { shot := none, piece := .rest, eng := 0, start := 0, stop := 0, committed := none, commCmd := none, pend := none, queue := [],
    fslot := if key % 96 < 64 then key % 96 else 0, vph := 0, amp := 0x7FFF, initAt := none, muteFrom := none }

def State.port (s : State) (r p : Nat) : Port := s.ports.get portDefault (portKey r p)
def State.setPort (s : State) (r p : Nat) (x : Port) : State := { s with ports := s.ports.set portDefault (portKey r p) x }

def slotDefault (_ : Nat) : Slot := ⟨0, 0⟩
def State.slot (s : State) (r f : Nat) : Slot := s.slots.get slotDefault (r * 128 + f)
def State.setSlot (s : State) (r f : Nat) (x : Slot) : State :=
  { s with slots := s.slots.set slotDefault (r * 128 + f) x }

def streamDefault (_ : Nat) : Stream := ⟨false, false, 0, 0, 0, 0, 0, false⟩
def State.stream (s : State) (r n : Nat) : Stream := s.streams.get streamDefault (r * 256 + n)
def State.setStream (s : State) (r n : Nat) (x : Stream) : State :=
  { s with streams := s.streams.set streamDefault (r * 256 + n) x }

/-! ### Engines -/

def latchDefault : Latch := ⟨.unarmed, 0, 0, 0, [], 0, 0, 0, false⟩
def engineDefault (_ : Nat) : Engine :=
  { phase := .idle, shot := 0, pc := 0, cur := 0, nextIssue := 0, c0 := 0, c1 := 0, c2 := 0, c3 := 0, flag := false, rstack := [],
    vl0 := latchDefault, vl1 := latchDefault, vl2 := latchDefault, vl3 := latchDefault, halted := false, wait := none, balls := [],
    trap := none, fallbacks := [], partialLoad := false }
def State.engine (s : State) (r e : Nat) : Engine := s.engines.get engineDefault (r * 24 + e)
def State.setEngine (s : State) (r e : Nat) (x : Engine) : State :=
  { s with engines := s.engines.set engineDefault (r * 24 + e) x }

def Engine.latch (g : Engine) (k : Nat) : Latch :=
  match k with | 0 => g.vl0 | 1 => g.vl1 | 2 => g.vl2 | _ => g.vl3
def Engine.setLatch (g : Engine) (k : Nat) (l : Latch) : Engine :=
  match k with | 0 => { g with vl0 := l } | 1 => { g with vl1 := l } | 2 => { g with vl2 := l } | _ => { g with vl3 := l }
def Engine.counter (g : Engine) (k : Nat) : BitVec 16 :=
  match k with | 0 => g.c0 | 1 => g.c1 | 2 => g.c2 | _ => g.c3
def Engine.setCounter (g : Engine) (k : Nat) (v : BitVec 16) : Engine :=
  match k with | 0 => { g with c0 := v } | 1 => { g with c1 := v } | 2 => { g with c2 := v } | _ => { g with c3 := v }

/-- The latency L of an engine (R180). -/
def State.engineL (s : State) (r e : Nat) : Nat := if s.flag (Reg.SE_CFGe_FLUX_ONLY r e) then 36 else 48

/-- Staging slots in use on a Rank, and by the engines of one shot. -/
def Engine.slotsHeld (g : Engine) : Nat := g.vl0.slots + g.vl1.slots + g.vl2.slots + g.vl3.slots
def State.stagingInUse (s : State) (r : Nat) : Nat :=
  (List.range 24).foldl (fun n e => n + (s.engine r e).slotsHeld) 0
def State.stagingOf (s : State) (r uid : Nat) : Nat :=
  (List.range 24).foldl (fun n e =>
    n + if (s.engine r e).phase ≠ .idle ∧ (s.engine r e).shot = uid then (s.engine r e).slotsHeld else 0) 0

/-! ### Stores -/

def microDefault (_ : Nat) : Cell 32 := ⟨0, false⟩
def nanoDefault (_ : Nat) : Cell 256 := ⟨0, false⟩
def State.microWord (s : State) (r e a : Nat) : Cell 32 := s.micro.get microDefault ((r * 24 + e) * 8192 + a)
def State.nanoWord (s : State) (r a : Nat) : Cell 256 := s.nano.get nanoDefault (r * 65536 + a)

/-- Words of 4 bytes of a Rank's waveform cache: 4 to each 16-byte unit (R218). -/
def cacheWords : Nat := 6291456
def State.cacheWord (s : State) (r w : Nat) : Cell 32 := s.cache.get microDefault (r * cacheWords + w)

/-! ### Output registers of a Rank -/

/-- RF lines of a Rank: DRV line d is d, the RO_TX of feedline f is 16 + f. -/
def lineKey (r l : Nat) : Nat := r * 18 + l
def lineDefault (_ : Nat) : Line := ⟨true, 0, 4, [], none⟩
def State.line (s : State) (r l : Nat) : Line := s.lines.get lineDefault (lineKey r l)
def State.setLine (s : State) (r l : Nat) (x : Line) : State := { s with lines := s.lines.set lineDefault (lineKey r l) x }
/-- The control register of an RF line. -/
def lineCtrl (r l : Nat) : Nat := if l < 16 then Reg.DRV_CTRLd r l else Reg.DRV_ROTX_CTRLf r (l - 16)
/-- The four registers of an RF line lie 4 bytes apart: CTRL, LIM, STAT, CAL. -/
def lineLim (r l : Nat) : Nat := lineCtrl r l + 4
def lineStat (r l : Nat) : Nat := lineCtrl r l + 8
def lineCal (r l : Nat) : Nat := lineCtrl r l + 12

def mrkMuteDefault (_ : Nat) : MrkMute := ⟨0xFF, []⟩
def flatDefault (_ : Nat) : BitVec 16 := 0x4000

def ffxDefault (_ : Nat) : Ffx :=
  { x := 0, s0 := 0, s1 := 0, a0 := 0, k0 := 0, a1 := 0, k1 := 0, span := 0, lim := 0xCCD, valPend := none, pdPend := [],
    limPend := [], range := none, hold := none, quiet := false, standbyX := 0, wasClear := true }
def biaDefault (_ : Nat) : Bia :=
  { code := 0, span := 2, lim := 0x10000, last := none, valPend := none, limPend := [], range := none, hold := none,
    quiet := false, clrAt := none }
def State.ffxAt (s : State) (r k : Nat) : Ffx := s.ffx.get ffxDefault (r * 32 + k)
def State.setFfx (s : State) (r k : Nat) (x : Ffx) : State := { s with ffx := s.ffx.set ffxDefault (r * 32 + k) x }
def State.biaAt (s : State) (r k : Nat) : Bia := s.bia.get biaDefault (r * 32 + k)
def State.setBia (s : State) (r k : Nat) (x : Bia) : State := { s with bia := s.bia.set biaDefault (r * 32 + k) x }

/-! ### Signed numbers -/

/-- The signed value of the low w bits of a number. -/
def signed (w n : Nat) : Int := if n % 2 ^ w < 2 ^ (w - 1) then (n % 2 ^ w : Nat) else (n % 2 ^ w : Nat) - (2 ^ w : Nat)

/-- The low w bits of an integer. -/
def unsigned (w : Nat) (i : Int) : Nat := (i % (2 ^ w : Nat)).toNat

/-- Arithmetic shift right. -/
def asr (i : Int) (n : Nat) : Int := i / (2 ^ n : Nat)

/-- Clamp to a range. -/
def clampTo (lo hi i : Int) : Int := if i < lo then lo else if hi < i then hi else i

/-- Take a meaning: the event happens if its condition holds; otherwise nothing happens. (DESIGN CHOICE, log 104.) -/
def happen (g : Bool) (s t : State) : Host.Outcome State Fault Refusal := .next (if g then t else s)

end Sys2Proof.Machine
end

