-- ==== Sys2Proof/Machine/Memory.lean ====
section
/-!
DEFINITION. The Record Store (11): addresses and regions, codewords with their errors and poison, the error log, scrubbing and
error injection. A codeword is named by its address, RSA div 8.
-/
namespace Sys2Proof.Machine

/-! ### Addresses (R375-R377) -/

def wordDefault (_ : Nat) : Codeword := ⟨0, false, 0⟩
def State.memAt (s : State) (w : Nat) : Codeword := s.mem.get wordDefault w
def State.setMem (s : State) (w : Nat) (c : Codeword) : State := { s with mem := s.mem.set wordDefault w c }

/-- The stack of a codeword (R375). -/
def State.stackOf (s : State) (w : Nat) : Nat := w / 32 % s.part.stacks

/-- Where Rank n's region and the pool begin (Table 11-1). -/
def rankRegion (n : Nat) : Nat := 0x0C000000 + n * 0x02000000
def poolBase (p : Part) : Nat := rankRegion p.ranks

/-- Pool size in units of 64 KiB (R377). -/
def poolUnits (p : Part) : Nat :=
  match p with | .lq8_2 => 1044480 | .lq8_4 => 2092032 | .lq8_8 => 2089984

/-- Codewords of the Record Store. -/
def memWords (p : Part) : Nat := (poolBase p + poolUnits p * 65536) / 8

/-- Codeword addresses of the copies of Table 11-2. -/
def cacheCopy (r w : Nat) : Nat := rankRegion r / 8 + w
def nanoCopy (r a : Nat) : Nat := (rankRegion r + 0x1800000) / 8 + a * 4
def microCopy (r e a : Nat) : Nat := (rankRegion r + 0x1A00000 + e * 0x8000) / 8 + a / 2
def saveArea (r e : Nat) : Nat := (rankRegion r + 0x1AC0000 + e * 0x80) / 8

/-- The Rank whose region holds a codeword, with the byte offset in it. -/
def State.regionRank (s : State) (w : Nat) : Option (Nat × Nat) :=
  if w * 8 < 0x0C000000 ∨ poolBase s.part ≤ w * 8 then none
  else some ((w * 8 - 0x0C000000) / 0x02000000, (w * 8 - 0x0C000000) % 0x02000000)

/-- REGION of the error log (Table 11-9); the reserved end of a Rank's region is logged as save area. -/
def State.regionCode (s : State) (w : Nat) : Nat :=
  match s.regionRank w with
  | some (_, o) => if o < 0x1800000 then 2 else if o < 0x1A00000 then 3 else if o < 0x1AC0000 then 4 else 5
  | none => if w * 8 < 0x08000000 then 0 else if w * 8 < 0x0C000000 then 1 else 6

/-! ### The error log (R390) -/

/-- KIND and SOURCE of an entry (Table 11-9). -/
def kindCe1 : Nat := 1
def kindCe2 : Nat := 2
def kindUe : Nat := 3
def kindRepeat : Nat := 4
def kindThreshold : Nat := 5
def kindHoldingLost : Nat := 6
def srcScrub : Nat := 0
def srcRank : Nat := 1
def srcDelivery : Nat := 2
def srcRecovery : Nat := 4

/-- A new entry: the log holds the latest 16 (R390). -/
def State.logError (s : State) (kind source rank stack region rsa : Nat) : State :=
  let n := s.get Reg.BRD_MEM_LOGSTAT_COUNT
  let i := if n = 0 then 0 else (s.get Reg.BRD_MEM_LOGSTAT_NEWEST + 1) % 16
  let w0 := 2 ^ 31 + kind * 2 ^ 28 + source * 2 ^ 24 + rank * 2 ^ 20 + stack * 2 ^ 18 + region * 2 ^ 15
  let s1 := ((s.wr (Reg.BRD_MEM_LOGe_W0 i) (BitVec.ofNat 32 w0)).put64 (Reg.BRD_MEM_LOGe_RSA_LO i) rsa).put64
    (Reg.BRD_MEM_LOGe_EPOCH_LO i) s.epoch.toNat
  let s2 := s1.put Reg.BRD_MEM_LOGSTAT_NEWEST i
  let s3 := if n = 16 then s2.bump Reg.BRD_MEM_LOGSTAT_LOST else s2.put Reg.BRD_MEM_LOGSTAT_COUNT (n + 1)
  s3.event evtMemory

/-- A write of BRD_MEM_CTRL (Table 11-7). -/
def clearLog (s : State) : State :=
  ((List.range 16).foldl (fun s e => s.put (Reg.BRD_MEM_LOGe_W0_V e) 0) s).wr Reg.BRD_MEM_LOGSTAT 0
def clearMemStats (s : State) : State :=
  (List.range 4).foldl (fun s k => (((s.wr (Reg.BRD_MEM_CNTs_CE1 k) 0).wr (Reg.BRD_MEM_CNTs_CE2 k) 0).wr
    (Reg.BRD_MEM_CNTs_UE k) 0).wr (Reg.BRD_MEM_CNTs_POISON k) 0) s
def writeMemCtrl (s : State) (v : Word) : WriteOut :=
  let s1 := if wordBits v 1 1 = 1 then clearLog s else s
  taken (if wordBits v 0 0 = 1 then clearMemStats s1 else s1)

/-! ### Codewords (R379-R389) -/

/-- The data of a poisoned word (R380). -/
def poisonData (cause : Nat) : BitVec 64 := BitVec.ofNat 64 (0xB0B0B0B0B0B0B000 + cause)
def causeMemory : Nat := 1
def causeHost : Nat := 2

/-- The cause of a poisoned word, and of what derives from two (R380). -/
def poisonCause (d : Nat) : Nat := d % 4
def joinCause (a b : Option Nat) : Option Nat :=
  match a, b with
  | none, b => b
  | some a, none => some a
  | some a, some b => some (if a = b then a else causeMemory)

def noneDefault (_ : Nat) : Option Nat := none
def zeroDefault (_ : Nat) : Nat := 0

/-- A correction on a stack counts towards its THRESHOLD entry of this pass (R390). (DEDUCED, log 89.) -/
def State.countCe (s : State) (stack : Nat) : State :=
  let n := s.passCe.get zeroDefault stack + 1
  let s1 := { s with passCe := s.passCe.set zeroDefault stack n }
  if n = s.get Reg.BRD_RS_CFG_CE_THR then s1.logError kindThreshold srcScrub 0 stack (s.regionCode 0) 0 else s1

/-- A block or a nanoword whose copy is bad is no longer resident (R385). -/
def nanoResDefault (_ : Nat) : Bool := false
def State.dropResidency (s : State) (w : Nat) : State :=
  match s.regionRank w with
  | none => s
  | some (r, o) =>
    if o < 0x1800000 then s.put ⟨Reg.RNK_CACHE_RESw r (o / 16384 / 32), o / 16384 % 32, o / 16384 % 32⟩ 0
    else if o < 0x1A00000 then
      { s with nanoRes := s.nanoRes.set nanoResDefault (r * 65536 + (o - 0x1800000) / 32) false }
    else s

/-- A read of a codeword (R381): corrections are written back, counted and logged; an uncorrectable word becomes poisoned in
place; what a word with more than three inverted bits reads as is a free value (R379): the error is detected, or some data
returns. -/
def State.readWord (s : State) (w source rank : Nat) : State × Codeword :=
  let c := s.memAt w
  let k := s.stackOf w
  let g := s.regionCode w
  if c.flips = 0 then
    if c.poison then (s.bump (whole (Reg.BRD_MEM_CNTs_POISON k)), c) else (s, c)
  else if c.flips ≤ 2 then
    let again := match s.corrected.get noneDefault w with
      | none => false
      | some p => decide (s.scrubPass ≤ p + 1)
    let s1 := s.bump (whole (if c.flips = 1 then Reg.BRD_MEM_CNTs_CE1 k else Reg.BRD_MEM_CNTs_CE2 k))
    let s2 :=
      if again then s1.logError kindRepeat source rank k g (w * 8)
      else if c.flips = 2 then s1.logError kindCe2 source rank k g (w * 8)
      else if s.flag Reg.BRD_RS_CFG_LOG_CE1 then s1.logError kindCe1 source rank k g (w * 8) else s1
    let good : Codeword := ⟨c.data, c.poison, 0⟩
    let s3 := { (s2.setMem w good).countCe k with
      corrected := s.corrected.set noneDefault w (some s.scrubPass) }
    if c.poison then (s3.bump (whole (Reg.BRD_MEM_CNTs_POISON k)), good) else (s3, good)
  else if 4 ≤ c.flips ∧ (Config.beyondCode s.freeCtr).isSome then
    let got : Codeword := ⟨(Config.beyondCode s.freeCtr).getD 0, false, 0⟩
    ({ (s.setMem w got) with freeCtr := s.freeCtr + 1 }, got)
  else
    let bad : Codeword := ⟨poisonData causeMemory, true, 0⟩
    let s1 := (s.bump (whole (Reg.BRD_MEM_CNTs_UE k))).logError kindUe source rank k g (w * 8)
    (((s1.setMem w bad).dropResidency w).bump (whole (Reg.BRD_MEM_CNTs_POISON k)), bad)

/-- Read consecutive codewords. -/
def State.readWords (s : State) (source rank : Nat) : List Nat → State × List Codeword
  | [] => (s, [])
  | w :: t =>
    let r := s.readWord w source rank
    let q := State.readWords r.1 source rank t
    (q.1, r.2 :: q.2)

/-- A write of a codeword: it replaces data, poison and errors (R386). -/
def State.writeWord (s : State) (w : Nat) (d : Option (BitVec 64)) : State :=
  match d with
  | some x => s.setMem w ⟨x, false, 0⟩
  | none => s.setMem w ⟨poisonData causeHost, true, 0⟩

/-! ### Scrubbing (R387-R389) -/

/-- PROGRESS: the share of the pass done, in 1/256. -/
def State.scrubProgress (s : State) : Nat := s.scrubPos * 256 / memWords s.part

/-- SCRUB_READ: the next codeword in address order. -/
def scrubRead (s : State) : State :=
  let s1 := (s.readWord s.scrubPos srcScrub 0).1
  let s2 := { s1 with scrubPos := s.scrubPos + 1 }
  s2.put Reg.BRD_RS_STAT_PROGRESS s2.scrubProgress

def execScrubRead (s : State) : Host.Outcome State Fault Refusal :=
  happen (s.flag Reg.BRD_RS_CFG_SCRUB_EN && decide (s.scrubPos < memWords s.part)) s (scrubRead s)

/-- SCRUB_PASS_END (R387). -/
def scrubPassEnd (s : State) : State :=
  { ((s.put Reg.BRD_RS_STAT_PROGRESS 0).bump Reg.BRD_RS_STAT_PASSES) with
    scrubPos := 0, scrubPass := s.scrubPass + 1, passCe := [] }

def execScrubPassEnd (s : State) : Host.Outcome State Fault Refusal :=
  happen (s.flag Reg.BRD_RS_CFG_SCRUB_EN && decide (memWords s.part ≤ s.scrubPos)) s (scrubPassEnd s)

/-! ### Error injection (R391) -/

/-- NBITS: 0 acts as 1. -/
def State.injectBits (s : State) : Nat := max 1 (s.get Reg.BRD_MEM_INJ_NBITS)

/-- The codewords of a copy of the n-th held entry (R385). -/
def holdingCopy (n copy : Nat) : List Nat := (List.range 4).map fun i => Config.holdingPlace n copy % 0x400000 * 4 + i

/-- Entries held: each has one write of its bytes 8-31. -/
def heldEntries (l : List Held) : Nat :=
  (l.filter fun h => match h.out with | .mem _ len _ => decide (len = 24) | .msix _ => false).length

/-- An injected error in a codeword that holds a copy of a held entry is kept for the entry's delivery. -/
def strikeHolding (s : State) (w : Nat) : State :=
  if (List.range (heldEntries s.holding)).any fun n => decide (w ∈ holdingCopy n 0 ++ holdingCopy n 1) then
    { s with holdHits := w :: s.holdHits }
  else s

/-- Invert NBITS bits of the codeword at BRD_MEM_INJ_ADDR; an address beyond the store names no codeword. Which bits are
inverted is not stated, so how many are wrong after a second injection into one word is a free value. -/
def injectError (s : State) : State :=
  let w := s.get64 Reg.BRD_MEM_INJ_ADDR_LO / 8
  let c := s.memAt w
  if memWords s.part ≤ w then s
  else if c.flips = 0 then (strikeHolding s w).setMem w { c with flips := s.injectBits }
  else { ((strikeHolding s w).setMem w { c with flips := Config.mergedFlips s.freeCtr }) with freeCtr := s.freeCtr + 1 }

/-- A write of BRD_MEM_INJ. (DEDUCED, log 90.) -/
def writeInject (s : State) (v : Word) : WriteOut :=
  if wordBits v 31 31 = 1 then
    if s.mode = .test then taken (injectError (s.put Reg.BRD_MEM_INJ_NBITS (wordBits v 1 0))) else refusedBy s 1
  else taken (s.put Reg.BRD_MEM_INJ_NBITS (wordBits v 1 0))

end Sys2Proof.Machine
end

