-- ==== Sys2Proof/Machine/Rings.lean ====
section
/-!
DEFINITION. The host interface (03): ring configuration, doorbells, fetches and arrivals, completion entries, interrupts, and
delivery while the link cannot take it.
-/
namespace Sys2Proof.Machine

/-! ### Ring configuration (R112-R114, R535) -/

/-- The fetches of a list whose descriptor has not arrived. -/
def unfetched (q : List Fetch) : List Fetch := q.filter fun f => f.desc.isNone

/-- Fetches lapse: they are never decided and their credit is released (R114). -/
def lapse (s : State) (sq : Nat) (p : Fetch → Bool) : State :=
  let q := s.sq sq
  let gone := q.queue.filter p
  let s1 := s.payOwed (s.cqOf sq) (2 * gone.length)
  s1.setSq sq { q with
    queue := q.queue.filter (fun f => !p f),
    barrier := match q.barrier with
      | some u => if gone.any (fun f => decide (f.uid = u)) then none else some u
      | none => none }

/-- A write of PCI_SQ_CFG that clears EN (R112, R114). -/
def disableSq (s : State) (n : Nat) : WriteOut :=
  taken ((lapse s n fun f => f.desc.isNone).put (Reg.PCI_SQ_CFG_EN n) 0)

/-- Some enabled SQ names a CQ. -/
def State.cqNamed (s : State) (n : Nat) : Bool := (List.range 64).any fun q => s.sqEn q && decide (s.cqOf q = n)

/-- A write of PCI_CQ_CFG that clears EN (R114). -/
def disableCq (s : State) (n : Nat) : WriteOut :=
  if (s.cq n).owed ≠ 0 ∨ s.cqNamed n then refusedBy s 8 else taken (s.put (Reg.PCI_CQ_CFG_EN n) 0)

/-- The writable bits of PCI_SQ_CFG and PCI_CQ_CFG. -/
def storeSqCfg (s : State) (n : Nat) (v : Word) : State := s.wr (Reg.PCI_SQ_CFG n) (v &&& 0x801F003F)
def storeCqCfg (s : State) (n : Nat) (v : Word) : State := s.wr (Reg.PCI_CQ_CFG n) (v &&& 0x801F00FF)

/-- SIZE_LOG2 of a written word lies outside 4-16. -/
def badSize (v : Word) : Bool := decide (wordBits v 20 16 < 4 ∨ 16 < wordBits v 20 16)

/-- A write of PCI_SQ_CFG (R112, R113, R535). (DEDUCED, log 39.) -/
def writeSqCfg (s : State) (n : Nat) (v : Word) : WriteOut :=
  let en := decide (wordBits v 31 31 = 1)
  if s.sqEn n then (if en then refusedBy s 7 else disableSq s n)
  else if badSize v then refusedBy s 0xB
  else if en then
    (if s.cqEn (wordBits v 5 0) then
      let s1 := storeSqCfg s n v
      taken (s1.setSq n { s1.sq n with head := 0, tail := 0, fetchPos := 0, err := none })
    else ⟨storeSqCfg s n (v &&& 0x7FFFFFFF), some 0xA⟩)
  else taken (storeSqCfg s n v)

/-- A write of PCI_CQ_CFG (R112, R113, R535). -/
def writeCqCfg (s : State) (n : Nat) (v : Word) : WriteOut :=
  let en := decide (wordBits v 31 31 = 1)
  if s.cqEn n then (if en then refusedBy s 7 else disableCq s n)
  else if badSize v then refusedBy s 0xB
  else if wordBits v 7 0 < 2 then refusedBy s 9
  else
    let s1 := storeCqCfg s n v
    taken (if en then s1.setCq n { s1.cq n with head := 0, tail := 0, pass := 0 } else s1)

/-- A write of another ring register, allowed only while EN is 0 (R112). -/
def writeRingPlain (s : State) (en : Bool) (addr : Nat) (mask v : Word) : WriteOut :=
  if en then refusedBy s 7 else taken (s.wr addr (v &&& mask))

/-! ### Doorbells (R118-R121) -/

/-- An SQ tail doorbell (R120). (DEDUCED, log 40.) -/
def sqDoorbell (s : State) (rid n : Nat) (v : Word) : State :=
  let q := s.sq n
  let size := s.sqSize n
  let t := wordBits v 15 0
  if !s.sqEn n then s.accessError rid 0xC (n * 0x1000)
  else if q.err.isSome then s
  else if size ≤ t then s.sqError n 0x84
  else if ringDist size (q.head + size - 1) q.tail < ringDist size t q.tail then s.sqError n 0x85
  else s.setSq n { q with tail := t }

/-- A CQ head doorbell (R121). -/
def cqDoorbell (s : State) (rid n : Nat) (v : Word) : State :=
  let q := s.cq n
  let size := s.cqSize n
  let h := wordBits v 15 0
  if !s.cqEn n then s.accessError rid 0xC (n * 0x1000 + 0x40)
  else if size ≤ h ∨ ringDist size q.tail q.head < ringDist size h q.head then s.accessError rid 6 (n * 0x1000 + 0x40)
  else s.setCq n { q with head := h }

/-- The doorbell pages are 0-63 (R118). -/
def execSqTailDoorbell (rid n : Nat) (value : BitVec 32) (s : State) : Host.Outcome State Fault Refusal :=
  if n < 64 then .next (sqDoorbell s rid n value) else .fault .noSuchAddress

def execCqHeadDoorbell (rid n : Nat) (value : BitVec 32) (s : State) : Host.Outcome State Fault Refusal :=
  if n < 64 then .next (cqDoorbell s rid n value) else .fault .noSuchAddress

/-! ### Fetching and arrival (R123-R127, R102) -/

/-- Every entry owed to every CQ. -/
def State.owedAll (s : State) : Nat := (List.range 64).foldl (fun a n => a + (s.cq n).owed) 0

/-- The holding region has room for one more descriptor's entries (R102). -/
def State.holdRoom (s : State) : Bool := decide (s.holding.length + s.owedAll + 2 ≤ 2097152)

/-- A descriptor of so many slots may be fetched from an SQ now (R123, R124, R127, R102). -/
def State.canFetch (s : State) (sq slots : Nat) : Bool :=
  let q := s.sq sq
  decide (sq < 64) && s.sqEn sq && q.err.isNone && q.barrier.isNone && decide (1 ≤ slots) && decide (slots ≤ 16) &&
    decide (slots ≤ ringDist (s.sqSize sq) q.tail q.fetchPos) && decide (2 ≤ s.cqCredit (s.cqOf sq)) &&
    s.holdRoom && s.busMaster && !s.dmaStopped && decide (s.mode ≠ .tripped)

/-- DESCRIPTOR_FETCH: the read requests of the next descriptor are issued and its two entries are owed. -/
def issueFetch (s : State) (sq slots : Nat) (barrier : Bool) : State :=
  let q := s.sq sq
  let cq := s.cqOf sq
  let s1 := s.setSq sq { q with
    fetchPos := (q.fetchPos + slots) % s.sqSize sq,
    queue := q.queue ++ [⟨s.nextUid, slots, barrier, none⟩],
    barrier := if barrier then some s.nextUid else q.barrier }
  let s2 := s1.setCq cq { s1.cq cq with owed := (s1.cq cq).owed + 2 }
  { s2 with nextUid := s.nextUid + 1 }

def execDescriptorFetch (sq slots : Nat) (barrier : Bool) (s : State) : Host.Outcome State Fault Refusal :=
  happen (s.canFetch sq slots) s (issueFetch s sq slots barrier)

/-- Slots of the fetches from the first that has not arrived on. -/
def slotsNotArrived : List Fetch → Nat
  | [] => 0
  | f :: t => if f.desc.isSome then slotsNotArrived t else (f :: t).foldl (fun a g => a + g.slots) 0

/-- The fetch of a descriptor is under way and its header agrees with what was fetched. -/
def State.fetching (s : State) (sq uid : Nat) : Option Fetch :=
  (s.sq sq).queue.find? fun f => decide (f.uid = uid) && f.desc.isNone

/-- DESCRIPTOR_ARRIVAL: the last byte has been received; the arrival epoch is fixed (R125). -/
def arrive (s : State) (sq uid : Nat) (base : BitVec 512) (ext : List (BitVec 512)) : State :=
  let q := s.sq sq
  let d : Desc := ⟨uid, sq, base, ext, s.epoch.toNat, s.now⟩
  let queue := q.queue.map fun f => if f.uid = uid then { f with desc := some d } else f
  s.setSq sq { q with
    queue := queue,
    head := (q.fetchPos + s.sqSize sq - slotsNotArrived queue % s.sqSize sq) % s.sqSize sq }

def execDescriptorArrival (sq uid : Nat) (base : BitVec 512) (ext : List (BitVec 512)) (s : State) :
    Host.Outcome State Fault Refusal :=
  happen (match s.fetching sq uid with
    | none => false
    | some f => decide (f.slots = ext.length + 1) && decide (slotField base 8 4 = ext.length) &&
        decide (f.barrier = decide (slotField base 23 1 = 1))) s (arrive s sq uid base ext)

/-- The fetches after a given one, and that one. -/
def fromUid (uid : Nat) : List Fetch → List Fetch
  | [] => []
  | f :: t => if f.uid = uid then f :: t else fromUid uid t

/-- The bit of PCI_DMA_ERR of a failed descriptor read: UR, CA, timeout, poison (Table 03-13, Table 03-18). -/
def dmaErrBit (kind : Nat) : Fld := ⟨Reg.PCI_DMA_ERR, kind, kind⟩

/-- FETCH_ERROR (R137): the failing descriptor and every later one of the SQ lapse. (DEDUCED, log 42.) -/
def fetchError (s : State) (sq uid kind : Nat) : State :=
  let after := (fromUid uid (s.sq sq).queue).map Fetch.uid
  (((lapse s sq fun f => decide (f.uid ∈ after)).put (dmaErrBit kind) 1)).sqError sq (0x80 + kind)

def execFetchError (sq uid kind : Nat) (s : State) : Host.Outcome State Fault Refusal :=
  happen ((s.fetching sq uid).isSome && decide (kind < 4)) s (fetchError s sq uid kind)

/-! ### Decisions and entries -/

/-- The oldest descriptor of an SQ that waits for its decision, once it has arrived. -/
def State.front (s : State) (sq : Nat) : Option Desc :=
  match (s.sq sq).queue with
  | [] => none
  | f :: _ => f.desc

/-- A descriptor leaves the queue of its SQ at its decision. -/
def popFront (s : State) (sq : Nat) : State := s.setSq sq { s.sq sq with queue := (s.sq sq).queue.drop 1 }

/-- A barrier descriptor has received its final entry or its decline entry (R127). -/
def clearBarrier (s : State) (sq uid : Nat) : State :=
  if (s.sq sq).barrier = some uid then s.setSq sq { s.sq sq with barrier := none } else s

/-- The longest time from arrival to decision (Table 04-14). -/
def noteDecision (s : State) (d : Desc) : State :=
  let t := min (s.now - d.arrivalAt) 0xFFFF
  if s.get Reg.CLK_BACKLOG_MAX_DECISION < t then s.put Reg.CLK_BACKLOG_MAX_DECISION t else s

/-- The admission entry of an accepted descriptor (R25, Table 03-17). -/
def acceptEntry (s : State) (d : Desc) : State :=
  let cq := s.cqOf d.sq
  let s1 := (noteDecision (popFront s d.sq) d).add64 Reg.CLK_ACCEPT_LO 1
  (s1.writeEntry cq 1 0 d.sq 0xF d.tag 0 s.stamp d.irqAdmit false 0).payOwed cq 1

/-- The admission entry of a declined descriptor: no final entry follows (R124), and the Clock registers record it. -/
def decline (s : State) (d : Desc) (code detail : Nat) : State :=
  let cq := s.cqOf d.sq
  let s1 := (noteDecision (popFront s d.sq) d).bump (whole (Reg.CLK_DECLINE_CNTk (code - 0x40)))
  let s2 := s1.wr Reg.CLK_LAST_DECLINE (BitVec.ofNat 32 (code * 2 ^ 24 + d.sq * 2 ^ 16 + d.tag))
  clearBarrier ((s2.writeEntry cq 1 code d.sq detail d.tag 0 s.stamp d.irqAdmit false 0).payOwed cq 2) d.sq d.uid

/-- A final entry: `endAt` is the tick from which R26 counts its limit, which only R100 can exceed. -/
def finalEntry (s : State) (d : Desc) (status detail : Nat) (flags : List Nat) (stamp endAt : Nat) : State :=
  let cq := s.cqOf d.sq
  let late := decide (endAt + 5000 < s.now)
  let fl := flagWord (if late then flLate :: flags else flags)
  clearBarrier ((s.writeEntry cq 2 status d.sq detail d.tag fl stamp d.irqFinal true (endAt + 5000)).payOwed cq 1) d.sq d.uid

/-! ### Interrupts (R134, R135) -/

/-- The time condition of a CQ holds in this tick (R134). -/
def State.coalesceDue (s : State) (n : Nat) : Bool :=
  let q := s.cq n
  let t := s.get (Reg.PCI_CQ_COAL_TIME n)
  decide (n < 64) && decide (s.epoch.toNat % 256 = 0) && decide (t ≠ 0) && decide (q.count ≠ 0) &&
    decide (q.oldest + t * 256 ≤ s.now)

def execCoalesceTimeout (n : Nat) (s : State) : Host.Outcome State Fault Refusal := happen (s.coalesceDue n) s (s.cqRaise n)

/-- A write of an MSI-X vector's control word: unmasking a vector with its Pending Bit set sends its message (R135). -/
def writeMsixCtrl (s : State) (v : Nat) (w : Word) : WriteOut :=
  let s1 := s.wr (Reg.PCI_MSIXv_CTRL v) (w &&& 1)
  if wordBits w 0 0 = 0 ∧ s1.flag (pendingBit v) then
    taken ((s1.put (pendingBit v) 0).send (.msix v) false 0)
  else taken s1

/-- A write of BRD_EVT_EN (R110). -/
def writeEvtEn (s : State) (v : Word) : WriteOut :=
  let old := s.rd Reg.BRD_EVT_EN
  let new := v &&& 0x3FFF
  let s1 := s.wr Reg.BRD_EVT_EN new
  taken (if (s.rd Reg.BRD_EVT &&& new &&& ~~~ old) ≠ 0 then s1.raiseVector 0 else s1)

/-! ### Delivery while the link cannot take it (R100) -/

/-- A held entry goes out; a final entry later than R26 allows carries LATE_DELIVERY (bit 9 of FLAGS, bit 57 of bytes
0-7). -/
def Held.release (h : Held) (now : Nat) : Posted :=
  match h.out with
  | .mem a len data => .mem a len (if h.final ∧ h.due < now ∧ data / 2 ^ 57 % 2 = 0 then data + 2 ^ 57 else data)
  | .msix v => .msix v

/-- Read a copy of the n-th held entry: is it uncorrectable? A codeword that no error struck reads as it was written. -/
def readCopy (s : State) (n copy : Nat) : State × Bool :=
  let r := s.readWords srcDelivery 0 ((holdingCopy n copy).filter fun w => decide (w ∈ s.holdHits))
  (r.1, r.2.any Codeword.poison)

/-- Is the n-th held entry lost? The second copy is used if the first is uncorrectable (R385). -/
def readHeld (s : State) (n : Nat) : State × Bool :=
  let a := readCopy s n 0
  if !a.2 then a
  else
    let b := readCopy a.1 n 1
    if b.2 then
      let w := (holdingCopy n 0).headD 0
      (b.1.logError kindHoldingLost srcDelivery 0 (b.1.stackOf w) (b.1.regionCode w) (w * 8), true)
    else b

/-- Deliver held writes in order, when errors struck some of them: n entries have begun, and `gone` says that the last is lost. -/
def deliverHeld (s : State) (n : Nat) (gone : Bool) : List Held → State
  | [] => s
  | h :: t =>
    let out (s : State) : State := { s with posted := h.release s.now :: s.posted }
    match h.out with
    | .msix _ => deliverHeld (out s) n gone t
    | .mem _ len _ =>
      if len = 24 then
        let q := readHeld s n
        deliverHeld (if q.2 then q.1 else out q.1) (n + 1) q.2 t
      else deliverHeld (if gone then s else out s) n gone t

/-- Deliver what was held, in order. -/
def flushHolding (s : State) : State :=
  if s.dmaStopped then s
  else if s.holdHits = [] then
    { s with holding := [], posted := (s.holding.map fun h => h.release s.now).reverse ++ s.posted }
  else { (deliverHeld { s with holding := [] } 0 false s.holding) with holdHits := [] }

/-- BUS_MASTER_ENABLE_WRITE (R100). (DEDUCED, log 43.) -/
def writeBusMaster (s : State) (enable : Bool) : State :=
  if enable then flushHolding { s with busMaster := true }
  else if s.busMaster then (({ s with busMaster := false }).put Reg.PCI_DMA_ERR_LATE_DELIVERY 1).event evtLink
  else s

def execBusMasterEnableWrite (enable : Bool) (s : State) : Host.Outcome State Fault Refusal :=
  .next (writeBusMaster s enable)

/-- The stream capacity of a link in MB/s (Table 03-3). -/
def linkCapacity (rate width : Nat) : Nat :=
  (if rate = 3 then 100000 else if rate = 2 then 50000 else if rate = 1 then 25000 else 0) / (if width = 16 then 1 else 2)

/-- The link has trained at a rate and width (Table 03-13, R98). -/
def setLink (s : State) (rate width : Nat) (flit : Bool) : State :=
  ((((s.put Reg.PCI_LINK_RATE rate).put Reg.PCI_LINK_WIDTH width).put Reg.PCI_LINK_FLIT (if flit then 1 else 0)).put
    Reg.PCI_LINK_UP 1).wr Reg.PCI_STREAM_CAP (BitVec.ofNat 32 (linkCapacity rate width))

/-- A link the part can train (Table 03-1). (DEDUCED, log 44.) -/
def linkOk (rate width : Nat) (flit : Bool) : Bool :=
  decide (1 ≤ rate) && decide (rate ≤ 3) && (decide (width = 8) || decide (width = 16)) && (flit || decide (rate ≤ 2))

end Sys2Proof.Machine
end

