-- ==== Sys2Proof/Machine/Tones.lean ====
section
/-!
DEFINITION. The demodulated tones (09, Demodulation): settings of the receive path and the frames that a change makes
invalid (R317, R318, R341).
-/
namespace Sys2Proof.Machine

/-- Tone k of Rank r. -/
def toneDefault (_ : Nat) : Tone :=
  { filt := 0, filtPend := [], hist := [], accI := 0, accQ := 0, past := [], badUntil := 0 }
def State.tone (s : State) (r k : Nat) : Tone := s.tones.get toneDefault (r * 32 + k)
def State.setTone (s : State) (r k : Nat) (t : Tone) : State := { s with tones := s.tones.set toneDefault (r * 32 + k) t }

/-- Feedline f of Rank r. -/
def feedDefault (_ : Nat) : Feed := ⟨0, [], 0, false, []⟩
def State.feed (s : State) (r f : Nat) : Feed := s.feeds.get feedDefault (r * 2 + f)
def State.setFeed (s : State) (r f : Nat) (x : Feed) : State := { s with feeds := s.feeds.set feedDefault (r * 2 + f) x }

/-- The epoch before which frames are invalid after a change of count c in this tick (R318): the frame that contains the
tick is the first; off a frame tick one frame is added; a count of 0 makes none invalid. -/
def badEnd (e old c : Nat) : Nat := if c = 0 then old else max old (e / 4 * 4 + 4 * (c + if e % 4 = 0 then 0 else 1))

/-- A change makes c frames of a tone invalid. -/
def State.spoilTone (s : State) (r k c : Nat) : State :=
  s.setTone r k { s.tone r k with badUntil := badEnd s.epoch.toNat (s.tone r k).badUntil c }

/-- The count of Table 09-2 for a tone's own changes: 2^FILT - 1. -/
def State.filtCount (s : State) (r k : Nat) : Nat := 2 ^ (s.tone r k).filt - 1

/-- A tone's VPH or FSLOT changed (Table 09-2). -/
def State.spoilOwn (s : State) (r k : Nat) : State := s.spoilTone r k (s.filtCount r k)

/-- The FREQ or PHOFS of a slot changed: every tone on it (Table 09-2). -/
def State.spoilSlot (s : State) (r f : Nat) : State :=
  (List.range 32).foldl (fun s k => if (s.port r (32 + k)).fslot = f then s.spoilOwn r k else s) s

/-- Set a frequency slot; a value that changes makes frames invalid. -/
def State.changeSlot (s : State) (r f : Nat) (x : Slot) : State :=
  if x = s.slot r f then s else (s.setSlot r f x).spoilSlot r f

/-- A mode change from STANDBY or CALIBRATE completes: 1,250 frames of every tone and of every capture (Table 09-2). -/
def State.spoilAll (s : State) : State :=
  (List.range s.part.ranks).foldl (fun s r =>
    (List.range 2).foldl (fun s f =>
      s.setFeed r f { s.feed r f with badUntil := badEnd s.epoch.toNat (s.feed r f).badUntil 1250 })
      ((List.range 32).foldl (fun s k => s.spoilTone r k 1250) s)) s

/-- A write of DMD_TONEk or DMD_RXCFGf: in force at a frame tick at least 64 t later (R341, Table 09-2). -/
def writeFilt (s : State) (r k : Nat) (v : Word) : WriteOut :=
  let s1 := s.put (Reg.DMD_TONEk_FILT r k) (wordBits v 1 0)
  taken (s1.setTone r k { s1.tone r k with filtPend := (s1.tone r k).filtPend ++ [(s.now + 64, wordBits v 1 0)] })
def writeGain (s : State) (r f : Nat) (v : Word) : WriteOut :=
  let s1 := s.put (Reg.DMD_RXCFGf_GAIN r f) (wordBits v 2 0)
  taken (s1.setFeed r f { s1.feed r f with gainPend := (s1.feed r f).gainPend ++ [(s.now + 64, wordBits v 2 0)] })

/-- FILT_EFFECT: the filter history is cleared; a value in force changes nothing (R318). -/
def filtEffect (s : State) (r k : Nat) : State :=
  let t := s.tone r k
  match t.filtPend with
  | [] => s
  | (_, v) :: rest =>
    if v = t.filt then s.setTone r k { t with filtPend := rest }
    else (s.setTone r k { t with filt := v, filtPend := rest, hist := [] }).spoilTone r k (2 ^ v - 1)

def execFiltEffect (r k : Nat) (s : State) : Host.Outcome State Fault Refusal :=
  happen (s.frameTick && (match (s.tone r k).filtPend with | [] => false | e :: _ => decide (e.1 ≤ s.now))) s (filtEffect s r k)

/-- GAIN_EFFECT: 16 frames of every tone of the feedline (Table 09-2). -/
def gainEffect (s : State) (r f : Nat) : State :=
  let x := s.feed r f
  match x.gainPend with
  | [] => s
  | (_, v) :: rest =>
    if v = x.gain then s.setFeed r f { x with gainPend := rest }
    else
      let s1 := s.setFeed r f { x with gain := v, gainPend := rest, badUntil := badEnd s.epoch.toNat x.badUntil 16 }
      (List.range 16).foldl (fun s k => s.spoilTone r (16 * f + k) 16) s1

def execGainEffect (r f : Nat) (s : State) : Host.Outcome State Fault Refusal :=
  happen (s.frameTick && (match (s.feed r f).gainPend with | [] => false | e :: _ => decide (e.1 ≤ s.now))) s (gainEffect s r f)

/-- A write of DMD_CTRL.STATS_CLR (Table 09-10). -/
def clearDmdStats (s : State) (r : Nat) : State :=
  (List.range 2).foldl (fun s f => s.put (Reg.DMD_RXSTATf_OVR r f) 0) (s.wr (Reg.DMD_INV r) 0)

end Sys2Proof.Machine
end

