-- ==== Sys2Proof/Machine/Drive.lean ====
section
/-!
DEFINITION. The RF outputs (07): the control registers of DRV, RO_TX and MRK and when a setting takes effect, the setup writes of
frequency slots and channels, and the arithmetic from an envelope to a DAC code.
-/
namespace Sys2Proof.Machine

/-! ### Output states and control registers (R265-R271) -/

/-- The states of Table 07-4; a line whose DAC current settles after a change of FSC is at zero differential (R271). -/
inductive LineState where
  | clear | standby | muted | live
  deriving DecidableEq, Repr

/-- The state of an RF line of a Rank: 0-15 the DRV lines, 16 and 17 the RO_TX. -/
def State.lineState (s : State) (r l : Nat) : LineState :=
  if s.flag ⟨lineCtrl r l, 31, 31⟩ ∧ (!s.clrNext ∨ (s.line r l).mute) then .clear
  else if s.mode = .standby ∨ (s.mode = .tripped ∧ !s.clrNext) then .standby
  else if (s.line r l).mute ∨ (s.line r l).settle.isSome ∨ s.mode = .calibrate then .muted
  else .live

def State.mrkMuteAt (s : State) (r : Nat) : MrkMute := s.mrkMute.get mrkMuteDefault r
def State.setMrkMute (s : State) (r : Nat) (m : MrkMute) : State :=
  { s with mrkMute := s.mrkMute.set mrkMuteDefault r m }

/-- MRK k of a Rank is Live. -/
def State.mrkLive (s : State) (r k : Nat) : Bool :=
  (s.clrNext || !s.flag (Reg.DRV_MRK_CTRL_CLEAR r)) && !((s.mrkMuteAt r).mask.testBit k) && decide (s.mode ≠ .standby) &&
    (s.clrNext || decide (s.mode ≠ .tripped))

/-- A live shot claims something that an output control register governs (R269). -/
def lineClaimed (s : State) (r l : Nat) : Bool :=
  s.claimed fun d =>
    if l < 16 then (d.ldc r).testBit (2 * l) || (d.ldc r).testBit (2 * l + 1)
    else if l = 16 then decide (d.tones r % 2 ^ 16 ≠ 0)
    else if l = 17 then decide (d.tones r / 2 ^ 16 ≠ 0)
    else decide (d.mrk r ≠ 0)

/-- A write of DRV_CTRLd or DRV_ROTX_CTRLf (R266, R268, R269). -/
def writeLineCtrl (s : State) (r l : Nat) (v : Word) : WriteOut :=
  if lineClaimed s r l then refusedBy s 4
  else
    let a := lineCtrl r l
    let released := s.flag ⟨a, 31, 31⟩
    let s1 := s.wr a (v &&& if l < 16 then 0x31 else 0x731)
    let n := s1.line r l
    let entry := (s.now + 64, decide (wordBits v 0 0 = 1), wordBits v 5 4, wordBits v 10 8)
    taken (s1.setLine r l { n with mute := released || n.mute, pend := n.pend ++ [entry] })

/-- A write of DRV_MRK_CTRL (R266, R268, R269). -/
def writeMrkCtrl (s : State) (r : Nat) (v : Word) : WriteOut :=
  if lineClaimed s r 18 then refusedBy s 4
  else
    let released := s.flag (Reg.DRV_MRK_CTRL_CLEAR r)
    let s1 := s.wr (Reg.DRV_MRK_CTRL r) (v &&& 0xFF)
    let m := s1.mrkMuteAt r
    taken (s1.setMrkMute r
      { mask := if released then 0xFF else m.mask, pend := m.pend ++ [(s.now + 64, wordBits v 7 0)] })

/-- The oldest waiting setting of a line or of the markers may take effect in this tick. (DEDUCED, log 73.) -/
def lineDue (s : State) (r l : Nat) : Bool :=
  s.frameTick &&
    if l < 18 then (match (s.line r l).pend with | [] => false | e :: _ => decide (e.1 ≤ s.now))
    else (match (s.mrkMuteAt r).pend with | [] => false | e :: _ => decide (e.1 ≤ s.now))

/-- LINE_SETTING_EFFECT (R268, R271): a change of FSC holds the line at zero differential for 5,000 t. -/
def lineEffect (s : State) (r l : Nat) : State :=
  if l < 18 then
    match (s.line r l).pend with
    | [] => s
    | (_, m, f, sh) :: t =>
      let n := s.line r l
      s.setLine r l { n with
        mute := m, fsc := f, shift := if l < 16 then n.shift else min sh 4, pend := t,
        settle := if f = n.fsc then n.settle else some (s.now + 5000) }
  else
    match (s.mrkMuteAt r).pend with
    | [] => s
    | (_, m) :: t => s.setMrkMute r ⟨m, t⟩

def execLineSettingEffect (r line : Nat) (s : State) : Host.Outcome State Fault Refusal :=
  happen (decide (r < s.part.ranks) && decide (line < 19) && lineDue s r line) s (lineEffect s r line)

/-- FSC_SETTLE_END (R271). -/
def execFscSettleEnd (r line : Nat) (s : State) : Host.Outcome State Fault Refusal :=
  happen (match (s.line r line).settle with | none => false | some t => decide (t ≤ s.now)) s
    (s.setLine r line { s.line r line with settle := none })

/-! ### Slots and channel settings from setup (R275-R278) -/

/-- A live shot claims logical channel c of a Rank: 0-31 drive channels, 32-63 tones. -/
def channelClaimed (s : State) (r c : Nat) : Bool := s.claimed fun d => claimsPort d r c

/-- A shared slot is locked (Table 07-10). -/
def slotLocked (s : State) (r f : Nat) : Bool :=
  if f < 96 then s.flag ⟨Reg.SYN_SLOT_LOCK_LO r, f - 64, f - 64⟩ else s.flag ⟨Reg.SYN_SLOT_LOCK_HI r, f - 96, f - 96⟩

/-- The commit of a setup slot write (R275, R276). -/
def writeSlot (s : State) (r f lo hi : Nat) : WriteOut :=
  if f < 64 ∧ channelClaimed s r f then refusedBy s 4
  else if 64 ≤ f ∧ slotLocked s r f then refusedBy s 2
  else
    taken { s with slotWrites := s.slotWrites ++
      [⟨s.now + 64, r * 128 + f, BitVec.ofNat 40 (lo + hi % 256 * 2 ^ 32), BitVec.ofNat 16 (hi / 65536)⟩] }

/-- The oldest waiting write of a slot. -/
def slotPending (s : State) (r f : Nat) : Option SlotWrite := s.slotWrites.find? fun w => decide (w.slot = r * 128 + f)

/-- SLOT_EFFECT (R276). -/
def slotEffect (s : State) (r f : Nat) : State :=
  match slotPending s r f with
  | none => s
  | some w =>
    { (s.changeSlot r f ⟨w.freq, w.phofs⟩) with
      slotWrites := s.slotWrites.eraseP fun x => decide (x.slot = r * 128 + f) }

def execSlotEffect (r f : Nat) (s : State) : Host.Outcome State Fault Refusal :=
  happen (decide (f < 128) && s.frameTick && (match slotPending s r f with | none => false | some w => decide (w.due ≤ s.now))) s
    (slotEffect s r f)

def interpDefault (_ : Nat) : Bool := false

/-- A write of SYN_CHc (R278). -/
def writeInterp (s : State) (r c : Nat) (v : Word) : WriteOut :=
  if channelClaimed s r c then refusedBy s 4
  else
    taken { (s.put (Reg.SYN_CHc_INTERP r c) (wordBits v 0 0)) with
      interpPend := s.interpPend ++ [(s.now + 64, r * 64 + c, decide (wordBits v 0 0 = 1))] }

def interpPending (s : State) (r c : Nat) : Option (Nat × Nat × Bool) :=
  s.interpPend.find? fun e => decide (e.2.1 = r * 64 + c)

/-- INTERP_EFFECT (R278). -/
def interpEffect (s : State) (r c : Nat) : State :=
  match interpPending s r c with
  | none => s
  | some (_, _, b) =>
    { s with
      interp := s.interp.set interpDefault (r * 64 + c) b,
      interpPend := s.interpPend.eraseP fun e => decide (e.2.1 = r * 64 + c) }

def execInterpEffect (r c : Nat) (s : State) : Host.Outcome State Fault Refusal :=
  happen (decide (c < 64) && s.frameTick && (match interpPending s r c with | none => false | some e => decide (e.1 ≤ s.now))) s
    (interpEffect s r c)

/-- A write of SYN_CTRL.STATS_CLR: every SAT and LIM_HIT count and every bit of DRV_HIT and DRV_HIT2 (Table 07-10). -/
def clearSynStats (s : State) (r : Nat) : State :=
  (((List.range 18).foldl (fun s l => s.wr (lineStat r l) 0) s).wr (Reg.DRV_HIT r) 0).wr (Reg.DRV_HIT2 r) 0

/-! ### From envelope to DAC code (R259-R263) -/

/-- AMP times an envelope part (R259, R290). -/
def scaleAmp (amp e : Int) : Int := clampTo (-32768) 32767 (asr (amp * e + 2 ^ 14) 15)

/-- LINEAR interpolation at DAC sample m of the frame; HOLD keeps the first value (R260). -/
def interpolate (linear : Bool) (u u4 : Int) (m : Nat) : Int := if linear then u + asr ((u4 - u) * m) 5 else u

/-- The phase theta of sample n on a slot (R233). -/
def theta (freq : BitVec 40) (phofs vph : BitVec 16) (n : Nat) : Nat :=
  (freq.toNat * (n % 2 ^ 40) + (phofs + vph).toNat * 2 ^ 24) % 2 ^ 40

/-- 1 and 2 pi in fixed point with 60 fraction bits. -/
def fixOne : Int := 2 ^ 60
def fixTwoPi : Int := 7244019458077122842

/-- A Taylor sum in t^2 by Horner's rule, with the divisors given from the last. -/
def taylor (t2 : Int) (ds : List Int) : Int := ds.foldl (fun c d => fixOne - t2 * c / fixOne / d) fixOne

/-- cos and sin of 2 pi r / 2^20 for an angle of at most an eighth of a turn. -/
def cosSmall (r : Nat) : Int :=
  let t := r * fixTwoPi / 2 ^ 20
  taylor (t * t / fixOne) [182, 132, 90, 56, 30, 12, 2]
def sinSmall (r : Nat) : Int :=
  let t := r * fixTwoPi / 2 ^ 20
  t * taylor (t * t / fixOne) [210, 156, 110, 72, 42, 20, 6] / fixOne

/-- Round 131,071 times a fixed-point value, half away from zero (R261). -/
def roundTable (v : Int) : Int :=
  if 0 ≤ v then (131071 * v * 2 + fixOne) / (2 * fixOne) else -((131071 * (-v) * 2 + fixOne) / (2 * fixOne))

/-- COS[p] and SIN[p] (R261), by octants. (DEDUCED, log 72.) -/
def cosTable (p : Nat) : Int :=
  let o := p / 2 ^ 17 % 8
  let r := if o % 2 = 1 then 2 ^ 17 - p % 2 ^ 17 else p % 2 ^ 17
  let c := if o = 1 ∨ o = 2 ∨ o = 5 ∨ o = 6 then sinSmall r else cosSmall r
  roundTable (if o = 2 ∨ o = 3 ∨ o = 4 ∨ o = 5 then -c else c)
def sinTable (p : Nat) : Int :=
  let o := p / 2 ^ 17 % 8
  let r := if o % 2 = 1 then 2 ^ 17 - p % 2 ^ 17 else p % 2 ^ 17
  let c := if o = 1 ∨ o = 2 ∨ o = 5 ∨ o = 6 then cosSmall r else sinSmall r
  roundTable (if 4 ≤ o then -c else c)

/-- A flatness table entry of a line (R262). -/
def State.flatAt (s : State) (r l i : Nat) : Int := (s.flat.get flatDefault (lineKey r l * 65 + i)).toNat

/-- The line gain G at a slot's frequency (R262). -/
def State.gain (s : State) (r l : Nat) (freq : BitVec 40) : Int :=
  let f := if 2 ^ 39 ≤ freq.toNat then 2 ^ 40 - freq.toNat else freq.toNat
  let i := f / 2 ^ 33
  let q : Int := f / 2 ^ 17 % 65536
  if i = 64 then s.flatAt r l 64 else s.flatAt r l i + asr ((s.flatAt r l (i + 1) - s.flatAt r l i) * q) 16

/-- The contribution y of one channel to a sample (R263). -/
def mixSample (vi vq g : Int) (p : Nat) : Int := asr ((vi * cosTable p - vq * sinTable p) * g + 2 ^ 31) 32

/-- The clamp of a line: the code, whether it saturated and whether it was limited (R263). (DEDUCED, log 74.) -/
def clampCode (sum lim : Int) : Int × Bool × Bool :=
  let c := clampTo (-32767) 32767 sum
  (clampTo (-lim) lim c, decide (c ≠ sum), decide (clampTo (-lim) lim c ≠ c))

/-- The tone-sum shift of a feedline (R263). -/
def shiftSum (sum : Int) (shift : Nat) : Int := if shift = 0 then sum else asr (sum + 2 ^ (shift - 1)) shift

end Sys2Proof.Machine
end

