-- ==== Sys2Proof/Machine/Operands.lean ====
section
/-!
DEFINITION. The operand forms of the block's own programs: the fields of microwords (Table 05-2) and nanowords (Tables 05-6 to
05-10), and which of them are well formed (R186, R190, R192, R220).
-/
namespace Sys2Proof.Machine

/-! ### Microwords (R185, R186) -/

def mwOp (w : BitVec 32) : Nat := wordBits w 31 27
def mwCond (w : BitVec 32) : Nat := wordBits w 26 24
def mwNano (w : BitVec 32) : Nat := wordBits w 23 8
def mwScale (w : BitVec 32) : Nat := wordBits w 7 6
def mwHold (w : BitVec 32) : Nat := wordBits w 5 0

/-- The cycle length (R185). -/
def mwCycle (w : BitVec 32) : Nat := (mwHold w + 1) * 4 ^ mwScale w

/-- The timeout of BRV, WAITA and WAITW (R202). -/
def mwTimeout (w : BitVec 32) : Nat := mwCycle w * 16

/-- The micro-store address in NANO (R186). -/
def mwTarget (w : BitVec 32) : Nat := mwNano w % 8192

/-- The latch or counter index in COND. -/
def mwIndex (w : BitVec 32) : Nat := mwCond w % 4

/-- The OP is defined and every field that Table 05-4 marks "must be 0" is 0. (DEDUCED, log 60.) -/
def mwLegal (w : BitVec 32) : Bool :=
  match mwOp w with
  | 0x00 => decide (mwNano w = 0)
  | 0x01 => true
  | 0x02 => decide (mwNano w < 8192)
  | 0x03 => decide (mwNano w < 8192)
  | 0x04 => decide (mwNano w = 0)
  | 0x05 => decide (mwCond w < 4)
  | 0x06 => decide (mwCond w < 4) && decide (mwNano w < 8192)
  | 0x07 => decide (mwCond w < 4)
  | 0x08 => decide (mwCond w < 4)
  | 0x09 => decide (mwCond w < 4)
  | 0x0A => decide (mwCond w < 4) && decide (mwNano w = 0)
  | 0x0B => decide (mwCond w = 0) && decide (mwNano w < 16)
  | 0x0C => decide (mwCond w = 0) && decide (mwNano w < 16)
  | 0x0D => decide (mwNano w = 0)
  | 0x0E => decide (w.toNat % 2 ^ 27 = 0)
  | _ => false

/-! ### Nanowords (R190-R192) -/

/-- Bits of a nanoword or of a command in it. -/
def bitsOf (n hi lo : Nat) : Nat := n / 2 ^ lo % 2 ^ (hi + 1 - lo)

def nwKind (n : Nat) : Nat := bitsOf n 255 252
def nwMrkEn (n : Nat) : Nat := bitsOf n 239 232
def nwMrkVal (n : Nat) : Nat := bitsOf n 231 224

/-- A port command (Table 05-7). -/
def pcValid (c : Nat) : Bool := decide (bitsOf c 95 95 = 1)
def pcOpc (c : Nat) : Nat := bitsOf c 94 93
def pcTgt (c : Nat) : Nat := bitsOf c 92 88
def pcStreamed (c : Nat) : Bool := decide (bitsOf c 87 87 = 1)
def pcSeg (c : Nat) : Nat := bitsOf c 86 66
def pcLen (c : Nat) : Nat := bitsOf c 65 50
def pcFslot (c : Nat) : Nat := bitsOf c 49 43
def pcPh (c : Nat) : Nat := bitsOf c 42 41
def pcPhase (c : Nat) : Nat := bitsOf c 40 25
def pcAmp (c : Nat) : Nat := bitsOf c 24 9
def pcRep (c : Nat) : Nat := bitsOf c 8 1

/-- A port command without its valid bit, as a record. -/
def pcCommand (engine c : Nat) : PortCmd :=
  { engine := engine, opc := pcOpc c, streamed := pcStreamed c, seg := pcSeg c, len := pcLen c, fslot := pcFslot c,
    phOp := pcPh c, phase := pcPhase c, amp := BitVec.ofNat 16 (pcAmp c), rep := pcRep c }

/-- A port command is well formed for its target class (Table 05-7, R192, R220). -/
def pcOk (c : Nat) (ffx : Bool) : Bool :=
  if !pcValid c then decide (c = 0)
  else
    decide (c % 2 = 0) &&
    (if pcOpc c = 2 then decide (c % 2 ^ 88 = 0)
     else if pcOpc c = 3 then
      decide (bitsOf c 87 50 = 0) && decide (pcRep c = 0) && decide (pcPh c ≠ 3) &&
        (!ffx || decide (bitsOf c 49 25 = 0))
     else
      decide (pcPh c ≠ 3) && (!ffx || decide (bitsOf c 49 25 = 0)) &&
      (if pcStreamed c then decide (bitsOf c 86 74 = 0) && decide (pcLen c = 0) && decide (pcRep c = 0)
       else decide (pcSeg c ≤ 1572863) && decide (2 ≤ pcLen c) && (!ffx || decide (pcSeg c % 2 = 0))))

/-- An acquisition command (Table 05-9, R329). -/
def acValid (c : Nat) : Bool := decide (bitsOf c 63 63 = 1)
def acTone (c : Nat) : Nat := bitsOf c 62 58
def acMode (c : Nat) : Nat := bitsOf c 57 56
def acDelay (c : Nat) : Nat := bitsOf c 55 44
def acIntLen (c : Nat) : Nat := bitsOf c 43 34
def acWset (c : Nat) : Nat := bitsOf c 33 30
def acDset (c : Nat) : Nat := bitsOf c 29 26
def acVerd (c : Nat) : Bool := decide (bitsOf c 25 25 = 1)
def acRec (c : Nat) : Bool := decide (bitsOf c 24 24 = 1)
def acUtag (c : Nat) : Nat := bitsOf c 23 16

def acOk (c : Nat) : Bool :=
  if !acValid c then decide (c = 0)
  else decide (acMode c ≠ 3) && decide (3 ≤ acIntLen c) && decide (c % 65536 = 0) &&
    (decide (acMode c ≠ 2) || (!acVerd c && !acRec c))

/-- A bias setting (Table 05-8). -/
def bsValid (c : Nat) : Bool := decide (bitsOf c 27 27 = 1)
def bsOut (c : Nat) : Nat := bitsOf c 26 22
def bsCode (c : Nat) : Nat := bitsOf c 19 0
def bsOk (c : Nat) : Bool := if bsValid c then decide (bitsOf c 21 20 = 0) else decide (c = 0)
def nwSetting (n j : Nat) : Nat := bitsOf n (28 * j + 27) (28 * j)

/-- A FRAME entry (Table 05-10). -/
def feValid (c : Nat) : Bool := decide (bitsOf c 79 79 = 1)
def feSlot (c : Nat) : Nat := bitsOf c 78 72
def feOp (c : Nat) : Nat := bitsOf c 71 70
def feFreq (c : Nat) : Nat := bitsOf c 69 30
def fePhofs (c : Nat) : Nat := bitsOf c 29 14
def feOk (c : Nat) : Bool :=
  if feValid c then decide (feOp c ≠ 3) && decide (c % 2 ^ 14 = 0) else decide (c = 0)
def nwEntry (n j : Nat) : Nat := bitsOf n (80 * j + 79) (80 * j)

/-- ARMS (Table 05-10): SOURCE and the targets. -/
def armsSource (n : Nat) : Nat := bitsOf n 223 208
def armsTarget (n v : Nat) : Nat := bitsOf n (13 * v + 12) (13 * v)
def armsTargets (n : Nat) : List Nat := (List.range 16).map (armsTarget n)

/-- The distinct targets that take staging slots: those of every verdict but 0xD (R198). -/
def stagedTargets (ts : List Nat) : List Nat := (ts.eraseIdx 0xD).eraseDups

/-- The local tone numbers of Table 05-10 have bits [14:8] 0; a routed source names a route and a slot. -/
def sourceOk (src : Nat) : Bool := decide (32768 ≤ src) || decide (src < 256)

/-- A nanoword is well formed for a PLAY (R190). -/
def nwPlayOk (n : Nat) : Bool :=
  decide (bitsOf n 251 240 = 0) &&
  match nwKind n with
  | 0 => decide (n % 2 ^ 224 = 0)
  | 1 => decide (bitsOf n 223 192 = 0) && pcOk (bitsOf n 191 96) false && pcOk (bitsOf n 95 0) false
  | 2 => acOk (bitsOf n 223 160) && acOk (bitsOf n 159 96) && pcOk (bitsOf n 95 0) false
  | 3 => decide (bitsOf n 223 192 = 0) && pcOk (bitsOf n 191 96) true && pcOk (bitsOf n 95 0) true
  | 4 => (List.range 8).all fun j => bsOk (nwSetting n j)
  | 5 => (List.range 3).all fun j => feOk (nwEntry n j)
  | _ => false

/-- A nanoword is well formed for a VARM (R190). -/
def nwArmsOk (n : Nat) : Bool :=
  decide (nwKind n = 6) && decide (bitsOf n 251 224 = 0) && decide (armsTarget n 0xD = 0) && sourceOk (armsSource n)

end Sys2Proof.Machine
end

