-- ==== Sys2Proof/Machine/Engines.lean ====
section
/-!
DEFINITION. The sequencer engines (05): what the issue of each microword does to the micro-state, and the ends of waits.
What a microword does at its ball tick is put on the engine's list of balls.
-/
namespace Sys2Proof.Machine

/-- The epoch as a number. -/
def State.ep (s : State) : Nat := s.epoch.toNat

/-- A condition of Table 05-5 holds for an engine (R189). -/
def condHolds (s : State) (g : Engine) (c : Nat) : Bool :=
  match c with
  | 0 => true
  | 1 => g.flag
  | 2 => !g.flag
  | 3 => decide (g.c0 = 0)
  | 4 => decide (g.c0 ≠ 0)
  | 5 => match s.shot? g.shot with
    | none => false
    | some x => x.desc.angleEn && decide (x.desc.awin ∈ s.angle.seen)
  | 6 => decide (g.vl0.st = .full)
  | _ => false

/-- The engine stops at its microword boundary with this ball tick: an ABORT with IMMEDIATE = 0, or a gang stop (R158, R169, R208). -/
def haltsAtBoundary (s : State) (uid ball : Nat) : Bool :=
  match s.shot? uid with
  | none => true
  | some x =>
    (match x.abort with | none => false | some a => !a.immediate && decide (a.epoch ≤ ball)) ||
    (match x.gangStop with | none => false | some t => decide (t ≤ ball))

/-- A stop of the shot has come by a microword boundary with this ball tick, so that no microword is issued there (R182, R207): one
that acts at the boundary, or an ABORT with IMMEDIATE = 1 or the span fence, which act at their own tick (R149, R158). (DEDUCED, log 105.) -/
def stopsAtBoundary (s : State) (uid ball : Nat) : Bool :=
  haltsAtBoundary s uid ball ||
  match s.shot? uid with
  | none => true
  | some x =>
    (match x.abort with | none => false | some a => decide (a.epoch ≤ ball)) || decide (x.desc.startEpoch + x.desc.span ≤ ball)

/-- What an operation does at its issue tick: the engine after it, what comes at the balls, a fault. -/
structure Issued where
  eng : Engine
  balls : List BallAct
  fault : Option Nat
  deriving DecidableEq, Repr

/-- The next microword in order. -/
def Engine.advance (g : Engine) : Engine := { g with pc := (g.pc + 1) % 8192 }
def Engine.goto (g : Engine) (a : Nat) : Engine := { g with pc := a }

def done (g : Engine) : Issued := ⟨g, [], none⟩

/-- JMP (Table 05-4). -/
def opJmp (c : Bool) (tgt : Nat) (g : Engine) : Issued := done (if c then g.goto tgt else g.advance)

/-- CALL (R188). -/
def opCall (c : Bool) (tgt : Nat) (g : Engine) : Issued :=
  if !c then done g.advance
  else if 4 ≤ g.rstack.length then ⟨g, [], some 3⟩
  else done ({ g with rstack := (g.pc + 1) % 8192 :: g.rstack }.goto tgt)

/-- RET (R188). -/
def opRet (c : Bool) (g : Engine) : Issued :=
  if !c then done g.advance
  else match g.rstack with
    | [] => ⟨g, [], some 4⟩
    | a :: t => done { g with pc := a, rstack := t }

/-- LDC, ADDC and TEST (Table 05-4). -/
def opLdc (k v : Nat) (g : Engine) : Issued := done (g.setCounter k (BitVec.ofNat 16 v)).advance
def opAddc (k v : Nat) (g : Engine) : Issued := done (g.setCounter k (g.counter k + BitVec.ofNat 16 v)).advance
def opTest (k v : Nat) (g : Engine) : Issued :=
  done { g with flag := decide (g.counter k = BitVec.ofNat 16 v) }.advance

/-- LOOP (R187). -/
def opLoop (k tgt : Nat) (g : Engine) : Issued :=
  let v := if g.counter k = 0 then 0 else g.counter k - 1
  let g1 := g.setCounter k v
  done (if v ≠ 0 then g1.goto tgt else g1.advance)

/-- BRV, WAITA and WAITW begin a wait (R200, R206). -/
def opWait (what : WaitFor) (limit : Nat) (g : Engine) : Issued :=
  done { g with phase := .wait, wait := some ⟨what, g.nextIssue, limit⟩ }
def opBrv (k limit : Nat) (g : Engine) : Issued :=
  if (g.latch k).st = .unarmed then ⟨g, [], some 5⟩ else opWait (.brv k) limit g

/-- QUIET: a quiet point at the ball tick (Table 05-4). -/
def opQuiet (c : Bool) (g : Engine) : Issued := ⟨g.advance, if c then [.quiet] else [], none⟩

/-- STOP: no further microword (R184). -/
def opStop (g : Engine) : Issued := ⟨{ g with halted := true }, [.stop], none⟩

/-- PLAY of a nanoword that was read (R190, R197): a poisoned or ill-formed one faults. -/
def opPlay (c : Bool) (addr : Nat) (w : Cell 256) (g : Engine) : Issued :=
  if !c then done g.advance
  else if w.poison then ⟨g, [], some 7⟩
  else if nwPlayOk w.word.toNat then ⟨g.advance, [.nano addr w.word], none⟩
  else ⟨g, [], some 2⟩

/-- The fallback of an engine that applies to the issue of the microword at its PC: armed, at FB_LOOP, 256 t past the
lead tick, and the stream's next segment lies in the window that was not admitted (R252, R253). (DEDUCED, log 59.) -/
def fallbackAt (s : State) (r : Nat) (g : Engine) : Option Fallback :=
  (g.fallbacks.filter fun f =>
    !f.chosen && decide (f.loopAt = g.pc) && decide (f.lead + 256 ≤ g.nextIssue) &&
      decide ((s.stream r f.stream).wseq = f.wseq) && decide ((s.stream r f.stream).owner = g.shot)).foldl
    (fun best f => match best with
      | none => some f
      | some b => if f.stream < b.stream then some f else some b) none

/-- The engine that a microword leaves, put back with its balls and its next issue tick; a fault or STOP ends the issues;
an armed fallback that applies sends it to FB_EXIT (R183, R209, R252), from a wait at the end of it. -/
def settleIssue (s : State) (r e : Nat) (w : BitVec 32) (o : Issued) : State :=
  let g0 := s.engine r e
  let i := g0.nextIssue
  let ball := i + s.engineL r e
  let s1 := s.add64 (Reg.SE_ISSUED_LOe r e) 1
  match o.fault with
  | some c =>
    s1.setEngine r e { o.eng with
      cur := g0.pc, phase := .run, halted := true, balls := o.eng.balls ++ [⟨ball, .fault c g0.pc⟩] }
  | none =>
    let g1 := { o.eng with cur := g0.pc, balls := o.eng.balls ++ (if o.balls = [] then [⟨ball, .boundary⟩] else o.balls.map fun a => ⟨ball, a⟩) }
    let g2 := if g1.phase = .wait then g1 else { g1 with phase := .run, nextIssue := i + mwCycle w }
    match fallbackAt s r g0 with
    | none => s1.setEngine r e g2
    | some f =>
      (s1.setEngine r e (if g2.phase = .wait then
          { g2 with fallbacks := g2.fallbacks.map fun x => if x = f then { x with chosen := true } else x }
        else { g2 with pc := f.exitAt, fallbacks := g2.fallbacks.filter fun x => decide (x.stream ≠ f.stream) })).shotFlag g0.shot
        flStarved

/-- The engine issues nothing more: it stops at this boundary, or at the tick of the stop that has come by then. -/
def haltAt (s : State) (r e ball : Nat) : State :=
  let g := s.engine r e
  s.setEngine r e { g with halted := true, balls := g.balls ++ if haltsAtBoundary s g.shot ball then [⟨ball, .halt⟩] else [] }

/-- The address of the current microword (Table 05-1): the one at its issue tick, else the last one issued. (DEDUCED, log 107.) -/
def Engine.shownPc (g : Engine) (now : Nat) : Nat :=
  if (g.phase = .run ∨ g.phase = .lead) ∧ !g.halted ∧ g.nextIssue ≤ now then g.pc else g.cur

/-- No retry of a micro-trap is due: from its due tick on, the word is needed (R212). -/
def Engine.trapClear (g : Engine) (e : Nat) : Bool :=
  match g.trap with | none => true | some t => decide (e < t.due)

/-- An engine may issue the microword at its PC, and that microword has the given OP, or is one that raises ILLEGAL_OP
whatever the command names. -/
def State.issues (s : State) (r e op : Nat) : Bool :=
  let g := s.engine r e
  let w := (s.microWord r e g.pc).word
  decide (r < s.part.ranks) && decide (e < 24) && (decide (g.phase = .run) || decide (g.phase = .lead)) && !g.halted &&
    decide (g.nextIssue ≤ s.ep) && g.trapClear s.ep &&
    (decide (mwOp w = op) || decide (0xF ≤ mwOp w))

/-- Issue the microword at the PC with the meaning of its OP (R182, R186, R207): a stop of the shot comes first, then the
poison bit, then the form, then the operation. -/
def issueWith (s : State) (r e : Nat) (f : BitVec 32 → Engine → Issued) : State :=
  let g := s.engine r e
  let c := s.microWord r e g.pc
  let ball := g.nextIssue + s.engineL r e
  if stopsAtBoundary s g.shot ball then haltAt s r e ball
  else if c.poison then settleIssue s r e c.word ⟨g, [], some 7⟩
  else if mwLegal c.word then settleIssue s r e c.word (f c.word g)
  else settleIssue s r e c.word ⟨g, [], some 1⟩

/-- The condition of the microword at the PC. -/
def condOf (s : State) (w : BitVec 32) (g : Engine) : Bool := condHolds s g (mwCond w)

def execNop (r e : Nat) (s : State) : Host.Outcome State Fault Refusal :=
  happen (s.issues r e 0x00) s (issueWith s r e fun _ g => done g.advance)

def execJmp (r e : Nat) (s : State) : Host.Outcome State Fault Refusal :=
  happen (s.issues r e 0x02) s (issueWith s r e fun w g => opJmp (condOf s w g) (mwTarget w) g)

def execCall (r e : Nat) (s : State) : Host.Outcome State Fault Refusal :=
  happen (s.issues r e 0x03) s (issueWith s r e fun w g => opCall (condOf s w g) (mwTarget w) g)

def execRet (r e : Nat) (s : State) : Host.Outcome State Fault Refusal :=
  happen (s.issues r e 0x04) s (issueWith s r e fun w g => opRet (condOf s w g) g)

def execLdc (r e : Nat) (s : State) : Host.Outcome State Fault Refusal :=
  happen (s.issues r e 0x05) s (issueWith s r e fun w g => opLdc (mwIndex w) (mwNano w) g)

def execLoop (r e : Nat) (s : State) : Host.Outcome State Fault Refusal :=
  happen (s.issues r e 0x06) s (issueWith s r e fun w g => opLoop (mwIndex w) (mwTarget w) g)

def execAddc (r e : Nat) (s : State) : Host.Outcome State Fault Refusal :=
  happen (s.issues r e 0x07) s (issueWith s r e fun w g => opAddc (mwIndex w) (mwNano w) g)

def execTest (r e : Nat) (s : State) : Host.Outcome State Fault Refusal :=
  happen (s.issues r e 0x08) s (issueWith s r e fun w g => opTest (mwIndex w) (mwNano w) g)

def execBrv (r e : Nat) (s : State) : Host.Outcome State Fault Refusal :=
  happen (s.issues r e 0x0A) s (issueWith s r e fun w g => opBrv (mwIndex w) (g.nextIssue + mwTimeout w) g)

def execWaita (r e : Nat) (s : State) : Host.Outcome State Fault Refusal :=
  happen (s.issues r e 0x0B) s
    (issueWith s r e fun w g => opWait (.alarm (mwNano w % 16)) (g.nextIssue + mwTimeout w) g)

def execWaitw (r e : Nat) (s : State) : Host.Outcome State Fault Refusal :=
  happen (s.issues r e 0x0C) s
    (issueWith s r e fun w g =>
      opWait (.window (mwNano w % 8) (decide (mwNano w / 8 % 2 = 1))) (g.nextIssue + mwTimeout w) g)

def execQuiet (r e : Nat) (s : State) : Host.Outcome State Fault Refusal :=
  happen (s.issues r e 0x0D) s (issueWith s r e fun w g => opQuiet (condOf s w g) g)

def execStop (r e : Nat) (s : State) : Host.Outcome State Fault Refusal :=
  happen (s.issues r e 0x0E) s (issueWith s r e fun _ g => opStop g)

/-- A nano-store address lies in the shot's claimed range on the Rank (R195). -/
def nanoClaimed (s : State) (uid r addr : Nat) : Bool :=
  match s.shot? uid with
  | none => false
  | some x => decide (x.desc.nanoFirst r ≤ addr) && decide (addr < x.desc.nanoFirst r + x.desc.nanoCount r)

/-- PLAY (R186, R195): outside the claimed nano range it has no effect and counts in CLK_GUARD.PORT. -/
def playWord (s : State) (r e : Nat) : State :=
  let g := s.engine r e
  let w := (s.microWord r e g.pc)
  let out := mwLegal w.word && !w.poison && condOf s w.word g && !nanoClaimed s g.shot r (mwNano w.word) &&
    !stopsAtBoundary s g.shot (g.nextIssue + s.engineL r e)
  let s1 := issueWith s r e fun w g =>
    if nanoClaimed s g.shot r (mwNano w) then opPlay (condOf s w g) (mwNano w) (s.nanoWord r (mwNano w)) g
    else done g.advance
  if out then s1.guardPort g.shot else s1

def execPlay (r e : Nat) (s : State) : Host.Outcome State Fault Refusal := happen (s.issues r e 0x01) s (playWord s r e)

/-! ### The ends of waits (R200, R206, R207) -/

/-- An engine polls now: it waits for something that a predicate accepts, at a poll tick. -/
def State.polls (s : State) (r e : Nat) (p : Wait → Bool) : Bool :=
  let g := s.engine r e
  decide (r < s.part.ranks) && decide (e < 24) && decide (g.phase = .wait) && !g.halted && decide (s.ep % 4 = 0) && g.trapClear s.ep &&
    (match g.wait with | none => false | some w => decide (w.since ≤ s.ep) && p w)

/-- The poll ticks of a wait are microword boundaries (R208): those after its issue tick whose ball tick is still to come. (DEDUCED, log 62.) -/
def pollBalls (since p l : Nat) : List Ball :=
  ((List.range 13).reverse.filter fun i => decide (since + 4 * i < p ∧ 4 * i < l)).map fun i => ⟨p - 4 * i + l, .boundary⟩

/-- A fallback taken at a wait chooses the microword after it (R252). -/
def leaveLoop (g : Engine) : Engine :=
  match g.fallbacks.find? Fallback.chosen with
  | none => g
  | some x => { g with pc := x.exitAt, fallbacks := g.fallbacks.filter fun f => !f.chosen }

/-- The wait of an engine ends at this poll tick; the next issue tick is 8 t later. A stop comes first (R207). -/
def endWait (s : State) (r e : Nat) (f : Engine → Engine) : State :=
  let g := s.engine r e
  let l := s.engineL r e
  if stopsAtBoundary s g.shot (s.ep + l) then haltAt s r e (s.ep + l)
  else
    let since := match g.wait with | none => s.ep | some w => w.since
    s.setEngine r e (leaveLoop
      { f g with phase := .run, wait := none, nextIssue := s.ep + 8, balls := g.balls ++ pollBalls since s.ep l })

/-- Every engine in a wait at a poll tick that is a boundary at or after a stop of its shot (R207, R208). -/
def pollStops (s : State) : State :=
  if s.ep % 4 ≠ 0 then s
  else (s.engines.map Prod.fst).foldl (fun s k =>
    let g := s.engine (k / 24) (k % 24)
    let ball := s.ep + s.engineL (k / 24) (k % 24)
    if g.phase = .wait ∧ !g.halted ∧ stopsAtBoundary s g.shot ball then haltAt s (k / 24) (k % 24) ball else s) s

/-- Empty and disarm a latch, freeing its staging slots (R198, R200). -/
def Engine.freeLatch (g : Engine) (k : Nat) : Engine := g.setLatch k latchDefault

/-- The latch holds a verdict and its staging is complete. -/
def latchReady (g : Engine) (k : Nat) : Bool :=
  decide ((g.latch k).st = .full) && (g.latch k).staged

def brvReady (s : State) (r e : Nat) (w : Wait) : Bool :=
  match w.what with | .brv k => latchReady (s.engine r e) k | _ => false

def brvEnd (v : Engine → Nat → Nat) (g : Engine) : Engine :=
  match g.wait with
  | some ⟨.brv k, _, _⟩ => { (g.freeLatch k) with pc := (g.latch k).targets.getD (v g k) 0 }
  | _ => g

def execBrvEnd (r e : Nat) (s : State) : Host.Outcome State Fault Refusal :=
  happen (s.polls r e (brvReady s r e)) s (endWait s r e (brvEnd fun g k => (g.latch k).value))

def execBrvTimeout (r e : Nat) (s : State) : Host.Outcome State Fault Refusal :=
  happen (s.polls r e fun w => decide (w.limit ≤ s.ep) && !brvReady s r e w &&
    (match w.what with | .brv _ => true | _ => false)) s (endWait s r e (brvEnd fun _ _ => 0xF))

/-- The event of a WAITA or WAITW has occurred (R206). -/
def waitMet (s : State) (w : Wait) : Bool :=
  match w.what with
  | .brv _ => false
  | .alarm n => match s.alarmFired.get (fun _ => none) n with | none => false | some t => decide (w.since ≤ t)
  | .window n outside => decide (n ∈ s.angle.seen) != outside

def execWaitEnd (r e : Nat) (s : State) : Host.Outcome State Fault Refusal :=
  happen (s.polls r e (waitMet s)) s (endWait s r e fun g => { g.advance with flag := false })

def execWaitTimeout (r e : Nat) (s : State) : Host.Outcome State Fault Refusal :=
  happen (s.polls r e fun w => decide (w.limit ≤ s.ep) && !waitMet s w &&
    (match w.what with | .brv _ => false | _ => true)) s (endWait s r e fun g => { g.advance with flag := true })

end Sys2Proof.Machine
end

