-- ==== Sys2Proof/Machine/Flux.lean ====
section
/-!
DEFINITION. The flux and bias outputs (08): spans, limits, settings, range changes, the Clear state and the flux sample path.
-/
namespace Sys2Proof.Machine

/-! ### Claims and limits (R287-R297) -/

/-- An admitted shot that has not ended claims FFX k or BIAS k of a Rank. -/
def fluxClaimed (s : State) (r : Nat) (bias : Bool) (k : Nat) : Bool :=
  s.claimed fun d => if bias then (d.bias r).testBit k else (d.ffx r).testBit k

/-- The code limit of an FFX output in its span (Table 08-3). -/
def ffxLimit (span lim : Nat) : Int := if span = 0 then (min (2 * lim) 32767 : Nat) else lim

/-- A BIAS span is unsigned (Table 08-1). -/
def biasUnsigned (span : Nat) : Bool := decide (span < 2)

/-- The code limit of a BIAS output in its span (Table 08-3); a VLIM above 0x80000 acts as 0x80000. -/
def biasLimit (span vlim : Nat) : Int :=
  let v := min vlim 0x80000
  match span with
  | 0 => (min (4 * v) 1048575 : Nat)
  | 1 => (min (2 * v) 1048575 : Nat)
  | 2 => (min (2 * v) 524287 : Nat)
  | _ => (min v 524287 : Nat)

/-- The value of a 20-bit code in a span (Table 08-1). -/
def biasCode (span code : Nat) : Int := if biasUnsigned span then (code % 2 ^ 20 : Nat) else signed 20 code

/-- The clamp of R297. -/
def biasClamp (span vlim : Nat) (code : Int) : Int :=
  clampTo (if biasUnsigned span then 0 else -biasLimit span vlim) (biasLimit span vlim) code

/-- The output is in the Clear state (R299). -/
def State.ffxClear (s : State) (r k : Nat) : Bool := s.flag (Reg.FFX_CTRLk_CLEAR r k)
def State.biaClear (s : State) (r k : Nat) : Bool := s.flag (Reg.BIA_CTRLk_CLEAR r k)

/-- A BIAS output takes a code at an epoch, clamped by R297; a clamp counts (R297), and the tick is its last update (R293). -/
def biasTake (s : State) (r k : Nat) (code : Int) : State :=
  let b := s.biaAt r k
  let c := biasClamp b.span b.lim code
  let s1 := s.setBia r k { b with code := c, last := some s.now }
  let s2 := s1.put64 (Reg.BIA_LAST_LOk r k) s.epoch.toNat
  if c = code then s2 else (s2.bump (Reg.BIA_STATk_LIM_HIT r k)).put ⟨Reg.BIA_HIT r, k, k⟩ 1

/-- The last update is 25,000 t old (R293). -/
def Bia.spaced (b : Bia) (now : Nat) : Bool :=
  match b.last with | none => true | some t => decide (t + 25000 ≤ now)

/-- A setting that is dropped (R294, R301, R305). -/
def biasDrop (s : State) (r k uid : Nat) : State := (s.bump (Reg.BIA_STATk_DROP r k)).dropSamples uid 1

/-- A BIAS setting at its ball tick, for a shot (R294, R301, R309). (DEDUCED, log 76.) -/
def biasSetting (s : State) (r k code uid : Nat) : State :=
  let b := s.biaAt r k
  if s.biaClear r k ∨ b.hold.isSome ∨ !b.spaced s.now then biasDrop s r k uid
  else
    let s1 := biasTake s r k (biasCode b.span code)
    let s2 := s1.setBia r k { s1.biaAt r k with clrAt := none }
    if s2.flag (Reg.BIA_CALk_STALE r k) then s2.shotFlag uid flCalStale else s2

/-! ### Setup writes (R291, R293, R295, R296, R299, R301, R303) -/

/-- A request to change a span (R303): the current span cancels or does nothing, another one becomes pending and replaces an earlier
one. (DEDUCED, log 75.) -/
def requestSpan (inForce span tick : Nat) (free : Bool) : Option RangeReq :=
  if span = inForce then none else some ⟨span, free, tick⟩

/-- A write of FFX_CTRLk or BIA_CTRLk: it releases the output and requests its SPAN (R299, R303). -/
def writeFluxCtrl (s : State) (r : Nat) (bias : Bool) (k : Nat) (v : Word) : WriteOut :=
  let free := !fluxClaimed s r bias k
  if bias then
    let s1 := ((s.put (Reg.BIA_CTRLk_CLEAR r k) 0).put (Reg.BIA_CTRLk_CAL_EN r k) (wordBits v 8 8)).put
      (Reg.BIA_CTRLk_SPAN r k) (wordBits v 1 0)
    let b := s1.biaAt r k
    taken (s1.setBia r k { b with range := requestSpan b.span (wordBits v 1 0) s.now free })
  else
    let s1 := (s.put (Reg.FFX_CTRLk_CLEAR r k) 0).put (Reg.FFX_CTRLk_SPAN r k) (wordBits v 0 0)
    let f := s1.ffxAt r k
    taken (s1.setFfx r k { f with range := requestSpan f.span (wordBits v 0 0) s.now free })

/-- A write of FFX_VALk or BIA_VALk (R293, R295, R301): a later write replaces an earlier one that waits. -/
def writeFluxVal (s : State) (r : Nat) (bias : Bool) (k : Nat) (v : Word) : WriteOut :=
  if (if bias then s.biaClear r k else s.ffxClear r k) then refusedBy s 1
  else if fluxClaimed s r bias k then refusedBy s 4
  else if bias then
    taken (s.setBia r k { s.biaAt r k with valPend := some (s.now + 64, (wordBits v 19 0 : Nat)) })
  else taken (s.setFfx r k { s.ffxAt r k with valPend := some (s.now + 64, signed 16 (wordBits v 15 0)) })

/-- A write of FFX_PD0k or FFX_PD1k (R291). -/
def writePredistortion (s : State) (r k : Nat) (second : Bool) (v : Word) : WriteOut :=
  if fluxClaimed s r false k then refusedBy s 4
  else
    let s1 := s.wr (if second then Reg.FFX_PD1k r k else Reg.FFX_PD0k r k) v
    let f := s1.ffxAt r k
    taken (s1.setFfx r k { f with pdPend := f.pdPend ++ [(s.now + 64, second, wordBits v 31 16, signed 16 (wordBits v 15 0))] })

/-- A write of FFX_LIMk or BIA_LIMk, under seal (R296): in force 64 t later (R297). -/
def writeFluxLimit (s : State) (r : Nat) (bias : Bool) (k : Nat) (v : Word) : WriteOut :=
  if s.mode ≠ .sealed then refusedBy s 5
  else if bias then
    let s1 := s.put (Reg.BIA_LIMk_VLIM r k) (wordBits v 19 0)
    let b := s1.biaAt r k
    taken (s1.setBia r k { b with limPend := b.limPend ++ [(s.now + 64, wordBits v 19 0)] })
  else
    let s1 := s.put (Reg.FFX_LIMk_LIM r k) (wordBits v 14 0)
    let f := s1.ffxAt r k
    taken (s1.setFfx r k { f with limPend := f.limPend ++ [(s.now + 64, wordBits v 14 0)] })

/-- Writes of FFX_CTRL.STATS_CLR and BIA_CTRL.STATS_CLR (Tables 08-11 and 08-14). -/
def clearFfxStats (s : State) (r : Nat) : State :=
  ((List.range 32).foldl (fun s k => (s.wr (Reg.FFX_STATk r k) 0).wr (Reg.FFX_DROPk r k) 0) s).wr (Reg.FFX_HIT r) 0
def clearBiaStats (s : State) (r : Nat) : State :=
  ((List.range 32).foldl (fun s k => s.wr (Reg.BIA_STATk r k) 0) s).wr (Reg.BIA_HIT r) 0

/-! ### Range changes (R303-R306) -/

/-- A pending change may begin its hold in this tick (R304). -/
def rangeReady (s : State) (r : Nat) (bias : Bool) (k : Nat) (range : Option RangeReq) (hold : Option Nat) (quiet : Bool) :
    Bool :=
  match range with
  | none => false
  | some q => hold.isNone &&
      ((q.free && decide (q.since + 64 ≤ s.now)) || quiet || (!q.free && !fluxClaimed s r bias k))

def State.rangeDue (s : State) (r : Nat) (bias : Bool) (k : Nat) : Bool :=
  decide (r < s.part.ranks) && decide (k < 32) &&
    if bias then rangeReady s r true k (s.biaAt r k).range (s.biaAt r k).hold (s.biaAt r k).quiet
    else rangeReady s r false k (s.ffxAt r k).range (s.ffxAt r k).hold (s.ffxAt r k).quiet

/-- RANGE_HOLD_BEGIN (R305). -/
def beginHold (s : State) (r : Nat) (bias : Bool) (k : Nat) : State :=
  if bias then
    let b := s.biaAt r k
    match b.range with
    | none => s
    | some q =>
      biasTake (s.setBia r k { b with span := q.span, range := none, hold := some (s.now + 5000), clrAt := none }) r k 0
  else
    let f := s.ffxAt r k
    match f.range with
    | none => s
    | some q => s.setFfx r k { f with span := q.span, range := none, hold := some (s.now + 500), x := 0, s0 := 0, s1 := 0 }

def execRangeHoldBegin (r : Nat) (bias : Bool) (k : Nat) (s : State) : Host.Outcome State Fault Refusal :=
  happen (s.rangeDue r bias k) s (beginHold s r bias k)

/-- RANGE_HOLD_END (R305, R306). -/
def endHold (s : State) (r : Nat) (bias : Bool) (k : Nat) : State :=
  if bias then s.setBia r k { s.biaAt r k with hold := none } else s.setFfx r k { s.ffxAt r k with hold := none }

def execRangeHoldEnd (r : Nat) (bias : Bool) (k : Nat) (s : State) : Host.Outcome State Fault Refusal :=
  happen (match (if bias then (s.biaAt r k).hold else (s.ffxAt r k).hold) with
    | none => false
    | some t => decide (t ≤ s.now)) s (endHold s r bias k)

/-! ### Waiting writes take effect -/

def execFfxValEffect (r k : Nat) (s : State) : Host.Outcome State Fault Refusal :=
  match (s.ffxAt r k).valPend with
  | none => .next s
  | some (due, v) =>
    happen (decide (due ≤ s.now) && (s.ffxAt r k).hold.isNone) s
      (s.setFfx r k { s.ffxAt r k with x := v, valPend := none })

def execBiaValEffect (r k : Nat) (s : State) : Host.Outcome State Fault Refusal :=
  match (s.biaAt r k).valPend with
  | none => .next s
  | some (due, v) =>
    happen (decide (due ≤ s.now) && (s.biaAt r k).spaced s.now && (s.biaAt r k).hold.isNone) s
      (biasTake (s.setBia r k { s.biaAt r k with valPend := none, clrAt := none }) r k
        (biasCode (s.biaAt r k).span v.toNat))

/-- LIMIT_EFFECT (R297): a BIAS value above the new limit moves at once. -/
def limitEffect (s : State) (r : Nat) (bias : Bool) (k : Nat) : State :=
  if bias then
    let b := s.biaAt r k
    match b.limPend with
    | [] => s
    | (_, v) :: t =>
      let s1 := s.setBia r k { b with lim := v, limPend := t }
      if biasClamp b.span v b.code = b.code then s1 else biasTake s1 r k b.code
  else
    let f := s.ffxAt r k
    match f.limPend with
    | [] => s
    | (_, v) :: t => s.setFfx r k { f with lim := v, limPend := t }

def execLimitEffect (r : Nat) (bias : Bool) (k : Nat) (s : State) : Host.Outcome State Fault Refusal :=
  happen (match (if bias then (s.biaAt r k).limPend else (s.ffxAt r k).limPend) with
    | [] => false
    | e :: _ => decide (e.1 ≤ s.now)) s (limitEffect s r bias k)

/-- PREDISTORTION_EFFECT (R291). -/
def predistortionEffect (s : State) (r k : Nat) : State :=
  let f := s.ffxAt r k
  match f.pdPend with
  | [] => s
  | (_, second, a, kk) :: t =>
    s.setFfx r k (if second then { f with a1 := a, k1 := kk, s0 := f.x, s1 := f.x, pdPend := t }
      else { f with a0 := a, k0 := kk, s0 := f.x, s1 := f.x, pdPend := t })

def execPredistortionEffect (r k : Nat) (s : State) : Host.Outcome State Fault Refusal :=
  happen (match (s.ffxAt r k).pdPend with | [] => false | e :: _ => decide (e.1 ≤ s.now)) s (predistortionEffect s r k)

/-! ### The Clear state (R298-R300) -/

/-- The 256 outputs of a kind, as (Rank, output). -/
def State.outputs (s : State) : List (Nat × Nat) :=
  (List.range s.part.ranks).flatMap fun r => (List.range 32).map fun k => (r, k)

/-- Tick R of R300: control registers return to reset with CLEAR = 1, waiting writes and changes are discarded, holds end. (DEDUCED, log 29.) -/
def clearFluxNow (s : State) : State :=
  s.outputs.foldl (fun s e =>
    let was := s.ffxClear e.1 e.2
    let s1 := ((s.wr (Reg.FFX_CTRLk e.1 e.2) (regReset s.part (Reg.FFX_CTRLk e.1 e.2))).wr (Reg.BIA_CTRLk e.1 e.2)
      (regReset s.part (Reg.BIA_CTRLk e.1 e.2)))
    let f := { s1.ffxAt e.1 e.2 with
      valPend := none, pdPend := [], limPend := [], range := none, hold := none, s0 := 0, s1 := 0, wasClear := was }
    (s1.setFfx e.1 e.2 f).setBia e.1 e.2 { s1.biaAt e.1 e.2 with valPend := none, limPend := [], range := none, hold := none })
    { s with clrNext := true }

/-- Tick R + 1 of R300 for one pair of outputs: FFX plays code 0 in ±0.5 V; BIAS moves to its clear code, after 5,000 t at
code 0 if its span changes. -/
def clearOutputs (s : State) (r k : Nat) : State :=
  let s1 := s.setFfx r k { s.ffxAt r k with x := 0, s0 := 0, s1 := 0, span := 0, standbyX := 0 }
  let b := s1.biaAt r k
  let span := s1.get (Reg.BIA_CLRCODEk_SPAN r k)
  if span = b.span then
    biasTake (s1.setBia r k { b with clrAt := none }) r k (biasCode span (s1.get (Reg.BIA_CLRCODEk_CODE r k)))
  else biasTake (s1.setBia r k { b with span := span, clrAt := some (s.now + 5000) }) r k 0

/-- Tick R + 1 of R300. -/
def clearFluxNext (s : State) : State :=
  if s.clrNext then s.outputs.foldl (fun s e => clearOutputs s e.1 e.2) { s with clrNext := false } else s

/-- CLRCODE_APPLY: tick R + 5,001 (R300). -/
def execClrcodeApply (r k : Nat) (s : State) : Host.Outcome State Fault Refusal :=
  match (s.biaAt r k).clrAt with
  | none => .next s
  | some t =>
    happen (decide (t ≤ s.now)) s
      (biasTake (s.setBia r k { s.biaAt r k with clrAt := none }) r k
        (biasCode (s.biaAt r k).span (s.get (Reg.BIA_CLRCODEk_CODE r k))))

/-! ### The flux sample path (R290) -/

/-- One predistortion term: what it adds to y and its next state. -/
def pdTerm (x st : Int) (a : Nat) (k : Int) : Int × Int :=
  if a ≠ 0 ∧ k ≠ 0 then (asr ((x - st) * k) 15, st + asr ((x - st) * a) 16) else (0, x)

/-- One tick of the path: the code, the output after it, whether it saturated and whether it was limited. -/
def ffxPath (f : Ffx) : Int × Ffx × Bool × Bool :=
  let t0 := pdTerm f.x f.s0 f.a0 f.k0
  let t1 := pdTerm f.x f.s1 f.a1 f.k1
  let y := f.x + t0.1 + t1.1
  let c := clampTo (-32767) 32767 y
  let l := ffxLimit f.span f.lim
  (clampTo (-l) l c, { f with s0 := t0.2, s1 := t1.2 }, decide (c ≠ y), decide (clampTo (-l) l c ≠ c))

end Sys2Proof.Machine
end

