-- ==== Sys2Proof/Machine/Records.lean ====
section
/-!
DEFINITION. Record sets and records (09, Record sets and records; 11, R376, R395-R398): where a record takes its segment, what it
holds, and its delivery to host memory.
-/
namespace Sys2Proof.Machine

/-! ### Record sets -/

def rsetDefault (_ : Nat) : RSet :=
  { st := .free, through := false, segs := 0, pay := 0, stride := 0, base := 0, mirror := none, pages := [], held := 0,
    fillPos := 0, count := 0, filled := [], recycling := 0 }
def State.rset (s : State) (n : Nat) : RSet := s.rsets.get rsetDefault n
def State.setRset (s : State) (n : Nat) (x : RSet) : State := { s with rsets := s.rsets.set rsetDefault n x }

/-- The segment pitch in bytes (R376). -/
def segPitch (pay : Nat) : Nat :=
  let b := (1 + pay) * 64
  if pay ≤ 3 then b else ((b + 255) / 256 + (if (b + 255) / 256 % 2 = 0 then 1 else 0)) * 256

/-- Pool units of a set (R376). -/
def setUnits (segs pay : Nat) : Nat := (segs * segPitch pay + 65535) / 65536

/-- Segments of a set that are free (R334): not filled. -/
def RSet.freeSegs (x : RSet) : Nat := x.segs - x.filled.length

/-- Segments of a set reserved by admitted shots (R335). -/
def State.reservedSegs (s : State) (n : Nat) : Nat :=
  s.liveShots.foldl (fun a x => a + if x.desc.recset = n then x.segsLeft else 0) 0

/-- The codeword at a set address (R376). -/
def RSet.word (x : RSet) (addr : Nat) : Nat := (x.pages.getD (addr / 65536) 0 * 65536 + addr % 65536) / 8

/-! ### Records (R334-R338) -/

/-- KIND of a record (Table 09-6). -/
def kindResult : Nat := 1
def kindTrace : Nat := 2
def kindResultTrace : Nat := 3

/-- The record header (Table 09-6), byte n from bit 8 n. -/
def recordHeader (d : RecData) (tag sq seq flags bytes dropN : Nat) : BitVec 512 :=
  BitVec.ofNat 512 (
    0xA5 + seq % 2 ^ 24 * 2 ^ 8 + d.kind * 2 ^ 32 + d.rank * 2 ^ 36 + d.tone * 2 ^ 40 + d.utag * 2 ^ 48 +
    d.verdict * 2 ^ 56 + tag * 2 ^ 64 + sq * 2 ^ 80 + d.trigOfs * 2 ^ 88 + d.trigSrc * 2 ^ 90 + flags * 2 ^ 96 +
    min d.inv 0xFFFF * 2 ^ 112 + d.stamp % 2 ^ 192 * 2 ^ 128 + d.frames * 2 ^ 320 + d.wset * 2 ^ 336 + d.dset * 2 ^ 340 +
    unsigned 32 d.rI * 2 ^ 352 + unsigned 32 d.rQ * 2 ^ 384 + bytes * 2 ^ 416 + d.dead * 2 ^ 448 +
    min d.missed 0xFFFF * 2 ^ 464 + dropN * 2 ^ 480)

/-- The payload codeword of a capture tick: 4 samples, sign-extended to 16 bits, little-endian (R330). -/
def captureWord (c : Capture) (i : Nat) : BitVec 64 :=
  BitVec.ofNat 64 ((List.range 4).foldl (fun a j =>
    a + unsigned 16 (Config.rxSample c.rank c.line (c.start + i) j).toInt * 2 ^ (16 * j)) 0)

/-- A record that is dropped (R335, R338). -/
def dropRecord (s : State) (d : RecData) : State :=
  (s.bump (Reg.ACQ_STAT_NOREC d.rank)).shotFlag d.shot flDropped

/-- Capture ticks that a segment's payload keeps, and whether more came (R337, R338). -/
def RSet.keeps (x : RSet) (c : Option Capture) : Nat × Bool :=
  match c with
  | none => (0, false)
  | some c =>
    let cap := if x.through then (x.stride - 1) * 8 else x.pay * 8
    (min c.ticks cap, decide (cap < c.ticks))

/-- Write a record into the segment at the fill position (R334, R376). -/
def fillSegment (s : State) (n : Nat) (x : Shot) (d : RecData) : State :=
  let v := s.rset n
  let k := v.keeps d.cap
  let ticks := match d.cap with | none => 0 | some c => c.ticks
  let dropN := (ticks - k.1) * 4
  let flags := d.flags ++ (if k.2 then [rfTruncated] else []) ++ (if v.through then [rfStreamed] else [])
  let hdr := recordHeader d x.desc.tag x.desc.sq v.count (recFlagWord flags) (k.1 * 8) dropN
  let at0 := v.fillPos * segPitch v.pay
  let s1 := (List.range 8).foldl (fun s i =>
    s.writeWord (v.word (at0 + 8 * i)) (some (hdr.extractLsb' (64 * i) 64))) s
  let s2 := match d.cap with
    | none => s1
    | some c => (List.range k.1).foldl (fun s i =>
        s.writeWord (v.word (at0 + 64 + 8 * (i % (max 1 (v.pay * 8))))) (some (captureWord c i))) s1
  let f : Filled := ⟨v.fillPos, v.count, x.desc.uid, hdr, k.1, dropN, v.through, d.cap, false⟩
  let s3 := s2.setRset n { v with
    fillPos := if v.fillPos + 1 = v.segs then 0 else v.fillPos + 1, count := v.count + 1, filled := v.filled ++ [f] }
  let s4 := s3.updShot x.desc.uid fun y => { y with segsLeft := y.segsLeft - 1, records := y.records + 1 }
  if k.2 then s4.shotFlag x.desc.uid flDropped else s4

/-- RECORD_COMPLETE (R334, R335, R338). -/
def completeRecord (s : State) (d : RecData) : State :=
  match s.shot? d.shot with
  | none => s
  | some x =>
    if x.desc.recset = 0xFFFF ∨ x.segsLeft = 0 then dropRecord s d
    else if (s.rset x.desc.recset).through ∧ d.cap.isNone then dropRecord s d
    else fillSegment s x.desc.recset x d

/-! ### Delivery (R336, R384, R395) -/

/-- Record delivery can write to host memory now (R100). -/
def State.delivers (s : State) : Bool := s.busMaster && decide (s.holding = []) && !s.dmaStopped && decide (s.mode ≠ .tripped)

/-- The oldest record of a set that has not been delivered (R395). -/
def RSet.nextOut (x : RSet) : Option Filled := x.filled.find? fun f => !f.delivered

/-- Bytes of several codewords as one number, the first lowest. -/
def joinWords (ws : List (BitVec 64)) : Nat := ws.foldr (fun w a => w.toNat + a * 2 ^ 64) 0

/-- Send a payload in 64-byte writes. -/
def sendPayload (s : State) (addr : Nat) : List (BitVec 64) → State
  | [] => s
  | a :: b :: c :: d :: e :: f :: g :: h :: t => sendPayload (s.send (.mem addr 64 (joinWords [a, b, c, d, e, f, g, h])) false 0) (addr + 64) t
  | ws => s.send (.mem addr (8 * ws.length) (joinWords ws)) false 0

/-- The 64-byte header as delivered: bytes 0-15 come from the on-die queue (R384), bytes 16-63 are the words read; poison sets
FLAGS.POISONED; words lost from a stream-through drain count in DROP_N and not in BYTES. -/
def deliveredHead (f : Filled) (hw : List Codeword) (bad : Bool) (lost : Nat) : Nat :=
  let lo := f.header.toNat % 2 ^ 128
  let lo1 := if bad ∧ lo / 2 ^ (96 + rfPoisoned) % 2 = 0 then lo + 2 ^ (96 + rfPoisoned) else lo
  lo1 + (joinWords (hw.map Codeword.data) + lost * 4 * 2 ^ 352 - lost * 8 * 2 ^ 288) * 2 ^ 128

/-- Send a record to its host segment: the VALID word comes last, then the count to MIRROR (R336). -/
def postRecord (s : State) (v : RSet) (f : Filled) (head : Nat) (data : List (BitVec 64)) : State :=
  let a := v.base + f.seg * v.stride * 64
  let s1 := sendPayload (s.send (.mem (a + 4) 60 (head / 2 ^ 32)) false 0) (a + 64) data
  let s2 := s1.send (.mem a 4 (head % 2 ^ 32)) false 0
  match v.mirror with
  | none => s2
  | some m => s2.send (.mem m 8 v.count) false 0

/-- A record has been delivered; a poisoned word of it marks its shot. -/
def markDelivered (s : State) (n : Nat) (v : RSet) (f : Filled) (words : List Codeword) : State :=
  let s1 := s.setRset n { s.rset n with
    filled := v.filled.map fun g => if g.seq = f.seq then { g with delivered := true } else g }
  let s2 := s1.updShot f.shot fun x => { x with records := x.records - 1 }
  if words.any Codeword.poison then
    s2.shotPoison f.shot (words.any fun c => c.poison && decide (poisonCause c.data.toNat = causeMemory))
  else s2

/-- The payload words of a record: those given, or those read from the Record Store. -/
def payloadWords (s : State) (v : RSet) (f : Filled) (payload : Option (List (BitVec 64))) : State × List Codeword :=
  match payload with
  | some ws => (s, ws.map fun w => ⟨w, false, 0⟩)
  | none => s.readWords srcDelivery 0 ((List.range f.words).map fun i => v.word (f.seg * segPitch v.pay + 64 + 8 * i))

/-- Deliver one record. -/
def deliverRecord (s : State) (n : Nat) (f : Filled) (payload : Option (List (BitVec 64))) (lost : Nat) : State :=
  let v := s.rset n
  let hw := s.readWords srcDelivery 0 ((List.range 6).map fun i => v.word (f.seg * segPitch v.pay + 16 + 8 * i))
  let pw := payloadWords hw.1 v f payload
  let all := hw.2 ++ pw.2
  markDelivered (postRecord pw.1 v f (deliveredHead f hw.2 (all.any Codeword.poison) lost) (pw.2.map Codeword.data)) n v f all

/-- RECORD_DELIVERY of the next record of a set, in SEQ order. -/
def recordDelivery (s : State) (n : Nat) : State :=
  match (s.rset n).nextOut with
  | none => s
  | some f => deliverRecord s n f none 0

def execRecordDelivery (set : Nat) (s : State) : Host.Outcome State Fault Refusal :=
  happen (s.delivers && (match (s.rset set).nextOut with | none => false | some f => !f.through)) s (recordDelivery s set)

/-- Words of a drained capture; if some staged words were overwritten before they were drained, which ticks the rest come
from is a free value. -/
def drainWords (s : State) (f : Filled) (lost : Nat) : List (BitVec 64) :=
  match f.cap with
  | none => []
  | some c => (List.range (f.words - lost)).map fun i => captureWord c (if lost = 0 then i else Config.drainTick s.freeCtr i)

/-- A drain at D2H_BW overwrites nothing if the payload ring holds the excess (R338, note): 8 bytes a tick against D2H_BW units
of 0.04 bytes a tick. -/
def drainSafe (v : RSet) (f : Filled) (bw : Nat) : Bool :=
  decide (f.words * 8 * (200 - min bw 200) ≤ v.pay * 64 * 200)

/-- STREAM_THROUGH_DRAIN_END (R338): `lost` staged words were overwritten before they were drained. -/
def drainEnd (s : State) (n lost : Nat) : State :=
  match (s.rset n).nextOut with
  | none => s
  | some f =>
    let s1 := deliverRecord { s with freeCtr := s.freeCtr + if lost = 0 then 0 else 1 } n f (some (drainWords s f lost)) lost
    if lost = 0 then s1 else s1.shotFlag f.shot flDropped

def execStreamThroughDrainEnd (set lost : Nat) (s : State) : Host.Outcome State Fault Refusal :=
  happen (s.delivers && (match (s.rset set).nextOut with
    | none => false
    | some f => f.through && decide (lost ≤ f.words) &&
        (decide (lost = 0) || !drainSafe (s.rset set) f (match s.shot? f.shot with | none => 0 | some x => x.desc.d2hBw))))
    s (drainEnd s set lost)

end Sys2Proof.Machine
end

