-- ==== Sys2Proof/Machine/Verdict.lean ====
section
/-!
DEFINITION. The verdict fabric and the routes (10): capture by latches, placement on routes, policing, forwarding, loss, and the
states of lanes and ports that they depend on.
-/
namespace Sys2Proof.Machine

/-! ### Lanes and ports (R371, Table 10-9) -/

def laneDefault (_ : Nat) : DLane :=
  { st := .disabled, since := 0, good := 0, headers := [], rxPos := 0, commas := 0, missed := 0, frames := 0, txPos := 64,
    pre := 4, post := 8, mgmt := [], ack := none, lastCheck := 0, lastId := 0 }
def State.lane (s : State) (l : Nat) : DLane := s.lanes.get laneDefault l
def State.setLane (s : State) (l : Nat) (x : DLane) : State := { s with lanes := s.lanes.set laneDefault l x }

/-- Lane state codes (Table 10-9). -/
def LaneState.code : LaneState → Nat
  | .disabled => 0 | .cdr => 1 | .block => 2 | .frame => 3 | .check => 4 | .trained => 5 | .fault => 6 | .loop => 7

/-- Port state codes (Table 10-16). -/
def portDown : Nat := 0
def portTraining : Nat := 1
def portUp : Nat := 2
def portMismatch : Nat := 3
def portLoop : Nat := 4

/-- The enabled lanes of a port. -/
def State.enabledLanes (s : State) (p : Nat) : List Nat :=
  ((List.range 4).filter fun i => (s.get (Reg.DLD_PORTp_CFG_LANE_EN p)).testBit i).map fun i => 4 * p + i

/-- LOOP of a port; values other than 1-3 act as 0 (Table 10-16). -/
def State.portLoopMode (s : State) (p : Nat) : Nat :=
  let v := s.get (Reg.DLD_PORTp_CFG_LOOP p)
  if v ≤ 3 then v else 0

/-- The state of a port that its lanes give (Table 10-9). -/
def State.portStateNow (s : State) (p : Nat) : Nat :=
  let ls := s.enabledLanes p
  if ls = [] ∨ s.mode = .tripped then portDown
  else if s.portLoopMode p ≠ 0 then portLoop
  else if ls.all fun l => decide ((s.lane l).st = .trained) then portUp
  else if ls.all fun l => decide ((s.lane l).st = .trained ∨ (s.lane l).st = .check) then portMismatch
  else portTraining

/-- A port is UP. -/
def State.portIsUp (s : State) (p : Nat) : Bool := decide (s.portStateNow p = portUp)

/-! ### Routes (R347-R351) -/

/-- IN values of a route. -/
def inLocal : Nat := 4

/-- A route is declared (STATE of its entry). -/
def State.declared (s : State) (n : Nat) : Bool := decide (s.get (Reg.MSH_RTEn_STATE n) = 1)
def State.routeIn (s : State) (n : Nat) : Nat := s.get (Reg.MSH_RTEn_IN n)
def State.routeLocal (s : State) (n : Nat) : Bool := s.flag (Reg.MSH_RTEn_LOCAL n)
def State.routeOut (s : State) (n : Nat) : List Nat := (List.range 4).filter fun p => (s.get (Reg.MSH_RTEn_OUT n)).testBit p
def State.routeSlots (s : State) (n : Nat) : Nat := s.get (Reg.MSH_RTEn_SLOTS_SLOTS n)

/-- Capacity and load of a port (R349). -/
def State.portCapacity (s : State) (p : Nat) : Nat := 8 * (s.enabledLanes p).length
def State.portLoad (s : State) (p : Nat) : Nat :=
  (List.range 64).foldl (fun a n => a + if s.declared n ∧ p ∈ s.routeOut n then s.routeSlots n else 0) 0

/-- Everything but the port load rule of R347 holds. -/
def State.routeFormOk (s : State) (n : Nat) : Bool :=
  s.flag (Reg.MSH_RTEn_EN n) && decide (s.routeIn n ≤ 4) && decide (s.routeSlots n ≠ 0) &&
    (decide (s.routeOut n ≠ []) || (s.routeLocal n && decide (s.routeIn n < 4)))

/-- STATE of a route that is not declared: OFF, DECLARED or OVER (R347, R349). -/
def State.routeStateNow (s : State) (n : Nat) : Nat :=
  if !s.routeFormOk n then 0
  else if (s.routeOut n).all fun p => decide (s.portLoad p + s.routeSlots n ≤ s.portCapacity p) then 1 else 2

/-- Judge every route that is not declared again, in ascending order, and show the port loads: routes already declared are
unaffected (R349). -/
def redeclare (s : State) : State :=
  let s1 := (List.range 64).foldl (fun s n =>
    if s.declared n then s else s.put (Reg.MSH_RTEn_STATE n) (s.routeStateNow n)) s
  (List.range 4).foldl (fun s p =>
    (s.put (Reg.MSH_PORTLOADp_CAP p) (s.portCapacity p)).put (Reg.MSH_PORTLOADp_LOAD p) (s.portLoad p)) s1

/-- An admitted shot that has not ended claims a route. -/
def State.routeClaimed (s : State) (n : Nat) : Bool := s.claimed fun d => d.routes.any fun e => decide (e.1 = n)

/-- MSH_RTE_WRITE: word 0 or 1 of a route entry (R347, R351). -/
def writeRoute (s : State) (n word : Nat) (v : Word) : WriteOut :=
  if s.routeClaimed n then refusedBy s 2
  else
    let s1 :=
      if word = 0 then
        ((((s.put (Reg.MSH_RTEn_EN n) (wordBits v 31 31)).put (Reg.MSH_RTEn_OUT n) (wordBits v 19 16)).put
          (Reg.MSH_RTEn_LOCAL n) (wordBits v 11 11)).put (Reg.MSH_RTEn_IN n) (wordBits v 10 8))
      else s.put (Reg.MSH_RTEn_SLOTS_SLOTS n) (wordBits v 8 0)
    taken (redeclare (s1.put (Reg.MSH_RTEn_STATE n) 0))

/-- A write of MSH_SRCt (R351): entries of unpopulated Ranks hold nothing. -/
def writeSource (s : State) (t : Nat) (v : Word) : WriteOut :=
  if s.part.ranks ≤ t / 32 then taken s
  else if s.claimed fun d => (d.tones (t / 32)).testBit (t % 32) then refusedBy s 4
  else taken (s.wr (Reg.MSH_SRCt t) (v &&& 0x80007FFF))

/-! ### Latches (R199, R345) -/

/-- The source number of a routed verdict (Table 05-10). -/
def routedSource (route slot : Nat) : Nat := 32768 + route * 512 + slot

/-- An armed latch captures a verdict of a source it accepts; 0xD is held as 0xE (R199). -/
def Latch.capture (l : Latch) (accept : Nat → Bool) (v e : Nat) : Latch :=
  if l.st = .armed ∧ l.armedAt ≤ e ∧ accept l.source then { l with st := .full, value := if v = 0xD then 0xE else v } else l

/-- The four latches of an engine. -/
def Engine.capture (g : Engine) (accept : Nat → Bool) (v e : Nat) : Engine :=
  { g with
    vl0 := g.vl0.capture accept v e, vl1 := g.vl1.capture accept v e, vl2 := g.vl2.capture accept v e,
    vl3 := g.vl3.capture accept v e }

/-- Latches of an engine that would capture. -/
def Engine.captures (g : Engine) (accept : Nat → Bool) (e : Nat) : Nat :=
  ([g.vl0, g.vl1, g.vl2, g.vl3].filter fun l => decide (l.st = .armed ∧ l.armedAt ≤ e) && accept l.source).length

/-- One event reaches every latch of every Rank; a verdict from another part with value 0xE sets POISONED (R173). -/
def State.reachLatches (s : State) (accept : Nat → Bool) (v : Nat) (outside : Bool) : State :=
  (s.engines.map Prod.fst).foldl (fun s key =>
    let g := s.engines.get engineDefault key
    if g.captures accept s.epoch.toNat = 0 then s
    else
      let s1 := { s with engines := s.engines.set engineDefault key (g.capture accept v s.epoch.toNat) }
      if outside ∧ v = 0xE then s1.shotFlag g.shot flPoisoned else s1) s

/-- Latches of the part that would capture. -/
def State.latchCount (s : State) (accept : Nat → Bool) : Nat :=
  s.engines.foldl (fun n e => n + e.2.captures accept s.epoch.toNat) 0

/-- A verdict is delivered to every Rank (R343, R345, Table 10-1). -/
def State.deliverVerdict (s : State) (source v : Nat) : State :=
  let s1 := s.reachLatches (fun x => decide (x = source)) v (decide (32768 ≤ source))
  if v = 0xE then s1.bump (whole Reg.VRD_POISON) else s1

/-! ### Verdicts of local windows (R343, R344, R348, R350, R354) -/

/-- The oldest result of a window that satisfies a predicate. -/
def State.res? (s : State) (r k : Nat) (p : Res → Bool) : Option Res :=
  s.results.find? fun x => decide (x.rank = r ∧ x.tone = k) && p x

/-- Change, or remove, the first result that is the given one. -/
def State.replaceRes (s : State) (x : Res) (f : Option Res) : State :=
  { s with results :=
      match f with
      | none => s.results.erase x
      | some y => s.results.map fun z => if z = x then y else z }

/-- The Rank failed in the shot (Table 09-3, order 1). -/
def State.rankFailed (s : State) (uid r : Nat) : Bool :=
  match s.shot? uid with | none => false | some x => x.failed.any fun f => decide (f.1 = r)

/-- B + 20: the verdict is on the fabric and the record completes (R326, R334). -/
def onFabric (s : State) (x : Res) : State :=
  let v := x.verdict.map fun v => if s.rankFailed x.shot x.rank then 0xE else v
  let s1 := s.replaceRes x (match v with | none => none | some _ => some { x with verdict := v, onFabric := true, record := none })
  let s2 := match v with
    | none => s1
    | some w => (s1.add64 Reg.VRD_CNT_LO 1).put (Reg.ACQ_RWSTATk_VERDICT x.rank x.tone) w
  match x.record with
  | none => s2
  | some d => completeRecord s2 { d with verdict := v.getD 0xF }

def fabricDue (s : State) (x : Res) : Bool := !x.onFabric && decide (x.endAt + 20 ≤ s.epoch.toNat)

/-- The place of a record among those that complete in one tick (R334): Ranks ascending, in a Rank its trace units, then its
windows. -/
def recordPlace (d : RecData) : Nat := d.rank * 34 + match d.cap with | none => 2 + d.tone | some c => c.line

/-- No record that comes before a place is due in this tick. -/
def recordTurn (s : State) (place : Nat) : Bool :=
  (s.results.all fun y => match y.record with | none => true | some d => !fabricDue s y || decide (place ≤ recordPlace d)) &&
    s.traces.all fun u =>
      match u.2.cmd with
      | none => true
      | some c =>
        decide (c.mode ≠ 2 ∨ u.2.st ≠ .capturing ∨ s.epoch.toNat < u.2.endAt ∨ place ≤ c.rank * 34 + c.tone / 16)

def execVerdictOnFabric (r k : Nat) (s : State) : Host.Outcome State Fault Refusal :=
  match s.res? r k (fabricDue s) with
  | none => .next s
  | some x => happen (match x.record with | none => true | some d => recordTurn s (recordPlace d)) s (onFabric s x)

/-- Verdicts counted for a route and a port in the last 330 ticks (R350). -/
def State.routeUse (s : State) (p n : Nat) : Nat :=
  (s.routeSends.filter fun e => decide (e.port = p ∧ e.route = n ∧ s.epoch.toNat < e.at_ + 330)).length

/-- A verdict meets one OUT port of its route: policed, lost because the port is not UP, or queued. The second component
says whether the port took it. -/
def placeOnPort (s : State) (n slot v due hop p : Nat) : State × Bool :=
  if s.routeSlots n ≤ s.routeUse p n then (s.bump (Reg.MSH_RTSTATn_POLICED n), false)
  else if !s.portIsUp p then (s.bump (whole (Reg.DLD_PORTp_TXLOST p)), true)
  else
    ({ s with
      txQueue := s.txQueue ++ [⟨p, n, slot, v, due, hop⟩],
      routeSends := ⟨p, n, slot, s.epoch.toNat⟩ :: s.routeSends.filter fun e => decide (s.epoch.toNat < e.at_ + 330) }, true)

/-- A verdict meets every OUT port of its route; the second component says whether a port policed it. -/
def placeOnRoute (s : State) (n slot v due hop : Nat) : State × Bool :=
  (s.routeOut n).foldl (fun a p =>
    let q := placeOnPort a.1 n slot v due hop p
    (q.1, a.2 || !q.2)) (s, false)

/-- The route and slot of a tone of this part (R348). -/
def State.toneRoute (s : State) (t : Nat) : Option (Nat × Nat) :=
  if s.flag (Reg.MSH_SRCt_V t) ∧ s.declared (s.get (Reg.MSH_SRCt_ROUTE t)) ∧ s.routeIn (s.get (Reg.MSH_SRCt_ROUTE t)) = inLocal then
    some (s.get (Reg.MSH_SRCt_ROUTE t), s.get (Reg.MSH_SRCt_SLOT t))
  else none

/-- Result y is of a lower tone that maps to the route and slot of result x, with the same fabric tick (R348). (DEDUCED, log 81.) -/
def sameSlot (s : State) (x y : Res) : Bool :=
  decide (y.rank * 32 + y.tone < x.rank * 32 + x.tone ∧ y.endAt = x.endAt ∧
    s.toneRoute (y.rank * 32 + y.tone) = s.toneRoute (x.rank * 32 + x.tone)) && y.verdict.isSome

/-- B + 28: the verdict enters the queues of its route (R344, R348, R354). -/
def enqueueResult (s : State) (x : Res) : State :=
  let s1 := s.replaceRes x (some { x with enqueued := true })
  match s.toneRoute (x.rank * 32 + x.tone) with
  | none => s1
  | some (n, slot) =>
    if s.results.any (sameSlot s x) then
      (s1.bump (Reg.MSH_RTSTATn_POLICED n)).shotFlag x.shot flDropped
    else
      let q := placeOnRoute s1 n slot (x.verdict.getD 0xF) (x.endAt + 194) 1
      let s2 := if q.1.txQueue.length = s1.txQueue.length then q.1 else q.1.bump (whole (Reg.MSH_RTSTATn_CARRIED n))
      if q.2 then s2.shotFlag x.shot flDropped else s2

def enqueueDue (s : State) (x : Res) : Bool := x.onFabric && !x.enqueued && decide (x.endAt + 28 ≤ s.epoch.toNat)

/-- A lower tone with the same route, slot and fabric tick goes first (R348). -/
def enqueueTurn (s : State) (x : Res) : Bool :=
  s.results.all fun y => !(sameSlot s x y && !y.enqueued)

def execRouteEnqueue (r k : Nat) (s : State) : Host.Outcome State Fault Refusal :=
  match s.res? r k (enqueueDue s) with | none => .next s | some x => happen (enqueueTurn s x) s (enqueueResult s x)

/-- The nibble of VRD_LASTj of a global tone (Table 10-2). -/
def lastNibble (t : Nat) : Fld := ⟨Reg.VRD_LASTj (t / 8), 4 * (t % 8) + 3, 4 * (t % 8)⟩

/-- B + 44: delivery to every populated Rank and VRD_LASTj (R326, R343). -/
def deliverResult (s : State) (x : Res) : State :=
  let t := x.rank * 32 + x.tone
  let v := x.verdict.getD 0xF
  (((s.replaceRes x none).put (lastNibble t) v).deliverVerdict t v).touch x.shot

def deliverDue (s : State) (x : Res) : Bool := x.enqueued && decide (x.endAt + 44 ≤ s.epoch.toNat)

def execVerdictDelivery (r k : Nat) (s : State) : Host.Outcome State Fault Refusal :=
  match s.res? r k (deliverDue s) with | none => .next s | some x => .next (deliverResult s x)

/-! ### Received verdicts (R345, R355) -/

/-- D - 16: the verdicts of a route that are due there enter the queues of its OUT ports. -/
def forwardDue (s : State) (n : Nat) (x : RxVerdict) : Bool :=
  decide (x.route = n) && !x.forwarded && decide (x.due ≤ s.epoch.toNat + 16)

def forwardRoute (s : State) (n : Nat) : State :=
  let out := s.rxHeld.filter (forwardDue s n)
  let s1 := { s with rxHeld := s.rxHeld.map fun x => if forwardDue s n x then { x with forwarded := true } else x }
  out.foldl (fun s x => (placeOnRoute s n x.slot x.value (x.due + 150) (x.hop + 1)).1) s1

def execRouteForward (n : Nat) (s : State) : Host.Outcome State Fault Refusal :=
  happen (s.rxHeld.any (forwardDue s n)) s (forwardRoute s n)

/-- D: the verdicts of a LOCAL route are delivered to every Rank as one event (R345). -/
def routedDue (s : State) (n : Nat) (x : RxVerdict) : Bool :=
  decide (x.route = n) && !x.delivered && decide (x.due ≤ s.epoch.toNat)

def routedDelivery (s : State) (n : Nat) : State :=
  let out := s.rxHeld.filter (routedDue s n)
  let s1 := { s with rxHeld := s.rxHeld.map fun x => if routedDue s n x then { x with delivered := true } else x }
  out.foldl (fun s x => s.deliverVerdict (routedSource n x.slot) x.value) s1

def execRoutedDelivery (n : Nat) (s : State) : Host.Outcome State Fault Refusal :=
  happen (s.rxHeld.any (routedDue s n)) s (routedDelivery s n)

/-! ### Loss (R358, R359) -/

/-- A route is lost in this tick. -/
def State.loseRoute (s : State) (n : Nat) : State := { s with losses := s.losses ++ [(n, s.epoch.toNat)] }

/-- Every route that enters by a port is lost (R358). -/
def State.losePort (s : State) (p : Nat) : State :=
  (List.range 64).foldl (fun s n => if s.declared n ∧ s.routeIn n = p then s.loseRoute n else s) s

/-- A source names a route. -/
def sourceOnRoute (n x : Nat) : Bool := decide (32768 ≤ x) && decide ((x - 32768) / 512 = n)

/-- A loss of a route is 16 t old, and no verdict of the route is still to be delivered in this tick (R345). -/
def State.lossDue (s : State) (n : Nat) : Bool :=
  (s.losses.any fun e => decide (e.1 = n) && decide (e.2 + 16 ≤ s.epoch.toNat)) && !(s.rxHeld.any (routedDue s n))

/-- LOSS_CAPTURE: X + 16. (DEDUCED, log 83.) -/
def lossCapture (s : State) (n : Nat) : State :=
  let k := s.latchCount (sourceOnRoute n)
  let s1 := { s with losses := s.losses.eraseP fun e => decide (e.1 = n) }
  let s2 := ((s1.reachLatches (sourceOnRoute n) 0xE true).bumpBy (whole Reg.VRD_LOSS) k).bump (Reg.MSH_RTSTATn_LOSS n)
  { s2 with lossNotices := s2.lossNotices ++ ((s2.routeOut n).filter fun p => s2.portIsUp p).map fun p => (p, n) }

def execLossCapture (n : Nat) (s : State) : Host.Outcome State Fault Refusal := happen (s.lossDue n) s (lossCapture s n)

/-- A port's state is shown anew after a change of its lanes, its settings or the mode (R371): a change raises DALID; leaving
UP loses its routes and discards what is queued (R358, R359); leaving DOWN forgets the partner (Table 10-16). -/
def refreshPort (s : State) (p : Nat) : State :=
  let old := s.get (Reg.DLD_PORTp_STAT_STATE p)
  let new := s.portStateNow p
  let up := (List.range 4).foldl (fun a i =>
    a + if (s.lane (4 * p + i)).st = .trained ∨ (s.lane (4 * p + i)).st = .loop then 2 ^ i else 0) 0
  let s1 := (s.put (Reg.DLD_PORTp_STAT_STATE p) new).put (Reg.DLD_PORTp_STAT_LANES_UP p) up
  if old = new then s1
  else
    let s2 := s1.event evtDalid
    let s3 := if old = portDown then s2.put (Reg.DLD_PORTp_PEER_HI_VALID p) 0 else s2
    if old = portUp then
      let n := (s3.txQueue.filter fun v => decide (v.port = p)).length
      ({ s3 with
        txQueue := s3.txQueue.filter (fun v => decide (v.port ≠ p)),
        lossNotices := s3.lossNotices.filter fun v => decide (v.1 ≠ p) }.bumpBy (whole (Reg.DLD_PORTp_TXLOST p)) n).losePort p
    else s3

/-- Writes of VRD_CTRL.STATS_CLR and MSH_CTRL. -/
def clearVrdStats (s : State) : State := ((s.put64 Reg.VRD_CNT_LO 0).wr Reg.VRD_POISON 0).wr Reg.VRD_LOSS 0
def writeMshCtrl (s : State) (v : Word) : WriteOut :=
  let s1 := s.put Reg.MSH_CTRL_MAX_HOPS (wordBits v 11 8)
  taken (if wordBits v 0 0 = 1 then
    (List.range 64).foldl (fun s n => (s.wr (Reg.MSH_RTSTATn n) 0).wr (Reg.MSH_RTSTATn_CARRIED n) 0) s1
  else s1)

end Sys2Proof.Machine
end

