-- ==== Sys2Proof/Machine/Readout.lean ====
section
/-!
DEFINITION. Acquisition (09): result windows and trace units from their arming to their end, the point of a window, its verdict,
and what a stop leaves of them (R175, R320-R331).
-/
namespace Sys2Proof.Machine

/-! ### Windows and units -/

def rwinDefault (_ : Nat) : RWin :=
  { cmd := none, armedAt := 0, src := 0, timeout := 0, trig := none, forced := false, openAt := none, stamp := 0, aI := 0,
    aQ := 0, inv := 0, clip := false, traceMissed := false }
def State.rwin (s : State) (r k : Nat) : RWin := s.rwins.get rwinDefault (r * 32 + k)
def State.setRwin (s : State) (r k : Nat) (x : RWin) : State := { s with rwins := s.rwins.set rwinDefault (r * 32 + k) x }

def unitDefault (_ : Nat) : TraceUnit :=
  { st := .ready, cmd := none, armedAt := 0, src := 0, timeout := 0, trig := none, forced := false, openAt := none,
    openTick := 0, endAt := 0, stamp := 0, inv := 0, clip := false, endTick := 0, lastShot := none, dead := 0, missed := 0 }
def State.unit (s : State) (r u : Nat) : TraceUnit := s.traces.get unitDefault (r * 2 + u)
def State.setUnit (s : State) (r u : Nat) (x : TraceUnit) : State := { s with traces := s.traces.set unitDefault (r * 2 + u) x }

/-- TRIG_SRC in force: 6 and 7 act as 0 (R328); a TIMEOUT below 16 acts as 16; a POST below 16 as 16. -/
def trigSource (v : Nat) : Nat := if v ≤ 5 then v else 0
def atLeast16 (v : Nat) : Nat := max 16 v

/-! ### Arming (R320, R327, R331) -/

/-- The command that arms next on a window: by arm tick, then ball tick. -/
def nextArm (s : State) (r k : Nat) : Option AcqCmd :=
  (s.acqs.filter fun c => decide (c.rank = r ∧ c.tone = k ∧ c.armAt ≤ s.epoch.toNat)).foldl (fun b c => match b with
    | none => some c
    | some d => if c.armAt < d.armAt ∨ (c.armAt = d.armAt ∧ c.ball < d.ball) then some c else some d) none

/-- Another capture of a stream-through set is in progress or still drains (R338). -/
def throughBusy (s : State) (uid : Nat) : Bool :=
  match s.shot? uid with
  | none => false
  | some x =>
    (s.rset x.desc.recset).through &&
      ((s.rset x.desc.recset).filled.any (fun f => f.through && !f.delivered) ||
        s.traces.any fun e => decide (e.2.st = .armed ∨ e.2.st = .capturing) &&
          (match e.2.cmd with
            | none => false
            | some c => match s.shot? c.shot with | none => false | some y => decide (y.desc.recset = x.desc.recset)))

/-- A capture is not made (R331). (DEDUCED, log 80.) -/
def missCapture (s : State) (r u : Nat) : State :=
  (s.setUnit r u { s.unit r u with missed := (s.unit r u).missed + 1 }).bump (Reg.ACQ_TRSTATu_MISSED r u)

/-- Arm the trace unit for a command. -/
def armUnit (s : State) (c : AcqCmd) (src timeout : Nat) : State :=
  let u := c.tone / 16
  s.setUnit c.rank u { s.unit c.rank u with
    st := .armed, cmd := some c, armedAt := s.epoch.toNat, src := src, timeout := timeout, trig := none, forced := false,
    openAt := none, inv := 0, clip := false }

/-- A command that captures only (MODE 0b10). -/
def armCapture (s : State) (c : AcqCmd) : State :=
  let u := c.tone / 16
  if (s.unit c.rank u).st ≠ .ready ∨ throughBusy s c.shot then (missCapture s c.rank u).shotFlag c.shot flDropped
  else armUnit s c (trigSource (s.get (Reg.ACQ_TRCFGu_TRIG_SRC c.rank u)))
    (atLeast16 (s.get (Reg.ACQ_TRCFGu_TIMEOUT c.rank u)))

/-- A command that integrates (MODE 0b00 and 0b01). (DEDUCED, log 77.) -/
def armWindow (s : State) (c : AcqCmd) : State :=
  let u := c.tone / 16
  if (s.rwin c.rank c.tone).cmd.isSome then (s.bump (Reg.ACQ_STAT_BUSY_DROP c.rank)).shotFlag c.shot flDropped
  else
    let src := trigSource (s.get (Reg.ACQ_RWCFGk_TRIG_SRC c.rank c.tone))
    let missed := decide (c.mode = 1) && (decide ((s.unit c.rank u).st ≠ .ready) || throughBusy s c.shot)
    let s1 := s.setRwin c.rank c.tone { rwinDefault 0 with
      cmd := some c, armedAt := s.epoch.toNat, src := src,
      timeout := atLeast16 (s.get (Reg.ACQ_RWCFGk_TIMEOUT c.rank c.tone)), traceMissed := missed }
    if missed then
      (if c.record then missCapture s1 c.rank u else (missCapture s1 c.rank u).shotFlag c.shot flDropped)
    else if c.mode = 1 then armUnit s1 c src 0
    else s1

def resultWindowArm (s : State) (c : AcqCmd) : State :=
  let s1 := { s with acqs := s.acqs.erase c }
  if c.mode = 2 then armCapture s1 c else armWindow s1 c

/-- RESULT_WINDOW_ARM: an integration that ends in this tick ends first (R327). -/
def execResultWindowArm (r k : Nat) (s : State) : Host.Outcome State Fault Refusal :=
  match nextArm s r k with
  | none => .next s
  | some c =>
    let w := s.rwin r k
    happen (match w.cmd, w.openAt with
      | some d, some a => decide (s.epoch.toNat < a + 4 * d.frames)
      | _, _ => true) s (resultWindowArm s c)

/-! ### Triggers and opening (R328, R330) -/

/-- Give a trigger to every armed window and capturing command of a Rank whose source it is, from the arm tick on. (DEDUCED, log 78.) -/
def triggerWindow (w : RWin) (src t : Nat) : RWin :=
  if w.cmd.isSome ∧ w.openAt.isNone ∧ w.trig.isNone ∧ w.src = src ∧ w.armedAt ≤ t then { w with trig := some t } else w
def triggerUnit (u : TraceUnit) (src t : Nat) : TraceUnit :=
  match u.cmd with
  | none => u
  | some c =>
    if u.st = .armed ∧ c.mode = 2 ∧ u.trig.isNone ∧ u.src = src ∧ u.armedAt ≤ t then { u with trig := some t } else u

/-- A trigger edge stamped t on TRIG_IN[n] reaches every Rank (R328). -/
def triggerAll (s : State) (n t : Nat) : State :=
  let s1 := (s.rwins.map Prod.fst).foldl (fun s k =>
    { s with rwins := s.rwins.update rwinDefault k fun w => triggerWindow w (n + 1) t }) s
  (s1.traces.map Prod.fst).foldl (fun s k =>
    { s with traces := s.traces.update unitDefault k fun u => triggerUnit u (n + 1) t }) s1

/-- The opening tick A of a window or unit whose trigger, if it needs one, has come. -/
def openTickOf (src armedAt : Nat) (trig : Option Nat) : Option Nat :=
  if src = 0 then some (nextFrame armedAt) else trig.map nextFrame

/-- The stamp of tick A: this tick's, or that of one of the last frame ticks. -/
def State.stampAt (s : State) (a : Nat) : Nat :=
  if a = s.epoch.toNat then s.stamp
  else match s.frameStamps.find? fun e => decide (e.1 = a) with | none => s.stamp | some e => e.2

/-- One whole frame of its tone meets an open window (R321). -/
def accumulate (s : State) (r k : Nat) (x : FrameOut) : State :=
  let w := s.rwin r k
  match w.cmd, w.openAt with
  | some c, some a =>
    let clip := w.clip || x.clip
    if x.frame < a ∨ a + 4 * c.frames ≤ x.frame then s
    else if x.bad then (s.setRwin r k { w with inv := w.inv + 1, clip := clip }).bump (whole (Reg.DMD_INV r))
    else
      let q := (x.frame - a) / 4 / 2 ^ min 2 (s.get (Reg.ACQ_WHDRw_SPF_LOG2 r c.wset))
      if min 256 (s.get (Reg.ACQ_WHDRw_LEN r c.wset)) ≤ q then s.setRwin r k { w with clip := clip }
      else
        let wi := signed 16 (s.get (Reg.ACQ_Ww_i_WI r c.wset q))
        let wq := signed 16 (s.get (Reg.ACQ_Ww_i_WQ r c.wset q))
        s.setRwin r k { w with
          aI := w.aI + x.i * wi + x.q * wq, aQ := w.aQ + x.q * wi - x.i * wq, clip := clip }
  | _, _ => s

/-- A shot with a window or capture on a stale feedline carries CAL_STALE (R339). -/
def flagStaleLine (s : State) (c : AcqCmd) : State :=
  if s.flag (Reg.DMD_RXCALf_STALE c.rank (c.tone / 16)) then s.shotFlag c.shot flCalStale else s

/-- One whole frame of its feedline meets a capture (R318, Table 09-7). -/
def captureFrame (x : TraceUnit) (f : FrameOut) : TraceUnit :=
  match x.openAt with
  | none => x
  | some a =>
    if x.st ≠ .capturing ∨ f.frame < a ∨ x.endAt ≤ f.frame then x
    else { x with inv := x.inv + (if f.bad then 1 else 0), clip := x.clip || f.clip }

/-- Begin the capture of a unit at A: the frames of the feedline that are held count (R404). -/
def openUnit (s : State) (r u a len : Nat) : State :=
  s.setUnit r u ((s.feed r u).past.foldl captureFrame { s.unit r u with
    st := .capturing, openAt := some a, openTick := s.now + a - s.epoch.toNat, endAt := a + len, stamp := s.stampAt a })

/-- WINDOW_OPEN of a result window, and of the capture that goes with it: the frames of the tone that are held count (R404). -/
def openWindow (s : State) (r k : Nat) (c : AcqCmd) (a : Nat) : State :=
  let s1 := flagStaleLine (s.setRwin r k { s.rwin r k with openAt := some a, stamp := s.stampAt a }) c
  let s2 := if (s1.unit r (k / 16)).cmd = some c ∧ (s1.unit r (k / 16)).st = .armed then openUnit s1 r (k / 16) a (4 * c.frames) else s1
  (s2.tone r k).past.reverse.foldl (fun s x => accumulate s r k x) s2

/-- What may open now: the command and A. -/
def windowOpens (s : State) (r k : Nat) (unit : Bool) : Option (AcqCmd × Nat) :=
  let pick (cmd : Option AcqCmd) (a : Option Nat) (ok : AcqCmd → Bool) : Option (AcqCmd × Nat) :=
    match cmd, a with
    | some c, some a => if a ≤ s.epoch.toNat ∧ ok c then some (c, a) else none
    | _, _ => none
  if unit then
    let u := s.unit r k
    pick u.cmd (openTickOf u.src u.armedAt u.trig) fun c => decide (u.st = .armed) && decide (c.mode = 2)
  else
    let w := s.rwin r k
    pick w.cmd (openTickOf w.src w.armedAt w.trig) fun _ => w.openAt.isNone

def execWindowOpen (r k : Nat) (unit : Bool) (s : State) : Host.Outcome State Fault Refusal :=
  match windowOpens s r k unit with
  | none => .next s
  | some (c, a) =>
    .next (if unit then openUnit (flagStaleLine s c) r k a (atLeast16 (s.get (Reg.ACQ_TRPOSTu_POST r k))) else openWindow s r k c a)

/-- No trigger came in [H, H + TIMEOUT] (R328): the level of the frame that contains H + TIMEOUT is known when it has ended, an edge
stamped H + TIMEOUT once it would have reached the windows (R404). -/
def forcedDue (s : State) (src armedAt timeout : Nat) : Bool :=
  decide (src ≠ 0) &&
    (if src = 5 then decide ((armedAt + timeout) / 4 * 4 + 4 ≤ s.epoch.toNat)
     else decide (armedAt + timeout + s.get (Reg.TDC_TRIGi_DEGLITCH (src - 1)) + 8 < s.epoch.toNat))

/-- FORCED_TRIGGER (R328). -/
def execForcedTrigger (r k : Nat) (unit : Bool) (s : State) : Host.Outcome State Fault Refusal :=
  if unit then
    let u := s.unit r k
    match u.cmd with
    | none => .next s
    | some c =>
      happen (decide (u.st = .armed ∧ c.mode = 2 ∧ u.trig.isNone) && forcedDue s u.src u.armedAt u.timeout) s
        ((s.setUnit r k { u with trig := some (u.armedAt + u.timeout), forced := true }).shotFlag c.shot flForced)
  else
    let w := s.rwin r k
    match w.cmd with
    | none => .next s
    | some c =>
      happen (w.openAt.isNone && w.trig.isNone && forcedDue s w.src w.armedAt w.timeout) s
        (((s.setRwin r k { w with trig := some (w.armedAt + w.timeout), forced := true }).bump
          (Reg.ACQ_RWSTATk_FORCED r k)).shotFlag c.shot flForced)

/-! ### The end of a window (R321, R324, R325) -/

/-- The rounded, shifted and saturated point (R321). -/
def pointOf (acc : Int) (rshift : Nat) : Int :=
  clampTo (-8388608) 8388607 (if rshift = 0 then acc else asr (acc + 2 ^ (rshift - 1)) rshift)

/-- Discrimination (R324). -/
def discriminate (s : State) (r d : Nat) (i q : Int) : Nat :=
  let best := (List.range (min 12 (s.get (Reg.ACQ_DHDRd_NSTATES r d)))).foldl (fun (b : Option (Nat × Int)) j =>
    let di := i - signed 24 (s.rd (Reg.ACQ_RGNd_j_CI r d j)).toNat
    let dq := q - signed 24 (s.rd (Reg.ACQ_RGNd_j_CQ r d j)).toNat
    let dist := di * di + dq * dq
    match b with
    | none => some (j, dist)
    | some (_, m) => if dist < m then some (j, dist) else b) none
  match best with
  | none => 0xC
  | some (j, m) =>
    let rad : Int := ((s.rd (Reg.ACQ_RGNd_j_RAD r d j)).toNat % 2 ^ 24 : Nat)
    if rad * rad < m then 0xC else j

/-- The record of a window that ended (Table 09-6); a capture that goes with it belongs to the record. -/
def windowRecord (s : State) (c : AcqCmd) (w : RWin) (a : Nat) (v : Nat) (void ue : Bool) (rI rQ : Int) : Option RecData :=
  let u := s.unit c.rank (c.tone / 16)
  let capt := decide (c.mode = 1) && !w.traceMissed
  let flags := (if w.forced then [rfForced] else []) ++ (if w.inv ≠ 0 then [rfInvalid] else []) ++
    (if ue then [rfPoisoned] else []) ++ (if w.clip ∨ (capt ∧ u.clip) then [rfOverrange] else []) ++
    (if w.traceMissed then [rfTraceMissed] else []) ++ (if void then [rfStrictVoid] else [])
  let base : RecData :=
    { shot := c.shot, kind := kindResult, rank := c.rank, tone := c.tone, utag := c.utag, verdict := v, trigSrc := w.src,
      trigOfs := a - w.trig.getD a, flags := flags, inv := w.inv, stamp := w.stamp, frames := c.frames, dset := c.dset,
      wset := c.wset, rI := rI, rQ := rQ, dead := 0, missed := 0, cap := none }
  let withCap : RecData := { base with
    kind := kindResultTrace, dead := if u.lastShot = some c.shot then u.dead else 0, missed := u.missed,
    cap := some ⟨c.rank, c.tone / 16, u.openTick, 4 * c.frames⟩ }
  if capt then
    some (if c.record then withCap
      else { withCap with kind := kindTrace, verdict := 0xF, frames := 0, rI := 0, rQ := 0 })
  else if c.record then some (if c.mode = 1 then { base with missed := u.missed } else base)
  else none

/-- INTEGRATION_END: `ue` says that a weight or region entry read for the window was uncorrectable (R323). -/
def integrationEnd (s : State) (r k : Nat) (c : AcqCmd) (a : Nat) (ue : Bool) : State :=
  let w := s.rwin r k
  let sh := min 47 (s.get (Reg.ACQ_WHDRw_RSHIFT r c.wset))
  let rI := pointOf w.aI sh
  let rQ := pointOf w.aQ sh
  let void := s.flag (Reg.ACQ_RWCFGk_STRICT r k) && decide (w.inv ≠ 0)
  let v := if ue then 0xE else if void then 0xF else discriminate s r c.dset rI rQ
  let out := windowRecord s c w a v void ue rI rQ
  let s1 := s.setRwin r k (rwinDefault 0)
  let s2 := if out.isSome ∧ c.mode = 1 then s1.setUnit r (k / 16) { s1.unit r (k / 16) with missed := 0 } else s1
  let s3 := if ue then s2.shotPoison c.shot true else s2
  if c.verd ∨ out.isSome then
    { s3 with results := s3.results ++
      [⟨c.shot, c.engine, r, k, a + 4 * c.frames, if c.verd then some v else none, out, false, false, false⟩] }
  else s3

def execIntegrationEnd (r k : Nat) (ue : Bool) (s : State) : Host.Outcome State Fault Refusal :=
  match (s.rwin r k).cmd, (s.rwin r k).openAt with
  | some c, some a => happen (decide (a + 4 * c.frames ≤ s.epoch.toNat)) s (integrationEnd s r k c a ue)
  | _, _ => .next s

/-! ### Trace units (R330, R331) -/

/-- The record of a capture alone. -/
def traceRecord (u : TraceUnit) (c : AcqCmd) (a : Nat) : RecData :=
  { shot := c.shot, kind := kindTrace, rank := c.rank, tone := c.tone, utag := c.utag, verdict := 0xF, trigSrc := u.src,
    trigOfs := a - u.trig.getD a,
    flags := (if u.forced then [rfForced] else []) ++ (if u.inv ≠ 0 then [rfInvalid] else []) ++
      (if u.clip then [rfOverrange] else []),
    inv := u.inv, stamp := u.stamp, frames := 0, dset := c.dset, wset := c.wset, rI := 0, rQ := 0,
    dead := if u.lastShot = some c.shot then u.dead else 0, missed := u.missed,
    cap := some ⟨c.rank, c.tone / 16, u.openTick, u.endAt - a⟩ }

/-- CAPTURE_END: the unit begins to re-arm; a capture alone completes its record. A window that ends in the same tick ends
first. A frame that the capture ends within counts as it stands. -/
def captureEnd (s : State) (r u : Nat) (c : AcqCmd) (a : Nat) : State :=
  let x0 := s.unit r u
  let f := s.epoch.toNat / 4 * 4
  let x := if f < x0.endAt then captureFrame x0 ⟨f, 0, 0, decide (f < (s.feed r u).badUntil), (s.feed r u).clip⟩ else x0
  let y := { x with st := .rearming, cmd := none, endTick := s.now, lastShot := some c.shot }
  if c.mode = 2 then completeRecord (s.setUnit r u { y with missed := 0 }) (traceRecord x c a) else s.setUnit r u y

def execCaptureEnd (r u : Nat) (s : State) : Host.Outcome State Fault Refusal :=
  let x := s.unit r u
  match x.cmd, x.openAt with
  | some c, some a =>
    happen (decide (x.st = .capturing ∧ x.endAt ≤ s.epoch.toNat) &&
      (if c.mode = 2 then recordTurn s (r * 34 + u) else decide ((s.rwin r c.tone).cmd ≠ some c))) s (captureEnd s r u c a)
  | _, _ => .next s

/-- TRACE_REARM: DEAD is measured to the tick, at least 40. -/
def execTraceRearm (r u : Nat) (s : State) : Host.Outcome State Fault Refusal :=
  let x := s.unit r u
  happen (decide (x.st = .rearming ∧ x.endTick + 40 ≤ s.now)) s
    ((s.setUnit r u { x with st := .ready, dead := s.now - x.endTick }).put (Reg.ACQ_TRSTATu_DEAD r u) (s.now - x.endTick))

/-! ### Stops (R175, R536) -/

/-- A window that a stop ends: its verdict is owed at the end it was due to reach, or, if it was not open, at the first frame
tick from the stop on. -/
def stopWindow (s : State) (r k v : Nat) (p : AcqCmd → Bool) : State :=
  let w := s.rwin r k
  match w.cmd with
  | none => s
  | some c =>
    if !p c then s
    else
      let b := match w.openAt with | some a => a + 4 * c.frames | none => nextFrame s.epoch.toNat
      let s1 := s.setRwin r k (rwinDefault 0)
      if c.verd then
        { s1 with results := s1.results ++ [⟨c.shot, c.engine, r, k, b, some v, none, false, false, false⟩] }
      else s1

/-- A capture that a stop discards. -/
def stopUnit (s : State) (r u : Nat) (p : AcqCmd → Bool) : State :=
  let x := s.unit r u
  match x.cmd with
  | none => s
  | some c =>
    if !p c then s
    else if x.st = .capturing then
      s.setUnit r u { x with st := .rearming, cmd := none, endTick := s.now, lastShot := some c.shot }
    else s.setUnit r u { x with st := .ready, cmd := none }

/-- A stop of the acquisition of a Rank that a predicate names: v is the verdict of the windows that have not ended. -/
def stopAcquisition (s : State) (r v : Nat) (p : AcqCmd → Bool) (q : Res → Bool) : State :=
  let s1 := { s with
    acqs := s.acqs.filter (fun c => !(decide (c.rank = r) && p c)),
    results := (s.results.map fun x => if x.rank = r ∧ q x then { x with record := none } else x).filter fun x =>
      x.verdict.isSome || x.record.isSome }
  let s2 := (List.range 32).foldl (fun s k => stopWindow s r k v p) s1
  (List.range 2).foldl (fun s u => stopUnit s r u p) s2

/-! ### Registers (R322, R342) -/

/-- A live shot claims a tone or a trace unit of a Rank. -/
def toneClaimed (s : State) (r k : Nat) : Bool := s.claimed fun d => (d.tones r).testBit k
def traceClaimed (s : State) (r u : Nat) : Bool := s.claimed fun d => (d.trace r).testBit u

/-- A weight set or a region set is locked or in use by an open window (R322). -/
def setInUse (s : State) (r n : Nat) (region : Bool) : Bool :=
  (if region then (s.get (Reg.ACQ_SETLOCK_DLOCK r)).testBit n else (s.get (Reg.ACQ_SETLOCK_WLOCK r)).testBit n) ||
    (List.range 32).any fun k =>
      (s.rwin r k).openAt.isSome && (match (s.rwin r k).cmd with
        | none => false
        | some c => decide ((if region then c.dset else c.wset) = n))

/-- A write of a weight set's registers, or of a region set's, with its writable bits. -/
def writeSetReg (s : State) (r n : Nat) (region : Bool) (addr : Nat) (mask v : Word) : WriteOut :=
  if setInUse s r n region then refusedBy s 2 else taken (s.wr addr (v &&& mask))

/-- A write of a result window's or a trace unit's configuration. -/
def writeWindowCfg (s : State) (busy : Bool) (addr : Nat) (mask v : Word) : WriteOut :=
  if busy then refusedBy s 4 else taken (s.wr addr (v &&& mask))

/-- A write of ACQ_CTRL.STATS_CLR. -/
def clearAcqStats (s : State) (r : Nat) : State :=
  let s1 := (List.range 32).foldl (fun s k => s.put (Reg.ACQ_RWSTATk_FORCED r k) 0) (s.wr (Reg.ACQ_STAT r) 0)
  (List.range 2).foldl (fun s u => s.put (Reg.ACQ_TRSTATu_MISSED r u) 0) s1

end Sys2Proof.Machine
end

