-- ==== Sys2Proof/Machine/Ports.lean ====
section
/-!
DEFINITION. Segments, jumps and streams (06): how a port plays its pieces, the commands of a nanoword at its ball tick (R193), and
what a stop leaves of an engine's work on ports, markers and windows (R174, R175, R184, R536).
-/
namespace Sys2Proof.Machine

/-! ### Stream windows (Table 06-6) -/

namespace Desc
def wStream (d : Desc) : Nat := d.body 32 0 8
def wLast (d : Desc) : Bool := decide (d.body 33 7 1 = 1)
def wClass (d : Desc) : Nat := d.body 33 5 2
def wEngine (d : Desc) : Nat := d.body 33 0 5
def fbLoop (d : Desc) : Nat := d.body 34 0 13
def fbExit (d : Desc) : Nat := d.body 36 0 13
def ownerSq (d : Desc) : Nat := d.body 38 0 6
def wTgt (d : Desc) : Nat := d.body 39 0 5
def ownerTag (d : Desc) : Nat := d.body 40 0 16
def segLen (d : Desc) : Nat := d.body 42 0 16
def wSegs (d : Desc) : Nat := d.body 44 0 16
def wH2d (d : Desc) : Nat := d.body 46 0 16
def wRs (d : Desc) : Nat := d.body 48 0 16
def wseq (d : Desc) : Nat := d.body 52 0 32
def wSrc (d : Desc) : Nat := d.body 56 0 64
/-- The one Rank of a window, its port, and the words of 4 bytes of a frame of its data (R245). -/
def wRank (d : Desc) : Nat := d.ranks.headD 0
def wPort (d : Desc) : Nat := 32 * d.wClass + d.wTgt
def wFrameWords (d : Desc) : Nat := if d.wClass = 2 then 2 else 1
def wBytes (d : Desc) : Nat := d.wSegs * d.segLen * 4 * d.wFrameWords
end Desc

/-- The admitted window that holds the next segment of a stream. -/
def State.winOf (s : State) (r n : Nat) : Option StreamWin :=
  s.wins.find? fun w => !w.ended && decide (w.desc.wRank = r ∧ w.desc.wStream = n ∧ w.owner = (s.stream r n).owner ∧
    w.desc.wseq = (s.stream r n).wseq)

/-! ### Pieces (R224-R226, R230) -/

/-- Ticks of the piece, and of those the ticks with samples; a rest granule is 16 t. -/
def Piece.ticks : Piece → Nat
  | .rest => 16
  | .cached _ len _ => 16 * len
  | .streamed _ _ _ frames => 4 * frames + 8
def Piece.sampleTicks : Piece → Nat
  | .rest => 0
  | .cached _ len _ => 16 * len
  | .streamed _ _ _ frames => 4 * frames

def Piece.isStreamed : Piece → Bool
  | .streamed _ _ _ _ => true
  | _ => false
def Piece.isRest : Piece → Bool
  | .rest => true
  | _ => false

/-- The poison of a word of the cache is of cause MEMORY: every poisoned on-die word holds its cause (R380). -/
def State.cacheMemoryCause (s : State) (r w : Nat) : Bool :=
  decide (poisonCause (s.cacheWord r w).word.toNat = causeMemory)

/-- A piece begins on a port at tick t. -/
def State.beginPiece (s : State) (r p : Nat) (pc : Piece) (eng t : Nat) : State :=
  s.setPort r p { s.port r p with
    piece := pc, eng := eng, start := t, stop := t + pc.ticks, committed := none, commCmd := none, muteFrom := none }

/-- PH acts on VPH (R237). -/
def phaseOp (op phase : Nat) (v : BitVec 16) : BitVec 16 :=
  if op = 1 then BitVec.ofNat 16 phase else if op = 2 then v + BitVec.ofNat 16 phase else v

/-- The channel state of a command (R226); a tone whose VPH or FSLOT changes has invalid frames (R318). -/
def State.setChannel (s : State) (r p : Nat) (c : PortCmd) : State :=
  let x := s.port r p
  if p < 64 then
    let y := { x with fslot := c.fslot, amp := c.amp, vph := phaseOp c.phOp c.phase x.vph }
    let s1 := s.setPort r p y
    if 32 ≤ p ∧ (y.fslot ≠ x.fslot ∨ y.vph ≠ x.vph) then s1.spoilOwn r (p - 32) else s1
  else s.setPort r p { x with amp := c.amp }

/-! ### Streamed starts (R248, R249) -/

/-- The window from which a streamed segment may start at tick t. A starved stream plays what its admitted windows hold (R253). -/
def State.streamReady (s : State) (r p : Nat) (c : PortCmd) (t : Nat) : Option StreamWin :=
  let n := c.seg % 256
  match s.winOf r n with
  | none => none
  | some w =>
    let d := w.desc
    if (s.stream r n).isOpen ∧ (s.port r p).shot = some w.owner ∧ c.engine = d.wEngine ∧ p = d.wPort ∧ d.startEpoch ≤ t ∧
      t + d.segLen * 4 + 8 ≤ d.startEpoch + d.span then some w else none

/-- The stream's next segment advances by one. -/
def Stream.advance (x : Stream) (segs : Nat) : Stream :=
  if x.next + 1 = segs then { x with next := 0, wseq := x.wseq + 1 } else { x with next := x.next + 1 }

/-- A streamed segment starts at tick t, or the port rests and the miss is counted. -/
def startStreamed (s : State) (r p : Nat) (c : PortCmd) (t : Nat) : State :=
  let n := c.seg % 256
  match s.streamReady r p c t with
  | none =>
    let s1 := (s.bump (Reg.RNK_STRM_STAT_MISS r)).beginPiece r p .rest c.engine t
    match (s.port r p).shot with | none => s1 | some uid => s1.shotFlag uid flDropped
  | some w =>
    let x := s.stream r n
    let s1 := { (s.setStream r n (x.advance w.desc.wSegs)) with
      wins := s.wins.map fun (v : StreamWin) => if v.desc.uid = w.desc.uid then { v with started := v.started + 1 } else v }
    (s1.setChannel r p c).beginPiece r p (.streamed n w.desc.uid x.next w.desc.segLen) c.engine t

/-! ### Commands at a port (R228-R232) -/

/-- START (R228, R229): it cuts the piece and discards a pending JUMP, or waits behind a streamed segment. (DEDUCED, log 67.) -/
def portStart (s : State) (r p : Nat) (c : PortCmd) : State :=
  let x := s.port r p
  if x.piece.isStreamed then s.setPort r p { x with pend := some c }
  else
    let s1 := s.setPort r p { x with pend := none }
    if c.streamed then startStreamed s1 r p c s.ep
    else (s1.setChannel r p c).beginPiece r p (.cached c.seg c.len c.rep) c.engine s.ep

/-- HALT (R228, R229). -/
def portHalt (s : State) (r p : Nat) (c : PortCmd) : State :=
  let x := s.port r p
  if x.piece.isStreamed then s.setPort r p { x with pend := some c }
  else (s.setPort r p { x with pend := none }).beginPiece r p .rest c.engine s.ep

/-- JUMP (R231, R232) and MODIFY (R229). -/
def portJump (s : State) (r p : Nat) (c : PortCmd) : State := s.setPort r p { s.port r p with pend := some c }
def portModify (s : State) (r p : Nat) (c : PortCmd) : State := s.setChannel r p c

/-- The command of a port that takes effect next, if its tick has come. -/
def Port.dueCmd (x : Port) (e : Nat) : Option PortCmd := (x.queue.find? fun q => decide (q.1 ≤ e)).map Prod.snd

/-- Carry out the due command of a port. -/
def takeCmd (s : State) (r p : Nat) (f : State → Nat → Nat → PortCmd → State) : State :=
  match (s.port r p).dueCmd s.ep with
  | none => s
  | some c =>
    f (s.setPort r p { s.port r p with queue := (s.port r p).queue.eraseP fun q => decide (q.1 ≤ s.ep) }) r p c

/-- The due command of a port has an OPC. -/
def State.portDue (s : State) (r p opc : Nat) : Bool :=
  match (s.port r p).dueCmd s.ep with | none => false | some c => decide (c.opc = opc)

/-! ### Commits and boundaries (R230, R231) -/

/-- The commit tick of the piece in progress. -/
def Port.commitTick (x : Port) (p : Nat) : Nat :=
  if x.piece.isStreamed ∨ 64 ≤ p then x.stop - 1 else x.stop - 4

/-- The port plays in a shot, or a piece of an ended one. -/
def Port.active (x : Port) : Bool := x.shot.isSome || !x.piece.isRest

/-- A commit is due. -/
def Port.commitDue (x : Port) (p e : Nat) : Bool := x.active && x.committed.isNone && decide (x.commitTick p ≤ e)

/-- The piece that begins at the next boundary: a pending command, the next repetition, or a rest granule. -/
def Port.commit (x : Port) : Port :=
  match x.pend with
  | some c =>
    let pc := if c.opc = 2 then Piece.rest else if c.streamed then .streamed (c.seg % 256) 0 0 0 else .cached c.seg c.len c.rep
    { x with committed := some (pc, c.engine), commCmd := if c.opc = 2 then none else some c, pend := none }
  | none =>
    match x.piece with
    | .cached seg len (k + 1) => { x with committed := some (.cached seg len k, x.eng), commCmd := none }
    | _ => { x with committed := some (.rest, x.eng), commCmd := none }

/-- The segment boundary of a port: the committed piece begins. -/
def State.crossBoundary (s : State) (r p : Nat) : State :=
  let x := s.port r p
  let y := if x.committed.isNone then x.commit else x
  let s1 := s.setPort r p y
  match y.committed, y.commCmd with
  | none, _ => s1
  | some _, some c =>
    if c.streamed then startStreamed s1 r p c x.stop
    else (s1.setChannel r p c).beginPiece r p (.cached c.seg c.len c.rep) c.engine x.stop
  | some (pc, e), none => s1.beginPiece r p pc e x.stop

/-- Every port whose boundary falls in this tick crosses it. -/
def crossBoundaries (s : State) : State :=
  (s.ports.map Prod.fst).foldl (fun s k =>
    let x := s.port (k / 96) (k % 96)
    if x.active ∧ x.stop ≤ s.ep then s.crossBoundary (k / 96) (k % 96) else s) s

/-! ### PORT_START, PORT_JUMP, PORT_HALT, PORT_MODIFY, SEGMENT_COMMIT -/

def execPortStart (r p : Nat) (s : State) : Host.Outcome State Fault Refusal :=
  happen (s.portDue r p 0) s (takeCmd s r p portStart)

/-- A JUMP that arrives in the commit tick comes after the commit (R230: the commit falls at the start of the tick). -/
def execPortJump (r p : Nat) (s : State) : Host.Outcome State Fault Refusal :=
  happen (s.portDue r p 1 && !(s.port r p).commitDue p s.ep) s (takeCmd s r p portJump)

def execPortHalt (r p : Nat) (s : State) : Host.Outcome State Fault Refusal :=
  happen (s.portDue r p 2) s (takeCmd s r p portHalt)

def execPortModify (r p : Nat) (s : State) : Host.Outcome State Fault Refusal :=
  happen (s.portDue r p 3) s (takeCmd s r p portModify)

def execSegmentCommit (r p : Nat) (s : State) : Host.Outcome State Fault Refusal :=
  happen ((s.port r p).commitDue p s.ep) s (s.setPort r p (s.port r p).commit)

/-! ### The start of a shot (R225, R226, R241) -/

/-- The channel state of a port at the start of a shot: its private slot with PHOFS 0, VPH 0 and full AMP. -/
def State.initChannel (s : State) (r p : Nat) : State :=
  if p < 64 then
    let x := s.port r p
    let s1 := s.changeSlot r p { s.slot r p with phofs := 0 }
    let s2 := s1.setPort r p { x with fslot := p, vph := 0, amp := 0x7FFF, initAt := none }
    if 32 ≤ p ∧ (x.fslot ≠ p ∨ x.vph ≠ 0) then s2.spoilOwn r (p - 32) else s2
  else s.setPort r p { s.port r p with amp := 0x7FFF, initAt := none }

/-- A claimed port begins rest granules at ball tick s; the channel state of a baseband port waits for its frame tick. (DEDUCED, log 68.) -/
def State.startPort (s : State) (r p uid : Nat) : State :=
  let s1 := (s.setPort r p { s.port r p with
    shot := some uid, pend := none, queue := [], initAt := some (if p < 64 then nextFrame s.ep else s.ep) }).beginPiece r p .rest 0 s.ep
  if p < 64 ∧ s.ep % 4 ≠ 0 then s1 else s1.initChannel r p

/-- The channel states that were waiting for this tick. -/
def initChannels (s : State) : State :=
  (s.ports.map Prod.fst).foldl (fun s k =>
    match (s.port (k / 96) (k % 96)).initAt with
    | none => s
    | some t => if t ≤ s.ep then s.initChannel (k / 96) (k % 96) else s) s

/-! ### Frequency slots (R236, R239) -/

/-- Carry out a FRAME entry. -/
def applyFrame (s : State) (f : FrameEntry) : State :=
  let x := s.slot f.rank f.slot
  s.changeSlot f.rank f.slot
    (if f.op = 0 then { x with freq := f.freq } else if f.op = 1 then ⟨f.freq, f.phofs⟩ else { x with phofs := x.phofs + f.phofs })

/-- The FRAME entries that were waiting for this tick, in order. -/
def applyFrames (s : State) : State :=
  let due := s.frames.filter fun f => decide (f.epoch ≤ s.ep)
  due.foldl applyFrame { s with frames := s.frames.filter fun f => !decide (f.epoch ≤ s.ep) }

/-! ### Markers (R242-R244) -/

def mrkDefault (_ : Nat) : List MrkEdge := []
def State.edges (s : State) (r k : Nat) : List MrkEdge := s.mrk.get mrkDefault (r * 8 + k)

/-- An edge of MRK k commanded at ball tick `ball`; it supersedes nothing that came before it. -/
def State.edge (s : State) (r k ball : Nat) (level : Bool) (eng : Nat) : State :=
  let at50 : Int := 8 * (ball : Int) + signed 8 (s.get (Reg.RNK_MRK_SKEWk_SKEW r k))
  { s with mrk := s.mrk.set mrkDefault (r * 8 + k) (s.edges r k ++ [⟨at50, ball, level, eng⟩]) }

/-- The value of an output at a 50-ps sample index. -/
def levelAt (es : List MrkEdge) (n : Int) : Bool := es.foldl (fun v e => if e.at50 ≤ n then e.level else v) false

/-- RNK_MRK_STAT.LEVEL: the value at the ball at the end of the current tick. -/
def State.mrkLevels (s : State) (r : Nat) : Nat :=
  (List.range 8).foldl (fun a k => a + if s.mrkLive r k ∧ levelAt (s.edges r k) (8 * (s.ep : Int) + 7) then 2 ^ k else 0) 0

/-- The last value commanded on an output, and the engine that commanded it. -/
def lastEdge (es : List MrkEdge) : Option MrkEdge := es.getLast?

/-- An output commanded high by engines that a predicate names goes low (R174, R184, R242). (DEDUCED, log 69.) -/
def State.dropMark (s : State) (r k : Nat) (p : Nat → Bool) : State :=
  match lastEdge (s.edges r k) with
  | none => s
  | some e => if e.level ∧ p e.eng then s.edge r k s.ep false e.eng else s

/-- A write of RNK_MRK_SKEWk (R244). -/
def writeSkew (s : State) (r k : Nat) (v : Word) : WriteOut :=
  if s.claimed fun d => (d.mrk r).testBit k then refusedBy s 2 else taken (s.put (Reg.RNK_MRK_SKEWk_SKEW r k) (wordBits v 7 0))

/-! ### Nanowords at the ball (R148, R181, R193, R194, R219, R239, R240) -/

/-- Two engines of a shot that name one target in one tick: the lower-numbered prevails, the other's command counts (R194). The
second component says whether the command acts. -/
def State.contend (s : State) (r e ball target : Nat) : State × Bool :=
  if s.commanded.any fun c => decide (c.1 = ball ∧ c.2.1 = target ∧ c.2.2 < e) then (s.bump (whole (Reg.SE_CONFLICT r)), false)
  else ({ s with commanded := (ball, target, e) :: s.commanded.filter fun c => decide (c.1 = ball) }, true)

/-- The 16-byte units of a cached segment lie in the shot's cache ranges and in the cache (R219). -/
def segOk (d : Desc) (r p : Nat) (c : PortCmd) : Bool :=
  let units := if p < 64 then c.len else 2 * c.len
  decide (c.seg + units ≤ 1572864) &&
    (List.range ((c.seg + units - 1) / 1024 + 1 - c.seg / 1024)).all fun i =>
      (d.cacheRanges r).any fun g => decide (g.1 ≤ c.seg / 1024 + i ∧ c.seg / 1024 + i < g.1 + g.2)

/-- FSLOT is a shared slot or the private slot of a claimed channel (R240). -/
def fslotOk (d : Desc) (r f : Nat) : Bool := decide (64 ≤ f) || claimsPort d r f

/-- A port command may act: the checks at its arrival. -/
def portCmdOk (d : Desc) (r p : Nat) (c : PortCmd) : Bool :=
  claimsPort d r p && (decide (c.opc = 2) || decide (64 ≤ p) || fslotOk d r c.fslot) &&
    (decide (2 ≤ c.opc) || c.streamed || segOk d r p c)

/-- What the commands of one nanoword share: Rank, engine, shot, ball tick, and that the engine is flux-only (R181). -/
structure Issuer where
  r : Nat
  e : Nat
  uid : Nat
  d : Desc
  ball : Nat
  flux : Bool
  deriving DecidableEq, Repr

/-- A port command of a nanoword; base is 0, 32 or 64 for drive channels, tones and FFX outputs. -/
def issuePort (q : Issuer) (base c : Nat) (s : State) : State :=
  if !pcValid c then s
  else
    let p := base + pcTgt c
    let cmd := pcCommand q.e c
    if (q.flux ∧ base ≠ 64) ∨ !portCmdOk q.d q.r p cmd then s.guardPort q.uid
    else
      let t := s.contend q.r q.e q.ball (portKey q.r p)
      if !t.2 then t.1
      else
        t.1.setPort q.r p { t.1.port q.r p with
          queue := (t.1.port q.r p).queue ++ [(if base = 64 ∨ cmd.opc = 1 then q.ball else nextFrame q.ball, cmd)] }

/-- An acquisition command (R320): it waits for its arm tick. -/
def issueAcq (q : Issuer) (c : Nat) (s : State) : State :=
  if !acValid c then s
  else
    let k := acTone c
    let m := acMode c
    if q.flux ∨ !(q.d.tones q.r).testBit k ∨ (m ≠ 0 ∧ !(q.d.trace q.r).testBit (k / 16)) then s.guardPort q.uid
    else
      let t := s.contend q.r q.e q.ball (if m = 2 then 25000 + q.r * 2 + k / 16 else 20000 + q.r * 32 + k)
      if !t.2 then t.1
      else
        { t.1 with acqs := t.1.acqs ++ [
          { shot := q.uid, engine := q.e, rank := q.r, tone := k, ball := q.ball, armAt := q.ball + acDelay c, mode := m,
            frames := acIntLen c + 1, wset := acWset c, dset := acDset c, verd := acVerd c, record := acRec c,
            utag := acUtag c }] }

/-- Commands A and B name the same window, or the same trace unit: only B counts (R193). -/
def sameAcq (a b : Nat) : Bool :=
  acValid a && acValid b &&
    (if acMode a = 2 then decide (acMode b = 2 ∧ acTone a / 16 = acTone b / 16) else decide (acMode b ≠ 2 ∧ acTone a = acTone b))

/-- Bias setting j of a nanoword; a later one for the same output takes its place (R193). -/
def issueBias (q : Issuer) (n j : Nat) (s : State) : State :=
  let c := nwSetting n j
  if !bsValid c ∨ (List.range 8).any (fun i => decide (j < i) && bsValid (nwSetting n i) && decide (bsOut (nwSetting n i) = bsOut c)) then s
  else if !(q.d.bias q.r).testBit (bsOut c) then s.guardPort q.uid
  else
    let t := s.contend q.r q.e q.ball (30000 + q.r * 32 + bsOut c)
    if t.2 then (biasSetting t.1 q.r (bsOut c) (bsCode c) q.uid).touch q.uid else t.1

/-- A FRAME entry (R227, R239): at its frame tick. -/
def issueFrame (q : Issuer) (c : Nat) (s : State) : State :=
  if !feValid c then s
  else if q.flux ∨ 64 ≤ feSlot c ∨ !claimsPort q.d q.r (feSlot c) then s.guardPort q.uid
  else
    let t := s.contend q.r q.e q.ball (10000 + q.r * 128 + feSlot c)
    let f : FrameEntry :=
      ⟨nextFrame q.ball, q.r, feSlot c, feOp c, BitVec.ofNat 40 (feFreq c), BitVec.ofNat 16 (fePhofs c)⟩
    if !t.2 then t.1
    else if f.epoch ≤ s.ep then applyFrame t.1 f
    else { t.1 with frames := t.1.frames ++ [f] }

/-- The marker field (R191, R243). -/
def issueMark (q : Issuer) (n : Nat) (s : State) : State :=
  (List.range 8).foldl (fun s k =>
    if !(nwMrkEn n).testBit k then s
    else if q.flux ∨ !(q.d.mrk q.r).testBit k then s.guardPort q.uid
    else
      let t := s.contend q.r q.e q.ball (40000 + q.r * 8 + k)
      if t.2 then (t.1.edge q.r k q.ball ((nwMrkVal n).testBit k) q.e).touch q.uid else t.1) s

/-- A nanoword applies its commands in the order of R193. (DEDUCED, log 61.) -/
def applyNano (q : Issuer) (n : Nat) (s : State) : State :=
  match nwKind n with
  | 0 => issueMark q n s
  | 1 => issueMark q n (issuePort q 0 (bitsOf n 191 96) (issuePort q 0 (bitsOf n 95 0) s))
  | 2 =>
    let a := bitsOf n 159 96
    let b := bitsOf n 223 160
    let s1 := issuePort q 32 (bitsOf n 95 0) s
    issueMark q n (issueAcq q b (if sameAcq a b then s1 else issueAcq q a s1))
  | 3 => issueMark q n (issuePort q 64 (bitsOf n 191 96) (issuePort q 64 (bitsOf n 95 0) s))
  | 4 => issueMark q n ((List.range 8).foldl (fun s j => issueBias q n j s) s)
  | 5 => (List.range 3).foldl (fun s j => issueFrame q (nwEntry n j) s) s
  | _ => s

/-- The nanoword of an engine that is due at the balls. -/
def Engine.dueNano (g : Engine) (e : Nat) : Option (BitVec 256 × Nat) :=
  match g.balls with
  | ⟨t, .nano _ w⟩ :: _ => if t ≤ e then some (w, t) else none
  | _ => none

/-- No stop of the shot comes first in this tick: its span fence, an abort with IMMEDIATE, a failure of the Rank. -/
def State.unstopped (s : State) (x : Shot) : Bool :=
  decide (s.ep < x.desc.startEpoch + x.desc.span) &&
    (match x.abort with | none => true | some a => !a.immediate || decide (s.ep < a.epoch))

/-- NANOWORD_APPLY: the lower-numbered engines of the Rank first (R194). -/
def nanowordApply (s : State) (r e : Nat) : State :=
  let g := s.engine r e
  match g.dueNano s.ep, s.shot? g.shot with
  | some (w, t), some x =>
    applyNano ⟨r, e, g.shot, x.desc, t, s.flag (Reg.SE_CFGe_FLUX_ONLY r e)⟩ w.toNat (s.setEngine r e { g with balls := g.balls.drop 1 })
  | _, _ => s

def execNanowordApply (r e : Nat) (s : State) : Host.Outcome State Fault Refusal :=
  happen (decide (r < s.part.ranks) && decide (e < 24) && ((s.engine r e).dueNano s.ep).isSome &&
    (match s.shot? (s.engine r e).shot with | none => false | some x => s.unstopped x) &&
    (List.range e).all fun i => ((s.engine r i).dueNano s.ep).isNone) s (nanowordApply s r e)

/-! ### Stops (R174, R175, R184, R536) -/

/-- Samples of a port per tick with samples. -/
def samplesPerTick (p : Nat) : Nat := if p < 64 then 8 else 1

/-- Ticks of the repetitions that follow a piece, unless a pending command takes their place (R230). -/
def Piece.repeatTicks : Piece → Nat
  | .cached _ len left => left * (16 * len)
  | _ => 0

/-- Samples of the piece in progress from tick t on, with its repetitions to come. -/
def Port.leftSamples (x : Port) (p t : Nat) (repeats : Bool) : Nat :=
  (x.start + x.piece.sampleTicks - max t x.start + if repeats && x.committed.isNone then x.piece.repeatTicks else 0) *
    samplesPerTick p

/-- Samples of the committed piece, with its repetitions. -/
def Port.committedSamples (x : Port) (p : Nat) (repeats : Bool) : Nat :=
  match x.committed with
  | none => 0
  | some (pc, _) => (pc.sampleTicks + if repeats then pc.repeatTicks else 0) * samplesPerTick p

/-- A stop reaches the work on a port of engines that a predicate names: what they scheduled from this tick on is dropped and
counted (R174); work of another engine stays. (DEDUCED, log 66.) -/
def stopPort (s : State) (r p uid : Nat) (who : Nat → Bool) : State :=
  let x := s.port r p
  let cut := who x.eng && !x.piece.isRest
  let cutNext := match x.committed with | none => false | some (_, e) => who e
  let repeats := match x.pend with | none => true | some c => who c.engine
  let n := (if cut then x.leftSamples p s.ep repeats else 0) + (if cutNext then x.committedSamples p repeats else 0)
  let keep := match x.commCmd with | none => none | some c => if cut && !cutNext then some c else none
  let y := { x with
    pend := match x.pend with | none => keep | some c => if who c.engine then keep else some c,
    queue := x.queue.filter fun q => !who q.2.engine,
    committed := if cutNext then none else x.committed, commCmd := if cutNext then none else x.commCmd }
  let s1 := (s.setPort r p y).dropSamples uid n
  if cut then s1.beginPiece r p .rest x.eng s.ep else s1

/-- An engine is idle again: it issues nothing, and its latches and staging slots are free. -/
def Engine.rest (g : Engine) : Engine :=
  { g with
    phase := .idle, halted := false, balls := [], wait := none, trap := none, vl0 := latchDefault,
    vl1 := latchDefault, vl2 := latchDefault, vl3 := latchDefault }

/-- The engine runs in a shot. -/
def Engine.runs (g : Engine) (uid : Nat) : Bool := decide (g.phase ≠ .idle ∧ g.shot = uid)

/-- A stop in this tick of the engines of a shot on a Rank that a predicate names; v is the verdict of their windows (R175). -/
def stopEngines (s : State) (uid r v : Nat) (who : Nat → Bool) : State :=
  let s1 := (List.range 96).foldl (fun s p => if (s.port r p).shot = some uid then stopPort s r p uid who else s) s
  let s2 := match s.shot? uid with
    | none => s1
    | some x => (List.range 8).foldl (fun s k => if (x.desc.mrk r).testBit k then s.dropMark r k who else s) s1
  let s3 := stopAcquisition s2 r v (fun c => decide (c.shot = uid) && who c.engine) (fun z => decide (z.shot = uid) && who z.engine)
  (List.range 24).foldl (fun s e => if (s.engine r e).runs uid ∧ who e then s.setEngine r e (s.engine r e).rest else s) s3

/-- A stop of a whole shot on every Rank (R174, R536). -/
def stopShot (s : State) (x : Shot) (v : Nat) : State :=
  x.desc.ranks.foldl (fun s r => stopEngines s x.desc.uid r v fun _ => true) s

/-- A STOP at its ball tick (R184): what the engine has started plays on, what is still pending is discarded without a count, its
markers go low. -/
def drainEngine (s : State) (r e : Nat) : State :=
  let g := s.engine r e
  let s1 := (List.range 96).foldl (fun s p =>
    let x := s.port r p
    match x.pend with
    | none => s
    | some c => if x.shot = some g.shot ∧ c.engine = e then s.setPort r p { x with pend := none } else s) s
  let s2 := match s.shot? g.shot with
    | none => s1
    | some x => (List.range 8).foldl (fun s k => if (x.desc.mrk r).testBit k then s.dropMark r k fun i => decide (i = e) else s) s1
  s2.setEngine r e { s2.engine r e with phase := .drain, balls := (s2.engine r e).balls.drop 1 }

/-- A fault at its ball tick (R209). -/
def faultEngine (s : State) (r e code pc : Nat) : State :=
  let g := s.engine r e
  let s1 :=
    if s.flag (Reg.SE_FAULTe_VALID r e) then s
    else ((s.put (Reg.SE_FAULTe_VALID r e) 1).put (Reg.SE_FAULTe_CODE r e) code).put (Reg.SE_FAULTe_PC r e) pc
  (stopEngines s1 g.shot r 0xF fun i => decide (i = e)).shotFlag g.shot flDropped

/-- QUIET at its ball tick: a quiet point of the shot's FFX and BIAS outputs on the Rank (Table 05-4, R304). -/
def quietPoint (s : State) (r uid : Nat) : State :=
  match s.shot? uid with
  | none => s
  | some x =>
    (List.range 32).foldl (fun s k =>
      let s1 := if (x.desc.ffx r).testBit k then s.setFfx r k { s.ffxAt r k with quiet := true } else s
      if (x.desc.bias r).testBit k then s1.setBia r k { s1.biaAt r k with quiet := true } else s1) s

/-- What comes to the balls in this tick without a nanoword: a boundary, a quiet point, STOP, a stop at a boundary, a fault. -/
def engineBall (s : State) (r e : Nat) : State :=
  let g := s.engine r e
  match g.balls with
  | [] => s
  | b :: t =>
    if s.ep < b.epoch then s
    else match b.act with
      | .nano _ _ => s
      | .boundary => s.setEngine r e { g with balls := t }
      | .quiet => quietPoint (s.setEngine r e { g with balls := t }) r g.shot
      | .stop => drainEngine s r e
      | .halt => stopEngines s g.shot r 0xF fun i => decide (i = e)
      | .fault c pc => faultEngine s r e c pc

/-- Work of an engine that still runs: pieces, windows, captures and commands. -/
def State.engineBusy (s : State) (r e uid : Nat) : Bool :=
  ((List.range 96).any fun p =>
    let x := s.port r p
    decide (x.shot = some uid) &&
      ((decide (x.eng = e) && !x.piece.isRest) || x.queue.any (fun q => decide (q.2.engine = e)) ||
        (match x.committed with | none => false | some (pc, i) => decide (i = e) && !pc.isRest))) ||
  s.acqs.any (fun c => decide (c.shot = uid ∧ c.rank = r ∧ c.engine = e)) ||
  (s.rwins.any fun w => decide (w.1 / 32 = r) && (match w.2.cmd with | none => false | some c => decide (c.shot = uid ∧ c.engine = e))) ||
  s.traces.any fun u => decide (u.1 / 2 = r) && (match u.2.cmd with | none => false | some c => decide (c.shot = uid ∧ c.engine = e))

/-- Every engine in this tick: its balls, and the end of its DRAIN (Table 05-20). -/
def engineBalls (s : State) : State :=
  (s.engines.map Prod.fst).foldl (fun s k =>
    let s1 := engineBall s (k / 24) (k % 24)
    let g := s1.engine (k / 24) (k % 24)
    if g.phase = .drain ∧ !s1.engineBusy (k / 24) (k % 24) g.shot then s1.setEngine (k / 24) (k % 24) g.rest else s1) s

end Sys2Proof.Machine
end

