-- ==== Sys2Proof/Machine/Samples.lean ====
section
/-!
DEFINITION. What plays and what is received in one tick: the samples of the ports, the codes of the RF lines and their counts (07),
the flux sample path (08), markers that are muted, and the demodulation of the read-out tones (09).
-/
namespace Sys2Proof.Machine

/-! ### The sample of a port (R217, R224) -/

/-- A sample of the port is due in this tick; a baseband sample covers the four ticks of its frame. -/
def Port.sampling (x : Port) (e : Nat) : Bool :=
  !x.piece.isRest && decide (x.start ≤ e ∧ e < x.start + x.piece.sampleTicks)

/-- The word of 4 bytes that holds the sample due, and whether it is poisoned: some true with cause MEMORY. Data from outside the
part never is (R173). -/
def State.sampleWord (s : State) (r p : Nat) : BitVec 32 × Option Bool :=
  let x := s.port r p
  let o := (s.ep - x.start) / if p < 64 then 4 else 2
  match x.piece with
  | .rest => (0, none)
  | .cached seg _ _ =>
    let c := s.cacheWord r (4 * seg + o)
    (c.word, if c.poison then some (s.cacheMemoryCause r (4 * seg + o)) else none)
  | .streamed _ uid index _ =>
    match s.wins.find? fun w => decide (w.desc.uid = uid) with
    | none => (0, none)
    | some w =>
      match w.data.getD (index * (w.desc.segLen * w.desc.wFrameWords) + o) none with
      | some v => (v, none)
      | none => (0, some false)

/-- The piece is muted from a poisoned sample on (R224). -/
def Port.muted (x : Port) (e : Nat) : Bool := match x.muteFrom with | none => false | some m => decide (m ≤ e)

/-- The scaled envelope of a baseband port in this tick (R259): zero at rest, in a dead time and when muted. -/
def State.scaledEnvelope (s : State) (r p : Nat) : Int × Int :=
  let x := s.port r p
  if x.sampling s.ep && !x.muted s.ep then
    let w := (s.sampleWord r p).1
    (scaleAmp x.amp.toInt (signed 16 w.toNat), scaleAmp x.amp.toInt (signed 16 (w.toNat / 2 ^ 16)))
  else (0, 0)

/-- The samples of FFX k are dropped in this tick: Clear state, or the hold of a range change (R301, R305). In the tick of a CLR_N an
output that was released still plays (R300). -/
def State.ffxBlocked (s : State) (r k : Nat) : Bool :=
  (s.ffxClear r k && (!s.clrNext || (s.ffxAt r k).wasClear)) || (s.ffxAt r k).hold.isSome

/-- A sample due on a flux output: dropped, or it becomes x (R290). -/
def playFlux (s : State) (r k uid : Nat) (w : BitVec 32) : State :=
  let x := s.port r (64 + k)
  if s.ffxBlocked r k then (s.bump (whole (Reg.FFX_DROPk r k))).dropSamples uid 1
  else
    let s1 := if s.flag (Reg.FFX_CALk_STALE r k) then s.shotFlag uid flCalStale else s
    if x.muted s.ep then s1
    else
      let e := signed 16 (if (s.ep - x.start) % 2 = 0 then w.toNat else w.toNat / 2 ^ 16)
      s1.setFfx r k { s1.ffxAt r k with x := scaleAmp x.amp.toInt e }

/-- The line of a logical channel (Table 07-1). -/
def channelLine (p : Nat) : Nat := if p < 32 then p / 2 else 16 + (p - 32) / 16

/-- Samples due on a channel of an RF line: dropped if the line is not Live (R270). -/
def playChannel (s : State) (r p uid : Nat) : State :=
  let l := channelLine p
  if s.lineState r l ≠ .live then s.dropSamples uid 8
  else if s.flag ⟨lineCal r l, 31, 31⟩ then s.shotFlag uid flCalStale else s

/-- A port of a running shot in one tick: the first poisoned word mutes the rest of the piece (R224), and the end of shot is not
before this tick (R26). -/
def playPort (s : State) (r p : Nat) : State :=
  let x := s.port r p
  match x.shot with
  | none => s
  | some uid =>
    if x.sampling s.ep then
      let w := s.sampleWord r p
      let s1 := s.touch uid
      let s2 := match w.2 with
        | some memory =>
          if x.muteFrom.isNone then (s1.setPort r p { x with muteFrom := some s.ep }).shotPoison uid memory else s1
        | none => s1
      if p < 64 then playChannel s2 r p uid else playFlux s2 r (p - 64) uid w.1
    else s

def playPorts (s : State) : State := (s.ports.map Prod.fst).foldl (fun s k => playPort s (k / 96) (k % 96)) s

/-! ### The codes of an RF line (R260, R263) -/

/-- The logical channels of an RF line. -/
def lineChannels (l : Nat) : List Nat := if l < 16 then [2 * l, 2 * l + 1] else (List.range 16).map fun k => 16 * l - 224 + k

/-- What a channel gives to its line in this tick. -/
def State.synChan (s : State) (r p : Nat) : SynChan :=
  let x := s.port r p
  let f := s.slot r x.fslot
  let u := s.scaledEnvelope r p
  ⟨p, u.1, u.2, s.interp.get interpDefault (r * 64 + p), f.freq, f.phofs + x.vph, s.gain r (channelLine p) f.freq⟩

/-- A channel at rest that does not ramp adds nothing to its line. -/
def SynChan.silent (c : SynChan) : Bool := decide (c.ui = 0 ∧ c.uq = 0) && !c.linear

/-- The sum of a line at DAC sample k of a tick; `next` gives the envelopes of the next frame. -/
def SynTick.sum (t : SynTick) (next : Nat → Int × Int) (k : Nat) : Int :=
  (t.chans.map fun c =>
    let m := t.epoch % 4 * 8 + k
    let n := next c.port
    mixSample (interpolate c.linear c.ui n.1 m) (interpolate c.linear c.uq n.2 m) c.gain
      (theta c.freq c.ph 0 (8 * t.count + k) / 2 ^ 20)).foldl (· + ·) 0

/-- Count a sample that saturated or was clamped (R263). -/
def countClamp (s : State) (r l : Nat) (sat lim : Bool) : State :=
  let hit : Nat × Nat × Nat := if l < 16 then (Reg.DRV_HIT r, 16 + l, l) else (Reg.DRV_HIT2 r, l - 14, l - 16)
  let s1 := if sat then (s.bump ⟨lineStat r l, 31, 16⟩).put ⟨hit.1, hit.2.1, hit.2.1⟩ 1 else s
  if lim then (s1.bump ⟨lineStat r l, 15, 0⟩).put ⟨hit.1, hit.2.2, hit.2.2⟩ 1 else s1

/-- The eight codes of a line in one tick, with their counts. -/
def countTick (s : State) (r l : Nat) (next : Nat → Int × Int) (t : SynTick) : State :=
  (List.range 8).foldl (fun s k =>
    let sum := t.sum next k
    let v := clampCode (if l < 16 then sum else shiftSum sum (s.line r l).shift) (s.rd (lineLim r l)).toNat
    countClamp s r l v.2.1 v.2.2) s

/-- The count that gives the phases of the samples at the balls: the old one for 48 t after an accepted EPOCH_IN edge (R65). -/
def State.phaseCount (s : State) : Nat :=
  match s.edgeAcceptedAt with
  | none => s.ep
  | some c => if s.now < c + 48 then s.epochOld + (s.now - c) else s.ep

def synthDefault (_ : Nat) : List SynTick := []

/-- An RF line in one tick. A tick in which some channel is interpolated is counted once the envelopes of the next frame are known,
in that frame's first tick. (DEDUCED, log 71.) -/
def playLine (s : State) (r l : Nat) : State :=
  let waiting := s.synth.get synthDefault (lineKey r l)
  let s1 := if s.ep % 4 = 0 then
    waiting.foldl (fun s t => countTick s r l (s.scaledEnvelope r) t) { s with synth := s.synth.set synthDefault (lineKey r l) [] }
    else s
  let chans := ((lineChannels l).map (s1.synChan r)).filter fun c => !c.silent
  if chans = [] ∨ s1.lineState r l ≠ .live then s1
  else if chans.any SynChan.linear then
    { s1 with synth := s1.synth.update synthDefault (lineKey r l) fun ts => ts ++ [⟨s1.ep, s1.phaseCount, chans⟩] }
  else countTick s1 r l (fun _ => (0, 0)) ⟨s1.ep, s1.phaseCount, chans⟩

def playLines (s : State) : State :=
  (List.range s.part.ranks).foldl (fun s r => (List.range 18).foldl (fun s l => playLine s r l) s) s

/-! ### The flux sample path (R290) -/

/-- A flux output in one tick; an analog section that is powered down plays code 0 and counts nothing. A quiet point lasts for its
tick. -/
def playFluxPath (s : State) (key : Nat) : State :=
  let r := key / 32
  let k := key % 32
  let v := ffxPath (s.ffxAt r k)
  let s1 := s.setFfx r k { v.2.1 with quiet := false }
  let s2 := if v.2.2.1 then s1.bump (Reg.FFX_STATk_SAT r k) else s1
  if v.2.2.2 then (s2.bump (Reg.FFX_STATk_LIM_HIT r k)).put ⟨Reg.FFX_HIT r, k, k⟩ 1 else s2

def playFluxPaths (s : State) : State :=
  let s1 := (s.ffx.map Prod.fst).foldl playFluxPath s
  (s1.bia.map Prod.fst).foldl (fun s k => s.setBia (k / 32) (k % 32) { s.biaAt (k / 32) (k % 32) with quiet := false }) s1

/-! ### Markers (R270) -/

/-- A claimed marker output of a shot that is not Live drops the 8 samples of the tick. -/
def dropMarksOf (s : State) (x : Shot) : State :=
  x.desc.ranks.foldl (fun s r => (List.range 8).foldl (fun s k =>
    if (x.desc.mrk r).testBit k && !s.mrkLive r k then s.dropSamples x.desc.uid 8 else s) s) s
def dropMarkers (s : State) : State := (s.shots.filter fun x => decide (x.phase = .running)).foldl dropMarksOf s

/-! ### Demodulation (R315-R317) -/

/-- RO_RX sample j of this tick. -/
def State.rx (s : State) (r f j : Nat) : Int := (Config.rxSample r f s.now j).toInt

/-- A sample at either end of the range (Table 09-7). -/
def overRange (x : Int) : Bool := decide (x ≤ -2048 ∨ 2047 ≤ x)

/-- The samples of a feedline in one tick: over-range ones count. -/
def receive (s : State) (r f : Nat) : State :=
  let n := (List.range 4).countP fun j => overRange (s.rx r f j)
  let y := s.feed r f
  (s.setFeed r f { y with clip := decide (n ≠ 0) || (y.clip && decide (s.ep % 4 ≠ 0)) }).bumpBy (Reg.DMD_RXSTATf_OVR r f) n

/-- The sums of a tone after the four samples of this tick. -/
def toneSums (s : State) (r k : Nat) : Int × Int :=
  let x := s.port r (32 + k)
  let f := s.slot r x.fslot
  let t := s.tone r k
  (List.range 4).foldl (fun (a : Int × Int) j =>
    let p := theta f.freq f.phofs x.vph (8 * s.ep + 2 * j) / 2 ^ 20
    let v := s.rx r (k / 16) j
    (a.1 + v * cosTable p, a.2 - v * sinTable p)) (if s.ep % 4 = 0 then (0, 0) else (t.accI, t.accQ))

/-- The filtered sample of the frames held, newest first (R317). -/
def filtered (filt : Nat) (hist : List Int) : Int :=
  asr (((hist.take (2 ^ filt)).foldl (· + ·) 0) + (2 ^ filt / 2 : Nat)) filt

/-- A frame of a tone against its window: a level trigger, then the integration (R321, R328). -/
def meetFrame (s : State) (r k : Nat) (x : FrameOut) : State :=
  let high := decide (s.get (Reg.ACQ_RWTHRk_THR r k) ≤ max x.i.natAbs x.q.natAbs)
  let w := s.rwin r k
  let u := s.unit r (k / 16)
  let s1 := if high ∧ w.cmd.isSome then s.setRwin r k (triggerWindow w 5 x.frame) else s
  let s2 := match u.cmd with
    | none => s1
    | some c => if high ∧ c.tone = k then s1.setUnit r (k / 16) (triggerUnit u 5 x.frame) else s1
  accumulate s2 r k x

/-- A tone in one tick: at the end of a frame its sample is filtered, held for 16 t (R404) and meets its window. -/
def demodulate (s : State) (r k : Nat) : State :=
  let a := toneSums s r k
  let t := s.tone r k
  if s.ep % 4 ≠ 3 then s.setTone r k { t with accI := a.1, accQ := a.2 }
  else
    let hist := ((asr (a.1 + 2 ^ 14) 15, asr (a.2 + 2 ^ 14) 15) :: t.hist).take 8
    let x : FrameOut :=
      ⟨s.ep - 3, filtered t.filt (hist.map Prod.fst), filtered t.filt (hist.map Prod.snd), decide (s.ep - 3 < t.badUntil),
        (s.feed r (k / 16)).clip⟩
    meetFrame (s.setTone r k { t with accI := 0, accQ := 0, hist := hist, past := (x :: t.past).take 4 }) r k x

/-- A feedline at the end of a frame: its capture counts the frame. -/
def endFrame (s : State) (r f : Nat) : State :=
  if s.ep % 4 ≠ 3 then s
  else
    let y := s.feed r f
    let x : FrameOut := ⟨s.ep - 3, 0, 0, decide (s.ep - 3 < y.badUntil), y.clip⟩
    (s.setUnit r f (captureFrame (s.unit r f) x)).setFeed r f { y with past := (x :: y.past).take 4 }

/-- The receive path of every Rank in one tick. -/
def receiveAll (s : State) : State :=
  (List.range s.part.ranks).foldl (fun s r =>
    let s1 := (List.range 2).foldl (fun s f => receive s r f) s
    let s2 := (List.range 32).foldl (fun s k => demodulate s r k) s1
    (List.range 2).foldl (fun s f => endFrame s r f) s2) s

end Sys2Proof.Machine
end

