-- ==== Sys2Proof/Machine/Gambit.lean ====
section
/-!
DEFINITION. Gambit (R198, R203), the micro-trap (R210-R215), failed Ranks (R168), stream starvation (R251) and the rewrite of
poisoned cache words (R224).
-/
namespace Sys2Proof.Machine

/-! ### VARM (R190, R195, R198, R203) -/

/-- The latch a VARM arms: its staging of n targets ends at I + 8 + 4 n. -/
def armedLatch (addr n i : Nat) (w : Nat) : Latch :=
  { st := .armed, source := armsSource w, value := 0, arms := addr, targets := armsTargets w, slots := n, armedAt := i,
    stagedAt := i + 8 + 4 * n, staged := false }

/-- VARM of a nanoword that was read: `used` staging slots of the shot on this Rank belong to other latches. -/
def opVarm (k addr used claim : Nat) (w : Cell 256) (g : Engine) : Issued :=
  let g1 := g.freeLatch k
  let n := (stagedTargets (armsTargets w.word.toNat)).length
  if w.poison then ⟨g, [], some 7⟩
  else if !nwArmsOk w.word.toNat then ⟨g1, [], some 2⟩
  else if claim < used + n then ⟨g1, [], some 6⟩
  else done (g1.setLatch k (armedLatch addr n g.nextIssue w.word.toNat)).advance

/-- The GAMBIT claim of a shot on a Rank. -/
def State.gambitClaim (s : State) (uid r : Nat) : Nat := match s.shot? uid with | none => 0 | some x => x.desc.gambit r

/-- SE_STAGE.PEAK follows the slots in use. -/
def notePeak (s : State) (r : Nat) : State :=
  if s.get (Reg.SE_STAGE_PEAK r) < s.stagingInUse r then s.put (Reg.SE_STAGE_PEAK r) (s.stagingInUse r) else s

/-- A latch armed on a route whose IN port is not UP captures 0xE at its arming tick (R358). -/
def armOnLost (s : State) (r e k : Nat) (since : Nat) : State :=
  let g := s.engine r e
  let l := g.latch k
  let n := (l.source - 32768) / 512
  if l.st = .armed ∧ l.armedAt = since ∧ 32768 ≤ l.source ∧ s.declared n ∧ s.routeIn n < 4 ∧ !s.portIsUp (s.routeIn n) then
    (((s.setEngine r e (g.setLatch k { l with st := .full, value := 0xE })).shotFlag g.shot flPoisoned).bump
      (whole Reg.VRD_LOSS)).bump (Reg.MSH_RTSTATn_LOSS n)
  else s

/-- VARM: outside the claimed nano range it has no effect but to free the latch's earlier arms, and it counts in CLK_GUARD.PORT. -/
def varmWord (s : State) (r e : Nat) : State :=
  let g := s.engine r e
  let c := s.microWord r e g.pc
  let a := mwNano c.word
  let k := mwIndex c.word
  let out := mwLegal c.word && !c.poison && !nanoClaimed s g.shot r a && !stopsAtBoundary s g.shot (g.nextIssue + s.engineL r e)
  let s1 := issueWith s r e fun w g =>
    if nanoClaimed s g.shot r (mwNano w) then
      opVarm (mwIndex w) (mwNano w) (s.stagingOf r g.shot - (g.latch k).slots) (s.gambitClaim g.shot r)
        (s.nanoWord r (mwNano w)) g
    else done (g.freeLatch (mwIndex w)).advance
  notePeak (if out then s1.guardPort g.shot else armOnLost s1 r e k g.nextIssue) r

def execVarm (r e : Nat) (s : State) : Host.Outcome State Fault Refusal := happen (s.issues r e 0x09) s (varmWord s r e)

/-- STAGING_COMPLETE (R198). -/
def execStagingComplete (r e latch : Nat) (s : State) : Host.Outcome State Fault Refusal :=
  let l := (s.engine r e).latch latch
  happen (decide (latch < 4 ∧ l.st ≠ .unarmed ∧ l.stagedAt ≤ s.ep) && !l.staged) s
    (s.setEngine r e ((s.engine r e).setLatch latch { l with staged := true }))

/-! ### The save record (R215, Table 05-17) -/

/-- SE_STATe.STATE (Table 05-20). -/
def Engine.stateCode (g : Engine) : Nat :=
  if g.trap.isSome then 4 else match g.phase with | .idle => 0 | .lead => 1 | .run => 2 | .wait => 3 | .drain => 5

def LatchState.code : LatchState → Nat
  | .unarmed => 0 | .armed => 1 | .full => 2

/-- The 16 bytes of a latch. -/
def latchRecord (l : Latch) : List (BitVec 64) :=
  [BitVec.ofNat 64 (l.source + l.st.code * 2 ^ 16 + l.value * 2 ^ 24 + l.arms * 2 ^ 32 + l.slots * 2 ^ 48), BitVec.ofNat 64 l.armedAt]

/-- The return stack, oldest entry first, with its valid bits. -/
def stackRecord (g : Engine) : Nat :=
  (List.range 4).foldl (fun a i => a + (match g.rstack.reverse[i]? with | none => 0 | some t => (32768 + t) * 2 ^ (16 * i))) 0

/-- Cause ABORT_IN_HOLD (Table 05-16). -/
def trapAbortInHold : Nat := 4

/-- The 16 codewords of the save record in this tick, of an engine of latency l. The abort epoch is a tick at the balls, which is l ticks
behind the issues (R182). -/
def saveRecord (s : State) (g : Engine) (l cause : Nat) : List (BitVec 64) :=
  let now := if cause = trapAbortInHold then s.ep - l else s.ep
  let hold := match g.wait with | none => g.nextIssue - now | some w => w.limit - now
  let next := match g.wait with | none => g.nextIssue | some w => w.since
  [BitVec.ofNat 64 (g.shownPc s.ep + cause * 2 ^ 16 + g.stateCode * 2 ^ 24 + hold * 2 ^ 32),
    BitVec.ofNat 64 (g.c0.toNat + g.c1.toNat * 2 ^ 16 + g.c2.toNat * 2 ^ 32 + g.c3.toNat * 2 ^ 48),
    BitVec.ofNat 64 (stackRecord g), BitVec.ofNat 64 ((if g.flag then 1 else 0) + g.rstack.length * 2),
    BitVec.ofNat 64 s.stamp, BitVec.ofNat 64 (s.stamp / 2 ^ 64), BitVec.ofNat 64 (s.stamp / 2 ^ 128), BitVec.ofNat 64 next] ++
    latchRecord g.vl0 ++ latchRecord g.vl1 ++ latchRecord g.vl2 ++ latchRecord g.vl3

/-- Write the save record to the save area and to SE_SAVEe. -/
def writeSave (s : State) (r e : Nat) (ws : List (BitVec 64)) : State :=
  ws.zipIdx.foldl (fun s w => (s.writeWord (saveArea r e + w.2) (some w.1)).put64 (Reg.SE_SAVEe r e (2 * w.2)) w.1.toNat) s

/-- An engine takes a micro-trap: the counts, the cause, the save record and TRAPPED (R210, R212). -/
def trapEngine (s : State) (r e uid cause : Nat) : State :=
  let s1 := ((s.bump (whole (Reg.SE_TRAPS r))).bump (Reg.SE_TRAPe_COUNT r e)).put (Reg.SE_TRAPe_CAUSE r e) cause
  (writeSave s1 r e (saveRecord s1 (s1.engine r e) (s1.engineL r e) cause)).shotFlag uid flTrapped

/-! ### Failed Ranks (R168, R170) -/

/-- The Rank fails in a shot in this tick. -/
def failRank (s : State) (uid r : Nat) : State :=
  match s.shot? uid with
  | none => s
  | some x =>
    let s1 := s.updShot uid fun y => { y with failed := (r, s.ep) :: y.failed, failedMask := if r ∈ y.failedMask then y.failedMask else r :: y.failedMask }
    let s2 := ((s1.shotStatus uid (if x.desc.ranks.length = 1 then stMemUncorrectable else stGangPartial)).shotFlag uid flBroken).shotFlag
      uid flPoisoned
    stopEngines s2 uid r 0xE fun _ => true

/-! ### MICRO_TRAP and TRAP_RETRY_END (R210-R213) -/

/-- An on-die word that cannot be corrected reads as, and becomes, a word poisoned with cause MEMORY (R381). (DEDUCED, log 64.) -/
def onDiePoison : BitVec 32 := 0xB0B0B001

/-- The engine may be reading ahead: it runs in a shot and has microwords to come. -/
def Engine.readsAhead (g : Engine) : Bool :=
  decide (g.phase = .lead ∨ g.phase = .run ∨ g.phase = .wait) && !g.halted && g.trap.isNone

/-- MICRO_TRAP: the read of a microword or nanoword of the engine is uncorrectable. (DEDUCED, log 63.) -/
def microTrap (s : State) (r e : Nat) (nano : Bool) (addr due : Nat) : State :=
  let g := s.engine r e
  let s1 := (s.bump (whole (Reg.BRD_MEM_CNTs_UE 0))).logError kindUe srcRank r 0 7 addr
  let s2 := trapEngine s1 r e g.shot (if nano then 2 else 1)
  let s3 := s2.setEngine r e { s2.engine r e with trap := some ⟨if nano then 2 else 1, due, addr, nano⟩ }
  if nano then { s3 with nano := s3.nano.set nanoDefault (r * 65536 + addr) ⟨poisonData causeMemory ++ poisonData causeMemory ++
    poisonData causeMemory ++ poisonData causeMemory, true⟩ }
  else { s3 with micro := s3.micro.set microDefault ((r * 24 + e) * 8192 + addr) ⟨onDiePoison, true⟩ }

/-- A word is read up to 256 t before its due tick (R211, R212). -/
def execMicroTrap (r e : Nat) (nano : Bool) (addr due : Nat) (s : State) : Host.Outcome State Fault Refusal :=
  happen (decide (r < s.part.ranks ∧ e < 24 ∧ addr < (if nano then 65536 else 8192) ∧ s.ep ≤ due ∧ due ≤ s.ep + 256) &&
    (s.engine r e).readsAhead) s (microTrap s r e nano addr due)

/-- Put the copy back into the on-die store. -/
def restoreWord (s : State) (r e : Nat) (t : Trap) (ws : List Codeword) : State :=
  let n := joinWords (ws.map Codeword.data)
  if t.nano then { s with nano := s.nano.set nanoDefault (r * 65536 + t.addr) ⟨BitVec.ofNat 256 n, false⟩ }
  else { s with micro := s.micro.set microDefault ((r * 24 + e) * 8192 + t.addr) ⟨BitVec.ofNat 32 (n / 2 ^ (32 * (t.addr % 2))), false⟩ }

/-- TRAP_RETRY_END: the copy and the save record are read; a poisoned word of either, or a missed due tick, fails the Rank. -/
def trapRetryEnd (s : State) (r e : Nat) (t : Trap) : State :=
  let copy := s.readWords srcRank r (if t.nano then (List.range 4).map fun i => nanoCopy r t.addr + i else [microCopy r e t.addr])
  let save := copy.1.readWords srcRank r ((List.range 16).map fun i => saveArea r e + i)
  let g := save.1.engine r e
  if t.due < s.ep ∨ copy.2.any Codeword.poison ∨ save.2.any Codeword.poison then failRank save.1 g.shot r
  else restoreWord (save.1.setEngine r e { g with trap := none }) r e t copy.2

def execTrapRetryEnd (r e : Nat) (s : State) : Host.Outcome State Fault Refusal :=
  match (s.engine r e).trap with
  | none => .next s
  | some t => .next (trapRetryEnd s r e t)

/-! ### STREAM_MISSING (R214, R251) -/

/-- The last admitted window of a stream. -/
def State.lastWin (s : State) (r n : Nat) : Option StreamWin :=
  s.wins.find? fun w => decide (w.desc.wRank = r ∧ w.desc.wStream = n ∧ w.owner = (s.stream r n).owner ∧
    w.desc.wseq + 1 = (s.stream r n).admitted)

/-- The lead tick of the window after the last admitted one (R251). -/
def leadTick (d : Desc) : Nat := d.startEpoch + d.span - 20000

/-- The stream starves at its lead tick: its engine traps and arms the fallback, and is restored in the same step. (DEDUCED, log 58.) -/
def streamMissing (s : State) (r n : Nat) (w : StreamWin) : State :=
  let d := w.desc
  let s1 := (s.setStream r n { s.stream r n with starved := true }).bump (Reg.RNK_STRM_STAT_STARVED r)
  let s2 := trapEngine s1 r d.wEngine w.owner 3
  let g := s2.engine r d.wEngine
  s2.setEngine r d.wEngine { g with fallbacks := g.fallbacks ++ [⟨n, leadTick d, d.wseq + 1, d.fbLoop, d.fbExit, false⟩] }

def execStreamMissing (r n : Nat) (s : State) : Host.Outcome State Fault Refusal :=
  match s.lastWin r n with
  | none => .next s
  | some w =>
    happen ((s.stream r n).isOpen && !(s.stream r n).starved && !w.desc.wLast && decide (leadTick w.desc ≤ s.ep)) s
      (streamMissing s r n w)

/-! ### CACHE_REWRITE (R224) -/

/-- The two 4-byte words of an 8-byte word of the cache become what the backing copy holds. -/
def cacheRewrite (s : State) (r w : Nat) : State :=
  let c := s.readWord (cacheCopy r w) srcRecovery r
  let half (i : Nat) : Cell 32 :=
    if c.2.poison then ⟨BitVec.ofNat 32 (poisonData (poisonCause c.2.data.toNat)).toNat, true⟩
    else ⟨BitVec.ofNat 32 (c.2.data.toNat / 2 ^ (32 * i)), false⟩
  { c.1 with cache := (c.1.cache.set microDefault (r * cacheWords + 2 * w) (half 0)).set microDefault (r * cacheWords + 2 * w + 1) (half 1) }

def execCacheRewrite (r word : Nat) (s : State) : Host.Outcome State Fault Refusal :=
  happen (decide (r < s.part.ranks ∧ 2 * word + 1 < cacheWords) && ((s.cacheWord r (2 * word)).poison || (s.cacheWord r (2 * word + 1)).poison)) s
    (cacheRewrite s r word)

/-! ### Registers (R216) -/

/-- A write of SE_CFGe. -/
def writeSeCfg (s : State) (r e : Nat) (loading : Bool) (v : Word) : WriteOut :=
  if (s.claimed fun d => (d.engines r).testBit e) ∨ loading then refusedBy s 2
  else taken (s.put (Reg.SE_CFGe_FLUX_ONLY r e) (wordBits v 0 0))

/-- A write of SE_CTRL.STATS_CLR: PEAK becomes 0. (DEDUCED, log 102.) -/
def clearSeStats (s : State) (r : Nat) : State :=
  let s1 := ((s.put (Reg.SE_STAGE_PEAK r) 0).wr (Reg.SE_CONFLICT r) 0).wr (Reg.SE_TRAPS r) 0
  (List.range 24).foldl (fun s e => s.put (Reg.SE_TRAPe_COUNT r e) 0) s1

/-- SE_STATe (Table 05-20), SE_RUN and SE_WAIT (Table 05-18) as they read. -/
def State.seStat (s : State) (r e : Nat) : Nat :=
  let g := s.engine r e
  let bits (p : Latch → Bool) : Nat := (List.range 4).foldl (fun a k => a + if p (g.latch k) then 2 ^ k else 0) 0
  g.stateCode * 2 ^ 28 + bits (fun l => decide (l.st = .full)) * 2 ^ 24 + bits (fun l => decide (l.st ≠ .unarmed)) * 2 ^ 20 +
    (if g.partialLoad then 2 ^ 19 else 0) + g.rstack.length * 2 ^ 16 + g.shownPc s.ep
def State.seRun (s : State) (r : Nat) : Nat :=
  (List.range 24).foldl (fun a e => a + if (s.engine r e).phase ≠ .idle then 2 ^ e else 0) 0
def State.seWait (s : State) (r : Nat) : Nat :=
  (List.range 24).foldl (fun a e => a + if (s.engine r e).phase = .wait then 2 ^ e else 0) 0

end Sys2Proof.Machine
end

