-- ==== Sys2Proof/Machine/Transitions.lean ====
section
/-!
DEFINITION. A change of the mode (R33, R534, Tables 01-5, 01-6 and 01-8), the rows of Table 01-8 that shots bring about, and what
entry to QUIESCE, HOLDOVER, CLEAR and TRIPPED does to shots (R39-R42).
-/
namespace Sys2Proof.Machine

/-! ### Mode changes -/

/-- The change from one mode to another by a row of Table 01-8: PREV, BRD_MODE_LAST and the event MODE; HOLD_HOST and HOLD_THROTTLE
clear when the mode leaves HOLD (R534). -/
def State.enter (s : State) (m : Mode) (row : Nat) : State :=
  let s1 := ((((s.put Reg.BRD_MODE_PREV s.mode.code).bumpWrap Reg.BRD_MODE_LAST_COUNT).put Reg.BRD_MODE_LAST_TO m.code).put
    Reg.BRD_MODE_LAST_FROM s.mode.code).put Reg.BRD_MODE_LAST_EVENT row
  let s2 := if s.mode = .hold then (s1.put Reg.BRD_MODE_HOLD_HOST 0).put Reg.BRD_MODE_HOLD_THROTTLE 0 else s1
  ({ s2 with mode := m }).event evtMode

/-- A shot is running. -/
def State.anyRunning (s : State) : Bool := s.shots.any fun x => decide (x.phase = .running)

/-- A shot is admitted or running (notes 1 and 2 of Table 01-8; R61). -/
def State.anyShot (s : State) : Bool := s.shots.any fun x => decide (x.phase ≠ .ended)

/-- Every HOLD cause is clear. -/
def State.holdFree (s : State) : Bool :=
  !s.flag Reg.BRD_MODE_HOLD_HOST && !s.flag Reg.BRD_MODE_HOLD_THROTTLE && !s.flag Reg.BRD_MODE_HOLD_SUPPLY

/-- HOLD is left when no cause is set: for RUN if a shot is running, else for ARMED (note 6). -/
def leaveHold (s : State) (row : Nat) : State :=
  if s.mode = .hold ∧ s.holdFree then s.enter (if s.anyRunning then .run else .armed) row else s

/-- Row 9: a shot begins. -/
def shotBegins (s : State) : State := if s.mode = .armed then s.enter .run 9 else s

/-- Row 10: no shot is running any more (notes 9 and 12). -/
def shotsEnd (s : State) : State :=
  if s.anyRunning then s
  else match s.mode with
    | .run => s.enter .armed 10
    | .quiesce => s.enter .setup 10
    | .holdover => if s.flag Reg.EPO_REF_LOCK then s.enter .setup 10 else s
    | _ => s

/-! ### Shots cancelled and aborted -/

/-- The claims of a shot, its streams and the engines it has led are free; its unfilled segments are released (R151, R335). -/
def freeShot (s : State) (x : Shot) (flow : Bool) : State :=
  let s1 := s.updShot x.desc.uid fun y => { y with exclusive := false, flow := y.flow && !flow, segsLeft := 0 }
  let s2 := x.desc.ranks.foldl (fun s r =>
    (List.range 96).foldl (fun s p =>
      if (s.port r p).shot = some x.desc.uid then s.setPort r p { s.port r p with shot := none, initAt := none } else s) s) s1
  { s2 with streams := (s2.streams.map Prod.fst).foldl (fun t k =>
      t.update streamDefault k fun v => if v.owner = x.desc.uid then { v with isOpen := false } else v) s2.streams }

/-- A shot whose start epoch has not been reached is cancelled in this tick with a status (R43): no claim is left. -/
def cancelShot (s : State) (x : Shot) (status : Nat) : State :=
  let s1 := (s.shotStatus x.desc.uid status).updShot x.desc.uid fun y =>
    { y with phase := .ended, endAt := s.now, stamp := s.stamp, fixed := true, started := false }
  let s2 := x.desc.ranks.foldl (fun s r => (List.range 24).foldl (fun s e =>
    if (s.engine r e).runs x.desc.uid then s.setEngine r e (s.engine r e).rest else s) s) s1
  freeShot s2 x true

/-- The start epoch of a shot has not been reached before this tick (R48). -/
def State.unstarted (s : State) (x : Shot) : Bool :=
  decide (x.phase = .admitted) || decide (x.phase = .running ∧ x.desc.startEpoch = s.epoch.toNat)

/-- Cancel every admitted shot whose start epoch has not been reached, or falls in this tick (R39, R40, R48). -/
def cancelAdmitted (s : State) (status : Nat) : State :=
  (s.shots.filter s.unstarted).foldl (fun s x => cancelShot s x status) s

/-- A running shot is stopped at once on every Rank with a status, and its stamp is that of this tick (R41, R42, Table 03-17). -/
def abortShot (s : State) (x : Shot) (status : Nat) : State :=
  let s1 := stopShot (s.shotStatus x.desc.uid status) x 0xF
  let s2 := s1.updShot x.desc.uid fun y => { y with phase := .ended, endAt := s.now, stamp := s.stamp, fixed := true }
  freeShot s2 x false

/-- Abort every admitted and running shot (R41, R42). -/
def abortAll (s : State) (status : Nat) : State :=
  s.shots.foldl (fun s x => match x.phase with
    | .admitted => cancelShot s x status
    | .running => abortShot s x status
    | .ended => s) s

/-- A running shot loses its reference: REF_LOST as a broken promise (R40, R92). -/
def refLost (s : State) (uid : Nat) : State := (s.shotStatus uid stRefLost).shotFlag uid flBroken

/-- Entry to QUIESCE (R39) and to HOLDOVER (R40); with no shot running, row 10 then applies. -/
def enterQuiesce (s : State) : State := shotsEnd (cancelAdmitted (s.enter .quiesce 5) stCancelledQuiesce)
def enterHoldover (s : State) : State :=
  let s1 := cancelAdmitted (s.enter .holdover 15) stRefLost
  (s1.shots.filter fun x => decide (x.phase = .running)).foldl (fun s x => refLost s x.desc.uid) s1

end Sys2Proof.Machine
end

