-- ==== Sys2Proof/Machine/Shots.lean ====
section
/-!
DEFINITION. The life of an accepted shot after its decision (04, 05): the lead of its engines, its start, its span fence, its abort, its
end, the release of its claims, failure notices, and the final entries of shots, aborts and stream windows.
-/
namespace Sys2Proof.Machine

/-! ### ENGINE_LEAD (R179) -/

/-- The engine has loaded its start state for a shot; one whose first microword stops it at the start is idle again by then. -/
def Engine.ledFor (g : Engine) (uid : Nat) : Bool := decide (g.shot = uid ∧ (g.phase ≠ .idle ∨ g.nextIssue ≠ 0))

/-- The shot that an engine of a Rank leads next: admitted, claiming it, with its start at most 256 t away. -/
def State.leadShot (s : State) (r e : Nat) : Option Shot :=
  s.shots.find? fun x => decide (x.phase = .admitted) && (x.desc.engines r).testBit e && decide (x.desc.startEpoch ≤ s.ep + 256) &&
    !(s.engine r e).ledFor x.desc.uid

/-- An engine loads its start state; fallbacks that streams of the shot have armed stay. -/
def leadEngine (s : State) (r e : Nat) (x : Shot) : State :=
  let g := s.engine r e
  let arg := x.desc.arg r
  s.setEngine r e { engineDefault 0 with
    phase := .lead, shot := x.desc.uid, pc := x.desc.entry r, cur := x.desc.entry r, nextIssue := x.desc.startEpoch - s.engineL r e,
    c0 := BitVec.ofNat 16 arg, c1 := BitVec.ofNat 16 (arg / 65536), partialLoad := g.partialLoad,
    fallbacks := g.fallbacks.filter fun f => decide ((s.stream r f.stream).owner = x.desc.uid) }

def execEngineLead (r e : Nat) (s : State) : Host.Outcome State Fault Refusal :=
  match s.leadShot r e with
  | none => .next s
  | some x => happen (decide ((s.engine r e).phase = .idle)) s (leadEngine s r e x)

/-! ### SHOT_START (R225, R226, R241) -/

/-- The claimed engines of a shot have loaded their start state. -/
def State.led (s : State) (x : Shot) : Bool :=
  x.desc.ranks.all fun r => (List.range 24).all fun e => !(x.desc.engines r).testBit e || (s.engine r e).ledFor x.desc.uid

/-- An abort cancels the shot before its start (R158). -/
def Shot.cancelDue (x : Shot) : Bool :=
  match x.abort with | none => false | some a => decide (a.epoch ≤ x.desc.startEpoch)

/-- The claimed ports of a shot begin, and its claimed markers are low. -/
def startPorts (s : State) (x : Shot) : State :=
  x.desc.ranks.foldl (fun s r =>
    let s1 := (List.range 96).foldl (fun s p => if claimsPort x.desc r p then s.startPort r p x.desc.uid else s) s
    (List.range 8).foldl (fun s k => if (x.desc.mrk r).testBit k then s.dropMark r k fun _ => true else s) s1) s

/-- SHOT_START: a shot that plays nothing ends here (R26 names no other tick). -/
def shotStart (s : State) (x : Shot) : State :=
  let s1 := s.updShot x.desc.uid fun y => { y with phase := .running, started := true, endAt := s.now, stamp := s.stamp }
  let s2 := startPorts s1 x
  shotBegins (if s2.dip.isSome then s2.shotFlag x.desc.uid flSupplyDip else s2)

def execShotStart (uid : Nat) (s : State) : Host.Outcome State Fault Refusal :=
  match s.shot? uid with
  | none => .next s
  | some x => happen (decide (x.phase = .admitted ∧ x.desc.startEpoch ≤ s.ep) && s.led x && !x.cancelDue) s (shotStart s x)

/-! ### SPAN_FENCE (R149) -/

/-- An engine of the shot runs or drains. -/
def State.anyEngine (s : State) (x : Shot) : Bool :=
  x.desc.ranks.any fun r => (List.range 24).any fun e => (s.engine r e).runs x.desc.uid

/-- SPAN_FENCE: what still runs is stopped, and the claims whose interval ends here are free (R151). (DEDUCED, log 54.) -/
def spanFence (s : State) (x : Shot) : State :=
  let uid := x.desc.uid
  let s1 := if s.anyEngine x then ((stopShot s x 0xF).bump Reg.CLK_GUARD_FENCE).shotFlag uid flDropped else s
  s1.updShot uid fun y => { y with exclusive := false }

def execSpanFence (uid : Nat) (s : State) : Host.Outcome State Fault Refusal :=
  match s.shot? uid with
  | none => .next s
  | some x =>
    happen (x.started && decide (x.desc.startEpoch + x.desc.span ≤ s.ep) && (x.exclusive || s.anyEngine x)) s (spanFence s x)

/-! ### ABORT_EPOCH (R158, R208) -/

/-- Accepted untimed work by its number. -/
def State.work? (s : State) (uid : Nat) : Option Work := s.works.find? fun w => decide (w.desc.uid = uid)
def State.updWork (s : State) (uid : Nat) (f : Work → Work) : State :=
  { s with works := s.works.map fun w => if w.desc.uid = uid then f w else w }
def State.dropWork (s : State) (uid : Nat) : State := { s with works := s.works.filter fun w => decide (w.desc.uid ≠ uid) }

/-- The abort epoch of an ABORT: its tick is in `endAt`. -/
def State.abortEpoch (s : State) (w : Work) : Nat := s.ep - (s.now - w.endAt)

/-- IMMEDIATE of an ABORT. -/
def Desc.immediate (d : Desc) : Bool := decide (d.body 33 0 1 = 1)

/-- An engine is in the hold of a microword that is no wait in this tick at the balls: the boundary after it is still to come (R182,
R208). (DEDUCED, log 106.) -/
def State.inHold (s : State) (r e : Nat) : Bool :=
  let g := s.engine r e
  decide (g.phase = .run ∧ s.ep < g.nextIssue + s.engineL r e ∧ mwOp (s.microWord r e g.cur).word ∉ [0x0A, 0x0B, 0x0C])

/-- A running shot at an abort epoch with IMMEDIATE: engines within a hold take a micro-trap, and everything stops. -/
def abortNow (s : State) (x : Shot) : State :=
  let s1 := x.desc.ranks.foldl (fun s r => (List.range 24).foldl (fun s e =>
    if (s.engine r e).runs x.desc.uid ∧ s.inHold r e then trapEngine s r e x.desc.uid trapAbortInHold else s) s) s
  stopShot s1 x 0xF

/-- Without IMMEDIATE, only engines in DRAIN stop now (R536). -/
def abortDrains (s : State) (x : Shot) : State :=
  x.desc.ranks.foldl (fun s r =>
    stopEngines s x.desc.uid r 0xF fun e => decide ((s.engine r e).phase = .drain ∧ (s.engine r e).shot = x.desc.uid)) s

/-- What an abort does to one shot that it targets. -/
def abortTarget (s : State) (w : Work) (x : Shot) : State :=
  let uid := x.desc.uid
  if x.phase = .ended then s.updShot uid fun y => { y with abortedBy := y.abortedBy.erase w.desc.uid }
  else if x.phase = .admitted then cancelShot s x stAbortedHost
  else
    let s1 := (s.shotStatus uid stAbortedHost).updShot uid fun y =>
      if y.fixed then y else { y with stamp := s.stamp, fixed := true }
    if w.desc.immediate then abortNow s1 x else abortDrains s1 x

/-- ABORT_EPOCH: the work of the ABORT ends. -/
def abortAtEpoch (s : State) (w : Work) : State :=
  let s1 := (s.shots.filter fun x => decide (w.desc.uid ∈ x.abortedBy)).foldl (fun s x => abortTarget s w x) s
  s1.updWork w.desc.uid fun v => { v with done := true, stamp := s.stamp }

def execAbortEpoch (uid : Nat) (s : State) : Host.Outcome State Fault Refusal :=
  match s.work? uid with
  | none => .next s
  | some w => happen (decide (w.kind = .abort ∧ w.endAt ≤ s.now) && !w.done) s (abortAtEpoch s w)

/-! ### END_OF_SHOT (R26, R151) -/

/-- Nothing that an engine has issued is still to play, and its STOP or a fault is on its way to the balls. (DEDUCED, log 109.) -/
def Engine.spent (g : Engine) (uid : Nat) : Bool :=
  !g.runs uid || decide (g.phase = .drain) ||
    (g.balls.all fun b => match b.act with | .nano _ _ => false | _ => true) &&
      g.balls.any fun b => match b.act with | .stop => true | .fault _ _ => true | _ => false

/-- The port plays no sample after this tick. -/
def Port.spent (x : Port) (e : Nat) : Bool :=
  x.queue.isEmpty && x.pend.isNone &&
    (match x.committed with | none => true | some (pc, _) => pc.isRest) &&
    (match x.piece with
      | .rest => true
      | .cached _ _ (_ + 1) => false
      | pc => decide (x.start + pc.sampleTicks ≤ e + 1))

/-- The last sample of a shot has played and its last verdict is delivered; its windows, captures and records have ended too. -/
def State.shotSpent (s : State) (x : Shot) : Bool :=
  let uid := x.desc.uid
  (x.desc.ranks.all fun r =>
    ((List.range 24).all fun e => (s.engine r e).spent uid) &&
      (List.range 96).all fun p => decide ((s.port r p).shot ≠ some uid) || (s.port r p).spent s.ep) &&
    s.acqs.all (fun c => decide (c.shot ≠ uid)) && s.results.all (fun z => decide (z.shot ≠ uid)) &&
    s.rwins.all (fun w => match w.2.cmd with | none => true | some c => decide (c.shot ≠ uid)) &&
    s.traces.all fun u => match u.2.cmd with | none => true | some c => decide (c.shot ≠ uid)

/-- The ports and markers of a shot play the samples of this tick before they are free. -/
def playOut (s : State) (x : Shot) : State :=
  dropMarksOf (x.desc.ranks.foldl (fun s r => (List.range 96).foldl (fun s p =>
    if (s.port r p).shot = some x.desc.uid then playPort s r p else s) s) s) x

/-- END_OF_SHOT: the exclusive claims are free, and the mode follows (row 10). -/
def endShot (s : State) (x : Shot) : State :=
  shotsEnd (freeShot ((playOut s x).updShot x.desc.uid fun y => { y with phase := .ended }) x false)

def execEndOfShot (uid : Nat) (s : State) : Host.Outcome State Fault Refusal :=
  match s.shot? uid with
  | none => .next s
  | some x => happen (decide (x.phase = .running) && s.shotSpent x) s (endShot s x)

/-! ### CLAIM_RELEASE (R151) -/

def execClaimRelease (uid : Nat) (s : State) : Host.Outcome State Fault Refusal :=
  match s.shot? uid with
  | none => .next s
  | some x =>
    happen (x.flow && decide (x.desc.startEpoch + x.desc.span + 5000 ≤ s.ep)) s
      (s.updShot uid fun y => { y with flow := false })

/-! ### FAILURE_NOTICE (R168, R169) -/

/-- The balls of an engine that a gang stop leaves: its first boundary from tick t on becomes the stop. -/
def haltBalls (t : Nat) : List Ball → List Ball
  | [] => []
  | b :: bs => if t ≤ b.epoch then [⟨b.epoch, .halt⟩] else b :: haltBalls t bs

/-- A gang stop at an engine of a surviving Rank: a boundary that was issued already, or the first poll tick of a wait. What issues
later stops there by itself. -/
def gangStopEngine (s : State) (r e t : Nat) : State :=
  let g := s.engine r e
  if g.balls.any fun b => decide (t ≤ b.epoch) then s.setEngine r e { g with halted := true, balls := haltBalls t g.balls }
  else match g.phase, g.wait with
    | .wait, some w => haltAt s r e (max (nextFrame (t - s.engineL r e)) w.since + s.engineL r e)
    | _, _ => s

/-- FAILURE_NOTICE with GANG_STOP: engines in DRAIN stop now, the others at their first boundary. -/
def gangStopAt (s : State) (x : Shot) (t : Nat) : State :=
  let uid := x.desc.uid
  let s1 := s.updShot uid fun y => { y with gangStop := some t }
  (x.desc.ranks.filter fun r => !(x.failed.any fun f => decide (f.1 = r))).foldl (fun s r =>
    let s2 := stopEngines s uid r 0xF fun e => decide ((s.engine r e).phase = .drain ∧ (s.engine r e).shot = uid)
    (List.range 24).foldl (fun s e => if (s.engine r e).runs uid then gangStopEngine s r e t else s) s2) s1

/-- A notice is due and something follows from it. -/
def Shot.noticeAt (x : Shot) (r : Nat) : Option Nat := (x.failed.find? fun f => decide (f.1 = r)).map fun f => f.2 + 24

def execFailureNotice (uid r : Nat) (s : State) : Host.Outcome State Fault Refusal :=
  match s.shot? uid with
  | none => .next s
  | some x =>
    match x.noticeAt r with
    | none => .next s
    | some t =>
      happen (decide (t ≤ s.ep ∧ x.phase = .running) && x.desc.gangStop && decide (1 < x.desc.ranks.length) && x.gangStop.isNone) s
        (gangStopAt s x t)

/-! ### STREAM_WINDOW_END (R250, R176) -/

def State.win? (s : State) (uid : Nat) : Option StreamWin := s.wins.find? fun w => decide (w.desc.uid = uid)

/-- Its play interval is over, or its owner has ended or was stopped on its Rank. -/
def State.winOver (s : State) (w : StreamWin) : Bool :=
  decide (w.desc.startEpoch + w.desc.span ≤ s.ep) ||
    (match s.shot? w.owner with
      | none => true
      | some x => decide (x.phase = .ended) ||
        (x.started && (x.fixed || !x.exclusive || x.gangStop.isSome || x.failed.any fun f => decide (f.1 = w.desc.wRank)) &&
          (List.range 24).all fun e => !(s.engine w.desc.wRank e).runs w.owner))

/-- The status of a final entry (R132). -/
def Shot.finalStatus (x : Shot) : Nat :=
  ([stThermalTrip, stAbortedClr, stRefLost, stGangPartial, stMemUncorrectable, stAbortedHost, stCancelledQuiesce].find? fun c =>
    decide (c ∈ x.status)).getD stComplete

/-- The status that cancelled or aborted the owner of a window, if one did (R250). -/
def Shot.stoppedBy (x : Shot) : Option Nat :=
  if (x.fixed : Bool) then some x.finalStatus else none

/-- STREAM_WINDOW_END: what has not started is dropped. -/
def endWindow (s : State) (w : StreamWin) : State :=
  let by_ := match s.shot? w.owner with | none => none | some x => x.stoppedBy
  let dropped := decide (w.started < w.desc.wSegs) || by_.isSome
  { s with wins := s.wins.map fun (v : StreamWin) =>
      if v.desc.uid = w.desc.uid then
        { v with ended := true, endAt := s.now, stamp := s.stamp, status := by_.getD stComplete,
                 flags := if dropped ∧ flDropped ∉ v.flags then flDropped :: v.flags else v.flags }
      else v }

def execStreamWindowEnd (uid : Nat) (s : State) : Host.Outcome State Fault Refusal :=
  match s.win? uid with
  | none => .next s
  | some w => happen (!w.ended && s.winOver w) s (endWindow s w)

/-! ### STREAM_READ_FAILURE (R139) -/

/-- A failed or poisoned read of a window's data: the words are poisoned. -/
def streamReadFailure (s : State) (uid first count : Nat) : State :=
  let s1 := { s with wins := s.wins.map fun (v : StreamWin) =>
    if v.desc.uid = uid then
      { v with data := v.data.zipIdx.map fun (d : Option (BitVec 32) × Nat) => if first ≤ d.2 ∧ d.2 < first + count then none else d.1 }
    else v }
  s1.put Reg.PCI_DMA_ERR_STREAM 1

/-- The host data are read in the fill interval (Table 06-7). -/
def execStreamReadFailure (uid first count : Nat) (s : State) : Host.Outcome State Fault Refusal :=
  match s.win? uid with
  | none => .next s
  | some w =>
    happen (!w.ended && decide (w.desc.extCount = 0 ∧ w.desc.startEpoch ≤ s.ep + 16256 ∧ s.ep < w.desc.startEpoch ∧ 0 < count)) s
      (streamReadFailure s uid first count)

/-! ### FINAL_ENTRY (R26, R92, R159, R250) -/

/-- The Ranks of a gang that failed, as DETAIL shows them. -/
def Shot.failDetail (x : Shot) : Nat :=
  if x.desc.ranks.length ≤ 1 then 0 else (List.range 8).foldl (fun a r => a + if r ∈ x.failedMask then 2 ^ r else 0) 0

/-- A shot's final entry may be written: its records are delivered, no verdict is owed, its stream windows have ended, and 640 t
have passed since its end (R93); a shot that never started waits for no time. (DEDUCED, log 55.) -/
def State.finalReady (s : State) (x : Shot) : Bool :=
  decide (x.phase = .ended ∧ x.records = 0) && s.results.all (fun z => decide (z.shot ≠ x.desc.uid)) &&
    s.wins.all (fun w => w.ended || decide (w.owner ≠ x.desc.uid)) && (!x.started || decide (x.endAt + 640 ≤ s.now))

/-- The final entry of a shot; its reservation ends (R151), and the work of an ABORT of it ends no sooner (R159). (DEDUCED, log 108.) -/
def finishShot (s : State) (x : Shot) : State :=
  let s1 := finalEntry s x.desc x.finalStatus x.failDetail x.flags x.stamp x.endAt
  { s1 with
    shots := s1.shots.filter fun y => decide (y.desc.uid ≠ x.desc.uid)
    works := s1.works.map fun w => if w.desc.uid ∈ x.abortedBy then { w with stamp := s.stamp } else w }

/-- The final entry of untimed work. -/
def finishWork (s : State) (w : Work) : State :=
  (finalEntry s w.desc w.status 0 w.flags w.stamp s.now).dropWork w.desc.uid

/-- The final entry of a stream window. -/
def finishWindow (s : State) (w : StreamWin) : State :=
  let s1 := finalEntry s w.desc w.status 0 w.flags w.stamp w.endAt
  { s1 with wins := s1.wins.filter fun v => decide (v.desc.uid ≠ w.desc.uid) }

/-- An ABORT waits for the final entries of every shot it stopped or cancelled (R159). -/
def State.abortReady (s : State) (w : Work) : Bool :=
  decide (w.kind = .abort) && w.done && s.shots.all fun x => decide (w.desc.uid ∉ x.abortedBy)

def execFinalEntry (uid : Nat) (s : State) : Host.Outcome State Fault Refusal :=
  match s.shot? uid, s.work? uid, s.win? uid with
  | some x, _, _ => happen (s.finalReady x) s (finishShot s x)
  | none, some w, _ => happen (s.abortReady w) s (finishWork s w)
  | none, none, some w => happen w.ended s (finishWindow s w)
  | none, none, none => .next s

end Sys2Proof.Machine
end

