-- ==== Sys2Proof/Machine/Admission.lean ====
section
/-!
DEFINITION. Admission (04): the format checks of Table 03-16, the claims of Table 04-4, the checks of Table 04-5 in their order, and the
decisions on SHOT, gangs, ABORT and NOP descriptors.
-/
namespace Sys2Proof.Machine

/-! ### Format checks (R130, Table 03-16) -/

/-- The extension limit of a TYPE (Table 03-15); none: the TYPE is not in the table. -/
def extLimit (t : Nat) : Option Nat :=
  match t with
  | 0x01 => some 15 | 0x02 => some 0 | 0x10 => some 1 | 0x11 => some 1 | 0x12 => some 1 | 0x13 => some 3
  | 0x20 => some 1 | 0x21 => some 1 | 0x30 => some 0 | _ => none

/-- The timed types. -/
def timedType (t : Nat) : Bool := decide (t = 0x01 ∨ t = 0x13)

/-- Reserved fields of the header, as first bit and width (Table 03-14). -/
def headerReserved : List (Nat × Nat) := [(12, 4), (56, 8), (160, 96)]

/-- Reserved fields of the body of a type. -/
def bodyReserved (t : Nat) : List (Nat × Nat) :=
  match t with
  | 0x01 => [(256, 16), (305, 7), (312, 8), (480, 32)]
  | 0x02 => [(262, 2), (265, 7), (304, 208)]
  | 0x10 => [(280, 8), (301, 3), (318, 2), (384, 128)]
  | 0x11 => [(289, 15), (304, 16), (384, 128)]
  | 0x12 => [(277, 11), (310, 10), (384, 128)]
  | 0x13 => [(285, 3), (301, 3), (310, 2), (317, 3), (400, 16)]
  | 0x20 => [(274, 5), (280, 8), (448, 64)]
  | 0x21 => [(272, 240)]
  | _ => [(256, 256)]

/-- Reserved fields of the extension slots of a type. -/
def extReserved (t : Nat) : List (Nat × Nat) :=
  match t with
  | 0x01 => [(24, 8), (170, 6), (184, 8), (219, 4), (203, 5), (251, 4), (235, 5), (283, 4), (267, 5), (315, 4), (299, 5),
      (333, 3), (416, 96)]
  | 0x20 => [(64, 448)]
  | _ => []

/-- Every field of a list is 0 in a slot. -/
def zeroIn (w : BitVec 512) (fs : List (Nat × Nat)) : Bool := fs.all fun f => decide (slotField w f.1 f.2 = 0)

def decBadType : Nat := 0x40
def decBadExt : Nat := 0x41
def decBadField : Nat := 0x42
def decGenMismatch : Nat := 0x43

/-- The first format check that fails. (DEDUCED, log 48.) -/
def formatFail (s : State) (d : Desc) : Option Nat :=
  match extLimit d.typ with
  | none => some decBadType
  | some n =>
    if n < d.extCount then some decBadExt
    else if !(zeroIn d.base headerReserved && zeroIn d.base (bodyReserved d.typ) && d.ext.all fun w => zeroIn w (extReserved d.typ)) then
      some decBadField
    else if !timedType d.typ ∧ (d.startEpoch ≠ 0 ∨ d.span ≠ 0 ∨ d.angleEn) then some decBadField
    else if d.genCheck ∧ d.gen ≠ s.get Reg.EPO_SYNC_STAT_GEN then some decGenMismatch
    else none

/-! ### Decline codes (Table 04-5) -/

def decEpochReset : Nat := 0x44
def decAdmissionClosed : Nat := 0x45
def decAbsent : Nat := 0x46
def decBadClaim : Nat := 0x47
def decBadSpan : Nat := 0x48
def decLeadTime : Nat := 0x49
def decTooFar : Nat := 0x4A
def decAngleUnlocked : Nat := 0x4B
def decAngleOutside : Nat := 0x4C
def decEngineBusy : Nat := 0x50
def decPortBusy : Nat := 0x51
def decCacheResidency : Nat := 0x52
def decNanoResidency : Nat := 0x53
def decGambit : Nat := 0x54
def decRankBw : Nat := 0x55
def decRsBw : Nat := 0x60
def decRsSpace : Nat := 0x61
def decRecordSet : Nat := 0x62
def decAcqTooLong : Nat := 0x63
def decHostBw : Nat := 0x64
def decRouteUndeclared : Nat := 0x65
def decRouteDown : Nat := 0x66
def decRouteCapacity : Nat := 0x67
def decPower : Nat := 0x68
def decTableFull : Nat := 0x6F
def decInUse : Nat := 0x70

/-- DETAIL of the Board shard, and of format declines and acceptances. -/
def boardShard : Nat := 8
def noShard : Nat := 15

/-- The first failing check of a shard. -/
def firstFail (checks : List (Nat × Bool)) : Option Nat := (checks.find? fun c => c.2).map Prod.fst

/-- The lowest code that shards report, with the lowest shard among those that report it (R153). -/
def pickDecline (fails : List (Nat × Nat)) : Option (Nat × Nat) :=
  fails.foldl (fun b f => match b with
    | none => some f
    | some g => if f.1 < g.1 ∨ (f.1 = g.1 ∧ f.2 < g.2) then some f else some g) none

/-- Reports of the Board and of Rank shards. -/
def reports (board : Option Nat) (ranks : List (Nat × Option Nat)) : List (Nat × Nat) :=
  (match board with | none => [] | some c => [(c, boardShard)]) ++
    ranks.filterMap fun r => r.2.map fun c => (c, r.1)

/-! ### Budgets (R160) -/

/-- A claim over [from, to). -/
structure Claim where
  lo : Nat
  hi : Nat
  amount : Nat
  deriving DecidableEq, Repr

/-- The sum of the claims that hold a tick. -/
def sumAt (cs : List Claim) (t : Nat) : Nat := cs.foldl (fun a c => a + if c.lo ≤ t ∧ t < c.hi then c.amount else 0) 0

/-- The peak over [b, e): it is reached at b or where a claim begins. -/
def peakOver (cs : List Claim) (b e : Nat) : Nat :=
  cs.foldl (fun m c => if b ≤ c.lo ∧ c.lo < e then max m (sumAt cs c.lo) else m) (sumAt cs b)

/-- fits of R160. (DEDUCED, log 50.) -/
def fits (cs : List Claim) (x b e cap : Nat) : Bool := decide (peakOver cs b e + x ≤ cap)

/-- Two intervals overlap. -/
def overlaps (b e b' e' : Nat) : Bool := decide (b < e' ∧ b' < e)

/-- A shot's intervals of Table 04-4. -/
def Desc.lead (d : Desc) : Nat := d.startEpoch - 256
def Desc.fence (d : Desc) : Nat := d.startEpoch + d.span
def Desc.tail (d : Desc) : Nat := d.startEpoch + d.span + 5000

/-- The descriptors whose claims to s + n, and to s + n + 5,000, are held (R151), with the tentative holds of a gang. (DEDUCED, log 49.) -/
def State.holders (s : State) (g : List Desc) : List Desc := (s.shots.filter Shot.exclusive).map Shot.desc ++ g
def State.flowers (s : State) (g : List Desc) : List Desc := (s.shots.filter Shot.flow).map Shot.desc ++ g

/-- The windows whose claims are held: until their end (R250). -/
def State.openWins (s : State) : List Desc := (s.wins.filter fun w => !w.ended).map StreamWin.desc

/-- Fill interval of a window (Table 06-7). -/
def Desc.fillLo (d : Desc) : Nat := d.startEpoch - 16256
def Desc.spaceUnits (d : Desc) : Nat := (d.wBytes + 65535) / 65536

def gambitClaims (s : State) (g : List Desc) (r : Nat) : List Claim := (s.holders g).map fun d => ⟨d.lead, d.fence, d.gambit r⟩
def rankBwClaims (s : State) (g : List Desc) (r : Nat) : List Claim :=
  ((s.flowers g).map fun d => ⟨d.startEpoch, d.tail, d.rsBw r⟩) ++
    (s.openWins.filter fun d => decide (d.wRank = r)).map fun d => ⟨d.lead, d.fence, d.wRs⟩

/-- What a shot claims of the Record Store total (Table 04-5, 0x60). -/
def Desc.rsTotal (d : Desc) : Nat := d.ranks.foldl (fun a r => a + d.rsBw r) 0 + d.d2hBw
def rsClaims (s : State) (g : List Desc) : List Claim :=
  ((s.flowers g).map fun d => ⟨d.startEpoch, d.tail, d.rsTotal⟩) ++ (s.openWins.map fun d => ⟨d.lead, d.fence, d.wRs⟩) ++
    s.openWins.map fun d => ⟨d.fillLo, d.lead, d.wH2d⟩
def spaceClaims (s : State) (g : List Desc) : List Claim :=
  ((s.flowers g).map fun d => ⟨d.lead, d.tail, d.rsSpace⟩) ++ s.openWins.map fun d => ⟨d.fillLo, d.fence, d.spaceUnits⟩
def d2hClaims (s : State) (g : List Desc) : List Claim := (s.flowers g).map fun d => ⟨d.startEpoch, d.tail, d.d2hBw⟩
def h2dClaims (s : State) : List Claim := s.openWins.map fun d => ⟨d.fillLo, d.lead, d.wH2d⟩
def routeClaims (s : State) (g : List Desc) (n : Nat) : List Claim :=
  (s.holders g).map fun d => ⟨d.startEpoch, d.fence, d.routes.foldl (fun a e => a + if e.1 = n then e.2 else 0) 0⟩

/-- C_space: the pool less the pages of every record set that is allocated, allocating or releasing. -/
def State.spaceCap (s : State) : Nat := poolUnits s.part - s.rsets.foldl (fun a x => a + x.2.held) 0

/-- CLK_HOST.CAP. -/
def State.hostCap (s : State) : Nat := (s.rd Reg.PCI_STREAM_CAP).toNat * s.get Reg.CLK_CTRL_HOST_PCT / 100 / 100

/-! ### Power (R165, R166) -/

/-- Set bits of a mask of n bits. -/
def popCount (n v : Nat) : Nat := (List.range n).countP fun i => v.testBit i

/-- P_shot of one Rank claim. -/
def rankPower (d : Desc) (r : Nat) : Nat :=
  popCount 24 (d.engines r) * 10 + popCount 32 (d.ldc r) * 35 + (if d.tones r % 65536 ≠ 0 then 120 else 0) +
    (if d.tones r / 65536 ≠ 0 then 120 else 0) + popCount 32 (d.ffx r) * 25 + popCount 8 (d.mrk r) * 2 + popCount 2 (d.trace r) * 50
def Desc.power (d : Desc) : Nat := d.ranks.foldl (fun a r => a + rankPower d r) 0

def powerClaims (s : State) (g : List Desc) : List Claim := (s.holders g).map fun d => ⟨d.startEpoch, d.fence, d.power⟩

/-- P_eff by the registers as they stand, and as decisions of this tick see it. -/
def State.peffNow (s : State) : Nat := s.get Reg.CLK_PWR_CEIL_CEIL * (8 - s.get Reg.THM_STAT_LEVEL) / 8
def State.peff (s : State) : Nat := if s.peffWas.1 = s.now then s.peffWas.2 else s.peffNow

/-- A change of CEIL or of the throttle level reaches decisions from the next tick (R166). -/
def settlePeff (s t : State) : State := if s.peffNow = t.peffNow then t else { t with peffWas := (t.now, s.peff) }

/-- The power of a shot over its span fits under P_eff. -/
def powerFits (s : State) (g : List Desc) (d : Desc) : Bool :=
  decide (peakOver (powerClaims s g) d.startEpoch d.fence + d.power + s.part.powerFloor ≤ s.peff)

/-! ### Tables (R151) -/

/-- Reservations of the Board shard and of a Rank shard. -/
def State.boardTable (s : State) (g : List Desc) : Nat :=
  (s.shots.filter fun x => x.exclusive || x.flow).length + s.openWins.length + g.length
def State.rankTable (s : State) (g : List Desc) (r : Nat) : Nat :=
  (s.shots.filter fun x => (x.exclusive || x.flow) && x.desc.rankMask.testBit r).length +
    (s.openWins.filter fun d => decide (d.wRank = r)).length + (g.filter fun d => d.rankMask.testBit r).length +
    (s.works.filter fun w => decide (w.kind = .loadMicro ∨ w.kind = .loadNano ∨ w.kind = .loadCache) && w.desc.rankMask.testBit r).length

/-! ### Checks common to several types -/

/-- EPOCH_RESET (R63): the decision was pending when an edge was accepted. -/
def epochReset (s : State) (d : Desc) : Bool :=
  match s.edgeAcceptedAt with | none => false | some t => decide (d.arrivalAt < t)

/-- ADMISSION_CLOSED. -/
def admissionClosed (s : State) : Bool := decide (s.mode ≠ .armed ∧ s.mode ≠ .run)

/-- RANK_MASK names an unpopulated Rank (R9). -/
def absentRank (s : State) (d : Desc) : Bool := decide (2 ^ s.part.ranks ≤ d.rankMask)

/-- ANGLE_UNLOCKED and ANGLE_OUTSIDE (R82). -/
def angleUnlocked (s : State) (d : Desc) : Bool :=
  d.angleEn && (!s.flag Reg.EPO_ANG_STAT_LOCK || decide (s.get (Reg.EPO_AWINn_LO d.awin) = s.get (Reg.EPO_AWINn_HI d.awin)))
def angleOutside (s : State) (d : Desc) : Bool :=
  let lo := s.get (Reg.EPO_AWINn_LO d.awin)
  let span := (s.get (Reg.EPO_AWINn_HI d.awin) + 65536 - lo) % 65536
  let dist := (d.startEpoch + 2 ^ 64 - s.angle.eRef) % 2 ^ 64
  let a := (s.get Reg.EPO_ANG_ENC_OFS + dist * s.angle.rate / 2 ^ 32) % 65536
  let adv := (d.span * s.angle.rate + 2 ^ 32 - 1) / 2 ^ 32
  let pos := (a + 65536 - lo) % 65536
  let guard := s.get Reg.EPO_ANG_LIM_GUARD
  d.angleEn && decide ((s.get Reg.EPO_ANG_CFG_HORIZON + 1) * s.angle.pAvg < dist ∨ pos < guard ∨ span < pos + adv + guard)

/-- LEAD_TIME and TOO_FAR of a timed descriptor. -/
def leadShort (d : Desc) : Bool := decide (d.startEpoch < d.arrival + 25000)
def tooFar (d : Desc) : Bool := decide (d.arrival + 2 ^ 33 < d.startEpoch ∨ 2 ^ 64 ≤ d.startEpoch + d.span + 5000)

/-! ### SHOT (R156, Table 04-5) -/

/-- BAD_CLAIM of a SHOT. -/
def shotBadClaim (d : Desc) : Bool :=
  decide (d.rankMask = 0 ∨ d.extCount ≠ d.ranks.length) ||
    (d.ext.any fun w =>
      decide (slotField w 0 24 = 0 ∨ 65536 < slotField w 384 16 + slotField w 400 16 ∨ 96 < slotField w 176 8) ||
        [0, 1, 2, 3].any fun i =>
          decide (slotField w (192 + 32 * i + 31) 1 = 1) &&
            decide (slotField w (192 + 32 * i) 11 = 0 ∨ 1536 < slotField w (192 + 32 * i + 16) 11 + slotField w (192 + 32 * i) 11)) ||
    decide ((d.recSegs ≠ 0 ∧ d.recset = 0xFFFF) ∨ 65536 < d.recSegs) || !decide ((d.routes.map Prod.fst).Nodup)

/-- RECSET names a set that cannot exist (R333). -/
def recsetAbsent (d : Desc) : Bool := decide (4096 ≤ d.recset ∧ d.recset ≠ 0xFFFF)

/-- RECORD_SET: not allocated, or too few segments free and unreserved. -/
def recsetShort (s : State) (g : List Desc) (d : Desc) : Bool :=
  decide (d.recset ≠ 0xFFFF) &&
    (decide ((s.rset d.recset).st ≠ .ready) ||
      decide ((s.rset d.recset).freeSegs <
        s.reservedSegs d.recset + (g.foldl (fun a e => a + if e.recset = d.recset then e.recSegs else 0) 0) + d.recSegs))

/-- ACQ_TOO_LONG. -/
def captureTooLong (s : State) (d : Desc) : Bool :=
  decide (d.recset ≠ 0xFFFF ∧ (s.rset d.recset).pay * 64 < d.captureLen) && !(s.rset d.recset).through

/-- A port that carries a claimed route is not UP: a lane of it is not in its trained state. (DEDUCED, log 84.) -/
def routeDown (s : State) (n : Nat) : Bool :=
  (s.routeOut n).any (fun p => !s.portIsUp p) || (decide (s.routeIn n < 4) && !s.portIsUp (s.routeIn n))

/-- The checks of the Board shard on a SHOT, in the order of Table 04-5. -/
def shotBoard (s : State) (g : List Desc) (d : Desc) : Option Nat :=
  firstFail [(decEpochReset, epochReset s d), (decAdmissionClosed, admissionClosed s), (decAbsent, absentRank s d || recsetAbsent d),
    (decBadClaim, shotBadClaim d), (decBadSpan, decide (d.span < 32)), (decLeadTime, leadShort d), (decTooFar, tooFar d),
    (decAngleUnlocked, angleUnlocked s d), (decAngleOutside, angleOutside s d),
    (decRsBw, !fits (rsClaims s g) d.rsTotal d.startEpoch d.tail s.part.rsCap),
    (decRsSpace, !fits (spaceClaims s g) d.rsSpace d.lead d.tail s.spaceCap),
    (decRecordSet, recsetShort s g d), (decAcqTooLong, captureTooLong s d),
    (decHostBw, !fits (d2hClaims s g) d.d2hBw d.startEpoch d.tail s.hostCap),
    (decRouteUndeclared, d.routes.any fun e => !s.declared e.1), (decRouteDown, d.routes.any fun e => routeDown s e.1),
    (decRouteCapacity, d.routes.any fun e => !fits (routeClaims s g e.1) e.2 d.startEpoch d.fence (s.routeSlots e.1)),
    (decPower, !powerFits s g d), (decTableFull, decide (16384 ≤ s.boardTable g))]

/-- A load in progress writes an engine's micro store (R197). -/
def engineLoading (s : State) (r e : Nat) : Bool :=
  s.works.any fun w => decide (w.kind = .loadMicro) && w.desc.rankMask.testBit r && (w.desc.body 32 0 24).testBit e

/-- A claimed engine is busy over [s - 256, s + n). -/
def engineBusyFor (s : State) (g : List Desc) (d : Desc) (r : Nat) : Bool :=
  ((s.holders g).any fun x => overlaps d.lead d.fence x.lead x.fence && decide (d.engines r &&& x.engines r ≠ 0)) ||
    (List.range 24).any fun e => (d.engines r).testBit e && engineLoading s r e

/-- Claims of ports of two descriptors meet on a Rank. -/
def portsMeet (d x : Desc) (r : Nat) : Bool :=
  decide (d.ldc r &&& x.ldc r ≠ 0 ∨ d.tones r &&& x.tones r ≠ 0 ∨ d.ffx r &&& x.ffx r ≠ 0 ∨ d.bias r &&& x.bias r ≠ 0 ∨
    d.mrk r &&& x.mrk r ≠ 0 ∨ d.trace r &&& x.trace r ≠ 0)

/-- A range change on a claimed FFX or BIAS output is pending or holds it (Table 04-5, R305). -/
def rangePending (s : State) (d : Desc) (r : Nat) : Bool :=
  (List.range 32).any fun k =>
    ((d.ffx r).testBit k && ((s.ffxAt r k).range.isSome || (s.ffxAt r k).hold.isSome)) ||
      ((d.bias r).testBit k && ((s.biaAt r k).range.isSome || (s.biaAt r k).hold.isSome))

def portBusyFor (s : State) (g : List Desc) (d : Desc) (r : Nat) : Bool :=
  ((s.holders g).any fun x => overlaps d.startEpoch d.fence x.startEpoch x.fence && portsMeet d x r) || rangePending s d r

/-- Residency of a cache block and of a nanoword (R223, R197). -/
def State.blockResident (s : State) (r b : Nat) : Bool := s.flag ⟨Reg.RNK_CACHE_RESw r (b / 32), b % 32, b % 32⟩
def State.nanoResident (s : State) (r a : Nat) : Bool := s.nanoRes.get nanoResDefault (r * 65536 + a)

def cacheAbsent (s : State) (d : Desc) (r : Nat) : Bool :=
  (d.cacheRanges r).any fun c => (List.range c.2).any fun i => !s.blockResident r (c.1 + i)

/-- A load in progress writes a nanoword of the claim, or one is not resident. -/
def nanoAbsent (s : State) (d : Desc) (r : Nat) : Bool :=
  (List.range (d.nanoCount r)).any fun i => !s.nanoResident r (d.nanoFirst r + i)

/-- The checks of a Rank shard on a SHOT. -/
def shotRank (s : State) (g : List Desc) (d : Desc) (r : Nat) : Option Nat :=
  firstFail [(decEngineBusy, engineBusyFor s g d r), (decPortBusy, portBusyFor s g d r), (decCacheResidency, cacheAbsent s d r),
    (decNanoResidency, nanoAbsent s d r), (decGambit, !fits (gambitClaims s g r) (d.gambit r) d.lead d.fence 96),
    (decRankBw, !fits (rankBwClaims s g r) (d.rsBw r) d.startEpoch d.tail 5120),
    (decTableFull, decide (4096 ≤ s.rankTable g r))]

/-- The populated Ranks that a descriptor names. -/
def State.namedRanks (s : State) (d : Desc) : List Nat := d.ranks.filter fun r => decide (r < s.part.ranks)

/-- The whole answer to a SHOT: its decline, or acceptance. -/
def shotAnswer (s : State) (g : List Desc) (d : Desc) : Option (Nat × Nat) :=
  match formatFail s d with
  | some c => some (c, noShard)
  | none => pickDecline (reports (shotBoard s g d) ((s.namedRanks d).map fun r => (r, shotRank s g d r)))

/-! ### Decisions -/

/-- The tentative holds of a gang in preparation (R152). -/
def State.tentative (s : State) : List Desc := match s.gang with | none => [] | some g => [g.desc]

/-- A decision can be taken now: the gang in preparation does not matter to it (R152). -/
def decided (s : State) (ans : List Desc → Option (Nat × Nat)) : Bool := decide (ans [] = ans s.tentative)

/-- The shot that an accepted descriptor becomes. (DEDUCED, log 110.) -/
def newShot (s : State) (d : Desc) : Shot :=
  { desc := d, phase := .admitted, endAt := s.now, stamp := s.stamp, started := false, fixed := false, status := [], flags := [],
    failed := [], failedMask := [], abort := none, gangStop := none, exclusive := true, flow := true, segsLeft := d.recSegs,
    records := 0, abortedBy := [], silent := false }

/-- SE_SHOTe of every claimed engine names the shot (Table 05-21). -/
def nameEngines (s : State) (d : Desc) : State :=
  d.ranks.foldl (fun s r => (List.range 24).foldl (fun s e =>
    if (d.engines r).testBit e then (s.put (Reg.SE_SHOTe_SQ r e) d.sq).put (Reg.SE_SHOTe_TAG r e) d.tag else s) s) s

/-- A SHOT is accepted. -/
def acceptShot (s : State) (d : Desc) : State :=
  let s1 := nameEngines (acceptEntry s d) d
  { s1 with shots := s1.shots ++ [newShot s d] }

/-- The descriptor is a gang (R167). -/
def Desc.isGang (d : Desc) : Bool := decide (1 < d.ranks.length)

/-- The Board shard's checks after its front checks. -/
def laterCode (c : Nat) : Bool := decide (0x50 ≤ c)

/-- SHOT: the decision on the descriptor at the front of an SQ whose TYPE is SHOT or is in no table. A gang that passes the Board's front
checks is prepared. -/
def decideShot (s : State) (d : Desc) : State :=
  if d.isGang && (formatFail s d).isNone && (match shotBoard s [] d with | none => true | some c => laterCode c) then
    { s with gang := some ⟨d, shotBoard s [] d, []⟩ }
  else match shotAnswer s [] d with
    | some (c, k) => decline s d c k
    | none => acceptShot s d

/-- The type of a descriptor that the SHOT row decides. -/
def shotTyped (d : Desc) : Bool := decide (d.typ = 0x01) || (extLimit d.typ).isNone

/-- The gang in preparation is this descriptor. -/
def State.preparing (s : State) (uid : Nat) : Bool := match s.gang with | none => false | some g => decide (g.desc.uid = uid)

/-- A gang is prepared one at a time. (DEDUCED, log 52.) -/
def execShot (sq : Nat) (s : State) : Host.Outcome State Fault Refusal :=
  match s.front sq with
  | none => .next s
  | some d =>
    happen (shotTyped d && !s.preparing d.uid && decided s (fun g => shotAnswer s g d) && (!d.isGang || s.gang.isNone)) s
      (decideShot s d)

/-- GANG_PREPARE: the shard of Rank r answers. -/
def gangPrepare (s : State) (g : Gang) (r : Nat) : State :=
  { s with gang := some { g with answers := g.answers ++ [(r, shotRank s [] g.desc r)] } }

def execGangPrepare (r : Nat) (s : State) : Host.Outcome State Fault Refusal :=
  match s.gang with
  | none => .next s
  | some g => happen (decide (r ∈ g.desc.ranks) && g.answers.all fun a => decide (a.1 ≠ r)) s (gangPrepare s g r)

/-- The Board's answer at the commit: an accepted edge or a mode that closed admission in between comes first. -/
def gangBoard (s : State) (g : Gang) : Option Nat :=
  if epochReset s g.desc then some decEpochReset
  else if admissionClosed s then some decAdmissionClosed
  else g.board

/-- GANG_COMMIT (R167). -/
def gangCommit (s : State) (g : Gang) : State :=
  let s1 := { s with gang := none }
  match pickDecline (reports (gangBoard s g) g.answers) with
  | some (c, k) => decline s1 g.desc c k
  | none => acceptShot s1 g.desc

def execGangCommit (s : State) : Host.Outcome State Fault Refusal :=
  match s.gang with
  | none => .next s
  | some g => happen (g.desc.ranks.all fun r => g.answers.any fun a => decide (a.1 = r)) s (gangCommit s g)

/-! ### Untimed work -/

/-- The answer to an untimed descriptor from the checks of its shards. -/
def untimedAnswer (s : State) (d : Desc) (board : List (Nat × Bool)) (ranks : List (Nat × Option Nat)) : Option (Nat × Nat) :=
  match formatFail s d with
  | some c => some (c, noShard)
  | none => pickDecline (reports (firstFail board) ranks)

/-- Accepted untimed work. -/
def newWork (s : State) (d : Desc) (kind : WorkKind) : Work :=
  { desc := d, kind := kind, done := false, endAt := s.now, stamp := s.stamp, status := stComplete, flags := [], image := [] }
def addWork (s : State) (w : Work) : State := { s with works := s.works ++ [w] }

/-- The descriptor at the front of an SQ has a type and may be decided. -/
def State.frontTyped (s : State) (sq t : Nat) : Option Desc :=
  match s.front sq with
  | none => none
  | some d => if d.typ = t then some d else none

/-- Decline or accept. -/
def decideWith (s : State) (d : Desc) (ans : Option (Nat × Nat)) (accept : State → Desc → State) : State :=
  match ans with
  | some (c, k) => decline s d c k
  | none => accept s d

/-! ### ABORT (R157-R159) -/

/-- A shot is targeted by an ABORT. -/
def targeted (d : Desc) (x : Shot) : Bool :=
  let mask := d.body 36 0 16
  decide (x.phase ≠ .ended ∧ x.desc.sq = d.body 32 0 6 ∧ x.desc.tag &&& mask = d.body 34 0 16 &&& mask)

/-- What an accepted ABORT leaves of a shot: its abort epoch, if it has none, and the number of the ABORT. (DEDUCED, log 51.) -/
def markAbort (d : Desc) (a : Nat) (x : Shot) : Shot :=
  if targeted d x then
    { x with abort := if x.abort.isSome then x.abort else some ⟨a, d.immediate⟩, abortedBy := d.uid :: x.abortedBy }
  else x

/-- An accepted ABORT: it fixes the abort epoch A = D + 64 of the shots it targets; with none its final entry follows at once. -/
def acceptAbort (s : State) (d : Desc) : State :=
  let s1 := acceptEntry s d
  if s.shots.any (targeted d) then
    addWork { s1 with shots := s1.shots.map (markAbort d (s.ep + 64)) } { newWork s d .abort with endAt := s.now + 64 }
  else finalEntry s1 d stComplete 0 [] s.stamp s.now

def abortAnswer (s : State) (d : Desc) : Option (Nat × Nat) :=
  untimedAnswer s d [(decEpochReset, epochReset s d), (decAbsent, absentRank s d)] []

def execAbort (sq : Nat) (s : State) : Host.Outcome State Fault Refusal :=
  match s.frontTyped sq 0x02 with
  | none => .next s
  | some d => .next (decideWith s d (abortAnswer s d) acceptAbort)

/-! ### NOP (R129) -/

def acceptNop (s : State) (d : Desc) : State := finalEntry (acceptEntry s d) d stComplete 0 [] s.stamp s.now

def nopAnswer (s : State) (d : Desc) : Option (Nat × Nat) :=
  untimedAnswer s d [(decEpochReset, epochReset s d), (decAbsent, absentRank s d), (decBadClaim, decide (d.rankMask ≠ 0))] []

def execNopDescriptor (sq : Nat) (s : State) : Host.Outcome State Fault Refusal :=
  match s.frontTyped sq 0x30 with
  | none => .next s
  | some d => .next (decideWith s d (nopAnswer s d) acceptNop)

/-! ### The Clock's registers as they read (Tables 04-11 to 04-16) -/

def State.powerNow (s : State) : Nat := s.part.powerFloor + sumAt (powerClaims s []) s.ep
def State.rsNow (s : State) : Nat := sumAt (rsClaims s []) s.ep
def State.d2hNow (s : State) : Nat := sumAt (d2hClaims s []) s.ep
def State.h2dNow (s : State) : Nat := sumAt (h2dClaims s) s.ep
def State.spaceFree (s : State) : Nat := s.spaceCap - sumAt (spaceClaims s []) s.ep
def State.boardFree (s : State) : Nat := 16384 - s.boardTable []
def State.rankFree (s : State) (r : Nat) : Nat := if r < s.part.ranks then 4096 - s.rankTable [] r else 0
def State.gambitFree (s : State) (r : Nat) : Nat := 96 - sumAt (gambitClaims s [] r) s.ep

/-- Descriptors that have arrived and are not decided. -/
def State.undecided (s : State) : Nat :=
  (List.range 64).foldl (fun a n => a + ((s.sq n).queue.filter fun f => f.desc.isSome).length) 0

end Sys2Proof.Machine
end

