-- ==== Sys2Proof/Machine/Mailbox.lean ====
section
/-!
DEFINITION. The mailbox of the management processor (03, R140-R144): posting, cancelling, expiry and replies. The MP starts
and answers a request in one step of the model.
-/
namespace Sys2Proof.Machine

def mbxDefault (_ : Nat) : Mailbox := ⟨.free, 0, 0, 0, 0, 0, [], 0, none⟩
def State.slotOf (s : State) (k : Nat) : Mailbox := s.mbx.get mbxDefault k
def State.setMbx (s : State) (k : Nat) (m : Mailbox) : State := { s with mbx := s.mbx.set mbxDefault k m }

/-- STATUS codes of a reply (Table 03-24). -/
def mbOk : Nat := 0
def mbUnknown : Nat := 1
def mbBadLen : Nat := 2
def mbNotInMode : Nat := 3
def mbCancelled : Nat := 4
def mbExpired : Nat := 5
def mbFailed : Nat := 6

/-- The commands of Table 03-25 that a chapter defines. -/
def commands : List Nat :=
  [0x0001, 0x0002, 0x0101, 0x0102, 0x0103, 0x0104, 0x0201, 0x0202, 0x0203, 0x0204, 0x0301, 0x0302, 0x0303, 0x0401, 0x0402,
   0x0403, 0x0404, 0x0405, 0x0501, 0x0502, 0x0503]

/-- The server that runs answers a command (R144): the boot ROM only the firmware group. -/
def State.serves (s : State) (cmd : Nat) : Bool :=
  decide (cmd ∈ commands) && (decide (s.server = 2) || (decide (s.server = 1) && decide (cmd / 256 = 1)))

/-- Microseconds since a tick, saturating in 32 bits. -/
def micros (s : State) (t : Nat) : Nat := min 0xFFFFFFFF ((s.now - t) / 2500)

/-- Write the reply of a slot and set DONE; vector 1 if OPT asks for it (R141). -/
def State.mbxReply (s : State) (k wait status : Nat) (payload : List (BitVec 8)) (dataEpoch : Nat) : State :=
  let m := s.slotOf k
  let s1 := s.setMbx k { m with st := .done, reply := some ⟨status, m.seq, micros s m.postedAt, wait, dataEpoch, payload⟩ }
  if m.opt % 2 = 1 then s1.raiseVector 1 else s1

/-- A posted request that the server does not know (R144). -/
def answerUnknown (s : State) (k : Nat) : State :=
  let m := s.slotOf k
  if m.st = .posted ∧ s.server ≠ 0 ∧ !s.serves m.cmd then s.mbxReply k (micros s m.postedAt) mbUnknown [] 0 else s

/-- Every slot, when a server begins to run. -/
def answerAll (s : State) : State := (List.range 8).foldl answerUnknown s

/-- A write of POSTED from FREE or DONE, with the request that the slot then holds (Tables 03-23, 03-24). -/
def mbxPost (s : State) (k seq cmd len expire opt : Nat) (payload : List (BitVec 8)) : State :=
  let m : Mailbox := ⟨.posted, seq % 256, cmd % 65536, len % 65536, expire % 65536, opt % 256, payload, s.now, none⟩
  answerUnknown (s.setMbx k m) k

/-- MAILBOX_POST: in POSTED a write of STATE 0x1 is ignored (Table 03-23). -/
def execMailboxPost (k seq cmd len expire opt : Nat) (payload : List (BitVec 8)) (s : State) :
    Host.Outcome State Fault Refusal :=
  happen (decide (k < 8) && decide ((s.slotOf k).st ≠ .posted)) s (mbxPost s k seq cmd len expire opt payload)

/-- MAILBOX_CANCEL (R143). -/
def execMailboxCancel (k : Nat) (s : State) : Host.Outcome State Fault Refusal :=
  happen (decide (k < 8) && decide ((s.slotOf k).st = .posted)) s (s.mbxReply k (Config.noWait s.now) mbCancelled [] 0)

/-- A posted request has waited longer than its EXPIRE allows (R143). -/
def State.mbxLate (s : State) (k : Nat) : Bool :=
  let m := s.slotOf k
  decide (m.st = .posted) && decide (m.expire ≠ 0) && decide (m.postedAt + m.expire * 2500000 ≤ s.now)

/-- MAILBOX_EXPIRE (R143); the MP counts it (Table 14-11). -/
def execMailboxExpire (k : Nat) (s : State) : Host.Outcome State Fault Refusal :=
  happen (decide (k < 8) && s.mbxLate k) s
    ((s.mbxReply k (Config.noWait s.now) mbExpired [] 0).bump Reg.BRD_MP_SLIP_EXPIRED)

/-- The MP may answer slot k as command `cmd` now, having started it `wait` µs after POSTED (R141, R143, R144). -/
def State.mbxReady (s : State) (k cmd wait : Nat) : Bool :=
  let m := s.slotOf k
  decide (k < 8) && decide (m.st = .posted) && decide (m.cmd = cmd) && s.serves cmd && decide (wait ≤ micros s m.postedAt) &&
    (decide (m.expire = 0) || decide (wait ≤ m.expire * 1000))

/-- What a command does: the state after it, the STATUS, the reply payload and DATA_EPOCH. -/
structure Served where
  st : State
  status : Nat
  payload : List (BitVec 8)
  dataEpoch : Nat

def servedOk (s : State) (payload : List (BitVec 8)) : Served := ⟨s, mbOk, payload, 0⟩
def servedBad (s : State) (status : Nat) : Served := ⟨s, status, [], 0⟩

/-- Serve a request: a LEN that differs from the stated payload gives BAD_LEN (R453, R488). (DEDUCED, log 47.) -/
def serveSlot (s : State) (k wait : Nat) (lenOk : Mailbox → Bool) (f : Mailbox → Served) : State :=
  let o := if lenOk (s.slotOf k) then f (s.slotOf k) else servedBad s mbBadLen
  o.st.mbxReply k wait o.status o.payload o.dataEpoch

def serve (s : State) (k cmd wait : Nat) (lenOk : Mailbox → Bool) (f : Mailbox → Served) : Host.Outcome State Fault Refusal :=
  happen (s.mbxReady k cmd wait) s (serveSlot s k wait lenOk f)

/-- Bytes of a payload: byte i, and w bytes from i as a little-endian number. -/
def Mailbox.byte (m : Mailbox) (i : Nat) : Nat := (m.payload.getD i 0).toNat
def Mailbox.num (m : Mailbox) (i w : Nat) : Nat := (List.range w).foldl (fun a j => a + m.byte (i + j) * 256 ^ j) 0
def lenIs (n : Nat) (m : Mailbox) : Bool := decide (m.len = n)

/-- A number as w bytes, little-endian (R13). -/
def bytesOf (n w : Nat) : List (BitVec 8) := (List.range w).map fun i => BitVec.ofNat 8 (n / 256 ^ i)

/-- ECHO (Table 03-25). -/
def execEcho (k wait : Nat) (s : State) : Host.Outcome State Fault Refusal :=
  serve s k 0x0001 wait (fun m => decide (m.len ≤ 2016)) fun m =>
    servedOk s ((List.range m.len).map fun i => BitVec.ofNat 8 (m.byte i))

end Sys2Proof.Machine
end

