-- ==== Sys2Proof/Machine/Sensors.lean ====
section
/-!
DEFINITION. The cryostat sensor channels and the heater outputs with their stage loops (13).
-/
namespace Sys2Proof.Machine

/-! ### Sensor channels (R421-R425) -/

/-- A channel after reset: disabled, PER 0x100, TAU 1 (Table 13-11). -/
def snsDefault (_ : Nat) : Sns :=
  { on := false, exc := 0, per := 0x100, tau := 1, cm := 0x01F4FE0C, cur := none, post := none, left := 0, n := 0, yR := 0,
    yX := 0, restart := false, faultCm := false, faultComp := false, cal := false }
def State.sns (s : State) (c : Nat) : Sns := s.snss.get snsDefault c
def State.setSns (s : State) (c : Nat) (x : Sns) : State := { s with snss := s.snss.set snsDefault c x }

/-- The period of a PER value in ticks (R421, Table 13-11). -/
def snsPeriod (per : Nat) : Nat := 2 ^ 18 * max 98 (min per 973)

/-- The time constant of a TAU value in ticks (R423, Table 13-11). -/
def snsTau (tau : Nat) : Nat :=
  match tau with
  | 0 => 750000000
  | 1 => 2500000000
  | 2 => 7500000000
  | 3 => 25000000000
  | _ => 75000000000

/-- K of R423. -/
def snsK (tau per : Nat) : Nat := max 1 (min ((snsTau tau + snsPeriod per / 2) / snsPeriod per) 65535)

/-- A written curve number: a reserved one stores 0 (R427). -/
def curveNumber (v : Nat) : Nat := if v ≤ 2 ∨ (10 ≤ v ∧ v ≤ 41) then v else 0

/-- A write of SNS_CFGc: the plain fields are stored; what they select takes effect as Table 13-1 states. -/
def writeSnsCfg (s : State) (c : Nat) (v : Word) : WriteOut :=
  taken ((s.wr (Reg.SNS_CFGc c) (v &&& 0xC0007700)).put (Reg.SNS_CFGc_CURVE c) (curveNumber (wordBits v 23 16)))

/-- A fault of the channel is in force (R430). -/
def Sns.faulty (x : Sns) : Bool := x.faultCm || x.faultComp

/-- Invalid results due (SNS_LEFTc, R424). -/
def Sns.due (x : Sns) : Nat :=
  x.left + (match x.cur with | some p => (if p.bad then 1 else 0) | none => 0) +
    (match x.post with | some (_, p) => (if p.bad then 1 else 0) | none => 0)

/-- At a period boundary the settings written since the last one come into force (Table 13-1). -/
def snsSettings (s : State) (c : Nat) (x : Sns) : Sns :=
  let on := s.flag (Reg.SNS_CFGc_EN c)
  let exc := s.get (Reg.SNS_CFGc_EXC c)
  let per := s.get (Reg.SNS_PERc_PER c)
  let tau := s.get (Reg.SNS_CFGc_TAU c)
  let anew := on && (!x.on || decide (exc ≠ x.exc) || decide (per ≠ x.per))
  { x with
    on := on, exc := exc, per := per, tau := tau, cm := s.rd (Reg.SNS_CMc c),
    left := if anew then max x.left 3 else x.left,
    n := if anew || decide (tau ≠ x.tau) then 0 else x.n }

/-- A fault clears at the boundary that ends a whole period without its condition; the 2 periods after it are invalid and
the filter restarts after the last (Table 13-1, R430). -/
def snsClear (x : Sns) (cmClear compClear : Bool) : Sns :=
  let cm := x.faultCm && !cmClear
  let comp := x.faultComp && !compClear
  if x.faulty && !(cm || comp) then { x with faultCm := cm, faultComp := comp, left := max x.left 2, restart := true }
  else { x with faultCm := cm, faultComp := comp }

/-- The period that begins at a boundary. -/
def snsBegin (s : State) (x : Sns) : Sns :=
  if x.on then
    let bad := decide (x.left ≠ 0) || x.faulty || x.cal || decide (s.mode = .tripped)
    { x with
      cur := some ⟨s.epoch.toNat, snsPeriod x.per, bad⟩, left := x.left - 1,
      n := if x.restart && !bad then 0 else x.n, restart := x.restart && bad }
  else { x with cur := none }

/-- SENSOR_PERIOD_BOUNDARY (R421, R424): the ended period's result is due 2,500 t later (R425). (DEDUCED, log 92.) -/
def snsBoundary (s : State) (c : Nat) (cmClear compClear : Bool) : State :=
  let x := s.sns c
  let x1 := match x.cur with
    | some p => { x with post := some (s.now + 2500, p), cur := none }
    | none => x
  s.setSns c (snsBegin s (snsSettings s c (snsClear x1 cmClear compClear)))

/-- The tick is a period boundary of the channel, under the PER in force. -/
def State.snsAtBoundary (s : State) (c : Nat) : Bool :=
  decide (c < 8) && s.epochOn && decide (s.epoch.toNat % snsPeriod (s.sns c).per = 0)

def execSensorPeriodBoundary (c : Nat) (cmClear compClear : Bool) (s : State) : Host.Outcome State Fault Refusal :=
  happen (s.snsAtBoundary c) s (snsBoundary s c cmClear compClear)

/-- SENSOR_FAULT (R430): the common mode lies outside the window in force, or the source is out of compliance, for 1 ms. -/
def snsFault (s : State) (c : Nat) (cm : Bool) : State :=
  let x := s.sns c
  let bad := x.cur.map fun p => { p with bad := true }
  let s1 := s.setSns c (if cm then { x with faultCm := true, cur := bad } else { x with faultComp := true, cur := bad })
  (s1.bump (Reg.SNS_STATc_FAULTS c)).event evtCryo

/-- The window of SNS_CMc excludes a common-mode voltage in mV. -/
def outsideWindow (cm : Word) (mv : Int) : Bool :=
  decide (mv < signed 16 cm.toNat) || decide (signed 16 (cm.toNat / 65536) < mv)

def execSensorFault (c : Nat) (cm : Bool) (mv : Int) (s : State) : Host.Outcome State Fault Refusal :=
  happen (decide (c < 8) && (s.sns c).on &&
    (if cm then !(s.sns c).faultCm && outsideWindow (s.sns c).cm mv else !(s.sns c).faultComp)) s (snsFault s c cm)

/-! ### Linearisation (R427, R428) -/

def curvesDefault (_ : Nat) : List (Nat × Nat) := []
/-- The active user table u. -/
def State.curve (s : State) (u : Nat) : List (Nat × Nat) := s.curves.get curvesDefault u

/-- The first segment of a table that holds y, inclusive. -/
def findSegment (y : Int) : List (Nat × Nat) → Option ((Nat × Nat) × (Nat × Nat))
  | a :: b :: t =>
    if ((a.1 : Int) ≤ y ∧ y ≤ b.1) ∨ ((b.1 : Int) ≤ y ∧ y ≤ a.1) then some (a, b) else findSegment y (b :: t)
  | _ => none

/-- What a curve gives: a temperature, or the flags CURVE_RANGE and CURVE_EMPTY. -/
inductive CurveOut where
  | temp (t : Int)
  | range
  | empty
  | raw
  deriving DecidableEq, Repr

/-- A user table (R428). -/
def userCurve (pts : List (Nat × Nat)) (y : Int) : CurveOut :=
  if pts.length < 2 then .empty
  else match findSegment y pts with
    | none => .range
    | some (a, b) => .temp (a.2 + ((b.2 : Int) - a.2) * (y - a.1) / ((b.1 : Int) - a.1))

/-- The equation of IEC 60751 (Table 13-2): the resistance in units of 10^-36 of R0 at a temperature t in µK above 0 °C,
with C in force below 0 °C. -/
def platinumRatio (t : Int) : Int :=
  10 ^ 36 + 39083 * t * 10 ^ 23 - 5775 * t ^ 2 * 10 ^ 14 -
    (if t < 0 then 4183 * (t - 100000000) * t ^ 3 / 1000 else 0)

/-- The least t in [lo, lo + 2^n) µK above 0 °C at which the ratio reaches r, by bisection. -/
def platinumSearch (r : Int) : Nat → Int → Int
  | 0, lo => lo
  | n + 1, lo => if platinumRatio (lo + 2 ^ n) ≤ r then platinumSearch r n (lo + 2 ^ n) else platinumSearch r n lo

/-- Curves 1 and 2 (Table 13-2): within 1 mK of the inverse, over 73.15 K to 1,123.15 K. The error that the spec allows is
a free value. -/
def platinumCurve (r0 : Nat) (y : Int) (free : Int) : CurveOut :=
  let r := y * 10 ^ 36 / (r0 * 1000000)
  if r < platinumRatio (-200000000) ∨ platinumRatio 850000000 < r then .range
  else .temp (platinumSearch r 31 (-200000000) + 273150000 + (free % 1999 - 999))

/-- The temperature of a valid result (R427, R428): one outside 0 to 0xFFFF_FFFF µK is out of range. -/
def State.curveTemp (s : State) (c : Nat) (y : Int) : CurveOut :=
  let k := s.get (Reg.SNS_CFGc_CURVE c)
  let o := match k with
    | 0 => CurveOut.raw
    | 1 => platinumCurve 100 y (Config.platinumError y)
    | 2 => platinumCurve 1000 y (Config.platinumError y)
    | _ => userCurve (s.curve (k - 10)) y
  match o with
  | .temp t => if 0 ≤ t ∧ t ≤ 0xFFFFFFFF then .temp t else .range
  | o => o

/-! ### Heaters (R433-R439) -/

def heaterDefault (_ : Nat) : Heater := ⟨0, none, none, 0, false, false, 0⟩
def State.heater (s : State) (k : Nat) : Heater := s.heaters.get heaterDefault k
def State.setHeater (s : State) (k : Nat) (h : Heater) : State := { s with heaters := s.heaters.set heaterDefault k h }

/-- STATE codes of HTR_STATk (Table 13-12). -/
def htrOff : Nat := 0
def htrRun : Nat := 1
def htrHold : Nat := 2
def htrNoSensor : Nat := 3
def htrOvertemp : Nat := 4

/-- The floor of the square root, by bits from 2^n down. -/
def isqrtBits (x : Nat) : Nat → Nat → Nat
  | 0, r => if (r + 1) * (r + 1) ≤ x then r + 1 else r
  | n + 1, r => isqrtBits x n (if (r + 2 ^ (n + 1)) * (r + 2 ^ (n + 1)) ≤ x then r + 2 ^ (n + 1) else r)
def isqrt (x : Nat) : Nat := isqrtBits x 31 0

/-- The code of a loop output (R436). -/
def State.htrCode (s : State) (k out : Nat) : Nat :=
  if s.flag (Reg.HTR_LOOPk_OUT_MODE k) then min (isqrt (out * 2 ^ 20)) 1048575 else out

/-- The output in force, expressed as out (R438). -/
def State.htrOut (s : State) (k : Nat) : Nat :=
  let c := (s.heater k).code
  if s.flag (Reg.HTR_LOOPk_OUT_MODE k) then c * c / 2 ^ 20 else c

/-- A loop's new code waits for the posting tick + 2,500 (R436). -/
def State.htrSchedule (s : State) (k out : Nat) : State :=
  s.setHeater k { s.heater k with out := out, codePend := some (s.now + 2500, s.htrCode k out) }

/-- A product in signed 64-bit arithmetic (R436). -/
def product64 (a b : Int) : Int :=
  if -(2 ^ 63) ≤ a * b ∧ a * b < 2 ^ 63 then a * b else (Config.wideProduct (a * b)).toInt

/-- The numbers of one update (R436): iacc and u, and whether RATE limited it. -/
def loopUpdate (sp t kp ki ceil rate iacc out : Int) (satHi satLo : Bool) : Int × Int × Bool :=
  let e := sp - t
  let p := product64 kp e / 2 ^ 16
  let i1 := if (satHi ∧ 0 < e) ∨ (satLo ∧ e < 0) then iacc else iacc + product64 ki e / 2 ^ 16
  let i2 := clampTo 0 ceil i1
  let u := clampTo 0 ceil (p + i2)
  if rate = 0 then (i2, u, false) else (i2, clampTo (out - rate) (out + rate) u, decide (clampTo (out - rate) (out + rate) u ≠ u))

/-- An update of heater k at a posting with temperature t (R436). (DEDUCED, log 93.) -/
def htrUpdate (s : State) (k t : Nat) : State :=
  let h := s.heater k
  if (s.rd (Reg.HTR_TMAXk k)).toNat < t then
    let s1 := ((s.put (Reg.HTR_CTRLk_LOOP_EN k) 0).put (Reg.HTR_STATk_STATE k) htrOvertemp).put
      (Reg.HTR_STATk_OVERTEMP_SEEN k) 1
    (s1.event evtCryo).htrSchedule k 0
  else
    let ceil := s.get (Reg.HTR_CEILk_CEIL k)
    let o := loopUpdate (s.rd (Reg.HTR_SPk k)).toNat t (s.rd (Reg.HTR_KPk k)).toNat (s.rd (Reg.HTR_KIk k)).toNat ceil
      (s.get (Reg.HTR_RATEk_RATE k)) (s.get (Reg.HTR_IACCk_IACC k)) h.out h.satHi h.satLo
    let hi := decide (o.2.1 = ceil)
    let s1 := (((s.put (Reg.HTR_STATk_STATE k) htrRun).put (Reg.HTR_IACCk_IACC k) o.1.toNat).put (Reg.HTR_STATk_SAT_HI k)
      (if hi then 1 else 0)).put (Reg.HTR_STATk_SAT_RATE k) (if o.2.2 then 1 else 0)
    let s2 := (s1.put64 (Reg.HTR_UPD_LOk k) s.epoch.toNat).htrSchedule k o.2.1.toNat
    s2.setHeater k { s2.heater k with satHi := hi, satLo := decide (o.2.1 = 0), last := s.now }

/-- What a posting of channel c does to the loops on it (R436, R437). -/
def htrPosting (s : State) (c : Nat) (temp : Option Nat) : State :=
  (List.range 4).foldl (fun s k =>
    if s.flag (Reg.HTR_CTRLk_LOOP_EN k) ∧ s.get (Reg.HTR_LOOPk_SRC k) = c then
      match temp with
      | some t => htrUpdate s k t
      | none => if s.get (Reg.HTR_STATk_STATE k) = htrNoSensor then s else s.put (Reg.HTR_STATk_STATE k) htrHold
    else s) s

/-! ### Posting (R425) -/

/-- The filter of R423 takes a valid raw result. -/
def snsFilter (x : Sns) (xR xX : Int) : Sns :=
  let n := min (x.n + 1) (snsK x.tau x.per)
  { x with n := n, yR := x.yR + (xR - x.yR) / n, yX := x.yX + (xX - x.yX) / n }

/-- SENSOR_POST: the raw result of the period, the posted result and the loops (R422, R423, R425, R436). `big` says that
|V_I| or |V_Q| exceeded 25 mV. -/
def snsPost (s : State) (c : Nat) (p : SnsPeriod) (xR xX : Int) (big : Bool) : State :=
  let clip := big || decide (xR < 0)
  let bad := p.bad || clip
  let x0 := { s.sns c with post := none }
  let x := if bad then x0 else snsFilter x0 xR xX
  let curve := if bad then CurveOut.raw else s.curveTemp c x.yR
  let temp : Option Nat := match curve with | .temp t => some t.toNat | _ => none
  let stat :=
    (s.get (Reg.SNS_STATc_SEQ c) + 1) % 65536 * 65536 + s.get (Reg.SNS_STATc_FAULTS c) * 256 +
      (if temp.isSome then 128 else 0) + (if x.n < snsK x.tau x.per then 64 else 0) +
      (if curve = .range then 32 else 0) + (if curve = .empty then 16 else 0) +
      (if x.faultComp then 8 else 0) + (if x.faultCm then 4 else 0) + (if clip then 2 else 0) + (if bad then 1 else 0)
  let s1 := s.setSns c x
  let s2 := if bad then s1 else
    (s1.put64 (Reg.SNS_RES_LOc c) x.yR.toNat).wr (Reg.SNS_QUADc c)
      (BitVec.ofInt 32 (clampTo (-2147483648) 2147483647 (x.yX / 1000)))
  let s3 := ((s2.wr (Reg.SNS_TEMPc c) (BitVec.ofNat 32 (temp.getD 0))).wr (Reg.SNS_STATc c) (BitVec.ofNat 32 stat)).put64
    (Reg.SNS_EPO_LOc c) p.b
  htrPosting s3 c temp

def execSensorPost (c : Nat) (xR xX : Int) (big : Bool) (s : State) : Host.Outcome State Fault Refusal :=
  match (s.sns c).post with
  | none => .next s
  | some (due, p) => happen (decide (due ≤ s.now)) s (snsPost s c p xR xX big)

/-- A write of SNS_CTRL.STATS_CLR (Table 13-10). -/
def clearSnsStats (s : State) : State := (List.range 8).foldl (fun s c => s.put (Reg.SNS_STATc_FAULTS c) 0) s

/-! ### Events on all channels (Table 13-1, R431, R432) -/

def State.eachSns (s : State) (f : Sns → Sns) : State :=
  (List.range 8).foldl (fun s c => s.setSns c (f (s.sns c))) s

/-- An accepted EPOCH_IN edge cuts the period in progress (Table 13-1). -/
def snsCut (s : State) : State := s.eachSns fun x => if x.cur.isSome then { x with cur := none, left := max x.left 2 } else x

/-- Entry to CALIBRATE: the channels with CAL_EN = 1 (R431). -/
def snsCalEnter (s : State) : State :=
  (List.range 8).foldl (fun s c =>
    if s.flag (Reg.SNS_CFGc_CAL_EN c) then
      let x := s.sns c
      s.setSns c { x with cal := true, cur := x.cur.map fun p => { p with bad := true } }
    else s) s

/-- Exit from CALIBRATE: the 3 periods after the routine are invalid too (Table 13-1). -/
def snsCalLeave (s : State) : State :=
  s.eachSns fun x => if x.cal then { x with cal := false, left := max x.left 3, restart := true } else x

/-- TRIPPED: excitation stops and every posted result is invalid (R432). -/
def snsTrip (s : State) : State :=
  s.eachSns fun x => { x with
    cur := x.cur.map fun p => { p with bad := true },
    post := x.post.map fun e => (e.1, { e.2 with bad := true }) }

/-! ### Heater writes and events -/

/-- A write of HTR_CTRLk: it releases the output (R30); LOOP_EN from 0 to 1 and from 1 to 0 act as R438 states. -/
def writeHtrCtrl (s : State) (k : Nat) (v : Word) : WriteOut :=
  let was := s.flag (Reg.HTR_CTRLk_LOOP_EN k)
  let on := decide (wordBits v 0 0 = 1)
  let s1 := (s.put (Reg.HTR_CTRLk_CLEAR k) 0).put (Reg.HTR_CTRLk_LOOP_EN k) (wordBits v 0 0)
  if on && !was then
    let o := s.htrOut k
    let s2 := (s1.put (Reg.HTR_STATk_STATE k) htrHold).put (Reg.HTR_IACCk_IACC k) o
    taken (s2.setHeater k { s.heater k with out := o, satHi := false, satLo := false, last := s.now })
  else if was && !on then
    let s2 := s1.put (Reg.HTR_STATk_STATE k) htrOff
    taken (s2.setHeater k { s.heater k with codePend := none })
  else taken s1

/-- A write of HTR_VALk (R30, R434). -/
def writeHtrVal (s : State) (k : Nat) (v : Word) : WriteOut :=
  if s.flag (Reg.HTR_CTRLk_CLEAR k) then refusedBy s 1
  else if s.flag (Reg.HTR_CTRLk_LOOP_EN k) then refusedBy s 2
  else taken (s.setHeater k { s.heater k with valPend := some (s.now + 64, wordBits v 19 0) })

/-- A write of HTR_LOOPk (R439). -/
def writeHtrLoop (s : State) (k : Nat) (v : Word) : WriteOut :=
  if s.flag (Reg.HTR_CTRLk_LOOP_EN k) then refusedBy s 2 else taken (s.wr (Reg.HTR_LOOPk k) (v &&& 0x107))

def execHtrValEffect (k : Nat) (s : State) : Host.Outcome State Fault Refusal :=
  match (s.heater k).valPend with
  | none => .next s
  | some (due, v) => happen (decide (due ≤ s.now)) s (s.setHeater k { s.heater k with code := v, valPend := none })

def execHeaterCodeEffect (k : Nat) (s : State) : Host.Outcome State Fault Refusal :=
  match (s.heater k).codePend with
  | none => .next s
  | some (due, v) => happen (decide (due ≤ s.now)) s (s.setHeater k { s.heater k with code := v, codePend := none })

/-- No update has come for TIMEOUT seconds (R437). -/
def State.noSensor (s : State) (k : Nat) : Bool :=
  let t := s.get (Reg.HTR_SAFEk_TIMEOUT k)
  s.flag (Reg.HTR_CTRLk_LOOP_EN k) && decide (t ≠ 0) && decide (s.get (Reg.HTR_STATk_STATE k) ≠ htrNoSensor) &&
    decide ((s.heater k).last + ticksOfSeconds t ≤ s.now)

/-- NO_SENSOR (R437). -/
def loseSensor (s : State) (k : Nat) : State :=
  let f := s.get (Reg.HTR_SAFEk_FALLBACK k)
  let s1 := ((s.put (Reg.HTR_STATk_STATE k) htrNoSensor).put (Reg.HTR_IACCk_IACC k) f).event evtCryo
  s1.setHeater k { s1.heater k with out := f, code := s1.htrCode k f, codePend := none }

def execNoSensor (k : Nat) (s : State) : Host.Outcome State Fault Refusal :=
  happen (decide (k < 4) && s.noSensor k) s (loseSensor s k)

/-- HEATER_COMPLIANCE (R435): the output can, or cannot, deliver its current. -/
def htrCompliance (s : State) (k : Nat) (bad : Bool) : State :=
  if bad then (if s.flag (Reg.HTR_STATk_COMP k) then s else (s.put (Reg.HTR_STATk_COMP k) 1).event evtCryo)
  else s.put (Reg.HTR_STATk_COMP k) 0

def execHeaterCompliance (k : Nat) (bad : Bool) (s : State) : Host.Outcome State Fault Refusal :=
  happen (decide (k < 4)) s (htrCompliance s k bad)

/-- 0 mA with the loop off: the Clear and the Tripped state (Table 13-3). -/
def htrStop (s : State) (clear : Bool) : State :=
  (List.range 4).foldl (fun s k =>
    let s1 := (s.put (Reg.HTR_CTRLk_LOOP_EN k) 0).put (Reg.HTR_STATk_STATE k) htrOff
    let s2 := if clear then s1.put (Reg.HTR_CTRLk_CLEAR k) 1 else s1
    s2.setHeater k { s2.heater k with code := 0, valPend := none, codePend := none }) s

end Sys2Proof.Machine
end

