-- ==== Sys2Proof/Machine/Flash.lean ====
section
/-!
DEFINITION. The SPI flash (R465-R470): banks and slots, what a read of it returns, and the mailbox commands of firmware,
curves and the trip log.
-/
namespace Sys2Proof.Machine

/-! ### CRC-32 of IEEE 802.3 (R466) -/

def crc32Bit (c : Nat) : Nat := if c % 2 = 1 then (c / 2).xor 0xEDB88320 else c / 2
def crc32Byte (c : Nat) (b : BitVec 8) : Nat := (List.range 8).foldl (fun c _ => crc32Bit c) (c.xor b.toNat)
def crc32 (bs : List (BitVec 8)) : Nat := (bs.foldl crc32Byte 0xFFFFFFFF).xor 0xFFFFFFFF

/-! ### Banks (R466-R468) -/

def magicCal : Nat := 0x4C41434B
def magicCurve : Nat := 0x5652434B
def magicFw : Nat := 0x57464C4B

def bankDefault (_ : Nat) : FlashBank := ⟨none, 0⟩
def fwByteDefault (_ : Nat) : Option (BitVec 8) := none

/-- The 64 bytes of a header (Table 14-4). -/
def headerBytes (magic : Nat) (h : BankHdr) : List (BitVec 8) :=
  let body := bytesOf magic 4 ++ bytesOf h.seq 4 ++ bytesOf h.length 4 ++ bytesOf 1 4 ++ bytesOf h.crc.toNat 4 ++
    bytesOf h.word 4 ++ bytesOf h.stamp 24 ++ bytesOf 0 12
  body ++ bytesOf (crc32 body) 4

/-- Bank a is newer than bank b (R467). -/
def newer (a b : Nat) : Bool :=
  let d := (a + 2 ^ 32 - b) % 2 ^ 32
  decide (1 ≤ d) && decide (d ≤ 2 ^ 31 - 1)

/-- The bank that holds the newest valid copy (R467). -/
def newestBank (t : Table FlashBank) : Option (Nat × BankHdr) :=
  match (t.get bankDefault 0).hdr, (t.get bankDefault 1).hdr with
  | none, none => none
  | some a, none => some (0, a)
  | none, some b => some (1, b)
  | some a, some b => if newer b.seq a.seq then some (1, b) else some (0, a)

/-- The target of a commit (R468), and the SEQ it writes. -/
def commitTarget (t : Table FlashBank) : Nat := match newestBank t with | none => 0 | some (n, _) => 1 - n
def commitSeq (t : Table FlashBank) : Nat := match newestBank t with | none => 1 | some (_, h) => (h.seq + 1) % 2 ^ 32

/-- A commit that fails leaves the target without a valid header (R468, Table 14-5). -/
def failedCommit (t : Table FlashBank) (n writing : Nat) : Table FlashBank := t.set bankDefault n ⟨none, writing⟩

/-! ### Reading (FLASH_READ) -/

/-- A byte of a bank: its header, else a byte of the writing. -/
def bankByte (b : FlashBank) (magic rel : Nat) : BitVec 8 :=
  match b.hdr with
  | some h => if rel < 64 then (headerBytes magic h).getD rel 0 else Config.flashByte b.writing rel
  | none => Config.flashByte b.writing rel

/-- A body byte of a firmware slot: as FW_WRITE stored it, else erased if the slot has been erased, else its first contents. -/
def State.fwByte (s : State) (n rel : Nat) : BitVec 8 :=
  match s.fwBody.get fwByteDefault (n * 2 ^ 24 + rel) with
  | some b => b
  | none =>
    let w := (s.fwBank.get bankDefault n).writing
    if w = 0 then Config.flashByte 0 (n * 2 ^ 24 + 4096 + rel) else 0xFF

/-- A byte of the flash (Table 14-3). -/
def State.flashByte (s : State) (a : Nat) : BitVec 8 :=
  if a < 0x2000000 then
    let n := a / 2 ^ 24
    let rel := a % 2 ^ 24
    if rel < 4096 then bankByte (s.fwBank.get bankDefault n) magicFw rel else s.fwByte n (rel - 4096)
  else if a < 0x2400000 then
    bankByte (s.calBank.get bankDefault ((a - 0x2000000) / 0x200000)) magicCal ((a - 0x2000000) % 0x200000)
  else if a < 0x2480000 then
    bankByte (s.curveBank.get bankDefault ((a - 0x2400000) / 0x40000)) magicCurve ((a - 0x2400000) % 0x40000)
  else Config.flashByte (if a < 0x24C0000 then s.tripLog.length else 0) a

/-- A new number for a writing. -/
def State.newWriting (s : State) : Nat × State := (s.freeCtr + 1, { s with freeCtr := s.freeCtr + 1 })

/-! ### Firmware (R470, Table 14-15) -/

/-- The image version of a slot. -/
def State.fwVersion (s : State) (n : Nat) : Nat :=
  match (s.fwBank.get bankDefault n).hdr with | none => 0 | some h => h.word

/-- VERSION (Table 03-25). -/
def execVersion (k wait : Nat) (s : State) : Host.Outcome State Fault Refusal :=
  serve s k 0x0002 wait (fun m => decide (m.len ≤ 2016)) fun _ =>
    let n := s.get Reg.BRD_BOOT_FW_SLOT
    servedOk s (bytesOf (s.fwVersion n) 4 ++ bytesOf n 1 ++ bytesOf s.server 1)

/-- FW_INFO. -/
def fwInfo (s : State) (n : Nat) : List (BitVec 8) :=
  match (s.fwBank.get bankDefault n).hdr with
  | none => bytesOf 0 16
  | some h => bytesOf 1 4 ++ bytesOf h.seq 4 ++ bytesOf h.word 4 ++ bytesOf h.length 4

def execFwInfo (k wait : Nat) (s : State) : Host.Outcome State Fault Refusal :=
  serve s k 0x0101 wait (lenIs 0) fun _ => servedOk s (fwInfo s 0 ++ fwInfo s 1)

/-- The presence window is open (R471). -/
def State.windowOpen (s : State) : Bool := s.window.any fun t => decide (s.now < t)

/-- The condition of FW_WRITE and FW_COMMIT (Table 14-6). -/
def State.fwAllowed (s : State) : Bool :=
  if s.server = 2 ∧ s.get Reg.BRD_BOOT_STAGE = 0xF then decide (s.mode = .sealed)
  else (decide (s.server = 1) || decide (s.get Reg.BRD_BOOT_FAIL ≠ 0)) && s.flag Reg.CAL_SEAL_SEAL_FITTED && s.windowOpen

/-- A slot that FW_WRITE and FW_COMMIT may change (R470). -/
def State.fwSlotOk (s : State) (n : Nat) : Bool := decide (n < 2) && decide (n ≠ s.get Reg.BRD_BOOT_FW_SLOT)

/-- FW_WRITE of bytes at an offset of the slot's body; a write at offset 0 erases the slot first (R470). (DEDUCED, log 101.) -/
def fwWrite (s : State) (n off : Nat) (bytes : List (BitVec 8)) : State :=
  let w := s.newWriting
  let s1 := if off = 0 then
      { w.2 with
        fwBank := w.2.fwBank.set bankDefault n ⟨none, w.1⟩,
        fwBody := w.2.fwBody.filter fun e => decide (e.1 / 2 ^ 24 ≠ n) }
    else { s with fwBank := s.fwBank.set bankDefault n ⟨none, (s.fwBank.get bankDefault n).writing⟩ }
  { s1 with fwBody := bytes.zipIdx.foldl (fun t e => t.set fwByteDefault (n * 2 ^ 24 + off + e.2) (some e.1)) s1.fwBody }

def execFwWrite (k wait : Nat) (ok : Bool) (s : State) : Host.Outcome State Fault Refusal :=
  serve s k 0x0102 wait (fun m => decide (1 ≤ m.num 8 2) && decide (m.num 8 2 ≤ 2000) && lenIs (16 + m.num 8 2) m) fun m =>
    let n := m.byte 0
    let off := m.num 4 4
    if !s.fwAllowed then servedBad s mbNotInMode
    else if !s.fwSlotOk n ∨ !ok ∨ 2 ^ 24 - 4096 < off + m.num 8 2 then servedBad s mbFailed
    else servedOk (fwWrite s n off ((List.range (m.num 8 2)).map fun i => BitVec.ofNat 8 (m.byte (16 + i)))) []

/-- FW_COMMIT: steps 4-6 of R468 for the slot. -/
def fwCommit (s : State) (n len version : Nat) : State × Nat :=
  let crc := crc32 ((List.range len).map (s.fwByte n))
  let seq := commitSeq s.fwBank
  let h : BankHdr := ⟨seq, len, BitVec.ofNat 32 crc, version, s.stamp⟩
  ({ s with fwBank := s.fwBank.set bankDefault n ⟨some h, (s.fwBank.get bankDefault n).writing⟩ }, seq)

def execFwCommit (k wait : Nat) (ok : Bool) (s : State) : Host.Outcome State Fault Refusal :=
  serve s k 0x0103 wait (lenIs 12) fun m =>
    if !s.fwAllowed then servedBad s mbNotInMode
    else if !s.fwSlotOk (m.byte 0) ∨ !ok ∨ 2 ^ 24 - 4096 < m.num 4 4 then servedBad s mbFailed
    else
      let o := fwCommit s (m.byte 0) (m.num 4 4) (m.num 8 4)
      servedOk o.1 (bytesOf o.2 4)

/-- FLASH_READ: a count outside 1 to 2,016 is not a stated payload. -/
def execFlashRead (k wait : Nat) (s : State) : Host.Outcome State Fault Refusal :=
  serve s k 0x0104 wait (fun m => lenIs 6 m && decide (1 ≤ m.num 4 2) && decide (m.num 4 2 ≤ 2016)) fun m =>
    servedOk s ((List.range (m.num 4 2)).map fun i => s.flashByte (m.num 0 4 + i))

/-! ### Curves (R429, R453) -/

def curvePointDefault (_ : Nat) : Nat × Nat := (0, 0)

/-- CURVE_WRITE: entries of 12 bytes into the shadow. -/
def curveWrite (s : State) (m : Mailbox) : State :=
  { s with curveShadow := (List.range (m.num 4 2)).foldl (fun t i =>
      t.set curvePointDefault (m.byte 0 * 200 + m.num 2 2 + i) (m.num (8 + 12 * i) 8, m.num (16 + 12 * i) 4)) s.curveShadow }

def execCurveWrite (k wait : Nat) (s : State) : Host.Outcome State Fault Refusal :=
  serve s k 0x0401 wait (fun m => decide (1 ≤ m.num 4 2) && decide (m.num 4 2 ≤ 128) && lenIs (8 + 12 * m.num 4 2) m) fun m =>
    if 32 ≤ m.byte 0 ∨ 200 < m.num 2 2 + m.num 4 2 then servedBad s mbFailed else servedOk (curveWrite s m) []

/-- Strictly increasing, or strictly decreasing. -/
def rises : List Nat → Bool
  | a :: b :: t => decide (a < b) && rises (b :: t)
  | _ => true
def falls : List Nat → Bool
  | a :: b :: t => decide (b < a) && falls (b :: t)
  | _ => true

/-- The first n breakpoints of a shadow. -/
def State.shadowCurve (s : State) (u n : Nat) : List (Nat × Nat) :=
  (List.range n).map fun i => s.curveShadow.get curvePointDefault (u * 200 + i)

/-- The check of CURVE_COMMIT (R429). -/
def curveOk (pts : List (Nat × Nat)) : Bool :=
  decide (2 ≤ pts.length) && decide (pts.length ≤ 200) && (rises (pts.map fun p => p.1) || falls (pts.map fun p => p.1))

/-- Make a table active. -/
def State.setCurve (s : State) (u : Nat) (pts : List (Nat × Nat)) : State :=
  { s with curves := s.curves.set curvesDefault u pts }

def execCurveCommit (k wait : Nat) (s : State) : Host.Outcome State Fault Refusal :=
  serve s k 0x0402 wait (lenIs 4) fun m =>
    let pts := s.shadowCurve (m.byte 0) (min (m.num 2 2) 201)
    if m.byte 0 < 32 ∧ curveOk pts then servedOk (s.setCurve (m.byte 0) pts) (bytesOf s.epoch.toNat 4) else servedBad s mbFailed

/-- The bytes of breakpoints in the layout of CURVE_WRITE. -/
def curveBytes (pts : List (Nat × Nat)) : List (BitVec 8) := pts.flatMap fun p => bytesOf p.1 8 ++ bytesOf p.2 4

def execCurveRead (k wait : Nat) (s : State) : Host.Outcome State Fault Refusal :=
  serve s k 0x0403 wait (fun m => lenIs 6 m && decide (1 ≤ m.num 4 2) && decide (m.num 4 2 ≤ 128)) fun m =>
    let pts := s.curve (m.byte 0)
    servedOk s (bytesOf pts.length 2 ++ bytesOf 0 2 ++ curveBytes ((pts.drop (m.num 2 2)).take (m.num 4 2)))

def curveBodyDefault (_ : Nat) : Table (List (Nat × Nat)) := []

/-- CURVE_SAVE: a commit of every active table to the target curve bank (R453, R468). -/
def curveSave (s : State) (ok : Bool) : Served :=
  let w := s.newWriting
  let n := commitTarget s.curveBank
  if !ok then servedBad { w.2 with curveBank := failedCommit s.curveBank n w.1 } mbFailed
  else
    let h : BankHdr := ⟨commitSeq s.curveBank, Config.bodyLength w.1, Config.bodyCrc w.1, 0, s.stamp⟩
    servedOk { w.2 with
      curveBank := s.curveBank.set bankDefault n ⟨some h, w.1⟩,
      curveBody := s.curveBody.set curveBodyDefault n s.curves } []

def execCurveSave (k wait : Nat) (ok : Bool) (s : State) : Host.Outcome State Fault Refusal :=
  serve s k 0x0404 wait (lenIs 0) fun _ => curveSave s ok

def execCurveClear (k wait : Nat) (s : State) : Host.Outcome State Fault Refusal :=
  serve s k 0x0405 wait (lenIs 1) fun m =>
    if m.byte 0 < 32 then servedOk (s.setCurve (m.byte 0) []) [] else servedBad s mbFailed

/-- Power-up stage 0x5 loads the newest saved tables (R429); a table never saved has NPOINTS = 0. -/
def loadCurves (s : State) : State :=
  { s with curves := match newestBank s.curveBank with
      | none => []
      | some (n, _) => s.curveBody.get curveBodyDefault n }

/-- SNS_CURVES.LOADED (Table 13-10). -/
def State.curvesLoaded (s : State) : Nat :=
  (List.range 32).foldl (fun a u => if 2 ≤ (s.curve u).length then a + 2 ^ u else a) 0

/-! ### Trip log and MP load -/

/-- The records of the trip log, newest first. -/
def State.tripRecord (s : State) (i : Nat) : Option (BitVec 512) := s.tripLog.reverse[i]?

def execTripLogRead (k wait : Nat) (s : State) : Host.Outcome State Fault Refusal :=
  serve s k 0x0302 wait (lenIs 4) fun m =>
    match s.tripRecord (m.num 0 4) with
    | none => servedBad s mbFailed
    | some x => servedOk s (bytesOf x.toNat 64)

def execTripLogErase (k wait : Nat) (s : State) : Host.Outcome State Fault Refusal :=
  serve s k 0x0303 wait (lenIs 0) fun _ =>
    if s.mode = .sealed then servedOk { s with tripLog := [] } [] else servedBad s mbNotInMode

/-- BRD_MP_LOAD and BRD_MP_AGE (Table 14-11): what the MP reports counts at least the posted slots. -/
def State.postedSlots (s : State) : List Mailbox := (List.range 8).map s.slotOf |>.filter fun m => decide (m.st = .posted)
def State.mpLoad (s : State) : Nat :=
  min 0xFFFF (s.postedSlots.length + Config.mpItems s.now) * 65536 + Config.mpBusy s.now % 101 * 256
def State.mpAge (s : State) : Nat :=
  s.postedSlots.foldl (fun a m => max a (micros s m.postedAt)) (Config.mpAge s.now % 2 ^ 32)

def execMpLoad (k wait : Nat) (s : State) : Host.Outcome State Fault Refusal :=
  serve s k 0x0301 wait (lenIs 0) fun _ =>
    ⟨s, mbOk, bytesOf s.mpLoad 4 ++ bytesOf s.mpAge 4 ++ bytesOf (s.rd Reg.BRD_MP_SLIP).toNat 4 ++
      bytesOf (max (Config.mpPeak s.now % 65536) (s.mpLoad / 65536)) 4, s.epoch.toNat⟩

end Sys2Proof.Machine
end

