-- ==== Sys2Proof/Machine/Calib.lean ====
section
/-!
DEFINITION. The calibration store and the calibration routine (14, R454-R464, R468, R485): what a bank holds, the stages and
what the end of the routine applies.
-/
namespace Sys2Proof.Machine

/-! ### Units -/

/-- Whether an address is one of n1 × n2 × 8 registers at a place of a Rank's window. -/
def lineCals (r : Nat) : List Nat := (List.range 18).map (lineCal r)
def rxCals (r : Nat) : List Nat := (List.range 2).map (Reg.DMD_RXCALf r)
def ffxCals (r : Nat) : List Nat := (List.range 32).map (Reg.FFX_CALk r)
def biaCals (r : Nat) : List Nat := (List.range 32).map (Reg.BIA_CALk r)

/-- The CAL registers of every unit of a Rank (Table 14-2); STALE is bit 31 and RESULT bits 27:24 in each. -/
def rankCals (r : Nat) : List Nat := lineCals r ++ rxCals r ++ ffxCals r ++ biaCals r
def State.allCals (s : State) : List Nat := (List.range s.part.ranks).flatMap rankCals
def staleBit (a : Nat) : Fld := ⟨a, 31, 31⟩
def resultField (a : Nat) : Fld := ⟨a, 27, 24⟩

/-- Set STALE of units. -/
def State.staleAll (s : State) (units : List Nat) : State := units.foldl (fun s a => s.put (staleBit a) 1) s

/-- The registers whose values the store holds: limits and clear codes. -/
def storedRegs (r : Nat) : List Nat :=
  (List.range 18).map (lineLim r) ++ (List.range 32).map (Reg.FFX_LIMk r) ++ (List.range 32).map (Reg.BIA_LIMk r) ++
    (List.range 32).map (Reg.BIA_CLRCODEk r)
def State.storedAll (s : State) : List Nat := (List.range s.part.ranks).flatMap storedRegs

/-! ### The store (R460-R464, R468) -/

/-- No calibration temperature is recorded. -/
def noneTemp (_ : Nat) : Option Int := none

def calBodyDefault (_ : Nat) : CalBody := ⟨[], [], false, [], []⟩

/-- What a commit writes: the running limits, staleness and flatness tables. (DEDUCED, log 96.) -/
def State.calSnapshot (s : State) : CalBody :=
  { limits := s.regs.filter fun e => decide (e.1 ∈ s.storedAll),
    stale := s.allCals.filter fun a => s.flag (staleBit a),
    monStale := s.flag Reg.CAL_RESULTS_MON_STALE, flat := s.flat, temps := s.thm.calTemps }

/-- Give every stored register the value of a bank. -/
def loadLimits (s : State) (limits : Table Word) : State :=
  let s1 := s.storedAll.foldl (fun s a => s.wr a (Table.get (regReset s.part) limits a)) s
  s1.outputs.foldl (fun s e =>
    (s.setFfx e.1 e.2 { s.ffxAt e.1 e.2 with lim := s.get (Reg.FFX_LIMk_LIM e.1 e.2) }).setBia e.1 e.2
      { s.biaAt e.1 e.2 with lim := s.get (Reg.BIA_LIMk_VLIM e.1 e.2) }) s1

/-- Power-up stage 0x5: the newer valid bank is loaded; with none every unit is stale (R54, R464, R467). -/
def loadCalibration (s : State) : State :=
  match newestBank s.calBank with
  | none =>
    let s1 := (loadLimits s []).staleAll s.allCals
    { ((s1.put Reg.BRD_BOOT_CAL_VALID 0).put Reg.CAL_RESULTS_MON_STALE 1) with flat := [], thm := { s.thm with calTemps := [] } }
  | some (n, h) =>
    let b := s.calBody.get calBodyDefault n
    let s1 := s.allCals.foldl (fun s a => s.put (staleBit a) (if a ∈ b.stale then 1 else 0)) (loadLimits s b.limits)
    { (((s1.put Reg.BRD_BOOT_CAL_VALID 1).put Reg.BRD_BOOT_CAL_BANK n).put Reg.CAL_RESULTS_MON_STALE
        (if b.monStale then 1 else 0)) with
        flat := b.flat, calVref := h.word, thm := { s.thm with calTemps := b.temps } }

/-- CAL_STORE and CAL_STORE_SEQ (Table 14-12). -/
def State.calStore (s : State) : Nat :=
  s.get Reg.BRD_BOOT_CAL_VALID * 2 ^ 31 + (match newestBank s.calBank with | none => 0 | some (n, _) => n * 2 ^ 30) +
    s.get Reg.CAL_STORE_UNSAVED * 2 ^ 29
def State.calStoreSeq (s : State) : Nat := match newestBank s.calBank with | none => 0 | some (_, h) => h.seq

/-- CAL_INFO: a bank's header, or zeros. -/
def calInfo (s : State) (n : Nat) : List (BitVec 8) :=
  match (s.calBank.get bankDefault n).hdr with | none => bytesOf 0 64 | some h => headerBytes magicCal h

def execCalInfo (k wait : Nat) (s : State) : Host.Outcome State Fault Refusal :=
  serve s k 0x0201 wait (lenIs 0) fun _ => servedOk s (calInfo s 0 ++ calInfo s 1)

/-- CAL_COMMIT (R461, R468, R472). -/
def calCommit (s : State) (ok : Bool) : Served :=
  let w := s.newWriting
  let n := commitTarget s.calBank
  if s.mode ≠ .sealed then servedBad s mbNotInMode
  else if !ok then servedBad { w.2 with calBank := failedCommit s.calBank n w.1 } mbFailed
  else
    let seq := commitSeq s.calBank
    let h : BankHdr := ⟨seq, Config.bodyLength w.1, Config.bodyCrc w.1, s.calVref, s.stamp⟩
    servedOk { (w.2.put Reg.CAL_STORE_UNSAVED 0) with
      calBank := s.calBank.set bankDefault n ⟨some h, w.1⟩,
      calBody := s.calBody.set calBodyDefault n s.calSnapshot } (bytesOf seq 4)

def execCalCommit (k wait : Nat) (ok : Bool) (s : State) : Host.Outcome State Fault Refusal :=
  serve s k 0x0202 wait (lenIs 0) fun _ => calCommit s ok

/-- The flatness table of a line. -/
def State.flatTable (s : State) (r l : Nat) : List (BitVec 16) :=
  (List.range 65).map fun i => s.flat.get flatDefault (lineKey r l * 65 + i)
def State.setFlatTable (s : State) (key : Nat) (t : List (BitVec 16)) : State :=
  { s with flat := t.zipIdx.foldl (fun f e => f.set flatDefault (key * 65 + e.2) e.1) s.flat }

/-- A populated Rank and one of its 18 RF lines. -/
def State.lineExists (s : State) (r l : Nat) : Bool := decide (r < s.part.ranks) && decide (l < 18)

def execCalTableRead (k wait : Nat) (s : State) : Host.Outcome State Fault Refusal :=
  serve s k 0x0203 wait (lenIs 2) fun m =>
    if s.lineExists (m.byte 0) (m.byte 1) then
      servedOk s ((s.flatTable (m.byte 0) (m.byte 1)).flatMap fun t => bytesOf t.toNat 2)
    else servedBad s mbFailed

/-- CAL_TABLE_WRITE: the table waits for its frame tick; STALE clears (Table 14-15, R462). -/
def calTableWrite (s : State) (m : Mailbox) : Served :=
  let t := (List.range 65).map fun i => BitVec.ofNat 16 (m.num (2 + 2 * i) 2)
  if s.mode ≠ .sealed then servedBad s mbNotInMode
  else if !s.lineExists (m.byte 0) (m.byte 1) ∨ t.any (fun x => decide (0x8000 < x.toNat)) then servedBad s mbFailed
  else
    servedOk { (s.put (staleBit (lineCal (m.byte 0) (m.byte 1))) 0) with
      flatPend := s.flatPend ++ [(s.now + 64, lineKey (m.byte 0) (m.byte 1), t)] } []

def execCalTableWrite (k wait : Nat) (s : State) : Host.Outcome State Fault Refusal :=
  serve s k 0x0204 wait (lenIs 132) (calTableWrite s)

/-- Flatness tables whose frame tick has come. -/
def applyFlat (s : State) : State :=
  if s.frameTick ∧ s.flatPend.any (fun e => decide (e.1 ≤ s.now)) then
    (s.flatPend.filter fun e => decide (e.1 ≤ s.now)).foldl (fun s e => s.setFlatTable e.2.1 e.2.2)
      { s with flatPend := s.flatPend.filter fun e => decide (s.now < e.1) }
  else s

/-! ### Registers (R485) -/

def writeCalReg (s : State) (addr : Nat) (mask v : Word) : WriteOut :=
  if s.mode ≠ .setup then refusedBy s 1 else taken (s.wr addr (v &&& mask))
def writeVref (s : State) (v : Word) : WriteOut :=
  if s.mode ≠ .setup then refusedBy s 1
  else if wordBits v 23 0 < 1000000 ∨ 10500000 < wordBits v 23 0 then refusedBy s 0xB
  else taken (s.wr Reg.CAL_VREF (v &&& 0xFFFFFF))

/-! ### The routine (R458-R460) -/

/-- The units of a stage that its enabling fields select (Table 14-1): 0 the monitor, 1 the TDC offsets, 2 + c sensor
channel c, else a CAL register. -/
def State.covers (s : State) (stage : Nat) : List Nat :=
  let ranks := List.range s.part.ranks
  match stage with
  | 1 => [0]
  | 2 => if s.flag Reg.CAL_CTRL_TDC_EN then [1] else []
  | 3 => (if s.flag Reg.CAL_CTRL_RF_EN then ranks.flatMap lineCals else []) ++
      (if s.flag Reg.CAL_CTRL_RX_EN then ranks.flatMap rxCals else [])
  | 4 => if s.flag Reg.CAL_CTRL_FFX_EN then ranks.flatMap ffxCals else []
  | 5 => ranks.flatMap fun r => ((List.range 32).filter fun k => s.flag (Reg.BIA_CTRLk_CAL_EN r k)).map (Reg.BIA_CALk r)
  | 6 => ((List.range 8).filter fun c => s.flag (Reg.SNS_CFGc_CAL_EN c)).map (2 + ·)
  | _ => []

/-- CAL_STAT.STAGE (Table 14-12). -/
def State.calStage (s : State) : Nat := match s.routine with | none => 0 | some q => q.stage

/-- Entry to CALIBRATE (R457, R458). (DEDUCED, log 95.) -/
def calBegin (s : State) : State :=
  let s1 := ((s.put Reg.CAL_STAT_RESULT 4).put Reg.CAL_STAT_CAUSE 0).put Reg.CAL_STAT_FAILED 0
  snsCalEnter { s1 with routine := some ⟨1, false, [], [], true, s.now⟩ }

/-- A stage may end now with results for exactly the units it covers. -/
def State.stageEnds (s : State) (six : Bool) (results : List (Nat × Nat × Nat × List (BitVec 16))) : Bool :=
  match s.routine with
  | none => false
  | some q =>
    let u := s.covers (if six then 6 else q.stage)
    !q.opening && (if six then q.six else decide (q.stage < 6)) && decide (results.map (fun e => e.1) = u)

/-- The reference check of R459: more than 0.5 % from CAL_VREF. -/
def refFails (meas : Int) (vref : Nat) : Bool := decide ((vref : Int) < 200 * (meas - vref).natAbs)

/-- The results of a stage join those of the routine. -/
def stageEnd (q : Routine) (six : Bool) (results : List (Nat × Nat × Nat × List (BitVec 16))) : Routine :=
  if six then { q with six := false, results := q.results ++ results }
  else { q with stage := q.stage + 1, six := if q.stage = 1 then true else q.six, results := q.results ++ results }

/-- One unit's result applied (R460). -/
def applyResult (s : State) (e : Nat × Nat × Nat × List (BitVec 16)) : State :=
  let u := e.1
  let pass := decide (e.2.1 = 1)
  let p := if pass then 1 else 0
  let f := if pass then 0 else 1
  if u = 0 then (s.put Reg.CAL_RESULTS_MON_PASS p).put Reg.CAL_RESULTS_MON_STALE f
  else if u = 1 then (s.put Reg.CAL_RESULTS_TDC_PASS p).put Reg.CAL_RESULTS_TDC_FAIL f
  else if u < 10 then
    (s.put ⟨Reg.CAL_RESULTS, 24 + (u - 2), 24 + (u - 2)⟩ p).put ⟨Reg.CAL_RESULTS, 16 + (u - 2), 16 + (u - 2)⟩ f
  else
    let s1 := (s.put (staleBit u) f).put (resultField u) e.2.1
    let line := (List.range s.part.ranks).find? fun r => decide (u ∈ lineCals r)
    match line with
    | some r =>
      if pass then
        ((List.range 18).find? fun l => decide (lineCal r l = u)).elim s1 fun l =>
          (s1.put ⟨u, 7, 0⟩ e.2.2.1).setFlatTable (lineKey r l) e.2.2.2
      else s1
    | none =>
      if (List.range s.part.ranks).any fun r => decide (u ∈ biaCals r) then s1.put ⟨u, 3, 0⟩ e.2.2.1 else s1

/-- The end of the routine (R460): every result in one tick, and CAL_STAT. -/
def calApply (s : State) (q : Routine) : State :=
  let failed := (q.results.filter fun e => decide (e.2.1 ≠ 1)).length
  let passed := q.results.any fun e => decide (e.2.1 = 1)
  let s1 := q.results.foldl applyResult s
  let s2 := ((s1.put Reg.CAL_STAT_RESULT (if failed = 0 then 1 else 2)).put Reg.CAL_STAT_FAILED failed).put
    Reg.CAL_STORE_UNSAVED (if passed then 1 else s.get Reg.CAL_STORE_UNSAVED)
  { s2 with
    routine := none, calVref := s.get Reg.CAL_VREF_VREF,
    thm := { s2.thm with calTemps := q.temps.foldl (fun t e => t.set noneTemp e.1 (some e.2)) s2.thm.calTemps } }

/-- The routine is abandoned (R281, R309, R339, R460): 1 by the host, 2 by a supply warning, 3 by the loss of REFIN. -/
def calAbandon (s : State) (cause : Nat) : State :=
  match s.routine with
  | none => s
  | some _ =>
    let units := ([3, 4, 5].flatMap s.covers)
    let s1 := units.foldl (fun s u => s.put (resultField u) 6) s
    { ((s1.put Reg.CAL_STAT_RESULT 6).put Reg.CAL_STAT_CAUSE cause) with routine := none }

/-- The reference check fails (R459). -/
def calFailRef (s : State) : State := { (s.put Reg.CAL_STAT_RESULT 3) with routine := none }

end Sys2Proof.Machine
end

