-- ==== Sys2Proof/Machine/Dalid.lean ====
section
/-!
DEFINITION. The Dalid lanes (10, The Dalid lane): blocks sent and received, frames, locks, epoch checks, equalisation and the
settings of ports and lanes.
-/
namespace Sys2Proof.Machine

/-! ### Blocks (R362, R363, Tables 10-6 to 10-8) -/

/-- One step of the CRC-8 of Table 10-6. -/
def crcStep (c : Nat) (bit : Bool) : Nat :=
  let d := c * 2 % 256
  if (decide (128 ≤ c)) != bit then d ^^^ 7 else d

/-- The CRC over payload bits 63 down to 8. -/
def blockCrc (p : Nat) : Nat := ((List.range 56).map fun i => p.testBit (63 - i)).foldl crcStep 0

/-- Fields of a verdict block. -/
def vbRoute (p : Nat) : Nat := p / 2 ^ 58 % 64
def vbGroup (p : Nat) : Nat := p / 2 ^ 52 % 64
def vbDue (p : Nat) : Nat := p / 2 ^ 44 % 256
def vbHop (p : Nat) : Nat := p / 2 ^ 40 % 16
def vbVerdict (p i : Nat) : Nat := p / 2 ^ (8 + 4 * i) % 16

/-- A verdict block of a route, group, delivery tick and hop, with its verdicts by position (Table 10-6). -/
def verdictBlock (route group due hop : Nat) (v : Nat → Nat) : BitVec 64 :=
  let p := route * 2 ^ 58 + group * 2 ^ 52 + due % 256 * 2 ^ 44 + hop % 16 * 2 ^ 40 +
    (List.range 8).foldl (fun a i => a + v i * 2 ^ (8 + 4 * i)) 0
  BitVec.ofNat 64 (p + blockCrc p)

/-- Control block types and MGMT subtypes. -/
def commaBody : Nat := 0x1DB3C72E859A64
def controlBlock (type body : Nat) : BitVec 64 := BitVec.ofNat 64 (type + body * 256)
def commaBlock : BitVec 64 := controlBlock 0xC5 commaBody
def idleBlock : BitVec 64 := controlBlock 0x1E 0
def mgmtBlock (sub data : Nat) : BitVec 64 := BitVec.ofNat 64 (0x78 + sub * 256 + data % 2 ^ 48 * 65536)
def subEpochCheck : Nat := 1
def subPortId : Nat := 2
def subEqReq : Nat := 3
def subEqAck : Nat := 4
def subLossLo : Nat := 5
def subLossHi : Nat := 6

/-! ### Lane states (R366, R371) -/

/-- A lane enters a state; its port is shown anew. -/
def State.enterLane (s : State) (l : Nat) (st : LaneState) : State :=
  refreshPort ((s.setLane l { s.lane l with st := st }).put (Reg.DLD_LANEl_STAT_STATE l) st.code) (l / 4)

/-- The lane has block and frame lock. -/
def DLane.locked (x : DLane) : Bool := decide (x.st = .check ∨ x.st = .trained ∨ x.st = .loop)

/-- The lane receives blocks. -/
def DLane.receives (x : DLane) : Bool := x.locked || decide (x.st = .block ∨ x.st = .frame)

/-- A block has been received: its header, and its place in the frame. -/
def DLane.see (x : DLane) (valid comma : Bool) : DLane :=
  let pos := x.rxPos + 1
  let y := { x with headers := (valid :: x.headers).take 64 }
  if comma ∧ 63 ≤ pos ∧ pos ≤ 65 then { y with rxPos := 0, commas := x.commas + 1, missed := 0 }
  else if comma ∧ x.st = .frame then { y with rxPos := 0, commas := 0, missed := 0 }
  else if 66 ≤ pos then { y with rxPos := pos - 64, commas := 0, missed := x.missed + 1 }
  else { y with rxPos := pos }

def State.seeBlock (s : State) (l : Nat) (valid comma : Bool) : State := s.setLane l ((s.lane l).see valid comma)

/-- Enter CDR with nothing received. -/
def restartLane (s : State) (l : Nat) : State :=
  (s.setLane l { s.lane l with good := 0, headers := [], rxPos := 0, commas := 0, missed := 0 }).enterLane l .cdr

def execClockRecovered (l : Nat) (s : State) : Host.Outcome State Fault Refusal :=
  happen (decide ((s.lane l).st = .cdr)) s ((s.setLane l { s.lane l with headers := [] }).enterLane l .block)

def execBlockLock (l : Nat) (s : State) : Host.Outcome State Fault Refusal :=
  happen (decide ((s.lane l).st = .block ∧ (s.lane l).headers.length = 64) && (s.lane l).headers.all id) s
    ((s.setLane l { s.lane l with commas := 0, missed := 0, rxPos := 0 }).enterLane l .frame)

/-- FRAME_LOCK: to CHECK, or to LOOP in a loopback (Table 10-9). -/
def execFrameLock (l : Nat) (s : State) : Host.Outcome State Fault Refusal :=
  happen (decide ((s.lane l).st = .frame ∧ 2 ≤ (s.lane l).commas)) s
    ((s.setLane l { s.lane l with good := 0 }).enterLane l (if s.portLoopMode (l / 4) = 0 then .check else .loop))

/-- A lock is lost (R366). -/
def DLane.lost (x : DLane) : Bool :=
  (decide (x.st = .frame) || x.locked) && decide (16 ≤ (x.headers.filter fun b => !b).length) ||
    x.locked && decide (2 ≤ x.missed)

def execLockLoss (l : Nat) (s : State) : Host.Outcome State Fault Refusal :=
  happen (s.lane l).lost s
    (((s.setLane l { s.lane l with since := s.now, headers := [], good := 0 }).bump (Reg.DLD_LANEl_STAT_LOCK_LOSS l)).enterLane
      l .fault)

/-- FAULT_RETRY: after 1 ms with AUTO, keeping the coefficients. -/
def execFaultRetry (l : Nat) (s : State) : Host.Outcome State Fault Refusal :=
  happen (decide ((s.lane l).st = .fault ∧ (s.lane l).since + ticksOfMilliseconds 1 ≤ s.now) &&
    s.flag (Reg.DLD_PORTp_CFG_AUTO (l / 4))) s (restartLane s l)

/-! ### Reception -/

/-- Count an error of ERR0: reaching ERR_THR raises DALID (R371). -/
def State.bumpErr0 (s : State) (f : Fld) : State :=
  let s1 := s.bump f
  if s.get f ≠ s1.get f ∧ s1.get f = s.get Reg.DLD_THR_ERR_THR then s1.event evtDalid else s1

/-- A block is discarded for a bad header, a bad CRC or lateness: every route that enters by the port is lost (R358). -/
def discardBlock (s : State) (l : Nat) : State := if (s.lane l).locked then s.losePort (l / 4) else s

/-- Within 256 t of an accepted EPOCH_IN edge (Table 10-5). -/
def State.edgeWindow (s : State) : Bool :=
  match s.edgeAcceptedAt with | none => false | some t => decide (s.now < t + 256)

/-- The delivery tick that DUE names for a block ready in this tick, if it is on time (R357). (DEDUCED, log 82.) -/
def decodeDue (r due : Nat) : Option Nat :=
  let delta := (due + 256 - r % 256) % 256
  if 16 ≤ delta ∧ delta ≤ 150 then some (r + delta) else none

/-- The verdicts of a block: slot and value. -/
def blockVerdicts (p : Nat) : List (Nat × Nat) :=
  (List.range 8).filterMap fun i => if vbVerdict p i = 0xD then none else some (8 * vbGroup p + i, vbVerdict p i)

/-- A received verdict still to be forwarded or delivered, or whose delivery tick has not passed: a second one of its route, slot
and D is a duplicate (Table 10-5). (DEDUCED, log 87.) -/
def RxVerdict.held (e : Nat) (x : RxVerdict) : Bool := !(x.forwarded && x.delivered) || decide (e < x.due)

/-- A block that passed its CRC on a port that is UP (R355, R357, Table 10-5). -/
def acceptBlock (s : State) (l p : Nat) : State :=
  let port := l / 4
  let n := vbRoute p
  if !s.declared n ∨ s.routeIn n ≠ port then s.bump (Reg.DLD_PORTp_RXDROP_ROUTE_MISMATCH port)
  else if max 1 (s.get Reg.MSH_CTRL_MAX_HOPS) < vbHop p then s.bump (Reg.DLD_PORTp_RXDROP_HOP_DROP port)
  else
    match decodeDue s.epoch.toNat (vbDue p) with
    | none => discardBlock (s.bump (Reg.DLD_LANEl_ERR1_LATE l)) l
    | some d =>
      let vs := blockVerdicts p
      if s.rxHeld.any fun x => decide (x.route = n ∧ x.due = d) && vs.any fun v => decide (v.1 = x.slot) then
        s.bump (Reg.DLD_LANEl_ERR1_CTL_ERR l)
      else
        { (s.bumpBy (whole (Reg.MSH_RTSTATn_CARRIED n)) vs.length) with
          rxHeld := s.rxHeld.filter (RxVerdict.held s.epoch.toNat) ++ vs.map fun v =>
            ⟨n, v.1, v.2, d, vbHop p, decide (s.routeOut n = []), !s.routeLocal n⟩ }

/-- VERDICT_BLOCK_RECEIVED (R357, R362). -/
def receiveVerdictBlock (s : State) (l : Nat) (block : BitVec 64) : State :=
  let p := block.toNat
  let s1 := s.seeBlock l true false
  if !(s.lane l).locked ∨ s.edgeWindow then s1
  else if blockCrc p ≠ p % 256 then discardBlock (s1.bumpErr0 (Reg.DLD_LANEl_ERR0_CRC l)) l
  else if s.portIsUp (l / 4) then acceptBlock s1 l p
  else s1

def execVerdictBlockReceived (l : Nat) (block : BitVec 64) (s : State) : Host.Outcome State Fault Refusal :=
  happen (s.lane l).receives s (receiveVerdictBlock s l block)

/-- BAD_SYNC_HEADER (R362). -/
def execBadSyncHeader (l : Nat) (s : State) : Host.Outcome State Fault Refusal :=
  happen (s.lane l).receives s (discardBlock ((s.seeBlock l false false).bumpErr0 (Reg.DLD_LANEl_ERR0_BAD_HDR l)) l)

/-- UNKNOWN_CONTROL_BLOCK (R363). -/
def execUnknownControlBlock (l : Nat) (s : State) : Host.Outcome State Fault Refusal :=
  happen (s.lane l).receives s ((s.seeBlock l true false).bump (Reg.DLD_LANEl_ERR1_CTL_ERR l))

/-- COMMA: one with the wrong BODY is discarded in CTL_ERR (R363). -/
def execComma (l : Nat) (body : BitVec 56) (s : State) : Host.Outcome State Fault Refusal :=
  happen (s.lane l).receives s
    (if body.toNat = commaBody then s.seeBlock l true true
     else (s.seeBlock l true false).bump (Reg.DLD_LANEl_ERR1_CTL_ERR l))

/-- IDLE: the one at frame position 1 is deleted or repeated by the fill of the elastic buffer (R365). -/
def receiveIdle (s : State) (l fill : Nat) : State :=
  let s1 := (s.seeBlock l true false).put (Reg.DLD_LANEl_STAT_FILL l) (min fill 15)
  if (s1.lane l).rxPos = 1 then
    (if 3 < fill then s1.bumpWrap (Reg.DLD_LANEl_STAT_RM_DEL l)
     else if fill < 2 then s1.bumpWrap (Reg.DLD_LANEl_STAT_RM_REP l) else s1)
  else s1

def execIdle (l fill : Nat) (s : State) : Host.Outcome State Fault Refusal :=
  happen (s.lane l).receives s (receiveIdle s l fill)

/-- EPOCH_CHECK (R367): in a loopback it only gives the delay (R369). -/
def receiveEpochCheck (s : State) (l data : Nat) : State :=
  let s1 := s.seeBlock l true false
  let p := l / 4
  if !(s.lane l).locked ∨ s.edgeWindow then s1
  else
    let delta := (s.epoch.toNat + 2 ^ 48 - data % 2 ^ 48) % 2 ^ 48
    let s2 := s1.put (Reg.DLD_PORTp_STAT_EPOCH_DELTA p) (min delta 0xFFFF)
    let x := s2.lane l
    if x.st = .loop then s2
    else if 1 ≤ delta ∧ delta ≤ 100 then
      let s3 := s2.setLane l { x with good := x.good + 1 }
      if x.st = .check ∧ 2 ≤ x.good + 1 then s3.enterLane l .trained else s3
    else
      let s3 := (s2.setLane l { x with good := 0 }).bump (Reg.DLD_PORTp_EPOCH_ERR_COUNT p)
      if x.st = .trained then s3.enterLane l .check else s3

def execEpochCheck (l : Nat) (data : BitVec 48) (s : State) : Host.Outcome State Fault Refusal :=
  happen (s.lane l).receives s (receiveEpochCheck s l data.toNat)

/-- A MGMT block acts on a lane with frame lock. -/
def mgmtOn (s : State) (l : Nat) (f : State → State) : State :=
  if (s.lane l).locked then f (s.seeBlock l true false) else s.seeBlock l true false

/-- PORT_ID (Table 10-8, PEER_LO and PEER_HI of Table 10-16). -/
def execPortId (l : Nat) (data : BitVec 48) (s : State) : Host.Outcome State Fault Refusal :=
  happen (s.lane l).receives s (mgmtOn s l fun s =>
    (((s.wr (Reg.DLD_PORTp_PEER_LO (l / 4)) (BitVec.ofNat 32 (data.toNat / 2 ^ 8))).put
      (Reg.DLD_PORTp_PEER_HI_SERIAL_HI (l / 4)) (data.toNat / 2 ^ 40)).put (Reg.DLD_PORTp_PEER_HI_PORT (l / 4))
      (data.toNat % 4)).put (Reg.DLD_PORTp_PEER_HI_VALID (l / 4)) 1)

/-- Store transmit taps: PRE + POST above 31 stores POST as 31 - PRE; MAIN = 63 - PRE - POST (R368). -/
def storeTaps (s : State) (l pre post : Nat) : State :=
  let q := if 31 < pre + post then 31 - pre else post
  ((s.put (Reg.DLD_LANEl_TXEQ_PRE l) pre).put (Reg.DLD_LANEl_TXEQ_POST l) q).put (Reg.DLD_LANEl_TXEQ_MAIN l) (63 - pre - q)

/-- An EQ_REQ whose reserved bits are 0 (Table 10-8). (DEDUCED, log 85.) -/
def eqReqOk (d : Nat) : Bool := decide (d / 2 ^ 4 % 2 ^ 12 = 0) && decide (d / 2 ^ 21 % 2 ^ 19 = 0)

/-- Queue a MGMT block on a lane. -/
def State.queueMgmt (s : State) (l : Nat) (b : BitVec 64) : State :=
  s.setLane l { s.lane l with mgmt := (s.lane l).mgmt ++ [b] }

/-- EQ_REQ (R368). -/
def receiveEqReq (s : State) (l d : Nat) : State :=
  if !eqReqOk d then s
  else if s.flag (Reg.DLD_LANEl_TXEQ_EQ_REMOTE l) then
    (storeTaps s l (d % 16) (d / 2 ^ 16 % 32)).queueMgmt l (mgmtBlock subEqAck d)
  else s.queueMgmt l (mgmtBlock subEqAck (d / 2 ^ 40 * 2 ^ 40 + s.get (Reg.DLD_LANEl_TXEQ_POST l) * 2 ^ 16 +
    s.get (Reg.DLD_LANEl_TXEQ_PRE l)))

def execEqReq (l : Nat) (data : BitVec 48) (s : State) : Host.Outcome State Fault Refusal :=
  happen (s.lane l).receives s (mgmtOn s l fun s => receiveEqReq s l data.toNat)

/-- EQ_ACK: training reads it (R372). -/
def execEqAck (l : Nat) (data : BitVec 48) (s : State) : Host.Outcome State Fault Refusal :=
  happen (s.lane l).receives s (mgmtOn s l fun s => s.setLane l { s.lane l with ack := some data.toNat })

/-- LOSS notices: the routes they name that enter by this port are lost (R358). -/
def receiveLoss (s : State) (l first count mask : Nat) : State :=
  (List.range count).foldl (fun s i =>
    if mask.testBit i ∧ s.declared (first + i) ∧ s.routeIn (first + i) = l / 4 then s.loseRoute (first + i) else s) s

def execLossLo (l : Nat) (data : BitVec 48) (s : State) : Host.Outcome State Fault Refusal :=
  happen (s.lane l).receives s (mgmtOn s l fun s => receiveLoss s l 0 48 data.toNat)

def execLossHi (l : Nat) (data : BitVec 48) (s : State) : Host.Outcome State Fault Refusal :=
  happen (s.lane l).receives s (mgmtOn s l fun s => receiveLoss s l 48 16 data.toNat)

/-! ### Transmission (R356, R359, R364, R369) -/

/-- PRBS31 takes the place of blocks (R370). -/
def State.prbs (s : State) (l : Nat) : Bool :=
  s.flag (Reg.DLD_LANEl_TEST_PRBS_EN l) && (decide (s.portLoopMode (l / 4) ≠ 0) || decide (s.mode = .test))

/-- The lane's transmitter sends blocks of its own. -/
def State.transmits (s : State) (l : Nat) : Bool :=
  decide (l < 16) && decide ((s.lane l).st ≠ .disabled) && decide (s.mode ≠ .tripped) &&
    decide (s.portLoopMode (l / 4) ≠ 3) && !s.prbs l

/-- Send one block at the next position of the lane's frame. -/
def State.sendBlock (s : State) (l : Nat) (data : Bool) (b : BitVec 64) : State :=
  { (s.setLane l { s.lane l with txPos := (s.lane l).txPos + 1 }) with dldSent := ⟨l, data, b⟩ :: s.dldSent }

def State.sendBlocks (s : State) (l : Nat) (bs : List (BitVec 64)) : State := bs.foldl (fun s b => s.sendBlock l false b) s

/-- The loss notices that wait for a port, as MGMT blocks (R359, Table 10-8). -/
def lossBlocks (s : State) (p : Nat) : List (BitVec 64) :=
  let ns := (s.lossNotices.filter fun e => decide (e.1 = p)).map Prod.snd
  let lo := ((List.range 48).filter fun n => decide (n ∈ ns)).foldl (fun a n => a + 2 ^ n) 0
  let hi := ((List.range 16).filter fun i => decide (48 + i ∈ ns)).foldl (fun a i => a + 2 ^ i) 0
  (if lo = 0 then [] else [mgmtBlock subLossLo lo]) ++ (if hi = 0 then [] else [mgmtBlock subLossHi hi])

def sendLosses (s : State) (l : Nat) : State :=
  { (s.sendBlocks l (lossBlocks s (l / 4))) with lossNotices := s.lossNotices.filter fun e => decide (e.1 ≠ l / 4) }

/-- FRAME_TRANSMIT: the frame in progress is filled with waiting MGMT blocks and IDLE; the next begins with COMMA and IDLE and
the loss notices (R364). In a near-end parallel loopback the balls carry COMMA and IDLE only (R369). -/
def beginFrame (s : State) (l : Nat) : State :=
  let x := s.lane l
  let room := 64 - x.txPos
  let s1 := s.sendBlocks l (if s.portLoopMode (l / 4) = 2 then [] else x.mgmt.take room)
  let s2 := s1.sendBlocks l (List.replicate (64 - (s1.lane l).txPos) idleBlock)
  let s3 := s2.setLane l { s2.lane l with mgmt := x.mgmt.drop room, txPos := 0, frames := x.frames + 1 }
  sendLosses ((s3.sendBlock l false commaBlock).sendBlock l false idleBlock) l

def execFrameTransmit (l : Nat) (s : State) : Host.Outcome State Fault Refusal :=
  happen (s.transmits l) s (beginFrame s l)

/-- The verdict that goes first: by delivery tick, then route, then group (R356). -/
def firstVerdict (q : List TxVerdict) : Option TxVerdict :=
  q.foldl (fun b v => match b with
    | none => some v
    | some w =>
      if v.due < w.due ∨ (v.due = w.due ∧ (v.route < w.route ∨ (v.route = w.route ∧ v.slot / 8 < w.slot / 8))) then some v
      else some w) none

/-- Verdicts that share a block. -/
def sameBlock (v w : TxVerdict) : Bool := decide (v.port = w.port ∧ v.route = w.route ∧ v.slot / 8 = w.slot / 8 ∧ v.due = w.due)

/-- BLOCK_TRANSMIT on one lane of a port: loss notices first (R359), else the next verdict block. -/
def transmitBlock (s : State) (l : Nat) : State :=
  if lossBlocks s (l / 4) ≠ [] then sendLosses s l
  else
    match firstVerdict (s.txQueue.filter fun v => decide (v.port = l / 4)) with
    | none => s
    | some v =>
      let nib := fun i => match s.txQueue.find? fun w => sameBlock v w && decide (w.slot % 8 = i) with
        | none => 0xD
        | some w => w.value
      { (s.sendBlock l true (verdictBlock v.route (v.slot / 8) v.due v.hop nib)) with
        txQueue := s.txQueue.filter fun w => !(sameBlock v w) }

def execBlockTransmit (l : Nat) (s : State) : Host.Outcome State Fault Refusal :=
  happen (s.transmits l && s.portIsUp (l / 4) && decide ((s.lane l).txPos < 64)) s (transmitBlock s l)

/-- Nothing of higher precedence waits, the loopback lets MGMT blocks out, and the frame has room (R364, R369). -/
def State.mgmtTurn (s : State) (l : Nat) : Bool :=
  s.transmits l && decide ((s.lane l).txPos < 64) && decide (lossBlocks s (l / 4) = []) &&
    !(s.txQueue.any fun v => decide (v.port = l / 4)) && decide (s.portLoopMode (l / 4) ≠ 2)

/-- EPOCH_CHECK_SEND: once every 64 frames (Table 10-8). -/
def execEpochCheckSend (l : Nat) (s : State) : Host.Outcome State Fault Refusal :=
  happen (s.mgmtTurn l && (decide ((s.lane l).lastCheck = 0) || decide ((s.lane l).lastCheck + 64 ≤ (s.lane l).frames))) s
    ((s.setLane l { s.lane l with lastCheck := (s.lane l).frames }).sendBlock l false
      (mgmtBlock subEpochCheck (s.epoch.toNat % 2 ^ 48)))

/-- PORT_ID_SEND: 32 frames after EPOCH_CHECK (Table 10-8). -/
def execPortIdSend (l : Nat) (s : State) : Host.Outcome State Fault Refusal :=
  happen (s.mgmtTurn l && decide ((s.lane l).lastCheck ≠ 0) && decide ((s.lane l).lastCheck + 32 ≤ (s.lane l).frames) &&
    decide ((s.lane l).lastId < (s.lane l).lastCheck + 32)) s
    ((s.setLane l { s.lane l with lastId := (s.lane l).frames }).sendBlock l false
      (mgmtBlock subPortId (s.serial % 2 ^ 40 * 2 ^ 8 + l / 4)))

/-! ### Settings (R351, R368-R371, R374) -/

/-- A route is declared with a port in IN or OUT. -/
def State.portRouted (s : State) (p : Nat) : Bool :=
  (List.range 64).any fun n => s.declared n && (decide (s.routeIn n = p) || decide (p ∈ s.routeOut n))

/-- An admitted shot that has not ended claims a route through a port. -/
def State.portClaimed (s : State) (p : Nat) : Bool :=
  (List.range 64).any fun n => s.routeClaimed n && (decide (s.routeIn n = p) || decide (p ∈ s.routeOut n))

/-- The lanes of a port after a change of CFG: newly enabled ones go to CDR, disabled ones to DISABLED; locked ones enter or
leave LOOP with the loopback. -/
def settleLane (s : State) (l : Nat) (en : Bool) : State :=
  let x := s.lane l
  if !en then (if x.st = .disabled then s else s.enterLane l .disabled)
  else if x.st = .disabled then restartLane s l
  else if s.portLoopMode (l / 4) ≠ 0 ∧ (x.st = .check ∨ x.st = .trained) then s.enterLane l .loop
  else if s.portLoopMode (l / 4) = 0 ∧ x.st = .loop then (s.setLane l { x with good := 0 }).enterLane l .check
  else s

/-- A write of DLD_PORTp.CFG: LANE_ENABLE and LOOP_SELECT (R351, R369, R370). (DEDUCED, log 86.) -/
def writePortCfg (s : State) (p : Nat) (v : Word) : WriteOut :=
  if wordBits v 3 0 ≠ s.get (Reg.DLD_PORTp_CFG_LANE_EN p) ∧ s.portRouted p then refusedBy s 2
  else if wordBits v 10 8 ≠ s.get (Reg.DLD_PORTp_CFG_LOOP p) ∧ s.portClaimed p then refusedBy s 2
  else
    let s1 := s.wr (Reg.DLD_PORTp_CFG p) (v &&& 0x71F)
    let s2 := (List.range 4).foldl (fun s i => settleLane s (4 * p + i) (decide (wordBits v i i = 1))) s1
    taken (redeclare (refreshPort s2 p))

/-- A write of DLD_LANEl.TXEQ (R368). -/
def writeTxeq (s : State) (l : Nat) (v : Word) : WriteOut :=
  taken (storeTaps (s.put (Reg.DLD_LANEl_TXEQ_EQ_REMOTE l) (wordBits v 31 31)) l (wordBits v 3 0) (wordBits v 20 16))

/-- TXEQ_EFFECT: at a frame boundary of the lane (R368). -/
def execTxeqEffect (l : Nat) (s : State) : Host.Outcome State Fault Refusal :=
  happen (decide (l < 16) && (decide ((s.lane l).txPos ≤ 2) || decide (64 ≤ (s.lane l).txPos))) s
    (s.setLane l { s.lane l with pre := s.get (Reg.DLD_LANEl_TXEQ_PRE l), post := s.get (Reg.DLD_LANEl_TXEQ_POST l) })

/-- A write of DLD_CTRL.STATS_CLR: every counter of Tables 10-16 and 10-17. -/
def clearDldStats (s : State) : State :=
  let s1 := (List.range 4).foldl (fun s p =>
    ((s.wr (Reg.DLD_PORTp_TXLOST p) 0).wr (Reg.DLD_PORTp_RXDROP p) 0).wr (Reg.DLD_PORTp_EPOCH_ERR p) 0) s
  (List.range 16).foldl (fun s l =>
    (((((s.put (Reg.DLD_LANEl_STAT_LOCK_LOSS l) 0).put (Reg.DLD_LANEl_STAT_RM_REP l) 0).put (Reg.DLD_LANEl_STAT_RM_DEL l)
      0).wr (Reg.DLD_LANEl_ERR0 l) 0).wr (Reg.DLD_LANEl_ERR1 l) 0).put (Reg.DLD_LANEl_TEST_PRBS_ERR l) 0) s1

/-- RESET_PORT: the port's lanes restart from CDR (Table 10-10). -/
def resetPort (s : State) (p : Nat) : State := (s.enabledLanes p).foldl restartLane s

/-- Every lane and port after the mode changed (Table 10-9: TRIPPED). -/
def refreshPorts (s : State) : State := (List.range 4).foldl refreshPort s

end Sys2Proof.Machine
end

