-- ==== Sys2Proof/Machine/Monitor.lean ====
section
/-!
DEFINITION. The monitor ADC (13): its slots, the visits of the channel table and urgent visits.
-/
namespace Sys2Proof.Machine

/-- A slot's length in ticks (13, Monitor ADC). -/
def slotTicks (lp : Bool) : Nat := if lp then 10000000 else 625000

/-- A reserved source acts as 0x2000 (Table 13-4). -/
def monSource (src : Nat) : Nat :=
  let n := src % 4096
  let ok := match src / 4096 with
    | 0 => decide (n < 8)
    | 1 => decide (n = 0)
    | 2 => decide (n = 0)
    | 3 => decide (n < 16)
    | 4 => decide (n < 4)
    | 5 => decide (n < 4)
    | 6 => decide (n < 1024) && decide (n % 128 < 64)
    | _ => false
  if ok then src else 0x2000

/-- The source is absent (R440). -/
def State.monAbsent (s : State) (src : Nat) : Bool :=
  decide (src / 4096 = 6) && (decide (s.part.ranks ≤ src % 4096 / 128) || decide (s.mode = .tripped))

/-- AVG and SHIFT as they act (Table 13-13). -/
def monAvg (v : Nat) : Nat := max 1 (min v 8)
def monShift (v : Nat) : Nat := min v 8

/-- LEN as it acts (Table 13-13). -/
def State.monLen (s : State) : Nat :=
  let n := s.get Reg.MON_CTRL_LEN
  if n = 0 ∨ 128 < n then 128 else n

/-- A visit begins with the contents its entry has then (R443). -/
def State.monVisit (s : State) (e : Nat) : MonVisit :=
  { urgent := false, host := false, entry := e, src := monSource (s.get (Reg.MON_ENTe_SRC e)),
    delay := s.get (Reg.MON_ENTe_DELAY e), avg := monAvg (s.get (Reg.MON_ENTe_W1_AVG e)),
    shift := monShift (s.get (Reg.MON_ENTe_W1_SHIFT e)), groups := s.get (Reg.MON_ENTe_REPEAT e) + 1, step := .discharge,
    done := 0, group := 0, sum := 0, clip := false, resumed := false }
def urgentVisit (q : MonReq) : MonVisit :=
  { urgent := true, host := q.host, entry := 0, src := q.src, delay := q.delay, avg := q.avg, shift := q.shift, groups := 1,
    step := .discharge, done := 0, group := 0, sum := 0, clip := false, resumed := false }

/-- A visit starts again from its discharge slot; its group in progress is discarded (R445). -/
def MonVisit.restart (v : MonVisit) : MonVisit :=
  { v with step := .discharge, done := 0, sum := 0, clip := false, resumed := true }

/-- The value of a group (R442). -/
def monValue (sum : Int) (shift : Nat) : Int := clampTo (-2147483648) 2147483647 (asr sum shift)

/-- FLAGS of a result (Table 13-14). -/
def State.monFlags (s : State) (v : MonVisit) (absent : Bool) : Nat :=
  (if v.resumed then 8 else 0) + (if s.flag Reg.CAL_RESULTS_MON_STALE then 4 else 0) + (if absent then 2 else 0) +
    (if v.clip then 1 else 0)

/-- Post a group's result (R442, R443, R444); the MP's own results stay with the MP. -/
def monPost (s : State) (v : MonVisit) (absent : Bool) : State :=
  let value := BitVec.ofInt 32 (monValue v.sum v.shift)
  let flags := s.monFlags v absent
  if v.urgent then
    if v.host then
      ((((s.wr Reg.MON_URG_RES value).wr Reg.MON_URG_FLG (BitVec.ofNat 32 flags)).put64 Reg.MON_URG_EPO_LO s.epoch.toNat).put
        Reg.MON_URG_BUSY 0).put Reg.MON_URG_DONE 1
    else s
  else
    let seq := (s.get (Reg.MON_RESe_W1_SEQ v.entry) + 1) % 256
    ((s.wr (Reg.MON_RESe v.entry) value).wr (Reg.MON_RESe_W1 v.entry)
      (BitVec.ofNat 32 (seq * 2 ^ 24 + v.group * 2 ^ 16 + flags))).put64 (Reg.MON_RESe_EPOCH_LO v.entry) s.epoch.toNat

/-- The table moves on at the end of a visit of entry e (R443). (DEDUCED, log 94.) -/
def monNext (s : State) (e : Nat) : State :=
  if s.monLen ≤ e + 1 then { (s.bumpWrap Reg.MON_STAT_PASSES) with mon := { s.mon with next := 0 } }
  else { s with mon := { s.mon with next := e + 1 } }

/-- The end of a visit. -/
def monEnd (s : State) (v : MonVisit) : State :=
  let s1 := { s with mon := { s.mon with visit := none } }
  if v.urgent then s1 else monNext s1 v.entry

/-- A slot of the visit in progress has ended with a sample (R441). -/
def monSlot (s : State) (v : MonVisit) (sample : Int) (clip : Bool) : State :=
  let keep := fun (v : MonVisit) => { s with mon := { s.mon with visit := some v } }
  match v.step with
  | .discharge => keep { v with step := if v.delay = 0 then .sample else .settle, done := 0 }
  | .settle =>
    if v.delay ≤ v.done + 1 then keep { v with step := .sample, done := 0 } else keep { v with done := v.done + 1 }
  | .sample =>
    let v1 := { v with sum := v.sum + sample, clip := v.clip || clip, done := v.done + 1 }
    if v1.done < 2 ^ v.avg then keep v1
    else
      let s1 := monPost s v1 (s.monAbsent v1.src)
      if v.group + 1 < v.groups then
        { s1 with mon := { s1.mon with visit := some { v1 with group := v.group + 1, done := 0, sum := 0, clip := false } } }
      else monEnd s1 v1

/-- Start a visit at a boundary: one of an absent source takes no slots and posts at once (R441). It answers whether the
converter is now taken. -/
def monStart (s : State) (v : MonVisit) : State × Bool :=
  if s.monAbsent v.src then (monEnd (monPost s { v with sum := 0 } true) v, false)
  else ({ s with mon := { s.mon with visit := some v } }, true)

/-- Put the table's visit aside (R444, R446). -/
def monSuspend (s : State) : State :=
  match s.mon.visit with
  | some v => if v.urgent then s else { s with mon := { s.mon with visit := none, held := some v.restart } }
  | none => s

/-- Choose what begins at a boundary with the converter free: urgent requests in order, then the interrupted visit, then the
table. Absent sources take no time: at most n of them at one boundary. -/
def monChoose : Nat → State → State
  | 0, s => s
  | n + 1, s =>
    if s.mon.visit.isSome ∧ (s.mon.urgent = [] ∨ s.mon.visit.any fun v => v.urgent) then s
    else if s.mode = .calibrate then monSuspend s
    else match s.mon.urgent with
      | q :: t =>
        let s1 := monSuspend s
        let o := monStart { s1 with mon := { s1.mon with urgent := t } } (urgentVisit q)
        if o.2 then o.1 else monChoose n o.1
      | [] => match s.mon.held with
        | some v =>
          let o := monStart { s with mon := { s.mon with held := none } } v
          if o.2 then o.1 else monChoose n o.1
        | none =>
          if s.flag Reg.MON_CTRL_RUN then
            let o := monStart s (s.monVisit s.mon.next)
            if o.2 then o.1 else monChoose n o.1
          else s

/-- The settings that take effect at a slot boundary: RUN cleared, RUN set, LP (R443, R447). -/
def monSettings (s : State) : State :=
  let lp := s.flag Reg.MON_CTRL_LP
  let m := s.mon
  let run := s.flag Reg.MON_CTRL_RUN
  let drop := !run || m.fresh
  let visit := match m.visit with
    | some v => if drop && !v.urgent then none else some (if lp = m.lp then v else v.restart)
    | none => none
  { s with mon := { m with
      lp := lp, visit := visit, held := if drop then none else m.held, next := if m.fresh then 0 else m.next, fresh := false } }

/-- A boundary begins the next slot. In CALIBRATE the table is suspended (R446). -/
def monBoundary (s : State) : State :=
  let s1 := monSettings { s with mon := { s.mon with slotAt := some s.now } }
  monChoose 130 (if s1.mode = .calibrate then monSuspend s1 else s1)

/-- The slot in progress has run its length. -/
def State.slotEnded (s : State) : Bool :=
  match s.mon.slotAt with
  | none => false
  | some t => decide (t + slotTicks s.mon.lp ≤ s.now)

/-- MONITOR_SLOT_END: the slot's sample and whether it was at the limit of its range, and urgent visits that the MP asked for
during the slot (source, DELAY, AVG, SHIFT), which follow the host's (R444). -/
def monSlotEnd (s : State) (sample : Int) (clip : Bool) (mp : List (Nat × Nat × Nat × Nat)) : State :=
  let s1 := match s.mon.visit with | some v => monSlot s v sample clip | none => s
  monBoundary { s1 with mon := { s1.mon with
    urgent := s1.mon.urgent ++ mp.map fun q => ⟨false, monSource q.1, q.2.1, monAvg q.2.2.1, monShift q.2.2.2⟩ } }

def execMonitorSlotEnd (sample : Int) (clip : Bool) (mp : List (Nat × Nat × Nat × Nat)) (s : State) :
    Host.Outcome State Fault Refusal :=
  happen s.slotEnded s (monSlotEnd s sample clip mp)

/-- The monitor begins its slots (13: from power-up stage 0x2). -/
def monPowerUp (s : State) : State := { s with mon := { s.mon with slotAt := some s.now } }

/-- A write of MON_CTRL: RUN from 0 to 1 starts the table at entry 0 at the next boundary (R443). -/
def writeMonCtrl (s : State) (v : Word) : WriteOut :=
  let was := s.flag Reg.MON_CTRL_RUN
  let s1 := s.wr Reg.MON_CTRL (v &&& 0xFF03)
  taken (if !was && s1.flag Reg.MON_CTRL_RUN then { s1 with mon := { s1.mon with fresh := true } } else s1)

/-- A write of MON_URG: SRC is stored; GO requests an urgent visit (R444). -/
def writeMonUrg (s : State) (v : Word) : WriteOut :=
  let go := decide (wordBits v 31 31 = 1)
  if go && decide (s.mode = .calibrate) then refusedBy s 1
  else if go && s.flag Reg.MON_URG_BUSY then refusedBy s 2
  else
    let s1 := s.put Reg.MON_URG_SRC (wordBits v 15 0)
    if go then
      let q : MonReq := ⟨true, monSource (wordBits v 15 0), s.get Reg.MON_URG_CFG_DELAY, monAvg (s.get Reg.MON_URG_CFG_AVG),
        monShift (s.get Reg.MON_URG_CFG_SHIFT)⟩
      let s2 := (s1.put Reg.MON_URG_BUSY 1).put Reg.MON_URG_DONE 0
      taken { s2 with mon := { s2.mon with urgent := s2.mon.urgent ++ [q] } }
    else taken s1

/-- MON_STAT.STEP, URGENT and ENTRY (Table 13-13). -/
def State.monStat (s : State) : Nat :=
  let step := match s.mon.visit with
    | none => 3
    | some v => (match v.step with | .discharge => 0 | .settle => 1 | .sample => 2)
  let entry := match s.mon.visit, s.mon.held with
    | some v, h => if v.urgent then (match h with | some w => w.entry | none => s.mon.next) else v.entry
    | none, some w => w.entry
    | none, none => s.mon.next
  step * 2 ^ 14 + (if s.mon.visit.any fun v => v.urgent then 128 else 0) + entry

end Sys2Proof.Machine
end

