-- ==== Sys2Proof/Machine/Tdc.lean ====
section
/-!
DEFINITION. Trigger inputs and time-interval channels (12).
-/
namespace Sys2Proof.Machine

def tdcDefault (_ : Nat) : Tdc := ⟨.idle, 0, 0, 0, [], [], 0⟩
def State.tdc (s : State) (c : Nat) : Tdc := s.tdcs.get tdcDefault c
def State.setTdc (s : State) (c : Nat) (x : Tdc) : State := { s with tdcs := s.tdcs.set tdcDefault c x }

/-- State codes of TDC_STATc (Table 12-7). -/
def TdcState.code : TdcState → Nat
  | .idle => 0 | .armed => 1 | .running => 2 | .converting => 3 | .done => 4

/-! ### Trigger inputs (R403, R404) -/

/-- TRIGGER_EDGE: an edge recognised with stamped tick S reaches the windows of every Rank at S + DEGLITCH + 8. -/
def triggerEdge (s : State) (i : Nat) (rising : Bool) : State :=
  let s1 := s.put ⟨Reg.TDC_TRIGSTAT, i, i⟩ (if rising then 1 else 0)
  if rising then
    triggerAll (s1.bump (whole (Reg.TDC_TRIGCNTi i))) i (s.epoch.toNat - s.get (Reg.TDC_TRIGi_DEGLITCH i) - 8)
  else s1

def execTriggerEdge (n : Nat) (rising : Bool) (s : State) : Host.Outcome State Fault Refusal :=
  happen (decide (n < 4)) s (triggerEdge s n rising)

/-! ### Sources (R401, R402) -/

/-- A source code of Table 12-1; a reserved code, or an MRK of an unpopulated Rank, stores 0. -/
def State.sourceCode (s : State) (v : Nat) : Nat :=
  if v ≤ 0x14 ∨ (0x20 ≤ v ∧ v < 0x20 + 8 * s.part.ranks) ∨ (0x60 ≤ v ∧ v ≤ 0x7F) then v else 0

/-- A source can have an event with f picoseconds in this tick: alarms fire at the start of their tick, and Dalid commas need
their lane enabled. -/
def State.sourceFires (s : State) (src f : Nat) : Bool :=
  if src = 0 then false
  else if src ≤ 0x10 then
    decide (f = 0) && decide (s.alarmFired.get (fun _ => none) (src - 1) = some s.epoch.toNat)
  else if 0x60 ≤ src then decide (f < 400) && decide ((s.lane (src % 16)).st ≠ .disabled)
  else decide (f < 400)

/-! ### Writes (R414) -/

/-- A channel is measuring. -/
def Tdc.active (x : Tdc) : Bool := decide (x.st = .armed ∨ x.st = .running ∨ x.st = .converting)

def writeTdcCfg (s : State) (c : Nat) (v : Word) : WriteOut :=
  if (s.tdc c).active then refusedBy s 2
  else
    taken (((s.wr (Reg.TDC_CFGc c) (v &&& 0xFFFFFF00)).put (Reg.TDC_CFGc_START_SRC c) (s.sourceCode (wordBits v 31 24))).put
      (Reg.TDC_CFGc_STOP_SRC c) (s.sourceCode (wordBits v 23 16)))

def writeTdcWin (s : State) (c : Nat) (v : Word) : WriteOut :=
  if (s.tdc c).active then refusedBy s 2 else taken (s.wr (Reg.TDC_WINc c) (v &&& 0xFFFFFF))

/-- Show a channel's state. -/
def State.enterTdc (s : State) (c : Nat) (x : Tdc) : State := (s.setTdc c x).put (Reg.TDC_STATc_STATE c) x.st.code

/-- TDC_DISARM and TDC_ARM: a write with both bits disarms first. -/
def tdcDisarm (s : State) (c : Nat) : State := s.enterTdc c (tdcDefault 0)
def tdcArm (s : State) (c : Nat) : WriteOut :=
  if (s.tdc c).active then refusedBy s 2 else taken (s.enterTdc c { tdcDefault 0 with st := .armed })
def writeTdcCtrl (s : State) (c : Nat) (v : Word) : WriteOut :=
  let s1 := if wordBits v 1 1 = 1 then tdcDisarm s c else s
  if wordBits v 0 0 = 1 then tdcArm s1 c else taken s1

/-- A write of TDC_CTRL.STATS_CLR. -/
def clearTdcStats (s : State) : State :=
  let s1 := (List.range 4).foldl (fun s i => s.wr (Reg.TDC_TRIGCNTi i) 0) s
  (List.range 8).foldl (fun s c =>
    ((s.wr (Reg.TDC_EARLYc c) 0).wr (Reg.TDC_MISSc c) 0).wr (Reg.TDC_LOSTc c) 0) s1

/-! ### A measurement (R408-R412) -/

/-- A start event: taken when ARMED; counted in START_LOST while the channel converts, or is DONE with REPEAT (R412). -/
def tdcStart (s : State) (c f : Nat) : State :=
  let x := s.tdc c
  match x.st with
  | .armed => s.enterTdc c ⟨.running, s.now, s.epoch.toNat, f, [], [], 0⟩
  | .converting => s.bump (Reg.TDC_LOSTc_START_LOST c)
  | .done => if s.flag (Reg.TDC_CFGc_REPEAT c) then s.bump (Reg.TDC_LOSTc_START_LOST c) else s
  | _ => s

def execTdcStart (c f : Nat) (s : State) : Host.Outcome State Fault Refusal :=
  happen (decide (c < 8) && s.sourceFires (s.get (Reg.TDC_CFGc_START_SRC c)) f) s (tdcStart s c f)

/-- The window length WIN in ticks (R408). -/
def State.tdcWin (s : State) (c : Nat) : Nat := s.get (Reg.TDC_WINc_WIN c) + 1

/-- MAX_STOPS: 0 acts as 1, above 16 as 16. -/
def State.maxStops (s : State) (c : Nat) : Nat := min 16 (max 1 (s.get (Reg.TDC_CFGc_MAX_STOPS c)))

/-- No interpolator is free, or the previous measured stop is less than 1,200 ps before (R410). -/
def Tdc.stopBusy (x : Tdc) (now f : Nat) : Bool :=
  decide (4 ≤ (x.measured.filter fun m => decide (now < m.1 + 410)).length) ||
    (match x.measured with
      | [] => false
      | m :: _ => decide ((now : Int) * 400 + f < (m.1 : Int) * 400 + m.2 + 1200))

/-- The interval d of a stop in this tick (R409). -/
def Tdc.interval (x : Tdc) (now f : Nat) : Int := ((now : Int) - x.startTick) * 400 + f - x.f0

/-- Put an interval among the reported ones, in order. -/
def insertSorted (d : Nat) : List Nat → List Nat
  | [] => [d]
  | e :: t => if d < e then d :: e :: t else e :: insertSorted d t

/-- A measured stop is reported, or counted (R409). -/
def reportStop (s : State) (c : Nat) (x : Tdc) (d : Int) : State :=
  if d ≤ -2 then (s.setTdc c x).bump (Reg.TDC_EARLYc_EARLY c)
  else if s.maxStops c ≤ x.reported.length then (s.setTdc c x).bump (Reg.TDC_MISSc_EXTRA c)
  else if d ≤ 1 then s.setTdc c { x with reported := insertSorted 0 x.reported, below := x.below + 1 }
  else s.setTdc c { x with reported := insertSorted d.toNat x.reported }

/-- A stop event (R409-R411); the edge that was the start is no stop (Table 12-4). (DEDUCED, log 91.) -/
def tdcStop (s : State) (c f : Nat) : State :=
  let x := s.tdc c
  let d := x.interval s.now f
  match x.st with
  | .armed => s.bump (Reg.TDC_EARLYc_EARLY c)
  | .idle => s
  | .done => s
  | _ =>
    if x.startTick = s.now ∧ x.f0 = f ∧ s.get (Reg.TDC_CFGc_STOP_SRC c) = s.get (Reg.TDC_CFGc_START_SRC c) then s
    else if (s.tdcWin c : Int) * 400 < d then s.bump (Reg.TDC_EARLYc_LATE c)
    else if x.stopBusy s.now f then s.bump (Reg.TDC_MISSc_BUSY c)
    else reportStop s c { x with measured := (s.now, f) :: x.measured } d

def execTdcStop (c f : Nat) (s : State) : Host.Outcome State Fault Refusal :=
  happen (decide (c < 8) && s.sourceFires (s.get (Reg.TDC_CFGc_STOP_SRC c)) f) s (tdcStop s c f)

/-- TDC_WINDOW_CLOSE (R408). -/
def execTdcWindowClose (c : Nat) (s : State) : Host.Outcome State Fault Refusal :=
  happen (decide (c < 8 ∧ (s.tdc c).st = .running ∧ (s.tdc c).startTick + s.tdcWin c ≤ s.now)) s
    (s.enterTdc c { s.tdc c with st := .converting })

/-- A result entry (Table 12-9). -/
def writeTdcEntry (s : State) (c : Nat) (x : Tdc) (j : Nat) : State :=
  match x.reported[j]? with
  | none => (s.wr (Reg.TDC_RES_LOc_j c j) 0).wr (Reg.TDC_RES_HIc_j c j) 0
  | some d =>
    (((s.wr (Reg.TDC_RES_LOc_j c j) (BitVec.ofNat 32 d)).wr (Reg.TDC_RES_HIc_j c j) (BitVec.ofNat 32 (d / 2 ^ 32 % 256))).put
      (Reg.TDC_RES_HIc_j_V c j) 1).put (Reg.TDC_RES_HIc_j_BELOW_RES c j) (if j < x.below then 1 else 0)

/-- The window spanned a tick. -/
def Tdc.spanned (x : Tdc) (t : Option Nat) : Bool := match t with | none => false | some t => decide (x.startTick ≤ t)

/-- TDC_POST (R412, R415). -/
def tdcPost (s : State) (c : Nat) : State :=
  let x := s.tdc c
  let s1 := (List.range 16).foldl (fun s j => writeTdcEntry s c x j) s
  let s2 := ((((s1.put (Reg.TDC_STATc_NSTOPS c) x.reported.length).put64 (Reg.TDC_START_LOc c) x.startEpoch).put
    (Reg.TDC_STARTFc_F0 c) x.f0).put (Reg.TDC_STATc_EPOCH_RESET c) (if x.spanned s.edgeAcceptedAt then 1 else 0)).put
    (Reg.TDC_STATc_HOLDOVER c) (if x.spanned (s.lossAt.map Prod.snd) then 1 else 0)
  let s3 := (s2.bumpWrap (Reg.TDC_STATc_SEQ c)).event evtTdc
  s3.enterTdc c { tdcDefault 0 with st := if s.flag (Reg.TDC_CFGc_REPEAT c) then .armed else .done }

def execTdcPost (c : Nat) (s : State) : Host.Outcome State Fault Refusal :=
  happen (decide (c < 8 ∧ (s.tdc c).st = .converting)) s (tdcPost s c)

/-- Every channel enters IDLE (R415). -/
def idleTdcs (s : State) : State := (List.range 8).foldl (fun s c => tdcDisarm s c) s

end Sys2Proof.Machine
end

