-- ==== Sys2Proof/Machine/Untimed.lean ====
section
/-!
DEFINITION. Loads of the stores (R196, R197, R221-R223), stream windows (R245-R247), and the descriptors of record sets (R332-R334,
R396, R397): their checks, their acceptance and the end of their work.
-/
namespace Sys2Proof.Machine

/-! ### Loads: bodies and images (Tables 05-12 and 06-2) -/

namespace Desc
def loadEngines (d : Desc) : Nat := d.body 32 0 24
/-- DEST and COUNT of the three loads. -/
def loadDest (d : Desc) : Nat := if d.typ = 0x10 then d.body 36 0 13 else if d.typ = 0x11 then d.body 32 0 16 else d.body 32 0 21
def loadCount (d : Desc) : Nat := if d.typ = 0x10 then d.body 38 0 14 else if d.typ = 0x11 then d.body 34 0 17 else d.body 36 0 22
def loadSrc (d : Desc) : Nat := d.body 40 0 64
/-- Units that the store holds, units an extension slot holds, and words of 4 bytes to a unit. -/
def loadLimit (d : Desc) : Nat := if d.typ = 0x10 then 8192 else if d.typ = 0x11 then 65536 else 1572864
def loadInline (d : Desc) : Nat := if d.typ = 0x10 then 16 else if d.typ = 0x11 then 2 else 4
def loadWords (d : Desc) : Nat := if d.typ = 0x10 then 1 else if d.typ = 0x11 then 8 else 4
end Desc

/-- A host address is missing, unaligned, or given beside inline data. -/
def srcBad (ext src : Nat) : Bool := if ext = 0 then decide (src = 0 ∨ src % 64 ≠ 0) else decide (src ≠ 0)

/-- BAD_CLAIM of a load (R196, R222). -/
def loadBadClaim (d : Desc) : Bool :=
  (if d.typ = 0x10 then decide (d.ranks.length ≠ 1 ∨ d.loadEngines = 0) else decide (d.rankMask = 0)) ||
    decide (d.loadCount = 0 ∨ d.loadLimit < d.loadDest + d.loadCount ∨ (d.extCount ≠ 0 ∧ d.loadInline < d.loadCount)) ||
    srcBad d.extCount d.loadSrc

/-- The shots whose claims count against a load: admitted, not ended, and not yet released; and a gang in preparation. -/
def State.claimants (s : State) (g : List Desc) : List Desc :=
  (s.liveShots.filter Shot.exclusive).map Shot.desc ++ g

/-- Two ranges given by first and count meet. -/
def rangesMeet (a m b n : Nat) : Bool := decide (a < b + n ∧ b < a + m)

/-- The first block and the number of blocks that a LOAD_CACHE touches. -/
def touchedBlocks (d : Desc) : Nat × Nat :=
  (d.loadDest / 1024, (d.loadDest + d.loadCount - 1) / 1024 + 1 - d.loadDest / 1024)

/-- IN_USE of a load on a Rank. -/
def loadInUse (s : State) (g : List Desc) (d : Desc) (r : Nat) : Bool :=
  (s.claimants g).any fun x =>
    if d.typ = 0x10 then decide (x.engines r &&& d.loadEngines ≠ 0)
    else if d.typ = 0x11 then rangesMeet d.loadDest d.loadCount (x.nanoFirst r) (x.nanoCount r)
    else (x.cacheRanges r).any fun c => rangesMeet (touchedBlocks d).1 (touchedBlocks d).2 c.1 c.2

def loadAnswer (s : State) (g : List Desc) (d : Desc) : Option (Nat × Nat) :=
  untimedAnswer s d [(decEpochReset, epochReset s d), (decAdmissionClosed, admissionClosed s), (decAbsent, absentRank s d),
    (decBadClaim, loadBadClaim d)]
    ((s.namedRanks d).map fun r => (r, firstFail [(decInUse, loadInUse s g d r)]))

/-- Words of 4 bytes of an extension slot, as many as asked for. -/
def slotWords (ext : List (BitVec 512)) (n : Nat) : List (BitVec 32) :=
  (ext.flatMap fun w => (List.range 16).map fun i => BitVec.ofNat 32 (slotField w (32 * i) 32)).take n

/-- The image that an accepted load writes: inline, or as the host reads answer. -/
def loadImage (d : Desc) (image : List (Option (BitVec 32))) : List (Option (BitVec 32)) :=
  if d.extCount = 0 then image else (slotWords d.ext (d.loadCount * d.loadWords)).map some

/-- The reads answer with every word of the image. -/
def imageFits (d : Desc) (image : List (Option (BitVec 32))) : Bool :=
  decide (d.extCount ≠ 0 ∨ image.length = d.loadCount * d.loadWords)

/-- What a load touches is not resident until its final entry (R197, R223). -/
def unresident (s : State) (d : Desc) : State :=
  d.ranks.foldl (fun s r =>
    if d.typ = 0x11 then
      { s with nanoRes := Table.updateAll nanoResDefault s.nanoRes ((List.range d.loadCount).map fun i => r * 65536 + d.loadDest + i) fun _ _ => false }
    else if d.typ = 0x12 then
      (List.range (touchedBlocks d).2).foldl (fun s i =>
        let b := (touchedBlocks d).1 + i
        s.put ⟨Reg.RNK_CACHE_RESw r (b / 32), b % 32, b % 32⟩ 0) s
    else s) s

def acceptLoad (kind : WorkKind) (image : List (Option (BitVec 32))) (s : State) (d : Desc) : State :=
  addWork (unresident (acceptEntry s d) d) { newWork s d kind with image := loadImage d image }

/-- The decision on a load. -/
def decideLoad (s : State) (sq t : Nat) (kind : WorkKind) (image : List (Option (BitVec 32))) : Host.Outcome State Fault Refusal :=
  match s.frontTyped sq t with
  | none => .next s
  | some d =>
    happen (decided s (fun g => loadAnswer s g d) && ((loadAnswer s [] d).isSome || imageFits d image)) s (decideWith s d (loadAnswer s [] d) (acceptLoad kind image))

def execLoadMicro (sq : Nat) (image : List (Option (BitVec 32))) (s : State) : Host.Outcome State Fault Refusal :=
  decideLoad s sq 0x10 .loadMicro image

/-- A nanoword read as its eight words of 4 bytes. -/
def nanoSplit (w : Option (BitVec 256)) : List (Option (BitVec 32)) :=
  (List.range 8).map fun i => w.map fun x => x.extractLsb' (32 * i) 32

def execLoadNano (sq : Nat) (image : List (Option (BitVec 256))) (s : State) : Host.Outcome State Fault Refusal :=
  decideLoad s sq 0x11 .loadNano (image.flatMap nanoSplit)

def execLoadCache (sq : Nat) (image : List (Option (BitVec 32))) (s : State) : Host.Outcome State Fault Refusal :=
  decideLoad s sq 0x12 .loadCache image

/-! ### LOAD_COMPLETE (R197, R223) -/

/-- The on-die word of an image word: a failed read leaves the poison bit set (R197, R380). -/
def imageCell (x : Option (BitVec 32)) : Cell 32 :=
  match x with
  | some w => ⟨w, false⟩
  | none => ⟨BitVec.ofNat 32 (poisonData causeHost).toNat, true⟩

/-- Write one 4-byte word into the codeword of a copy. -/
def copyHalf (s : State) (w half : Nat) (x : Option (BitVec 32)) : State :=
  match x with
  | none => s.writeWord w none
  | some v =>
    let c := s.memAt w
    if c.poison then s
    else
      let keep := c.data.toNat / 2 ^ (32 * (1 - half)) % 2 ^ 32 * 2 ^ (32 * (1 - half))
      s.writeWord w (some (BitVec.ofNat 64 (keep + v.toNat * 2 ^ (32 * half))))

/-- Write one codeword of a copy from its two words. -/
def copyWord (s : State) (w : Nat) (a b : Option (BitVec 32)) : State :=
  match a, b with
  | some x, some y => s.writeWord w (some (y ++ x))
  | _, _ => s.writeWord w none

/-- A word of a load's image. -/
def imageAt (im : List (Option (BitVec 32))) (i : Nat) : Option (BitVec 32) := (im[i]?).getD none

/-- Write unit i of an image into a Rank's store. -/
def storeUnit (s : State) (d : Desc) (im : List (Option (BitVec 32))) (r i : Nat) : State :=
  let a := d.loadDest + i
  if d.typ = 0x10 then
    (List.range 24).foldl (fun s e =>
      if d.loadEngines.testBit e then { s with micro := s.micro.set microDefault ((r * 24 + e) * 8192 + a) (imageCell (imageAt im i)) }
      else s) s
  else if d.typ = 0x11 then
    let ws := (List.range 8).map fun j => imageAt im (8 * i + j)
    let n := ws.foldr (fun w acc => (imageCell w).word.toNat + acc * 2 ^ 32) 0
    { s with nano := s.nano.set nanoDefault (r * 65536 + a) ⟨BitVec.ofNat 256 n, ws.any Option.isNone⟩ }
  else
    (List.range 4).foldl (fun s j =>
      { s with cache := s.cache.set microDefault (r * cacheWords + 4 * a + j) (imageCell (imageAt im (4 * i + j))) }) s

/-- Write unit i of an image into a Rank's copies in the Record Store. -/
def storeCopy (s : State) (d : Desc) (im : List (Option (BitVec 32))) (r i : Nat) : State :=
  let a := d.loadDest + i
  if d.typ = 0x10 then
    (List.range 24).foldl (fun s e => if d.loadEngines.testBit e then copyHalf s (microCopy r e a) (a % 2) (imageAt im i) else s) s
  else if d.typ = 0x11 then
    (List.range 4).foldl (fun s j => copyWord s (nanoCopy r a + j) (imageAt im (8 * i + 2 * j)) (imageAt im (8 * i + 2 * j + 1))) s
  else
    (List.range 2).foldl (fun s j => copyWord s (cacheCopy r (2 * a + j)) (imageAt im (4 * i + 2 * j)) (imageAt im (4 * i + 2 * j + 1))) s

/-- Every store and its copy hold the image. -/
def storeImage (s : State) (w : Work) : State :=
  w.desc.ranks.foldl (fun s r => (List.range w.desc.loadCount).foldl (fun s i =>
    storeCopy (storeUnit s w.desc w.image r i) w.desc w.image r i) s) s

/-- Another load in progress touches a nanoword or a block. -/
def loadTouches (s : State) (uid r a : Nat) (t : Nat) : Bool :=
  s.works.any fun v => decide (v.desc.uid ≠ uid ∧ v.desc.typ = t) && v.desc.rankMask.testBit r &&
    if t = 0x11 then rangesMeet a 1 v.desc.loadDest v.desc.loadCount
    else rangesMeet a 1 (touchedBlocks v.desc).1 (touchedBlocks v.desc).2

/-- What the load touched is resident, but for what another load in progress touches (R223). (DEDUCED, log 65.) -/
def makeResident (s : State) (d : Desc) : State :=
  d.ranks.foldl (fun s r =>
    if d.typ = 0x11 then
      let keys := ((List.range d.loadCount).filter fun i => !loadTouches s d.uid r (d.loadDest + i) 0x11).map fun i =>
        r * 65536 + d.loadDest + i
      { s with nanoRes := Table.updateAll nanoResDefault s.nanoRes keys fun _ _ => true }
    else if d.typ = 0x12 then
      (List.range (touchedBlocks d).2).foldl (fun s i =>
        let b := (touchedBlocks d).1 + i
        if loadTouches s d.uid r b 0x12 then s else s.put ⟨Reg.RNK_CACHE_RESw r (b / 32), b % 32, b % 32⟩ 1) s
    else s) s

/-- MICRO_PARTIAL of the engines that a LOAD_MICRO names. -/
def setPartial (s : State) (d : Desc) (v : Bool) : State :=
  if d.typ = 0x10 then
    d.ranks.foldl (fun s r => (List.range 24).foldl (fun s e =>
      if d.loadEngines.testBit e then s.setEngine r e { s.engine r e with partialLoad := v } else s) s) s
  else s

/-- LOAD_COMPLETE: `kinds` says how the host reads of the image failed, as bits 0-3 of PCI_DMA_ERR. -/
def loadComplete (s : State) (w : Work) (kinds : BitVec 4) : State :=
  let s1 := setPartial (makeResident (storeImage s w) w.desc) w.desc false
  let s2 := (List.range 4).foldl (fun s k => if kinds.getLsbD k then s.put (dmaErrBit k) 1 else s) s1
  finishWork s2 { w with stamp := s.stamp, flags := if kinds = 0 then w.flags else flPoisoned :: w.flags }

/-- A load's kinds of work. -/
def WorkKind.isLoad (k : WorkKind) : Bool := decide (k = .loadMicro ∨ k = .loadNano ∨ k = .loadCache)

def execLoadComplete (uid : Nat) (kinds : BitVec 4) (s : State) : Host.Outcome State Fault Refusal :=
  match s.work? uid with
  | none => .next s
  | some w => happen (w.kind.isLoad && decide (w.image.any Option.isNone = decide (kinds ≠ 0))) s (loadComplete s w kinds)

/-- A load that a reset or a trip abandons (R45): stores and copies may hold a mix. -/
def abandonLoad (s : State) (w : Work) : State :=
  let n := s.freeCtr
  let s1 := w.desc.ranks.foldl (fun s r => (List.range w.desc.loadCount).foldl (fun s i =>
    let s2 := if Config.loadReached n (2 * i) then storeUnit s w.desc w.image r i else s
    if Config.loadReached n (2 * i + 1) then storeCopy s2 w.desc w.image r i else s2) s) { s with freeCtr := n + 1 }
  setPartial s1 w.desc true

/-! ### STREAM_WINDOW (R245-R247, R251) -/

/-- The admitted shots that a window's OWNER fields name. -/
def State.owners (s : State) (d : Desc) : List Shot := s.liveShots.filter fun x => decide (x.desc.sq = d.ownerSq ∧ x.desc.tag = d.ownerTag)

/-- The data read from the host, or inline, in words of 4 bytes. (DEDUCED, log 70.) -/
def windowData (d : Desc) (data : List (BitVec 32)) : List (Option (BitVec 32)) :=
  (if d.extCount = 0 then data else slotWords d.ext (d.wBytes / 4)).map some

/-- The window before this one in its stream is not as R246 asks. -/
def badPredecessor (s : State) (d : Desc) (owner : Nat) : Bool :=
  match s.lastWin d.wRank d.wStream with
  | none => true
  | some w =>
    let p := w.desc
    decide (p.wseq + 1 ≠ d.wseq ∨ p.fence ≠ d.startEpoch ∨ w.owner ≠ owner ∨ p.ownerSq ≠ d.ownerSq ∨ p.ownerTag ≠ d.ownerTag ∨
      p.wEngine ≠ d.wEngine ∨ p.wClass ≠ d.wClass ∨ p.wTgt ≠ d.wTgt ∨ p.fbLoop ≠ d.fbLoop ∨ p.fbExit ≠ d.fbExit) || p.wLast

/-- BAD_CLAIM of a window (R246). -/
def windowBadClaim (s : State) (d : Desc) : Bool :=
  decide (d.ranks.length ≠ 1 ∨ d.wClass = 3 ∨ d.segLen < 4 ∨ d.wSegs = 0 ∨ d.wH2d * 640 < d.wBytes ∨
    d.wRs < (if d.wClass = 2 then 50 else 25)) || srcBad d.extCount d.wSrc || decide (d.extCount ≠ 0 ∧ d.extCount * 64 < d.wBytes) ||
    (match s.owners d with
      | [x] =>
        !(x.desc.engines d.wRank).testBit d.wEngine || !claimsPort x.desc d.wRank d.wPort ||
          decide (d.startEpoch < x.desc.startEpoch ∨ x.desc.fence < d.fence) ||
          (if d.wseq = 0 then (s.stream d.wRank d.wStream).isOpen
           else !(s.stream d.wRank d.wStream).isOpen || badPredecessor s d x.desc.uid)
      | _ => true)

def windowBoard (s : State) (g : List Desc) (d : Desc) : Option Nat :=
  firstFail [(decEpochReset, epochReset s d), (decAdmissionClosed, admissionClosed s), (decAbsent, absentRank s d),
    (decBadClaim, windowBadClaim s d), (decLeadTime, leadShort d), (decTooFar, tooFar d), (decAngleUnlocked, angleUnlocked s d),
    (decAngleOutside, angleOutside s d),
    (decRsBw, !(fits (rsClaims s g) d.wRs d.lead d.fence s.part.rsCap && fits (rsClaims s g) d.wH2d d.fillLo d.lead s.part.rsCap)),
    (decRsSpace, !fits (spaceClaims s g) d.spaceUnits d.fillLo d.fence s.spaceCap),
    (decHostBw, !fits (h2dClaims s) d.wH2d d.fillLo d.lead s.hostCap), (decTableFull, decide (16384 ≤ s.boardTable g))]

def windowRank (s : State) (g : List Desc) (d : Desc) (r : Nat) : Option Nat :=
  firstFail [(decRankBw, !fits (rankBwClaims s g r) d.wRs d.lead d.fence 5120), (decTableFull, decide (4096 ≤ s.rankTable g r))]

def windowAnswer (s : State) (g : List Desc) (d : Desc) : Option (Nat × Nat) :=
  match formatFail s d with
  | some c => some (c, noShard)
  | none => pickDecline (reports (windowBoard s g d) ((s.namedRanks d).map fun r => (r, windowRank s g d r)))

/-- The stream after the admission of a window: window 0 opens it. -/
def openStream (x : Stream) (d : Desc) (owner : Nat) : Stream :=
  if d.wseq = 0 then
    { isOpen := true, starved := false, engine := d.wEngine, owner := owner, wseq := 0, next := 0, admitted := 1, lastIn := d.wLast }
  else { x with admitted := x.admitted + 1, lastIn := d.wLast }

/-- A stream that opens anew leaves no fallback of an earlier one behind. -/
def dropFallbacks (s : State) (r n : Nat) : State :=
  (List.range 24).foldl (fun s e =>
    let g := s.engine r e
    if g.fallbacks.any fun f => decide (f.stream = n) then
      s.setEngine r e { g with fallbacks := g.fallbacks.filter fun f => decide (f.stream ≠ n) }
    else s) s

def acceptWindow (data : List (BitVec 32)) (s : State) (d : Desc) : State :=
  let owner := match s.owners d with | x :: _ => x.desc.uid | [] => 0
  let s1 := acceptEntry s d
  let s2 := if d.wseq = 0 then dropFallbacks s1 d.wRank d.wStream else s1
  let s3 := s2.setStream d.wRank d.wStream (openStream (s2.stream d.wRank d.wStream) d owner)
  { s3 with wins := s3.wins ++ [⟨d, owner, 0, windowData d data, false, s.now, s.stamp, stComplete, []⟩] }

/-- STREAM_WINDOW: `data` is what the host reads will answer. -/
def execStreamWindow (sq : Nat) (data : List (BitVec 32)) (s : State) : Host.Outcome State Fault Refusal :=
  match s.frontTyped sq 0x13 with
  | none => .next s
  | some d =>
    happen (decide (d.extCount ≠ 0 ∨ data.length * 4 = d.wBytes) && decided s (fun g => windowAnswer s g d)) s
      (decideWith s d (windowAnswer s [] d) (acceptWindow data))

/-! ### RECORD_SET (R332-R334) -/

namespace Desc
def setNo (d : Desc) : Nat := d.body 32 0 16
def setThrough (d : Desc) : Bool := decide (d.body 34 7 1 = 1)
def setOp (d : Desc) : Nat := d.body 34 0 2
def setSegs (d : Desc) : Nat := d.body 36 0 32
def setPay (d : Desc) : Nat := d.body 40 0 32
def setStride (d : Desc) : Nat := d.body 44 0 32
def setBase (d : Desc) : Nat := d.body 48 0 64
def setMirror (d : Desc) : Option Nat := if d.extCount = 0 then none else some (slotField (d.ext.headD 0) 0 64)
/-- Pool units that an ALLOC takes. (DEDUCED, log 88.) -/
def setUnits (d : Desc) : Nat := Sys2Proof.Machine.setUnits d.setSegs d.setPay
end Desc

/-- MIRROR is 0 or unaligned. -/
def mirrorBad (d : Desc) : Bool := match d.setMirror with | none => false | some m => decide (m = 0 ∨ m % 8 ≠ 0)

/-- BAD_CLAIM of an ALLOC, or of a reserved OP. -/
def allocBadClaim (s : State) (d : Desc) : Bool :=
  decide (d.rankMask ≠ 0 ∨ d.setOp ≠ 0 ∨ 4096 ≤ d.setNo ∨ d.setSegs = 0 ∨ 65536 < d.setSegs ∨ 16384 < d.setPay ∨
    d.setStride < 1 + d.setPay ∨ d.setBase = 0 ∨ d.setBase % 64 ≠ 0 ∨ (s.rset d.setNo).st ≠ .free) || mirrorBad d

/-- The space of an ALLOC from now on: the peak over every later tick. -/
def allocNoSpace (s : State) (g : List Desc) (d : Desc) : Bool := !fits (spaceClaims s g) d.setUnits s.ep (2 ^ 65) s.spaceCap

def allocAnswer (s : State) (g : List Desc) (d : Desc) : Option (Nat × Nat) :=
  untimedAnswer s d [(decEpochReset, epochReset s d), (decAdmissionClosed, admissionClosed s), (decAbsent, absentRank s d),
    (decBadClaim, allocBadClaim s d), (decRsSpace, allocNoSpace s g d)] []

def acceptAlloc (s : State) (d : Desc) : State :=
  let s1 := acceptEntry s d
  addWork (s1.setRset d.setNo { rsetDefault 0 with
    st := .allocating, through := d.setThrough, segs := d.setSegs, pay := d.setPay, stride := d.setStride, base := d.setBase,
    mirror := d.setMirror, held := d.setUnits }) (newWork s d .alloc)

def execRecordSetAlloc (sq : Nat) (s : State) : Host.Outcome State Fault Refusal :=
  match s.frontTyped sq 0x20 with
  | none => .next s
  | some d =>
    happen (decide (d.setOp ≠ 1) && decided s (fun g => allocAnswer s g d)) s (decideWith s d (allocAnswer s [] d) acceptAlloc)

/-- The first page of the pool. -/
def firstPage (p : Part) : Nat := poolBase p / 65536

/-- Pages that an allocating set may take (R378): as many as it holds, free, each once. -/
def pagesOk (s : State) (d : Desc) (pages : List Nat) : Bool :=
  decide (pages.length = d.setUnits ∧ pages.Nodup) &&
    pages.all fun p => decide (firstPage s.part ≤ p ∧ p < firstPage s.part + poolUnits s.part) &&
      s.rsets.all fun x => decide (p ∉ x.2.pages)

/-- RECORD_SET_READY. -/
def recordSetReady (s : State) (w : Work) (pages : List Nat) : State :=
  let n := w.desc.setNo
  finishWork (s.setRset n { s.rset n with st := .ready, pages := pages }) { w with stamp := s.stamp }

def execRecordSetReady (uid : Nat) (pages : List Nat) (s : State) : Host.Outcome State Fault Refusal :=
  match s.work? uid with
  | none => .next s
  | some w => happen (decide (w.kind = .alloc) && pagesOk s w.desc pages) s (recordSetReady s w pages)

/-- Delivered segments that no accepted RECYCLE has taken. (DEDUCED, log 57.) -/
def RSet.recyclable (x : RSet) : Nat := (x.filled.filter Filled.delivered).length - x.recycling

def recycleBadClaim (s : State) (d : Desc) : Bool :=
  decide (d.rankMask ≠ 0 ∨ d.setSegs = 0 ∨ 65536 < d.setSegs ∨ d.setPay ≠ 0 ∨ d.setStride ≠ 0 ∨ d.setBase ≠ 0 ∨
    (s.rset d.setNo).recyclable < d.setSegs) || d.setThrough || mirrorBad d

def recycleAnswer (s : State) (d : Desc) : Option (Nat × Nat) :=
  untimedAnswer s d [(decEpochReset, epochReset s d), (decAdmissionClosed, admissionClosed s),
    (decAbsent, absentRank s d || decide ((s.rset d.setNo).st ≠ .ready)), (decBadClaim, recycleBadClaim s d)] []

def acceptRecycle (s : State) (d : Desc) : State :=
  let s1 := acceptEntry s d
  let n := d.setNo
  addWork (s1.setRset n { s1.rset n with recycling := (s1.rset n).recycling + d.setSegs }) (newWork s d .recycle)

def execRecordSetRecycle (sq : Nat) (s : State) : Host.Outcome State Fault Refusal :=
  match s.frontTyped sq 0x20 with
  | none => .next s
  | some d => happen (decide (d.setOp = 1)) s (decideWith s d (recycleAnswer s d) acceptRecycle)

/-- The oldest filled segments are free again. -/
def freeOldest (s : State) (d : Desc) : State :=
  let x := s.rset d.setNo
  s.setRset d.setNo { x with filled := x.filled.drop d.setSegs, recycling := x.recycling - d.setSegs }

/-- RECYCLE_DONE. -/
def recycleDone (s : State) (w : Work) : State := finishWork (freeOldest s w.desc) { w with stamp := s.stamp }

def execRecycleDone (uid : Nat) (s : State) : Host.Outcome State Fault Refusal :=
  match s.work? uid with
  | none => .next s
  | some w => happen (decide (w.kind = .recycle)) s (recycleDone s w)

/-! ### RELEASE (R396, R397) -/

/-- The sets that a RELEASE names: SET, and the extension list without 0xFFFF. -/
def Desc.releaseSets (d : Desc) : List Nat :=
  d.setNo :: if d.extCount = 0 then []
    else ((List.range 32).map fun i => slotField (d.ext.headD 0) (16 * i) 16).filter fun n => decide (n ≠ 0xFFFF)

def releaseBadClaim (d : Desc) : Bool :=
  decide (d.rankMask ≠ 0) || (d.releaseSets.any fun n => decide (4096 ≤ n)) || !decide d.releaseSets.Nodup

def releaseAnswer (s : State) (g : List Desc) (d : Desc) : Option (Nat × Nat) :=
  untimedAnswer s d [(decEpochReset, epochReset s d), (decAdmissionClosed, admissionClosed s),
    (decAbsent, absentRank s d || d.releaseSets.any fun n => decide (n < 4096 ∧ (s.rset n).st ≠ .ready)),
    (decBadClaim, releaseBadClaim d),
    (decInUse, d.releaseSets.any fun n => (s.liveShots.map Shot.desc ++ g).any fun x => decide (x.recset = n))] []

def acceptRelease (s : State) (d : Desc) : State :=
  addWork (d.releaseSets.foldl (fun s n => s.setRset n { s.rset n with st := .releasing }) (acceptEntry s d)) (newWork s d .release)

def execRelease (sq : Nat) (s : State) : Host.Outcome State Fault Refusal :=
  match s.frontTyped sq 0x21 with
  | none => .next s
  | some d => happen (decided s (fun g => releaseAnswer s g d)) s (decideWith s d (releaseAnswer s [] d) acceptRelease)

/-- Every record of a releasing set is delivered and no RECYCLE of it is under way. -/
def State.drained (s : State) (n : Nat) : Bool :=
  (s.rset n).filled.all Filled.delivered && decide ((s.rset n).recycling = 0)

/-- The named sets are FREE and their pages are back. -/
def freeSets (s : State) (d : Desc) : State := d.releaseSets.foldl (fun s n => s.setRset n (rsetDefault n)) s

/-- RELEASE_DONE; a reset that the work has outlived leaves it without an entry (R45). -/
def releaseDone (s : State) (w : Work) : State :=
  if w.done then (freeSets s w.desc).dropWork w.desc.uid else finishWork (freeSets s w.desc) { w with stamp := s.stamp }

def execReleaseDone (uid : Nat) (s : State) : Host.Outcome State Fault Refusal :=
  match s.work? uid with
  | none => .next s
  | some w => happen (decide (w.kind = .release) && w.desc.releaseSets.all s.drained) s (releaseDone s w)

end Sys2Proof.Machine
end

