-- ==== Sys2Proof/Machine/Modes.lean ====
section
/-!
DEFINITION. The mode requests of the host (01, R33-R38, R534, Tables 01-5, 01-7 and 01-8), the end of the calibration routine
(14, R458-R460), CLR_N (R41, R267, R300), and the resets of the PCI Express function (R41, R45, R56).
-/
namespace Sys2Proof.Machine

/-! ### Requests -/

/-- Report the outcome of a request (Table 01-7). -/
def State.answer (s : State) (code : Nat) : State := s.put Reg.BRD_MODE_REQ_RESULT code

/-- A request while another is in progress, or before power-up is complete, is refused (R34, R52). (DEDUCED, log 25.) -/
def request (s : State) (f : State → State) : State :=
  if s.flag Reg.BRD_MODE_BUSY then s.answer 9
  else if s.get Reg.BRD_BOOT_STAGE ≠ 0xF then s.answer 6
  else f s

/-- A request is carried out by a row of Table 01-8. (DESIGN CHOICE, log 26.) -/
def carryOut (s : State) (m : Mode) (row : Nat) : State := (s.answer 0).enter m row

/-- CALIBRATE is left for SETUP: the sensor channels and the receivers take up again (Table 13-1, Table 09-2). -/
def leaveCalibrate (s : State) (row : Nat) : State :=
  if s.mode = .calibrate then ((snsCalLeave s).enter .setup row).spoilAll else s

/-- The routine ends with the mode when an event takes the part out of CALIBRATE for CLEAR or TRIPPED. (DEDUCED, log 30.) -/
def dropRoutine (s : State) : State := if s.routine.isSome then snsCalLeave (calAbandon s 0) else s

/-- A transition in progress is overtaken by an event. -/
def dropTransition (s : State) : State := { (s.put Reg.BRD_MODE_BUSY 0) with transition := none }

/-- Row 1: SETUP. From STANDBY it takes up to 200 µs (R31). -/
def requestSetup (s : State) : State :=
  match s.mode with
  | .setup => s.answer 0
  | .clear | .test | .sealed => carryOut s .setup 1
  | .standby => { ((s.answer 0).put Reg.BRD_MODE_BUSY 1) with transition := some .setup }
  | .armed => if s.anyShot then s.answer 4 else carryOut s .setup 1
  | .run | .hold | .quiesce => s.answer 4
  | .holdover => if s.anyRunning then s.answer 4 else carryOut s .setup 1
  | .calibrate => leaveCalibrate (calAbandon (s.answer 0) 1) 1
  | .tripped => s.answer 1

def execRequestSetup (s : State) : Host.Outcome State Fault Refusal := .next (request s requestSetup)

/-- TRANSITION_COMPLETE: the analog sections are back, FFX outputs return to their x and frames are invalid (R31, R299). -/
def transitionComplete (s : State) (m : Mode) : State :=
  if s.mode = .standby then
    let s1 := s.outputs.foldl (fun s e => s.setFfx e.1 e.2 { s.ffxAt e.1 e.2 with x := (s.ffxAt e.1 e.2).standbyX }) s
    ((dropTransition s1).enter m 1).spoilAll
  else s

def execTransitionComplete (s : State) : Host.Outcome State Fault Refusal :=
  match s.transition with
  | none => .next s
  | some m => .next (transitionComplete s m)

/-- Row 2: STANDBY. FFX outputs go to 0 and keep the x they had (R299). -/
def requestStandby (s : State) : State :=
  match s.mode with
  | .standby => s.answer 0
  | .setup =>
    carryOut (s.outputs.foldl (fun s e =>
      s.setFfx e.1 e.2 { s.ffxAt e.1 e.2 with standbyX := (s.ffxAt e.1 e.2).x, x := 0 }) s) .standby 2
  | _ => s.answer 1

def execRequestStandby (s : State) : Host.Outcome State Fault Refusal := .next (request s requestStandby)

/-- A request for ARMED clears HOLD_SUPPLY while every rail is above its warning level plus hysteresis (R36, R534). -/
def acknowledgeDip (s : State) (hystOk : Bool) : State := if hystOk then s.put Reg.BRD_MODE_HOLD_SUPPLY 0 else s

/-- The first condition of R36 that fails, by its code. (DEDUCED, log 27.) -/
def armRefusal (s : State) (warnOk : Bool) : Option Nat :=
  if !s.flag Reg.EPO_REF_LOCK then some 2
  else if s.flag Reg.EPO_REF_SUSPECT then some 3
  else if s.flag Reg.BRD_MODE_HOLD_SUPPLY || !warnOk then some 7
  else if s.get Reg.THM_STAT_LEVEL = 7 then some 8
  else none

/-- Row 3 in HOLD (note 6): the part leaves HOLD if no cause is left. -/
def armFromHold (s : State) (hystOk : Bool) : State :=
  let s1 := acknowledgeDip (s.put Reg.BRD_MODE_HOLD_HOST 0) hystOk
  if s1.flag Reg.BRD_MODE_HOLD_SUPPLY then s1.answer 7
  else if s1.flag Reg.BRD_MODE_HOLD_THROTTLE then s1.answer 8
  else leaveHold (s1.answer 0) 3

/-- Row 3: ARMED. `warnOk`: every rail is above its warning level; `hystOk`: above it by its hysteresis. -/
def requestArmed (s : State) (warnOk hystOk : Bool) : State :=
  match s.mode with
  | .armed | .run => s.answer 0
  | .hold => armFromHold s hystOk
  | .setup =>
    let s1 := acknowledgeDip s hystOk
    match armRefusal s1 (warnOk || hystOk) with
    | some c => s1.answer c
    | none => carryOut s1 .armed 3
  | _ => s.answer 1

def execRequestArmed (warnOk hystOk : Bool) (s : State) : Host.Outcome State Fault Refusal :=
  .next (request s fun t => requestArmed t warnOk hystOk)

/-- Row 4: HOLD. -/
def requestHold (s : State) : State :=
  match s.mode with
  | .armed | .run => (carryOut s .hold 4).put Reg.BRD_MODE_HOLD_HOST 1
  | .hold => (s.answer 0).put Reg.BRD_MODE_HOLD_HOST 1
  | _ => s.answer 1

def execRequestHold (s : State) : Host.Outcome State Fault Refusal := .next (request s requestHold)

/-- Row 5: QUIESCE. -/
def requestQuiesce (s : State) : State :=
  match s.mode with
  | .armed | .run | .hold => enterQuiesce (s.answer 0)
  | .quiesce => s.answer 0
  | _ => s.answer 1

def execRequestQuiesce (s : State) : Host.Outcome State Fault Refusal := .next (request s requestQuiesce)

/-- A demand for a sweep in this tick (R478): it starts in the next, or at the end of the one in progress. -/
def demandSweep (s : State) : State :=
  match s.thm.running with
  | some _ => { s with thm := { s.thm with again := true } }
  | none =>
    { (s.put Reg.THM_STAT_RUNNING 1) with thm := { s.thm with running := some (s.now + 1), startAt := s.now + 1 } }

/-- Row 6: CALIBRATE (R457, R458). -/
def requestCalibrate (s : State) (warnOk : Bool) : State :=
  match s.mode with
  | .calibrate => s.answer 0
  | .setup =>
    if !s.flag Reg.EPO_REF_LOCK then s.answer 2
    else if !warnOk then s.answer 7
    else demandSweep (calBegin (carryOut s .calibrate 6))
  | _ => s.answer 1

def execRequestCalibrate (warnOk : Bool) (s : State) : Host.Outcome State Fault Refusal :=
  .next (request s fun t => requestCalibrate t warnOk)

/-- Row 7: TEST. -/
def requestTest (s : State) : State :=
  match s.mode with
  | .test => s.answer 0
  | .setup => carryOut s .test 7
  | _ => s.answer 1

def execRequestTest (s : State) : Host.Outcome State Fault Refusal := .next (request s requestTest)

/-- Row 8: SEALED (R38). -/
def requestSealed (s : State) : State :=
  match s.mode with
  | .sealed => s.answer 0
  | .setup => if s.flag Reg.CAL_SEAL_SEAL_FITTED ∧ s.windowOpen then carryOut s .sealed 8 else s.answer 5
  | _ => s.answer 1

def execRequestSealed (s : State) : Host.Outcome State Fault Refusal := .next (request s requestSealed)

/-- A request for a mode that only events enter (R37). -/
def requestEntered (m : Mode) (s : State) : State := s.answer (if s.mode = m then 0 else 1)

def execRequestClear (s : State) : Host.Outcome State Fault Refusal := .next (request s (requestEntered .clear))
def execRequestHoldover (s : State) : Host.Outcome State Fault Refusal := .next (request s (requestEntered .holdover))
def execRequestTripped (s : State) : Host.Outcome State Fault Refusal := .next (request s (requestEntered .tripped))

/-- A request for a code from 0xC to 0xF (R37). -/
def execRequestUndefinedMode (code : Nat) (s : State) : Host.Outcome State Fault Refusal :=
  happen (decide (0xC ≤ code ∧ code ≤ 0xF)) s (request s fun t => t.answer 0xA)

/-- The request that a write of BRD_MODE makes (R37, codes of Table 01-4); only a shot's beginning enters RUN. The supply is taken as
it stands in the supervisor: no dip open. -/
def requestCode (s : State) (code : Nat) : State :=
  let ok := s.dip.isNone
  request s fun t =>
    match code with
    | 0x0 => requestEntered .clear t
    | 0x1 => requestSetup t
    | 0x2 => requestStandby t
    | 0x3 => requestArmed t ok ok
    | 0x4 => t.answer (if t.mode = .run then 0 else 1)
    | 0x5 => requestHold t
    | 0x6 => requestQuiesce t
    | 0x7 => requestEntered .holdover t
    | 0x8 => requestCalibrate t ok
    | 0x9 => requestTest t
    | 0xA => requestSealed t
    | 0xB => requestEntered .tripped t
    | _ => t.answer 0xA

/-! ### The calibration routine (R458-R460) -/

/-- CALIBRATION_STAGE_END: `meas` is VCAL_IN as stage 1 measures it; the reference check may end the routine (R459). -/
def calibrationStageEnd (s : State) (q : Routine) (six : Bool) (meas : Int)
    (results : List (Nat × Nat × Nat × List (BitVec 16))) : State :=
  if !six && decide (q.stage = 1) then
    let s1 := s.wr Reg.CAL_VCAL_MEAS (BitVec.ofInt 32 meas)
    if refFails meas (s.get Reg.CAL_VREF_VREF) then leaveCalibrate (calFailRef s1) 17
    else { s1 with routine := some (stageEnd q six results) }
  else { s with routine := some (stageEnd q six results) }

def execCalibrationStageEnd (six : Bool) (meas : Int) (results : List (Nat × Nat × Nat × List (BitVec 16))) (s : State) :
    Host.Outcome State Fault Refusal :=
  match s.routine with
  | none => .next s
  | some q => happen (s.stageEnds six results) s (calibrationStageEnd s q six meas results)

/-- Every stage of the routine has ended. -/
def Routine.stagesEnded (q : Routine) : Bool := decide (q.stage = 6) && !q.six && !q.opening

def execCalibrationEnd (s : State) : Host.Outcome State Fault Refusal :=
  match s.routine with
  | none => .next s
  | some q => happen q.stagesEnded s (leaveCalibrate (calApply s q) 17)

/-! ### CLR_N (row 19) -/

/-- The control registers of the RF outputs return to reset with CLEAR = 1, and writes that wait are discarded (R267). -/
def clearLines (s : State) : State :=
  (List.range s.part.ranks).foldl (fun s r =>
    let s1 := (List.range 18).foldl (fun s l =>
      (s.wr (lineCtrl r l) (regReset s.part (lineCtrl r l))).setLine r l { s.line r l with pend := [] }) s
    (s1.wr (Reg.DRV_MRK_CTRL r) (regReset s.part (Reg.DRV_MRK_CTRL r))).setMrkMute r { s1.mrkMuteAt r with pend := [] }) s

/-- Every output goes to its CLR_N state: from the next tick where the spec says so (R41, R267, R300, Table 13-3). -/
def clearOutputsNow (s : State) : State := htrStop (clearFluxNow (clearLines s)) true

/-- CLR_N_FALL at its recognition tick: shots are aborted in the next tick (R41). In CLEAR and TRIPPED the mode stays; TRIPPED
outputs keep their tripped states. -/
def clrFall (s : State) : State :=
  match s.mode with
  | .tripped => s
  | .clear => clearOutputsNow s
  | _ => (clearOutputsNow (dropTransition (dropRoutine s))).enter .clear 19

def execClrNFall (s : State) : Host.Outcome State Fault Refusal := .next (clrFall s)

/-- The shots that a reset of the function ends are gone, and their stream windows. -/
def dropSilent (s : State) : State :=
  { s with
    shots := s.shots.filter fun x => !x.silent
    wins := s.wins.filter fun w => s.shots.all fun x => decide (x.desc.uid ≠ w.owner) || !x.silent }

/-- The next tick: the shots are aborted, with ABORTED_CLR or after a reset without an entry, and the RF lines are in the Clear state
(R41, R267). (DEDUCED, log 28.) -/
def clearNext (s : State) : State :=
  if s.clrNext then
    let s1 := dropSilent (abortAll s (if s.mode = .tripped then stThermalTrip else stAbortedClr))
    clearFluxNext { s1 with lines := [], mrkMute := [] }
  else s

/-! ### PERST_N, hot reset and function-level reset (row 20) -/

/-- Untimed work abandoned at a reset or a trip (R45): what is left of it. -/
def abandonWork (s : State) (w : Work) : State :=
  match w.kind with
  | .abort | .nop => s.dropWork w.desc.uid
  | .loadMicro | .loadNano | .loadCache => (abandonLoad s w).dropWork w.desc.uid
  | .alloc => (s.setRset w.desc.setNo (rsetDefault w.desc.setNo)).dropWork w.desc.uid
  | .recycle => (freeOldest s w.desc).dropWork w.desc.uid
  | .release => s.updWork w.desc.uid fun v => { v with done := true }

/-- Work and gangs of the Clock are gone at the reset, and shots that have ended; admitted and running shots go in the next tick (R41),
or, where the mode was CLEAR or TRIPPED already, at once. -/
def clearClock (s : State) : State :=
  let last := decide (s.mode ≠ .clear ∧ s.mode ≠ .tripped)
  let s1 := if last then s else abortAll s stAbortedClr
  let s2 := s1.works.foldl (fun s w => abandonWork s w) s1
  let live := if last then (s2.shots.filter fun x => decide (x.phase ≠ .ended)).map fun x => { x with silent := true } else []
  { s2 with
    shots := live, gang := none
    wins := s2.wins.filter fun w => !w.ended && live.any fun x => decide (x.desc.uid = w.owner) }

/-- The rings are cleared (R56): EN, pointers, counts and states; their configuration stays. -/
def clearRings (s : State) : State :=
  let s1 := (List.range 64).foldl (fun s n => (s.put (Reg.PCI_SQ_CFG_EN n) 0).put (Reg.PCI_CQ_CFG_EN n) 0) s
  { s1 with sqs := [], cqs := [], holding := [], holdHits := [] }

/-- Bus mastering ends. -/
def stopMaster (s : State) : State := { s with busMaster := false }

/-- A reset of the PCI Express function with its RESET_CAUSE (R41, R45, R56, R415). -/
def functionReset (s : State) (cause : Nat) : State :=
  let s1 := stopMaster ((clearRings (clearClock s)).put Reg.BRD_BOOT_RESET_CAUSE cause)
  let s2 := idleTdcs (s1.put Reg.PCI_LINK_RETRAINS 0)
  match s2.mode with
  | .tripped => s2
  | .clear => clearOutputsNow s2
  | _ => (clearOutputsNow (dropTransition (dropRoutine s2))).enter .clear 20

def execHotReset (s : State) : Host.Outcome State Fault Refusal := .next (functionReset s 4)
def execFunctionLevelReset (s : State) : Host.Outcome State Fault Refusal := .next (functionReset s 5)

/-- PERST_N_ASSERT: the endpoint is held in reset and the link is down. -/
def perstAssert (s : State) : State :=
  { ((functionReset s 3).wr Reg.PCI_LINK 0).wr Reg.PCI_STREAM_CAP 0 with perst := true }

def execPerstNAssert (s : State) : Host.Outcome State Fault Refusal := .next (perstAssert s)

/-- PERST_N_RELEASE: the endpoint leaves reset, and nothing else changes (R51, R56). -/
def execPerstNRelease (s : State) : Host.Outcome State Fault Refusal := happen s.perst s { s with perst := false }

/-- LINK_RECOVERY (R98, R100, Table 03-13): a link that was down comes up and counts no recovery. -/
def linkRecovery (s : State) (rate width : Nat) (flit : Bool) : State :=
  let up := s.flag Reg.PCI_LINK_UP
  let s1 := setLink (if up then s.bump Reg.PCI_LINK_RETRAINS else s) rate width flit
  let low := decide ((s1.rd Reg.PCI_STREAM_CAP).toNat < max s1.d2hNow s1.h2dNow)
  let s2 := if up || low then s1.event evtLink else s1
  if low then s2.put Reg.PCI_DMA_ERR_LATE_DELIVERY 1 else s2

def execLinkRecovery (rate width : Nat) (flit : Bool) (s : State) : Host.Outcome State Fault Refusal :=
  happen (!s.perst && linkOk rate width flit && (!s.flag Reg.PCI_LINK_FLIT || flit)) s (linkRecovery s rate width flit)

end Sys2Proof.Machine
end

