-- ==== Sys2Proof/Machine/Timebase.lean ====
section
/-!
DEFINITION. The timebase (02): the epoch and its alarms, the angle estimator, the calendar clock and the snapshots.
-/
namespace Sys2Proof.Machine

/-! ### Epoch alarms -/

def alarmDefault (_ : Nat) : Nat := 0
def alarmFlagDefault (_ : Nat) : Bool := false
def alarmFiredDefault (_ : Nat) : Option Nat := none

/-- The compare value of an alarm. -/
def State.alarmCmp (s : State) (n : Nat) : Nat := s.get64 (Reg.EPO_ALM_CMP_LOn n)

/-- A write of EPO_ALM_CTRLn: the flags clear by a 1, IRQ and EN are stored; an alarm that becomes enabled is late if its
compare value is at or below the epoch (R69). -/
def writeAlarmCtrl (s : State) (n : Nat) (v : Word) : WriteOut :=
  let was := s.flag (Reg.EPO_ALM_CTRLn_EN n)
  let a := Reg.EPO_ALM_CTRLn n
  let s1 := s.wr a ((s.rd a &&& ~~~ 0x101 ||| (v &&& 0x101)) &&& ~~~ (v &&& 0xE0000000))
  if !was && s1.flag (Reg.EPO_ALM_CTRLn_EN n) then
    taken { s1 with
      alarmAt := s1.alarmAt.set alarmDefault n s1.now,
      alarmLate := s1.alarmLate.set alarmFlagDefault n (decide (s1.alarmCmp n ≤ s1.epoch.toNat)) }
  else taken s1

/-- An enabled alarm is due: in the tick of its compare value, or in the tick after its enabling when it was late then
(R68, R69). -/
def State.alarmDue (s : State) (n : Nat) : Bool :=
  decide (n < 16) && s.flag (Reg.EPO_ALM_CTRLn_EN n) &&
    (if s.alarmLate.get alarmFlagDefault n then decide (s.alarmAt.get alarmDefault n < s.now)
     else decide (s.alarmCmp n = s.epoch.toNat))

/-- The next compare value of a repeating alarm: by REP, or for a late one the first of the form CMP + k REP above the
epoch (R68, R69). -/
def nextCompare (cmp rep epoch : Nat) (late : Bool) : Nat :=
  if late then cmp + (if cmp ≤ epoch then (epoch - cmp) / rep + 1 else 0) * rep else cmp + rep

/-- ALARM_FIRE (R68). -/
def fireAlarm (s : State) (n : Nat) : State :=
  let late := s.alarmLate.get alarmFlagDefault n
  let rep := (s.rd (Reg.EPO_ALM_REPn n)).toNat
  let s1 := s.put (Reg.EPO_ALM_CTRLn_FIRED n) 1
  let s2 := if late then s1.put (Reg.EPO_ALM_CTRLn_LATE n) 1 else s1
  let s3 :=
    if rep = 0 then s2.put (Reg.EPO_ALM_CTRLn_EN n) 0
    else s2.put64 (Reg.EPO_ALM_CMP_LOn n) (nextCompare (s2.alarmCmp n) rep s2.epoch.toNat late % 2 ^ 64)
  let s4 := { s3 with
    alarmLate := s3.alarmLate.set alarmFlagDefault n false,
    alarmFired := s3.alarmFired.set alarmFiredDefault n (some s3.epoch.toNat) }
  if s.flag (Reg.EPO_ALM_CTRLn_IRQ n) then s4.event evtAlarm else s4

def execAlarmFire (n : Nat) (s : State) : Host.Outcome State Fault Refusal := happen (s.alarmDue n) s (fireAlarm s n)

/-- Writes of CMP and REP of an enabled alarm are refused with CAUSE 2 (R70). -/
def alarmLocked (s : State) (n : Nat) : Bool := s.flag (Reg.EPO_ALM_CTRLn_EN n)

/-! ### The epoch -/

/-- EPO_TRIM may be written only in SETUP (R67). -/
def writeEpoTrim (s : State) (v : Word) : WriteOut :=
  if s.mode = .setup then taken (s.wr Reg.EPO_TRIM (v &&& 0xFFFF003F)) else refusedBy s 1

/-- The conditions of R61 other than that no admitted shot is outstanding. -/
def State.edgeAcceptable (s : State) : Bool :=
  (decide (s.mode = .setup) || decide (s.mode = .armed)) && s.flag Reg.EPO_REF_LOCK &&
    (s.flag Reg.EPO_SYNC_ARM || s.flag Reg.EPO_SYNC_EVERY)

/-- Disable every enabled alarm and set its LOST bit (R62). -/
def loseAlarms (s : State) : State :=
  (List.range 16).foldl (fun s n =>
    if s.flag (Reg.EPO_ALM_CTRLn_EN n) then
      (s.put (Reg.EPO_ALM_CTRLn_EN n) 0).put (Reg.EPO_ALM_CTRLn_LOST n) 1
    else s) s

/-- The actions of R62 and R64 at the capture tick of an accepted edge. -/
def acceptEpoch (s : State) : State :=
  let load := s.get Reg.EPO_TRIM_LOAD
  let shift := load + 2 ^ 64 - s.epoch.toNat
  let s1 := loseAlarms s
  let s2 := ((s1.bumpWrap Reg.EPO_SYNC_STAT_GEN).put Reg.EPO_SYNC_STAT_ACCEPTED 1).put Reg.EPO_REF_SUSPECT 0
  let s3 := if s2.flag Reg.EPO_SYNC_EVERY then s2 else s2.put Reg.EPO_SYNC_ARM 0
  let e := (s3.angle.eRef + shift) % 2 ^ 64
  let s4 := { s3 with
    epoch := BitVec.ofNat 64 load, epochOld := s.epoch.toNat, edgeAcceptedAt := some s3.now, angle := { s3.angle with eRef := e } }
  ((s4.put64 Reg.EPO_ANG_REF_LO e).put64 Reg.EPO_LAST_IN_LO load).event evtEpoch

/-- The actions of R66 for an edge that is not accepted. -/
def ignoreEpoch (s : State) : State :=
  let per := (s.rd Reg.EPO_PERIOD).toNat
  let diff : Int := (s.epoch.toNat : Int) - s.get Reg.EPO_TRIM_LOAD
  let mismatch := decide (per ≠ 0) && decide (diff % per ≠ 0)
  let busy := s.edgeAcceptable
  let s1 := (s.put64 Reg.EPO_LAST_IN_LO s.epoch.toNat).bump Reg.EPO_SYNC_STAT_IGNORED
  let s2 := if mismatch then s1.put Reg.EPO_SYNC_STAT_MISMATCH 1 else s1
  let s3 := if busy then s2.put Reg.EPO_SYNC_STAT_REFUSED_BUSY 1 else s2
  if mismatch || busy then s3.event evtEpoch else s3

/-! ### The angle -/

/-- EPO_ANG_CFG.SOURCE values (Table 02-10). -/
def angOff : Nat := 0
def angEncoder : Nat := 2

/-- Window n holds an angle (02, Angle windows). -/
def State.windowHolds (s : State) (n a : Nat) : Bool :=
  let lo := s.get (Reg.EPO_AWINn_LO n)
  let hi := s.get (Reg.EPO_AWINn_HI n)
  decide ((a + 65536 - lo) % 65536 < (hi + 65536 - lo) % 65536)

/-- Window n is inside (R80). -/
def State.insideNow (s : State) (n : Nat) : Bool := s.flag Reg.EPO_ANG_STAT_LOCK && s.windowHolds n s.angleNow

/-- Clear LOCK and report it (R78); the admitted shots that name a window carry ANGLE_LOST (R83). -/
def loseLock (s : State) (stall : Bool) : State :=
  let s1 := (s.put Reg.EPO_ANG_STAT_LOCK 0).put Reg.EPO_ANG_STAT_LOCK_LOST 1
  let s2 := if stall then s1.put Reg.EPO_ANG_STAT_STALL 1 else s1
  let s3 := s2.liveShots.foldl (fun s x => if x.desc.angleEn then s.shotFlag x.desc.uid flAngleLost else s) s2
  s3.event evtAngle

/-- A measured period is in the range of R76 and within the tolerance of R77. -/
def periodOk (p pLast tol : Nat) : Bool :=
  decide (2 ^ 20 ≤ p) && decide (p ≤ 2 ^ 32 - 1) &&
    decide ((if pLast ≤ p then p - pLast else pLast - p) * 4096 ≤ tol * pLast)

/-- The angle follows the phase while LOCK is 1 and holds while it is 0 (R78). -/
def showAngle (s : State) : State :=
  if s.flag Reg.EPO_ANG_STAT_LOCK then { s with angle := { s.angle with shown := s.angle.ph / 2 ^ 32 % 65536 } } else s

/-- The reference edge of R77, with the lock rules of R78; it is recognised DEGLITCH ticks after its epoch (R75). -/
def angleReference (s : State) : State :=
  let a := s.angle
  let e := (s.epoch.toNat + 2 ^ 64 - s.get Reg.EPO_ANG_CFG_DEGLITCH) % 2 ^ 64
  let p := (e + 2 ^ 64 - a.eRef) % 2 ^ 64
  let avg := s.get Reg.EPO_ANG_CFG_AVG
  let ok := periodOk p a.pLast (s.get Reg.EPO_ANG_CFG_TOL)
  let hist := if ok then (p :: a.history).take (2 ^ avg) else a.history
  let pAvg := if ok then hist.foldl (· + ·) 0 / 2 ^ avg else a.pAvg
  let rate := if ok then (if pAvg = 0 then a.rate else 2 ^ 48 / pAvg) else a.rate
  let enc := decide (s.get Reg.EPO_ANG_CFG_SOURCE = angEncoder)
  let miss := enc && decide (a.incCount ≠ s.get Reg.EPO_ANG_ENC_N)
  let outliers := (if ok then 0 else a.outliers + 1) + (if miss then 1 else 0)
  let acc := if ok then a.accepted + 1 else 0
  let a' := { a with
    history := hist, pAvg := pAvg, rate := rate, outliers := outliers, accepted := acc, pLast := p, eRef := e, k := 0,
    incCount := 0, ph := s.get Reg.EPO_ANG_ENC_OFS * 2 ^ 32, refAt := s.now, edgeAt := s.now }
  let s1 := (((({ s with angle := a' }).wr Reg.EPO_ANG_PERIOD (BitVec.ofNat 32 pAvg)).wr Reg.EPO_ANG_RATE
    (BitVec.ofNat 32 rate)).put64 Reg.EPO_ANG_REF_LO e).put Reg.EPO_ANG_STAT_STALL 0
  let s2 := if miss then (s1.put Reg.EPO_ANG_STAT_COUNT_ERR 1).event evtAngle else s1
  if decide (2 ≤ outliers) && s2.flag Reg.EPO_ANG_STAT_LOCK then loseLock s2 false
  else if decide (2 ≤ acc) && decide (s.get Reg.EPO_ANG_ENC_N ≠ 0 ∨ !enc) then s2.put Reg.EPO_ANG_STAT_LOCK 1 else s2

/-- ANGLE_REFERENCE_EDGE: a reference edge can be recognised while a source is selected (Table 02-10). -/
def execAngleReferenceEdge (s : State) : Host.Outcome State Fault Refusal :=
  happen (decide (s.get Reg.EPO_ANG_CFG_SOURCE ≠ angOff)) s (showAngle (angleReference s))

/-- The phase after the k-th increment edge (R77); with N = 0 the estimator never locks, and the angle does not follow the phase. -/
def encoderPhase (ofs k n : Nat) : Nat := (ofs * 2 ^ 32 + k * 2 ^ 48 / n) % 2 ^ 48

def angleIncrement (s : State) : State :=
  let a := s.angle
  { (s.put Reg.EPO_ANG_STAT_STALL 0) with angle := { a with
      k := a.k + 1, incCount := a.incCount + 1, edgeAt := s.now,
      ph := encoderPhase (s.get Reg.EPO_ANG_ENC_OFS) (a.k + 1) (s.get Reg.EPO_ANG_ENC_N) } }

/-- ANGLE_INCREMENT_EDGE: only in ENCODER mode (Table 02-10). -/
def execAngleIncrementEdge (s : State) : Host.Outcome State Fault Refusal :=
  happen (decide (s.get Reg.EPO_ANG_CFG_SOURCE = angEncoder)) s (showAngle (angleIncrement s))

/-- No edge has come within its limit (R78). -/
def State.angleStalled (s : State) : Bool :=
  let per := (s.rd Reg.EPO_ANG_PERIOD).toNat
  s.flag Reg.EPO_ANG_STAT_LOCK && (decide (s.angle.refAt + 2 * per < s.now) ||
    (decide (s.get Reg.EPO_ANG_CFG_SOURCE = angEncoder) &&
      decide (s.angle.edgeAt + 4 * per / s.get Reg.EPO_ANG_ENC_N < s.now)))

def execAngleStall (s : State) : Host.Outcome State Fault Refusal := happen s.angleStalled s (loseLock s true)

/-- Some admitted shot that has not ended names an angle window satisfying a predicate. -/
def State.namesWindow (s : State) (p : Nat → Bool) : Bool := s.claimed fun d => d.angleEn && p d.awin

/-- The estimator starts acquisition anew (R79). (DEDUCED, log 32.) -/
def restartAngle (s : State) : State :=
  { (s.put Reg.EPO_ANG_STAT_LOCK 0) with angle := { s.angle with
      history := [], outliers := 0, accepted := 0, pLast := 0, k := 0, incCount := 0, refAt := s.now, edgeAt := s.now } }

/-- A write of EPO_ANG_CFG or EPO_ANG_ENC (R79). -/
def writeAngleCfg (s : State) (enc : Bool) (v : Word) : WriteOut :=
  if s.namesWindow fun _ => true then refusedBy s 2
  else taken (restartAngle (if enc then s.wr Reg.EPO_ANG_ENC v else s.wr Reg.EPO_ANG_CFG (v &&& 0xFFFFFFF3)))

/-- A write of EPO_ANG_LIM (R79). -/
def writeAngleLim (s : State) (v : Word) : WriteOut :=
  if s.namesWindow fun _ => true then refusedBy s 2 else taken (s.wr Reg.EPO_ANG_LIM (v &&& 0xFFFF))

/-- A write of EPO_AWINn (R81). -/
def writeAngleWindow (s : State) (n : Nat) (v : Word) : WriteOut :=
  if s.namesWindow fun w => decide (w = n) then refusedBy s 2 else taken (s.wr (Reg.EPO_AWINn n) v)

/-- ANGLE_WINDOW_EDGE: an edge of window n that is 8 t old reaches the engines (R80). -/
def angleWindowEdge (s : State) (n : Nat) : State :=
  match s.angle.moving.find? (fun m => decide (m.2.1 = n)) with
  | none => s
  | some (_, _, inn) =>
    { s with angle := { s.angle with
        moving := s.angle.moving.eraseP fun m => decide (m.2.1 = n),
        seen := if inn then n :: s.angle.seen.filter (fun w => decide (w ≠ n)) else s.angle.seen.filter (fun w => decide (w ≠ n)) } }

def execAngleWindowEdge (n : Nat) (s : State) : Host.Outcome State Fault Refusal :=
  happen (match s.angle.moving.find? (fun m => decide (m.2.1 = n)) with
    | none => false
    | some (t, _, _) => decide (t ≤ s.now)) s (angleWindowEdge s n)

/-- The phase in a tick without an edge: it advances by the rate but passes no edge it has not seen (R77). -/
def advancePhase (s : State) : Nat :=
  let a := s.angle
  let ofs := s.get Reg.EPO_ANG_ENC_OFS
  let n := s.get Reg.EPO_ANG_ENC_N
  let limit :=
    if s.get Reg.EPO_ANG_CFG_SOURCE = angEncoder ∧ n ≠ 0 then encoderPhase ofs (a.k + 1) n else ofs * 2 ^ 32 % 2 ^ 48
  let room := (limit + 2 ^ 48 - 1 - a.ph) % 2 ^ 48
  (a.ph + min a.rate room) % 2 ^ 48

/-- The tick of the estimator. -/
def tickAngle (s : State) : State := showAngle { s with angle := { s.angle with ph := advancePhase s } }

/-- The windows that the angle entered or left in a tick: their edges are on the way to the engines (R80). -/
def noteWindows (s : State) : State :=
  let now := (List.range 8).filter s.insideNow
  let changed := (List.range 8).filter fun n => decide ((n ∈ now) ≠ (n ∈ s.angle.inside))
  { s with angle := { s.angle with
      inside := now, moving := s.angle.moving ++ changed.map fun n => (s.now + 8, n, decide (n ∈ now)) } }

/-! ### The calendar clock -/

/-- A commit of EPO_CAL_STEP (R85). -/
def calendarStep (s : State) (v : Nat) : State :=
  let s1 := s.put64 Reg.EPO_CAL_OFS_LO ((s.get64 Reg.EPO_CAL_OFS_LO + v) % 2 ^ 64)
  let s2 := if v % 2 ^ 64 = 0 then s1 else s1.bumpWrap Reg.EPO_CAL_CTRL_STEP_GEN
  { s2 with disciplineAt := s.now }

/-- A write of EPO_CAL_RATE_ADJ: a saturating addition (R86). -/
def calendarRate (s : State) (v : Word) : State :=
  let sum := (s.rd Reg.EPO_CAL_RATE).toInt + v.toInt
  let sat := clampTo (-2147483648) 2147483647 sum
  let s1 := { (s.wr Reg.EPO_CAL_RATE (BitVec.ofInt 32 sat)) with disciplineAt := s.now }
  if sum = sat then s1 else (s1.put Reg.EPO_CAL_CTRL_RATE_SAT 1).event evtCalendar

/-- A write of EPO_CAL_CTRL: setting DISCIPLINED or WATCH starts the watch anew. (DEDUCED, log 33.) -/
def writeCalCtrl (s : State) (v : Word) : WriteOut :=
  let s1 := s.wr Reg.EPO_CAL_CTRL
    (((s.rd Reg.EPO_CAL_CTRL &&& ~~~ 0xFF000001) ||| (v &&& 0xFF000001)) &&& ~~~ (v &&& 2))
  taken (if s.flag Reg.EPO_CAL_CTRL_DISCIPLINED then s1 else { s1 with disciplineAt := s.now })

/-- The discipline watch has run out (R87). -/
def State.watchExpired (s : State) : Bool :=
  let w := s.get Reg.EPO_CAL_CTRL_WATCH
  s.flag Reg.EPO_CAL_CTRL_DISCIPLINED && decide (w ≠ 0) && decide (s.disciplineAt + ticksOfSeconds w ≤ s.now)

def execDisciplineWatchExpiry (s : State) : Host.Outcome State Fault Refusal :=
  happen s.watchExpired s ((s.put Reg.EPO_CAL_CTRL_DISCIPLINED 0).event evtCalendar)

/-- The tick of the calendar clock (R84). -/
def tickCalendar (s : State) : State :=
  { s with calRaw := (s.calRaw + 1) % 2 ^ 64, calAcc := s.calAcc + (s.rd Reg.EPO_CAL_RATE).toInt }

/-! ### Snapshots -/

/-- Capture the epoch, the calendar value and the angle status of this tick (R89). -/
def capture (s : State) : State :=
  let ang := s.angleNow * 65536 + s.get Reg.EPO_SYNC_STAT_GEN * 256 + s.stampFlags
  let s1 := ((s.put64 Reg.EPO_SNAP_EPO_LO s.epoch.toNat).put64 Reg.EPO_SNAP_CAL_LO s.calendar).wr Reg.EPO_SNAP_ANG
    (BitVec.ofNat 32 ang)
  { (s1.put Reg.EPO_SNAP_CTRL_DONE 1) with snapArmed := false }

/-- A write of EPO_SNAP_CTRL: SRC is stored; GO empties DONE and captures at once or arms a capture (R89). -/
def writeSnapCtrl (s : State) (v : Word) : WriteOut :=
  let s1 := s.put Reg.EPO_SNAP_CTRL_SRC (wordBits v 7 4)
  if wordBits v 0 0 = 1 then
    let s2 := s1.put Reg.EPO_SNAP_CTRL_DONE 0
    taken (if wordBits v 7 4 = 0 then capture s2 else { s2 with snapArmed := true })
  else taken s1

/-- SNAPSHOT_CAPTURE: the first rising edge of the armed source. -/
def execSnapshotCapture (s : State) : Host.Outcome State Fault Refusal := happen s.snapArmed s (capture s)

end Sys2Proof.Machine
end

