-- ==== Sys2Proof/Machine/Power.lean ====
section
/-!
DEFINITION. Power-up (01, R49-R55), restarts (R44, R477), the loss and return of REFIN and EPOCH_IN edges (02, R61-R66, R91-R94),
supply supervision (14, R474-R477) and the seal (R471).
-/
namespace Sys2Proof.Machine

/-! ### Restarts and power-up -/

/-- The part restarts from before its first stage (R44, R477): what a restart keeps is the flash, what is fixed at manufacture,
the straps, the host's memory and the model's own counts. -/
def restart (s : State) (cause : Nat) : State :=
  { State.reset with
    pending := s.pending, part := s.part, ref10M := s.ref10M, serial := s.serial, now := s.now, freeCtr := s.freeCtr,
    lastRead := s.lastRead, nextUid := s.nextUid, posted := s.posted, perst := s.perst, dldSent := s.dldSent,
    regs := Table.set (regReset s.part) [] Reg.BRD_BOOT (BitVec.ofNat 32 (cause * 256)),
    fwBank := s.fwBank, fwBody := s.fwBody, calBank := s.calBank, calBody := s.calBody, curveBank := s.curveBank,
    curveBody := s.curveBody, tripLog := s.tripLog,
    thm := { State.reset.thm with startAt := s.now, schedAt := s.now } }

def execPowerOn (s : State) : Host.Outcome State Fault Refusal := .next (restart s 1)
def execSupplyReset (rail : Nat) (s : State) : Host.Outcome State Fault Refusal := happen (decide (rail < 16)) s (restart s 2)

/-- Stages of Table 01-9. -/
def State.stage (s : State) : Nat := s.get Reg.BRD_BOOT_STAGE
def State.enterStage (s : State) (n : Nat) : State := s.put Reg.BRD_BOOT_STAGE n

/-- INTERNAL_POWER_GOOD (R503): the outputs are in the state of R49, which is their reset state, and stage 0x1 begins. (DEDUCED, log 103.) -/
def powerGood (s : State) : State :=
  { s.enterStage 1 with powerGoodAt := some s.now, thm := { s.thm with startAt := s.now, schedAt := s.now } }

def execInternalPowerGood (s : State) : Host.Outcome State Fault Refusal := happen s.powerGoodAt.isNone s (powerGood s)

/-- Power-up stops at a stage (R53). -/
def stageFault (s : State) (code : Nat) : State := s.put Reg.BRD_BOOT_FAIL code

/-- The end of stage 0x3: the newest valid image starts, or there is none. -/
def firmwareStage (s : State) : State :=
  match newestBank s.fwBank with
  | none => stageFault s 1
  | some (n, _) => answerAll { (s.put Reg.BRD_BOOT_FW_SLOT n).enterStage 4 with server := 2 }

/-- The end of stage 0x4: every codeword holds zero (Table 01-9); a fault leaves the stacks of `mask` ready. -/
def memoryStage (s : State) (fault : Bool) (mask : Nat) : State :=
  let all := 2 ^ s.part.stacks - 1
  if fault then stageFault (s.put Reg.BRD_BOOT_STACK_READY (mask &&& all)) 2
  else { (s.put Reg.BRD_BOOT_STACK_READY all).enterStage 5 with mem := [], corrected := [], passCe := [], scrubPos := 0 }

/-- The end of stage 0x6: the on-die memories are clear; a fault leaves the Ranks of `mask` ready. -/
def rankStage (s : State) (fault : Bool) (mask : Nat) : State :=
  let all := 2 ^ s.part.ranks - 1
  if fault then stageFault (s.put Reg.BRD_BOOT_RANK_READY (mask &&& all)) 3
  else { (s.put Reg.BRD_BOOT_RANK_READY all).enterStage 7 with micro := [], nano := [], nanoRes := [], cache := [] }

/-- POWER_UP_STAGE_END (R50, R53). The epoch and the calendar clock begin with stage 0x2, and so do the monitor's slots. -/
def stageEndsNow (s : State) (fault : Bool) (mask : Nat) : State :=
  match s.stage with
  | 1 => monPowerUp { s.enterStage 2 with epochOn := true }
  | 2 => answerAll { s.enterStage 3 with server := 1 }
  | 3 => firmwareStage s
  | 4 => memoryStage s fault mask
  | 5 => (loadCurves (loadCalibration s)).enterStage 6
  | 6 => rankStage s fault mask
  | _ => if fault then stageFault s 4 else s.enterStage 0xF

/-- A fault can occur in stages 0x4, 0x6 and 0x7 by itself; in stage 0x3 the flash decides (R53). (DEDUCED, log 22.) -/
def stageMayFault (n : Nat) (fault : Bool) : Bool := !fault || decide (n = 4 ∨ n = 6 ∨ n = 7)

def execPowerUpStageEnd (fault : Bool) (mask : Nat) (s : State) : Host.Outcome State Fault Refusal :=
  happen (decide (1 ≤ s.stage ∧ s.stage ≤ 7 ∧ s.get Reg.BRD_BOOT_FAIL = 0) && stageMayFault s.stage fault) s
    (stageEndsNow s fault mask)

/-! ### EPOCH_IN and REFIN -/

/-- REFIN is present: the PLL is locked to it or is re-locking. -/
def State.refin (s : State) : Bool := s.flag Reg.EPO_REF_LOCK || s.relocking

/-- An epoch carried over into the new count (R64). -/
def shiftEpoch (old new t : Nat) : Nat := new + t - old

/-- What units keep as epochs when the count is set: frames that are still invalid, marker edges, and verdicts on their way. (DEDUCED, log 31.) -/
def shiftEpochs (s : State) (old new : Nat) : State :=
  let f := shiftEpoch old new
  let g (_ : Nat) (t : Tone) : Tone := { t with badUntil := f t.badUntil, past := [] }
  let h (_ : Nat) (x : Feed) : Feed := { x with badUntil := f x.badUntil, past := [] }
  let m (_ : Nat) (es : List MrkEdge) : List MrkEdge := es.map fun e => { e with at50 := e.at50 + 8 * ((new : Int) - old), ball := f e.ball }
  { s with
    tones := s.tones.updateAll toneDefault (s.tones.map Prod.fst) g,
    feeds := s.feeds.updateAll feedDefault (s.feeds.map Prod.fst) h,
    mrk := s.mrk.updateAll mrkDefault (s.mrk.map Prod.fst) m,
    results := s.results.map fun z => { z with endAt := f z.endAt },
    txQueue := s.txQueue.map fun v => { v with due := f v.due },
    rxHeld := s.rxHeld.map fun v => { v with due := f v.due },
    frameStamps := [] }

/-- EPOCH_IN_EDGE (R61-R66): Table 13-1 says what it does to the sensor channels. -/
def epochInEdge (s : State) : State :=
  if s.edgeAcceptable ∧ !s.anyShot then
    let s1 := snsCut (acceptEpoch s)
    shiftEpochs s1 s.ep s1.ep
  else ignoreEpoch s

def execEpochInEdge (s : State) : Host.Outcome State Fault Refusal := happen (s.epochOn && s.refin) s (epochInEdge s)

/-- Ticks from the last REFIN edge's tick to the detection tick (R91). -/
def State.lossDelay (s : State) : Nat := if s.ref10M then 624 else 62

/-- A stamp of a tick at or after the loss epoch carries HOLDOVER (R92). -/
def markStamp (loss st : Nat) : Nat := if loss ≤ st % 2 ^ 64 then stampHoldover st else st

/-- The stamps that have been taken since the loss epoch and are not yet written. -/
def markStamps (s : State) (loss : Nat) : State :=
  let w (_ : Nat) (x : RWin) : RWin := { x with stamp := markStamp loss x.stamp }
  let u (_ : Nat) (x : TraceUnit) : TraceUnit := { x with stamp := markStamp loss x.stamp }
  { s with
    shots := s.shots.map fun x => { x with stamp := markStamp loss x.stamp },
    works := s.works.map fun x => { x with stamp := markStamp loss x.stamp },
    wins := s.wins.map fun x => { x with stamp := markStamp loss x.stamp },
    rwins := s.rwins.updateAll rwinDefault (s.rwins.map Prod.fst) w,
    traces := s.traces.updateAll unitDefault (s.traces.map Prod.fst) u,
    results := s.results.map fun z => { z with record := z.record.map fun d => { d with stamp := markStamp loss d.stamp } },
    frameStamps := s.frameStamps.map fun e => (e.1, markStamp loss e.2) }

/-- Row 15 of Table 01-8. -/
def refinRow (s : State) : State :=
  match s.mode with
  | .armed | .run | .hold | .quiesce => enterHoldover s
  | .calibrate => leaveCalibrate (calAbandon s 3) 15
  | _ => s

/-- REFIN_LOSS at its detection tick (R91, R92): a shot that ended since the loss epoch loses its reference too. (DEDUCED, log 35.) -/
def refinLoss (s : State) : State :=
  let loss := s.ep - s.lossDelay
  let s1 := ((((s.put Reg.EPO_REF_HOLDOVER 1).put Reg.EPO_REF_LOST 1).put Reg.EPO_REF_SUSPECT 1).put Reg.EPO_REF_LOCK 0).bump
    Reg.EPO_REF_LOSS_COUNT
  let s2 := { s1 with relocking := false, lossAt := some (loss, s.now) }
  let s3 := (s2.shots.filter fun x => decide (x.phase = .ended ∧ s.now ≤ x.endAt + s.lossDelay) && x.started).foldl
    (fun s x => refLost s x.desc.uid) s2
  refinRow (markStamps s3 loss)

def execRefinLoss (s : State) : Host.Outcome State Fault Refusal := happen (s.epochOn && s.refin) s (refinLoss s)

/-- REFIN_RESTORED (R94): the PLL locks, or re-locks, and slews. (DEDUCED, log 36.) -/
def execRefinRestored (s : State) : Host.Outcome State Fault Refusal :=
  happen (s.epochOn && !s.refin) s { s with relocking := true }

/-- PLL_LOCKED: the end of the slew (R94), and row 16 with note 11. -/
def pllLocked (s : State) : State :=
  let s1 := { (s.put Reg.EPO_REF_HOLDOVER 0).put Reg.EPO_REF_LOCK 1 with relocking := false }
  if s.mode = .holdover ∧ !s.anyRunning then s1.enter .setup 16 else s1

def execPllLocked (s : State) : Host.Outcome State Fault Refusal := happen s.relocking s (pllLocked s)

/-! ### Supply (R474-R476, R486) -/

/-- Words of a dip log entry. (DEDUCED, log 97.) -/
def dipStart (k : Nat) : Nat := Reg.PWR_DIPLOGk_START_LO k
def railBit (rail : Nat) : Nat := 2 ^ rail

/-- The entry that a new dip opens: entry 0 first, then the one after the newest. -/
def State.nextDip (s : State) : Nat :=
  let n := s.get Reg.PWR_STAT_NEWEST
  if s.flag (Reg.PWR_DIPLOGk_V n) then (n + 1) % 8 else n

/-- A rail is below its warning level. -/
def noteRail (s : State) (rail : Nat) : State :=
  let s1 := s.put Reg.PWR_STAT_BELOW_WARN (s.get Reg.PWR_STAT_BELOW_WARN ||| railBit rail)
  s1.put Reg.PWR_EVT_WARN_SEEN (s1.get Reg.PWR_EVT_WARN_SEEN ||| railBit rail)

/-- Row 11 of Table 01-8. -/
def supplyRow (s : State) : State :=
  match s.mode with
  | .armed | .run => (s.enter .hold 11).put Reg.BRD_MODE_HOLD_SUPPLY 1
  | .hold => s.put Reg.BRD_MODE_HOLD_SUPPLY 1
  | .calibrate => leaveCalibrate (calAbandon s 2) 11
  | _ => s

/-- The shots that the dip overlaps up to its warning carry SUPPLY_DIP (R476). (DEDUCED, log 98.) -/
def flagDip (s : State) : State :=
  (s.shots.filter fun x => x.started && (decide (x.phase = .running) || decide (s.now ≤ x.endAt + 249))).foldl
    (fun s x => s.shotFlag x.desc.uid flSupplyDip) s

/-- SUPPLY_WARNING at W; while a dip is open, another rail only joins it. -/
def supplyWarning (s : State) (rail : Nat) : State :=
  let s1 := noteRail s rail
  match s.dip with
  | some d =>
    let rails := d.rails ||| railBit rail
    { s1.put ⟨Reg.PWR_DIPLOGk (s.get Reg.PWR_STAT_NEWEST), 31, 16⟩ rails with dip := some { d with rails := rails } }
  | none =>
    let n := s.nextDip
    let s2 := ((s1.put Reg.PWR_STAT_NEWEST n).put Reg.PWR_STAT_DIP_ACTIVE 1).put Reg.PWR_EVT_DIP 1
    let s3 := ((s2.put64 (dipStart n) (s.ep - 249)).wr (Reg.PWR_DIPLOGk_LEN n) 0xFFFFFFFF).wr (Reg.PWR_DIPLOGk n)
      (BitVec.ofNat 32 (railBit rail * 2 ^ 16 + 1))
    supplyRow (flagDip ({ s3 with dip := some ⟨s.ep - 249, s.now, railBit rail⟩ }.event evtSupply))

def execSupplyWarning (rail : Nat) (s : State) : Host.Outcome State Fault Refusal :=
  happen (decide (rail < 16)) s (supplyWarning s rail)

/-- The part leaves a short dip (row 12). -/
def dipEnds (s : State) : State :=
  if s.mode = .hold then leaveHold (s.put Reg.BRD_MODE_HOLD_SUPPLY 0) 12 else s

/-- SUPPLY_RECOVERY at V. -/
def supplyRecovery (s : State) (d : Dip) : State :=
  let n := s.get Reg.PWR_STAT_NEWEST
  let long := decide (2500000 < s.now - 2499 - d.wAt)
  let s1 := (((s.put Reg.PWR_STAT_DIP_ACTIVE 0).put Reg.PWR_STAT_BELOW_WARN 0).wr (Reg.PWR_DIPLOGk_LEN n)
    (BitVec.ofNat 32 (min (s.now - d.wAt + 250) 0xFFFFFFFF))).put (Reg.PWR_DIPLOGk_LONG n) (if long then 1 else 0)
  let s2 := { s1 with dip := none }.event evtSupply
  if long then (s2.put Reg.PWR_EVT_LONG_DIP 1).bump Reg.PWR_DIPCNT_LONG else dipEnds (s2.bump Reg.PWR_DIPCNT_SHORT)

def execSupplyRecovery (s : State) : Host.Outcome State Fault Refusal :=
  match s.dip with
  | none => .next s
  | some d => happen (decide (d.wAt + 2500 ≤ s.now)) s (supplyRecovery s d)

/-! ### Seal and presence (R471, row 18) -/

/-- Row 18. -/
def leaveSealed (s : State) : State := if s.mode = .sealed then s.enter .setup 18 else s

def execSealFitted (s : State) : Host.Outcome State Fault Refusal := .next (s.put Reg.CAL_SEAL_SEAL_FITTED 1)
def execSealRemoved (s : State) : Host.Outcome State Fault Refusal := .next (leaveSealed (s.put Reg.CAL_SEAL_SEAL_FITTED 0))
def execPresencePress (s : State) : Host.Outcome State Fault Refusal :=
  .next { s.bumpWrap Reg.CAL_SEAL_PRESSES with window := some (s.now + ticksOfSeconds 30) }
def execPresenceWindowExpiry (s : State) : Host.Outcome State Fault Refusal :=
  match s.window with
  | none => .next s
  | some t => happen (decide (t ≤ s.now)) s (leaveSealed { s with window := none })

end Sys2Proof.Machine
end

