-- ==== Sys2Proof/Machine/Thermal.lean ====
section
/-!
DEFINITION. Temperature and throttling (14, R166, R478-R480), thermal shutdown (R42, R45, R481, R482), and the Dalid mailbox
commands (10, R372).
-/
namespace Sys2Proof.Machine

/-! ### Sweeps (R478) -/

/-- SWEEP_DEMAND: the write of THM_CTRL. -/
def writeThmCtrl (s : State) (v : Word) : WriteOut := taken (if wordBits v 0 0 = 1 then demandSweep s else s)

/-- The MP's schedule has come round (THM_SCHED). -/
def State.sweepDue (s : State) : Bool :=
  decide (s.get Reg.THM_SCHED_PERIOD ≠ 0) && decide (s.thm.schedAt + ticksOfMilliseconds (s.get Reg.THM_SCHED_PERIOD) ≤ s.now)

/-- SCHEDULED_SWEEP: one that comes more than 1 ms late counts in BRD_MP_SLIP.SWEEPS (Table 14-11). -/
def scheduledSweep (s : State) : State :=
  let late := decide (s.thm.schedAt + ticksOfMilliseconds (s.get Reg.THM_SCHED_PERIOD + 1) < s.now)
  let s1 := if late then s.bump Reg.BRD_MP_SLIP_SWEEPS else s
  demandSweep { s1 with thm := { s1.thm with schedAt := s1.now } }

def execScheduledSweep (s : State) : Host.Outcome State Fault Refusal := happen (decide (s.server = 2) && s.sweepDue) s (scheduledSweep s)

/-- SWEEP_BACKSTOP: it takes the place of a scheduled sweep that has not come. -/
def sweepBackstop (s : State) : State :=
  let s1 := if s.sweepDue then
    { s.bump Reg.BRD_MP_SLIP_SWEEPS with thm := { s.thm with schedAt := s.now } } else s
  demandSweep (s1.bump Reg.THM_CNT_BACKSTOP)

def execSweepBackstop (s : State) : Host.Outcome State Fault Refusal :=
  happen (s.powerGoodAt.isSome && s.thm.running.isNone && decide (s.thm.startAt + ticksOfMilliseconds 50 ≤ s.now)) s (sweepBackstop s)

/-! ### The throttle level (R479) -/

/-- The level that a temperature asks for; a STEP of 0 acts as 1 (Table 14-14). -/
def State.demand (s : State) (t : Int) : Nat :=
  let base := signed 16 (s.get Reg.THM_THROT_BASE)
  if t < base then 0 else min 7 (1 + ((t - base) / (max 1 (s.get Reg.THM_THROT_STEP) : Nat)).toNat)

/-- The level from temperature alone after a sweep with highest temperature tj. -/
def State.levelFor (s : State) (tj : Int) : Nat :=
  let lt := s.get Reg.THM_STAT_LEVEL_T
  let low := s.demand (tj + (s.get Reg.THM_THROT_HYST : Nat))
  if lt < s.demand tj then s.demand tj else if low < lt then low else lt

/-- The level L follows lt and FLOOR: a change raises THROTTLE and reaches decisions in the next tick (R166, R479). -/
def setLevel (s : State) : State :=
  let old := s.get Reg.THM_STAT_LEVEL
  let new := max (s.get Reg.THM_STAT_LEVEL_T) (s.get Reg.THM_FLOOR_FLOOR)
  if new = old then s
  else
    let s1 := settlePeff s (s.put Reg.THM_STAT_LEVEL new)
    let s2 := if (old = 7) ≠ (new = 7) then { s1 with thm := { s1.thm with changed := some s1.now } } else s1
    s2.event evtThrottle

/-- A write of THM_FLOOR (R479). -/
def writeFloor (s : State) (v : Word) : WriteOut := taken (setLevel (s.wr Reg.THM_FLOOR (v &&& 7)))

/-- The tick after the sweep or write that moved L to, or from, 7. -/
def State.levelMoved (s : State) : Bool := s.thm.changed.any fun t => decide (t < s.now)

/-- THROTTLE_REACHES_7 (row 13). -/
def throttleReaches7 (s : State) : State :=
  let s1 := { s with thm := { s.thm with changed := none } }
  match s.mode with
  | .armed | .run => (s1.enter .hold 13).put Reg.BRD_MODE_HOLD_THROTTLE 1
  | .hold => s1.put Reg.BRD_MODE_HOLD_THROTTLE 1
  | _ => s1

def execThrottleReaches7 (s : State) : Host.Outcome State Fault Refusal :=
  happen (s.levelMoved && decide (s.get Reg.THM_STAT_LEVEL = 7)) s (throttleReaches7 s)

/-- THROTTLE_FALLS_BELOW_7 (row 14). -/
def throttleFallsBelow7 (s : State) : State :=
  leaveHold ({ s with thm := { s.thm with changed := none } }.put Reg.BRD_MODE_HOLD_THROTTLE 0) 14

def execThrottleFallsBelow7 (s : State) : Host.Outcome State Fault Refusal :=
  happen (s.levelMoved && decide (s.get Reg.THM_STAT_LEVEL ≠ 7)) s (throttleFallsBelow7 s)

/-! ### Thermal shutdown (R42, R45, R481, R482) -/

/-- The limit that a sensor's shutdown test uses. -/
def State.tripLimit (s : State) (code : Nat) : Int :=
  if code < 16 then signed 16 (s.get Reg.THM_TRIP_LIMIT) else signed 16 (s.get (Reg.THM_TDCFGn_LIMIT (code - 16)))

/-- A sensor's temperature as the last sweep left it. -/
def State.temp (s : State) (code : Nat) : Option Int :=
  if s.flag (Reg.THM_TEMPn_VALID code) then some (signed 16 (s.get (Reg.THM_TEMPn_TEMP code))) else none

/-- A sensor meets the shutdown test of R480. -/
def State.trips (s : State) (code : Nat) : Bool :=
  match s.temp code with
  | none => false
  | some t => (decide (code ≤ 12) || (decide (16 ≤ code) && s.flag (Reg.THM_TDCFGn_EN (code - 16)) &&
      decide (s.get (Reg.THM_TDCFGn_ACTION (code - 16)) = 2))) && decide (s.tripLimit code ≤ t)

/-- A shot's final entry breaks its promise at the trip: it has not ended, or records of it are still on their way (R42). -/
def Shot.tripped (x : Shot) (owed : Bool) : Bool := decide (x.phase ≠ .ended) || decide (x.records ≠ 0) || owed

/-- A record of a shot is still to complete. -/
def State.recordOwed (s : State) (uid : Nat) : Bool := s.results.any fun z => decide (z.shot = uid) && z.record.isSome

def State.brokenShots (s : State) : List Shot := s.shots.filter fun x => x.tripped (s.recordOwed x.desc.uid)

/-- TRIPS of the newest record of the trip log. -/
def State.tripCount (s : State) : Nat := match s.tripRecord 0 with | none => 0 | some w => slotField w 288 32

/-- The trip record (Table 14-9). -/
def State.tripBytes (s : State) (code : Nat) : BitVec 512 :=
  BitVec.ofNat 512 (s.stamp % 2 ^ 192 + code * 2 ^ 192 + s.get Reg.THM_STAT_LEVEL * 2 ^ 200 + s.mode.code * 2 ^ 208 +
    unsigned 16 ((s.temp code).getD 0) * 2 ^ 224 + unsigned 16 (s.tripLimit code) * 2 ^ 240 +
    s.brokenShots.length % 2 ^ 16 * 2 ^ 256 + s.undecided % 2 ^ 16 * 2 ^ 272 + (s.tripCount + 1) % 2 ^ 32 * 2 ^ 288)

/-- Show the trip record in THM_TRIPREC. -/
def showTrip (s : State) (w : BitVec 512) : State :=
  (List.range 16).foldl (fun s j => s.wr (Reg.THM_TRIPREC j) (BitVec.ofNat 32 (slotField w (32 * j) 32))) s

/-- Decline every descriptor of an SQ that has arrived; the fetches that have not lapse (R481). -/
def declineQueue (s : State) (sq : Nat) : State :=
  let ds := (s.sq sq).queue.filterMap fun f => f.desc
  ds.foldl (fun s d => decline s d decAdmissionClosed 8) (lapse s sq fun f => f.desc.isNone)

/-- Untimed work at the trip: it is abandoned, with an entry (R45). -/
def tripWork (s : State) (w : Work) : State :=
  if w.kind = .release ∧ w.done then s
  else
    let s1 := finalEntry (abandonWork s w) w.desc stThermalTrip 0 [] s.stamp s.now
    if w.kind = .release then s1 else s1.dropWork w.desc.uid

/-- Shots at the trip (R42). -/
def tripShots (s : State) : State :=
  let s1 := s.brokenShots.foldl (fun s x => (s.shotStatus x.desc.uid stThermalTrip).shotFlag x.desc.uid flBroken) s
  let s2 := abortAll s1 stThermalTrip
  { s2 with
    shots := s2.shots.map fun x => { x with records := 0 },
    results := s2.results.map fun z => { z with record := none } }

/-- The Clock and the rings at the trip (R481). -/
def tripClock (s : State) : State :=
  let s1 := tripShots { s with gang := none }
  let s2 := (s1.wins.filter fun w => !w.ended).foldl endWindow s1
  let s3 := s2.works.foldl tripWork s2
  (List.range 64).foldl declineQueue s3

/-- The units at the trip: outputs, heaters, sensor channels, TDC and Dalid (R300, R360, R415, R432, Table 13-3). -/
def tripUnits (s : State) : State := refreshPorts (idleTdcs (snsTrip (htrStop (clearFluxNow s) false)))

/-- The trip tick is noted, and the record is owed to the flash. -/
def noteTrip (s : State) : State := { s with trippedAt := some s.now, tripOwed := true }

/-- The trip tick Z, with the code of the sensor that tripped. (DEDUCED, log 100.) -/
def trip (s : State) (code : Nat) : State :=
  let w := s.tripBytes code
  let s1 := (tripClock (dropTransition (dropRoutine s))).enter .tripped 21
  tripUnits (noteTrip (showTrip s1 w))

/-- The record that waits for the flash. -/
def State.tripWords (s : State) : BitVec 512 :=
  BitVec.ofNat 512 ((List.range 16).foldl (fun a j => a + (s.rd (Reg.THM_TRIPREC j)).toNat * 2 ^ (32 * j)) 0)

/-- TRIP_LOG_APPEND: a full log of 4,096 records first loses its oldest sector of 1,024 (R482). -/
def tripLogAppend (s : State) : State :=
  let log := if 4096 ≤ s.tripLog.length then s.tripLog.drop 1024 else s.tripLog
  { s with tripLog := log ++ [s.tripWords], tripOwed := false }

def execTripLogAppend (s : State) : Host.Outcome State Fault Refusal := happen s.tripOwed s (tripLogAppend s)

/-- Every entry after the trip has been written. -/
def State.entriesWritten (s : State) : Bool :=
  s.shots.isEmpty && s.wins.isEmpty && s.holding.isEmpty

/-- DMA_STOP (R481): once the last entry is written, at most 50 µs after Z. -/
def execDmaStop (s : State) : Host.Outcome State Fault Refusal :=
  match s.trippedAt with
  | none => .next s
  | some z => happen (!s.dmaStopped && (s.entriesWritten || decide (z + ticksOfMicroseconds 50 ≤ s.now))) s { s with dmaStopped := true }

/-! ### SWEEP_END -/

/-- Sensors that a sweep converts (Table 14-8). -/
def State.sensorFitted (s : State) (code : Nat) : Bool :=
  if code < 8 then decide (code < s.part.ranks)
  else if code = 8 then true
  else if code < 13 then decide (code - 9 < s.part.stacks)
  else if code < 16 then false
  else decide (code < 24) && s.flag (Reg.THM_TDCFGn_EN (code - 16))

/-- What the sweep converted of a sensor; none also for an open diode. -/
def State.converted (s : State) (temps : List (Option Int)) (code : Nat) : Option Int :=
  if s.sensorFitted code then (temps[code]?).getD none else none

/-- THM_TEMPn of a sensor: one that did not convert keeps its TEMP. (DEDUCED, log 99.) -/
def storeTemp (temps : List (Option Int)) (s : State) (code : Nat) : State :=
  match s.converted temps code with
  | none => s.put (Reg.THM_TEMPn_VALID code) 0
  | some t => (s.put (Reg.THM_TEMPn_VALID code) 1).put (Reg.THM_TEMPn_TEMP code) (unsigned 16 t)

/-- The hottest valid sensor of codes 0-12: the lowest code with the highest temperature. -/
def State.hottest (s : State) : Option (Nat × Int) :=
  (List.range 13).foldl (fun b c => match s.temp c, b with
    | none, _ => b
    | some t, none => some (c, t)
    | some t, some (k, u) => if u < t then some (c, t) else some (k, u)) none

/-- The level after a sweep (R479). -/
def sweepLevel (s : State) : State :=
  match s.hottest with
  | none => s
  | some (c, t) => setLevel ((s.put Reg.THM_STAT_HOTTEST c).put Reg.THM_STAT_LEVEL_T (s.levelFor t))

/-- The calibration temperature of a sensor: recorded by the last routine, or as the factory bank holds it. -/
def State.calTemp (s : State) (code : Nat) : Int := (s.thm.calTemps.get noneTemp code).getD (Config.factoryTemp code)

/-- A sensor has drifted more than TDRIFT (Table 14-2). -/
def State.drifted (s : State) (code : Nat) : Bool :=
  match s.temp code with | none => false | some t => decide (s.get Reg.CAL_CFG_TDRIFT < (t - s.calTemp code).natAbs)

/-- The stale checks of a sweep (R462). -/
def staleCheck (s : State) : State :=
  let s1 := (List.range s.part.ranks).foldl (fun s r => if s.drifted r then s.staleAll (rankCals r) else s) s
  if s1.drifted 8 then s1.put Reg.CAL_RESULTS_MON_STALE 1 else s1

/-- The sweep that opens the calibration routine records the calibration temperatures (R458). -/
def openingSweep (s : State) (t0 : Nat) : State :=
  match s.routine with
  | none => s
  | some q =>
    if q.opening ∧ q.startedAt < t0 then
      { s with routine := some { q with
          opening := false,
          temps := ((List.range s.part.ranks ++ [8]).filterMap fun c => (s.temp c).map fun t => (c, t)) } }
    else s

/-- A diode with ACTION 1, or 3, that reaches its limit (R480). -/
def State.diodeWarns (s : State) (n : Nat) : Bool :=
  let a := s.get (Reg.THM_TDCFGn_ACTION n)
  decide (a = 1 ∨ a = 3) && (match s.temp (16 + n) with | none => false | some t => decide (s.tripLimit (16 + n) ≤ t))

/-- SWEEP_END: `temps` are the conversions by code. -/
def sweepEnd (s : State) (t0 : Nat) (temps : List (Option Int)) : State :=
  let s1 := ((List.range 24).foldl (storeTemp temps) s).bumpWrap Reg.THM_CNT_SWEEPS
  let s2 := (s1.put64 Reg.THM_SWEEP_LO s.ep).put Reg.THM_STAT_RUNNING 0
  let s3 := { s2 with thm := { s2.thm with running := none, again := false } }
  let s4 := if s.thm.again then demandSweep s3 else s3
  let s5 := openingSweep (staleCheck (sweepLevel s4)) t0
  let s6 := if (List.range 8).any s5.diodeWarns then s5.event evtCryo else s5
  match (List.range 24).find? s6.trips with
  | none => s6
  | some c => if s6.mode = .tripped then s6 else trip s6 c

def execSweepEnd (temps : List (Option Int)) (s : State) : Host.Outcome State Fault Refusal :=
  match s.thm.running with
  | none => .next s
  | some t0 => happen (decide (t0 + 192000 ≤ s.now)) s (sweepEnd s t0 temps)

/-! ### Registers of THM (Tables 14-6 and 14-14) -/

/-- THM_TRIP.LIMIT is brought within 85 °C and 115 °C (R480). -/
def writeTrip (s : State) (v : Word) : WriteOut :=
  if s.mode ≠ .sealed then refusedBy s 5
  else taken (s.wr Reg.THM_TRIP (BitVec.ofNat 32 (clampTo 1360 1840 (signed 16 v.toNat)).toNat))

/-- A write of THM_SCHED: the schedule counts from it. -/
def writeSched (s : State) (v : Word) : WriteOut :=
  taken { s.wr Reg.THM_SCHED (v &&& 0xFFFF) with thm := { s.thm with schedAt := s.now } }

/-- A write of CLK_PWR_CEIL: a value above the part's largest stores that (Table 04-11), and P_eff follows in the next tick (R166). -/
def writeCeil (s : State) (v : Word) : WriteOut :=
  taken (settlePeff s (s.wr Reg.CLK_PWR_CEIL (BitVec.ofNat 32 (min (wordBits v 15 0) s.part.powerCeiling))))

/-! ### Dalid mailbox commands (R372, Table 10-10) -/

/-- An EQ_REQ for a lane of a port: lane, PRE and POST. -/
def sendEqReqs (s : State) (p : Nat) (reqs : List (Nat × Nat × Nat)) : State :=
  (reqs.filter fun q => decide (q.1 / 4 = p ∧ q.1 ∈ s.enabledLanes p)).foldl (fun s q =>
    s.queueMgmt q.1 (mgmtBlock subEqReq (q.2.2 % 32 * 2 ^ 16 + q.2.1 % 16))) s

/-- The reply of TRAIN_PORT. -/
def State.trainReply (s : State) (p : Nat) : List (BitVec 8) :=
  let lanes := (List.range 4).map fun i => 4 * p + i
  bytesOf (s.portStateNow p) 4 ++ bytesOf (lanes.foldr (fun l a => (s.lane l).st.code + a * 16) 0) 4 ++
    lanes.flatMap fun l => bytesOf (s.get (Reg.DLD_LANEl_TXEQ_PRE l)) 1 ++ bytesOf (s.get (Reg.DLD_LANEl_TXEQ_MAIN l)) 1 ++
      bytesOf (s.get (Reg.DLD_LANEl_TXEQ_POST l)) 1 ++ bytesOf 0 1

/-- The tick at which the training that slot k asked for began, if it has. -/
def State.trainBegan (s : State) (k : Nat) : Option Nat :=
  match s.training with
  | some (j, t) => if j = k ∧ (s.slotOf k).postedAt ≤ t then some t else none
  | none => none

/-- A training begins: lanes in FAULT restart, and with byte 1 = 1 the MP asks the partner for coefficients. -/
def trainStart (s : State) (k p : Nat) (adapt : Bool) (reqs : List (Nat × Nat × Nat)) : State :=
  let s1 := ((s.enabledLanes p).filter fun l => decide ((s.lane l).st = .fault)).foldl restartLane s
  { (if adapt then sendEqReqs s1 p reqs else s1) with training := some (k, s.now) }

/-- A training that has begun: more requests, and the reply once the port is UP or 100 ms have passed. -/
def trainGoOn (s : State) (k wait t p : Nat) (adapt : Bool) (reqs : List (Nat × Nat × Nat)) : State :=
  if s.portIsUp p then { s with training := none }.mbxReply k wait mbOk (s.trainReply p) 0
  else if t + ticksOfMilliseconds 100 ≤ s.now then { s with training := none }.mbxReply k wait mbFailed (s.trainReply p) 0
  else if adapt then sendEqReqs s p reqs else s

/-- One step of TRAIN_PORT by the MP. -/
def trainPort (s : State) (k wait : Nat) (reqs : List (Nat × Nat × Nat)) : State :=
  let m := s.slotOf k
  let p := m.byte 0
  if m.len ≠ 2 then s.mbxReply k wait mbBadLen [] 0
  else if 4 ≤ p then s.mbxReply k wait mbFailed [] 0
  else match s.trainBegan k with
    | some t => trainGoOn s k wait t p (decide (m.byte 1 = 1)) reqs
    | none =>
      if s.portClaimed p then s.mbxReply k wait mbNotInMode [] 0 else trainStart s k p (decide (m.byte 1 = 1)) reqs

def execTrainPort (k wait : Nat) (reqs : List (Nat × Nat × Nat)) (s : State) : Host.Outcome State Fault Refusal :=
  happen (s.mbxReady k 0x0501 wait) s (trainPort s k wait reqs)

/-- EYE_SCAN: the openings that the MP measured. -/
def execEyeScan (k wait h v : Nat) (s : State) : Host.Outcome State Fault Refusal :=
  serve s k 0x0502 wait (lenIs 1) fun m =>
    if decide (m.byte 0 < 16) && (s.lane (m.byte 0)).locked then servedOk s (bytesOf h 2 ++ bytesOf v 2) else servedBad s mbFailed

def execResetPort (k wait : Nat) (s : State) : Host.Outcome State Fault Refusal :=
  serve s k 0x0503 wait (lenIs 1) fun m =>
    if 4 ≤ m.byte 0 then servedBad s mbFailed
    else if s.portClaimed (m.byte 0) then servedBad s mbNotInMode
    else servedOk (resetPort s (m.byte 0)) []

end Sys2Proof.Machine
end

