-- ==== Sys2Proof/Machine/Bar0.lean ====
section
/-!
DEFINITION. Accesses of BAR0 (00, R8, R14, R18; 01, R32, R52, R533; 02, R71-R73; 03, R104-R109): what a read returns, what a write
does, the two shadows of a requester, and every command that is a write of one register.
-/
namespace Sys2Proof.Machine

/-! ### What registers read as -/

/-- A Rank's window answers: the Rank is populated and ready, and the part is not TRIPPED (R8, R32, R52). (DEDUCED, log 23.) -/
def State.rankOpen (s : State) (r : Nat) : Bool :=
  decide (r < s.part.ranks) && decide (s.mode ≠ .tripped) && decide (s.get Reg.BRD_BOOT_RANK_READY / 2 ^ r % 2 = 1)

/-- PCI_SQ_STAT (Table 03-10). (DEDUCED, log 111.) -/
def State.sqStat (s : State) (n : Nat) : Nat :=
  let q := s.sq n
  let st :=
    if q.err.isSome then 6 else if !s.sqEn n then 0 else if q.barrier.isSome then 5
    else if q.tail = q.fetchPos then (if q.queue.any fun f => f.desc.isNone then 2 else 1)
    else if s.cqCredit (s.cqOf n) < 2 then 3 else if !s.holdRoom then 7 else 2
  st * 2 ^ 28 + q.err.getD 0 * 2 ^ 24 + min 255 (q.queue.countP fun f => f.desc.isSome) * 2 ^ 16 + q.head

/-- PCI_CQ_STAT and PCI_CQ_HEAD (Table 03-12). -/
def State.cqStat (s : State) (n : Nat) : Nat :=
  let q := s.cq n
  (if s.cqEn n then 2 ^ 28 else 0) + (if q.pass % 2 = 0 then 2 ^ 27 else 0) + q.evtLost * 2 ^ 16 + q.tail
def State.cqHead (s : State) (n : Nat) : Nat := min (s.cq n).owed 0xFFFF * 2 ^ 16 + (s.cq n).head

/-- BRD_RSET_INFO0-3 of a set (Table 11-10). -/
def RSetState.code : RSetState → Nat
  | .free => 0 | .allocating => 1 | .ready => 2 | .releasing => 3
def State.rsetInfo (s : State) (n k : Nat) : Nat :=
  let x := s.rset n
  match k with
  | 0 => x.st.code * 2 ^ 30 + (if x.through then 2 ^ 29 else 0) + x.segs
  | 1 => x.fillPos * 2 ^ 16 + x.pay
  | 2 => min 0x7FFF (x.filled.countP fun f => !f.delivered) * 2 ^ 17 + x.filled.length
  | _ => x.freeSegs - s.reservedSegs n

/-- BRD_RSET_SEL of a requester (R398). -/
def selDefault (_ : Nat) : Nat := 0
def State.selOf (s : State) (rid : Nat) : Nat := s.rsetSel.get selDefault rid

/-- A number with one register's stored word for the other bits. -/
def State.clip (s : State) (addr v : Nat) : Option Nat := some (((s.rd addr).toNat) ||| v)

/-- The Board registers whose value is not a stored word, by the base of their row: `i` is the index and `addr` the address. -/
def State.boardLive (s : State) (rid base i addr : Nat) : Option Nat :=
  if base = Reg.BRD_MODE then s.clip addr s.mode.code
  else if base = Reg.BRD_MP_LOAD then some s.mpLoad
  else if base = Reg.BRD_MP_AGE then some s.mpAge
  else if base = Reg.BRD_RS_POOL then some (poolBase s.part / 65536)
  else if base = Reg.BRD_RSET_SEL then some (s.selOf rid)
  else if base = Reg.BRD_RSET_INFO0 then some (s.rsetInfo (s.selOf rid) 0)
  else if base = Reg.BRD_RSET_INFO1 then some (s.rsetInfo (s.selOf rid) 1)
  else if base = Reg.BRD_RSET_INFO2 then some (s.rsetInfo (s.selOf rid) 2)
  else if base = Reg.BRD_RSET_INFO3 then some (s.rsetInfo (s.selOf rid) 3)
  else if base = Reg.BRD_RSET_DONE_LO then some (s.rset (s.selOf rid)).count
  else if base = Reg.BRD_RSET_DONE_HI then some ((s.rset (s.selOf rid)).count / 2 ^ 32)
  else if base = Reg.EPO_REF then s.clip addr (if s.ref10M then 1 else 0)
  else if base = Reg.EPO_ANG_STAT then
    s.clip addr (s.angleNow * 2 ^ 16 + (List.range 8).foldl (fun a n => a + if s.insideNow n then 2 ^ (8 + n) else 0) 0)
  else if base = Reg.EPO_NOW_LO then some s.epoch.toNat
  else if base = Reg.EPO_NOW_HI then some (s.epoch.toNat / 2 ^ 32)
  else if base = Reg.EPO_CAL_NOW_LO then some s.calendar
  else if base = Reg.EPO_CAL_NOW_HI then some (s.calendar / 2 ^ 32)
  else if base = Reg.EPO_CAL_RAW_LO then some s.calRaw
  else if base = Reg.EPO_CAL_RAW_HI then some (s.calRaw / 2 ^ 32)
  else if base = Reg.PCI_SQ_STAT 0 then some (s.sqStat i)
  else if base = Reg.PCI_SQ_TAIL 0 then some (s.sq i).tail
  else if base = Reg.PCI_CQ_STAT 0 then some (s.cqStat i)
  else if base = Reg.PCI_CQ_HEAD 0 then some (s.cqHead i)
  else if base = Reg.CLK_PWR_STAT then some (s.peff * 2 ^ 16 + s.powerNow)
  else if base = Reg.CLK_PWR_FLOOR then some s.part.powerFloor
  else if base = Reg.CLK_RS then some (s.part.rsCap * 2 ^ 16 + s.rsNow)
  else if base = Reg.CLK_HOST then some (s.hostCap * 2 ^ 16 + s.d2hNow)
  else if base = Reg.CLK_HOST_H2D then some s.h2dNow
  else if base = Reg.CLK_RS_FREE then some s.spaceFree
  else if base = Reg.CLK_BACKLOG then s.clip addr (min s.undecided 0xFFFF)
  else if base = Reg.CLK_TABLE then some s.boardFree
  else if base = Reg.CLK_SHARDn 0 then some (s.rankFree i * 2 ^ 16 + s.gambitFree i * 2 ^ 8)
  else if base = Reg.CAL_STAT then s.clip addr (s.calStage * 2 ^ 16)
  else if base = Reg.CAL_STORE then some s.calStore
  else if base = Reg.CAL_STORE_SEQ then some s.calStoreSeq
  else if base = Reg.CAL_SEAL then
    s.clip addr (match s.window with
      | none => 0
      | some t => if s.now < t then 2 ^ 30 + (t - s.now) / 2500000 else 0)
  else if base = Reg.MON_STAT then s.clip addr s.monStat
  else if base = Reg.SNS_CURVES then some s.curvesLoaded
  else if base = Reg.SNS_FILLc 0 then some (snsK (s.sns i).tau (s.sns i).per * 2 ^ 16 + (s.sns i).n)
  else if base = Reg.SNS_LEFTc 0 then some (s.sns i).due
  else if base = Reg.HTR_VALk 0 then some (s.heater i).code
  else none

/-- STATE of RNK_STRM_Sn (Table 06-11). -/
def Stream.code (x : Stream) : Nat := if x.starved then 2 else if !x.isOpen then 0 else if x.lastIn then 3 else 1

/-- PEND and HOLDING of a flux or bias output. -/
def rangeBits (range : Option RangeReq) (hold : Option Nat) : Nat :=
  (if range.isSome then 2 ^ 30 else 0) + (if hold.isSome then 2 ^ 29 else 0)

/-- The registers of a Rank whose value is not a stored word, by the base of their row within the window of Rank 0. -/
def State.rankLive (s : State) (r base i addr : Nat) : Option Nat :=
  if base = Reg.RNK_MRK_STAT 0 then some (s.mrkLevels r)
  else if base = Reg.RNK_STRM_Sn 0 0 then
    some ((s.stream r i).code * 2 ^ 30 + (s.stream r i).engine * 2 ^ 16 + (s.stream r i).next)
  else if base = Reg.RNK_STRM_Sn_WSEQ 0 0 then some (s.stream r i).wseq
  else if base = Reg.SE_RUN 0 then some (s.seRun r)
  else if base = Reg.SE_WAIT 0 then some (s.seWait r)
  else if base = Reg.SE_STAGE 0 then s.clip addr (s.stagingInUse r)
  else if base = Reg.SE_STATe 0 0 then some (s.seStat r i)
  else if base = Reg.SYN_SLOT_LOf 0 0 then some (s.slot r i).freq.toNat
  else if base = Reg.SYN_SLOT_HIf 0 0 then some ((s.slot r i).phofs.toNat * 2 ^ 16 + (s.slot r i).freq.toNat / 2 ^ 32)
  else if base = Reg.SYN_CHc 0 0 then
    some ((s.port r i).fslot * 2 ^ 8 + s.get (Reg.SYN_CHc_INTERP r i))
  else if base = Reg.SYN_CHSTATc 0 0 then some ((s.port r i).amp.toNat * 2 ^ 16 + (s.port r i).vph.toNat)
  else if base = Reg.FFX_CTRLk 0 0 then
    s.clip addr (rangeBits (s.ffxAt r i).range (s.ffxAt r i).hold + (s.ffxAt r i).span * 2 ^ 8)
  else if base = Reg.FFX_VALk 0 0 then some (unsigned 16 (s.ffxAt r i).x)
  else if base = Reg.BIA_CTRLk 0 0 then
    some (((s.rd addr).toNat &&& 0xFFFFF3FF) ||| (rangeBits (s.biaAt r i).range (s.biaAt r i).hold + (s.biaAt r i).span * 2 ^ 10))
  else if base = Reg.BIA_VALk 0 0 then some (unsigned 20 (s.biaAt r i).code)
  else if base = Reg.ACQ_RWSTATk 0 0 then
    s.clip addr ((if (s.rwin r i).cmd.isNone then 0 else if (s.rwin r i).openAt.isNone then 1 else 2) * 2 ^ 30)
  else if base = Reg.ACQ_TRSTATu 0 0 then
    s.clip addr ((match (s.unit r i).st with | .ready => 0 | .armed => 1 | .capturing => 2 | .rearming => 3) * 2 ^ 30)
  else none

/-- What a register reads as, for a requester. (DEDUCED, log 41; DEDUCED, log 113; DEDUCED, log 114.) -/
def State.readReg (s : State) (rid addr : Nat) : Word :=
  match regRow? addr, rankOf? addr with
  | none, _ => 0
  | some (row, i), none => match s.boardLive rid row.base i addr with | some v => BitVec.ofNat 32 v | none => s.rd addr
  | some (row, i), some (r, _) =>
    if s.rankOpen r then
      match s.rankLive r (row.base + 0x100000) i addr with | some v => BitVec.ofNat 32 v | none => s.rd addr
    else 0

/-! ### 64-bit pairs (R71-R73) -/

/-- The rows that hold the low halves of 64-bit values, Board and Rank 0. (DEDUCED, log 34.) -/
def pairLows : List Nat :=
  [Reg.BRD_MEM_INJ_ADDR_LO, Reg.BRD_RSET_DONE_LO, Reg.BRD_MEM_LOGe_RSA_LO 0, Reg.BRD_MEM_LOGe_EPOCH_LO 0,
   Reg.EPO_ALM_CMP_LOn 0, Reg.EPO_NOW_LO, Reg.EPO_LAST_IN_LO, Reg.EPO_ANG_REF_LO, Reg.EPO_CAL_NOW_LO, Reg.EPO_CAL_RAW_LO,
   Reg.EPO_CAL_OFS_LO, Reg.EPO_CAL_STEP_LO, Reg.EPO_SNAP_EPO_LO, Reg.EPO_SNAP_CAL_LO] ++
  [Reg.PCI_SQ_BASE_LO 0, Reg.PCI_CQ_BASE_LO 0, Reg.PCI_MSIXv_ADDR_LO 0, Reg.CLK_DROP_LO, Reg.CLK_ACCEPT_LO, Reg.VRD_CNT_LO,
   Reg.DLD_PORTp_PEER_LO 0, Reg.PWR_DIPLOGk_START_LO 0, Reg.THM_SWEEP_LO, Reg.TDC_START_LOc 0, Reg.TDC_RES_LOc_j 0 0,
   Reg.MON_URG_EPO_LO, Reg.MON_RESe_EPOCH_LO 0, Reg.SNS_RES_LOc 0, Reg.SNS_EPO_LOc 0, Reg.HTR_UPD_LOk 0] ++
  [Reg.SE_ISSUED_LOe 0 0, Reg.SYN_SLOT_LOf 0 0, Reg.BIA_LAST_LOk 0 0]

/-- The base of a row as `pairLows` counts it: a Rank's rows in the window of Rank 0. -/
def rowBase (row : RegRow) (addr : Nat) : Nat := if addr < 0x100000 then row.base else row.base + 0x100000

/-- The low half of the pair that an address belongs to. -/
def pairLow? (addr : Nat) : Option Nat :=
  match regRow? addr with
  | none => none
  | some (row, _) =>
    if rowBase row addr ∈ pairLows then some addr
    else if rowBase row addr - 4 ∈ pairLows then some (addr - 4)
    else none

def shadowDefault (_ : Nat) : Option Shadow := none
def State.setReadShadow (s : State) (rid : Nat) (x : Option Shadow) : State :=
  { s with readShadow := s.readShadow.set shadowDefault rid x }
def State.setWriteShadow (s : State) (rid : Nat) (x : Option Shadow) : State :=
  { s with writeShadow := s.writeShadow.set shadowDefault rid x }

/-- A 32-bit read: the state after it and the word (R71, R72). -/
def hostRead (s : State) (rid addr : Nat) : State × Word :=
  match pairLow? addr with
  | none => (s, s.readReg rid addr)
  | some lo =>
    if addr = lo then (s.setReadShadow rid (some ⟨lo, s.readReg rid (lo + 4)⟩), s.readReg rid lo)
    else match s.readShadow.get shadowDefault rid with
      | some x => if x.pair = lo then (s.setReadShadow rid none, x.word) else (s, s.readReg rid addr)
      | none => (s, s.readReg rid addr)

/-! ### What writes do -/

/-- A write refused by the mode (Table 01-4, R533): the address lies in a block whose setup writes the mode refuses. (DEDUCED, log 24.) -/
def State.modeRefuses (s : State) (addr : Nat) : Bool :=
  match rankOf? addr with
  | none => decide (0x30000 ≤ addr ∧ addr < 0xF0000) && decide (s.mode = .calibrate ∨ s.mode = .tripped)
  | some (_, off) => decide (off < 0x80000) && decide (s.mode = .standby ∨ s.mode = .calibrate)

/-- A write of CLK_CTRL (Table 04-10). (DEDUCED, log 56.) -/
def writeClkCtrl (s : State) (v : Word) : WriteOut :=
  let pct := wordBits v 15 8
  if pct < 50 ∨ 95 < pct then refusedBy s 0xB
  else
    let s1 := s.put Reg.CLK_CTRL_HOST_PCT pct
    taken (if wordBits v 0 0 = 1 then
      let s2 := ((s1.put Reg.CLK_BACKLOG_MAX_DECISION 0).wr Reg.CLK_GUARD 0).put64 Reg.CLK_DROP_LO 0
      (List.range 64).foldl (fun s k => s.wr (Reg.CLK_DECLINE_CNTk k) 0) s2
    else s1)

/-- A write of BRD_ACC_ERR: clearing FLAG starts COUNT anew (Table 03-6). (DEDUCED, log 38.) -/
def writeAccErr (s : State) (v : Word) : WriteOut :=
  taken (if wordBits v 31 31 = 1 then (s.put Reg.BRD_ACC_ERR_FLAG 0).put Reg.BRD_ACC_ERR_COUNT 0 else s)

/-- Do something if bit 0 of the written word is 1. -/
def ifClr (s : State) (v : Word) (f : State → State) : WriteOut := taken (if wordBits v 0 0 = 1 then f s else s)

/-- A write of a Board register, by the base of its row; the plain ones follow their field types. -/
def writeBoard (s : State) (rid : Nat) (row : RegRow) (i addr : Nat) (v : Word) : WriteOut :=
  let b := row.base
  if b = Reg.BRD_MODE then taken (requestCode s (wordBits v 7 4))
  else if b = Reg.BRD_EVT_EN then writeEvtEn s v
  else if b = Reg.BRD_ACC_ERR then writeAccErr s v
  else if b = Reg.BRD_MEM_CTRL then writeMemCtrl s v
  else if b = Reg.BRD_MEM_INJ then writeInject s v
  else if b = Reg.BRD_RSET_SEL then taken { s with rsetSel := s.rsetSel.set selDefault rid (wordBits v 11 0) }
  else if b = Reg.EPO_TRIM then writeEpoTrim s v
  else if b = Reg.EPO_ALM_CTRLn 0 then writeAlarmCtrl s i v
  else if b = Reg.EPO_ALM_REPn 0 then (if alarmLocked s i then refusedBy s 2 else typedWrite s row addr v)
  else if b = Reg.EPO_ANG_CFG then writeAngleCfg s false v
  else if b = Reg.EPO_ANG_ENC then writeAngleCfg s true v
  else if b = Reg.EPO_ANG_LIM then writeAngleLim s v
  else if b = Reg.EPO_AWINn 0 then writeAngleWindow s i v
  else if b = Reg.EPO_CAL_CTRL then writeCalCtrl s v
  else if b = Reg.EPO_CAL_RATE_ADJ then taken (calendarRate s v)
  else if b = Reg.EPO_SNAP_CTRL then writeSnapCtrl s v
  else if b = Reg.PCI_SQ_CFG 0 then writeSqCfg s i v
  else if b = Reg.PCI_CQ_CFG 0 then writeCqCfg s i v
  else if b = Reg.PCI_CQ_COAL 0 then writeRingPlain s (s.cqEn i) addr 0xFFFF00FF v
  else if b = Reg.PCI_MSIXv_CTRL 0 then writeMsixCtrl s i v
  else if b = Reg.CLK_CTRL then writeClkCtrl s v
  else if b = Reg.CLK_PWR_CEIL then writeCeil s v
  else if b = Reg.VRD_CTRL then ifClr s v clearVrdStats
  else if b = Reg.MSH_CTRL then writeMshCtrl s v
  else if b = Reg.MSH_RTEn 0 then writeRoute s i 0 v
  else if b = Reg.MSH_RTEn_SLOTS 0 then writeRoute s i 1 v
  else if b = Reg.MSH_SRCt 0 then writeSource s i v
  else if b = Reg.DLD_CTRL then ifClr s v clearDldStats
  else if b = Reg.DLD_PORTp_CFG 0 then writePortCfg s i v
  else if b = Reg.DLD_LANEl_TXEQ 0 then writeTxeq s i v
  else if b = Reg.CAL_CTRL then writeCalReg s addr 0x1E v
  else if b = Reg.CAL_CFG then writeCalReg s addr 0xFF v
  else if b = Reg.CAL_VREF then writeVref s v
  else if b = Reg.THM_CTRL then writeThmCtrl s v
  else if b = Reg.THM_FLOOR then writeFloor s v
  else if b = Reg.THM_TRIP then writeTrip s v
  else if b = Reg.THM_SCHED then writeSched s v
  else if b = Reg.TDC_CTRL then ifClr s v clearTdcStats
  else if b = Reg.TDC_CFGc 0 then writeTdcCfg s i v
  else if b = Reg.TDC_WINc 0 then writeTdcWin s i v
  else if b = Reg.TDC_CTRLc 0 then writeTdcCtrl s i v
  else if b = Reg.MON_CTRL then writeMonCtrl s v
  else if b = Reg.MON_URG then writeMonUrg s v
  else if b = Reg.SNS_CTRL then ifClr s v clearSnsStats
  else if b = Reg.SNS_CFGc 0 then writeSnsCfg s i v
  else if b = Reg.HTR_CTRLk 0 then writeHtrCtrl s i v
  else if b = Reg.HTR_VALk 0 then writeHtrVal s i v
  else if b = Reg.HTR_LOOPk 0 then writeHtrLoop s i v
  else typedWrite s row addr v

/-- The second index of a register of an array in two dimensions. -/
def RegRow.second (row : RegRow) (off : Nat) : Nat := (off - row.base) % row.s1 / row.s2

/-- Clear RNK_STRM_STAT (Table 06-11). -/
def clearStrmStats (s : State) (r : Nat) : State := s.wr (Reg.RNK_STRM_STAT r) 0

/-- A write of a register of a Rank, by the base of its row within the window of Rank 0. -/
def writeRank (s : State) (r : Nat) (row : RegRow) (i addr : Nat) (v : Word) : WriteOut :=
  let b := row.base + 0x100000
  if b = Reg.RNK_MRK_SKEWk 0 0 then writeSkew s r i v
  else if b = Reg.RNK_STRM_CTRL 0 then ifClr s v fun t => clearStrmStats t r
  else if b = Reg.SE_CTRL 0 then ifClr s v fun t => clearSeStats t r
  else if b = Reg.SE_CFGe 0 0 then writeSeCfg s r i (engineLoading s r i) v
  else if b = Reg.SYN_CTRL 0 then ifClr s v fun t => clearSynStats t r
  else if b = Reg.SYN_CHc 0 0 then writeInterp s r i v
  else if b = Reg.DRV_CTRLd 0 0 then writeLineCtrl s r i v
  else if b = Reg.DRV_ROTX_CTRLf 0 0 then writeLineCtrl s r (16 + i) v
  else if b = Reg.DRV_MRK_CTRL 0 then writeMrkCtrl s r v
  else if b = Reg.FFX_CTRL 0 then ifClr s v fun t => clearFfxStats t r
  else if b = Reg.FFX_CTRLk 0 0 then writeFluxCtrl s r false i v
  else if b = Reg.FFX_VALk 0 0 then writeFluxVal s r false i v
  else if b = Reg.FFX_LIMk 0 0 then writeFluxLimit s r false i v
  else if b = Reg.FFX_PD0k 0 0 then writePredistortion s r i false v
  else if b = Reg.FFX_PD1k 0 0 then writePredistortion s r i true v
  else if b = Reg.BIA_CTRL 0 then ifClr s v fun t => clearBiaStats t r
  else if b = Reg.BIA_CTRLk 0 0 then writeFluxCtrl s r true i v
  else if b = Reg.BIA_VALk 0 0 then writeFluxVal s r true i v
  else if b = Reg.BIA_LIMk 0 0 then writeFluxLimit s r true i v
  else if b = Reg.DMD_CTRL 0 then ifClr s v fun t => clearDmdStats t r
  else if b = Reg.DMD_TONEk 0 0 then writeFilt s r i v
  else if b = Reg.DMD_RXCFGf 0 0 then writeGain s r i v
  else if b = Reg.ACQ_CTRL 0 then ifClr s v fun t => clearAcqStats t r
  else if b = Reg.ACQ_RWCFGk 0 0 then writeWindowCfg s (toneClaimed s r i) addr 0xFFFF0107 v
  else if b = Reg.ACQ_RWTHRk 0 0 then writeWindowCfg s (toneClaimed s r i) addr 0x3FFFF v
  else if b = Reg.ACQ_TRCFGu 0 0 then writeWindowCfg s (traceClaimed s r i) addr 0xFFFF0007 v
  else if b = Reg.ACQ_TRPOSTu 0 0 then writeWindowCfg s (traceClaimed s r i) addr 0xFFFFFF v
  else if b = Reg.ACQ_WHDRw 0 0 then writeSetReg s r i false addr 0x3F07FF v
  else if b = Reg.ACQ_Ww_i 0 0 0 then writeSetReg s r i false addr 0xFFFFFFFF v
  else if b = Reg.ACQ_RGNd_j_CI 0 0 0 ∨ b = Reg.ACQ_RGNd_j_CQ 0 0 0 ∨ b = Reg.ACQ_RGNd_j_RAD 0 0 0 then
    writeSetReg s r i true addr 0xFFFFFF v
  else if b = Reg.ACQ_DHDRd 0 0 then writeSetReg s r i true addr 0xF v
  else typedWrite s row addr v

/-- The commit of a pair: both halves in one tick (R73). -/
def commitPair (s : State) (row : RegRow) (i lo : Nat) (low high : Word) : WriteOut :=
  let b := rowBase row lo
  if b = Reg.EPO_CAL_STEP_LO then taken (calendarStep s (low.toNat + high.toNat * 2 ^ 32))
  else if b = Reg.EPO_ALM_CMP_LOn 0 then
    (if alarmLocked s i then refusedBy s 2 else taken ((s.wr lo low).wr (lo + 4) high))
  else if b = Reg.PCI_SQ_BASE_LO 0 then
    (if s.sqEn i then refusedBy s 7 else taken ((s.wr lo (low &&& 0xFFFFF000)).wr (lo + 4) high))
  else if b = Reg.PCI_CQ_BASE_LO 0 then
    (if s.cqEn i then refusedBy s 7 else taken ((s.wr lo (low &&& 0xFFFFF000)).wr (lo + 4) high))
  else if b = Reg.SYN_SLOT_LOf 0 0 then
    (match rankOf? lo with | none => taken s | some (r, _) => writeSlot s r i low.toNat high.toNat)
  else
    let w := (typedWrite s row lo low).st
    match regRow? (lo + 4) with
    | none => taken w
    | some (top, _) => taken (typedWrite w top (lo + 4) high).st

/-- A pair that can be written. -/
def pairWritable (row : RegRow) : Bool := decide (row.rwMask ≠ 0 ∨ row.woMask ≠ 0)

/-- The commit of the pair whose low half lies at an address. -/
def commitAt (s : State) (lo : Nat) (low high : Word) : WriteOut :=
  match regRow? lo with
  | none => taken s
  | some (row, i) => if pairWritable row then commitPair s row i lo low high else taken s

/-- A write of one register after the mode has allowed it; of a pair, its commit. -/
def writeTaken (s : State) (rid addr : Nat) (low : Word) (v : Word) : WriteOut :=
  match regRow? addr with
  | none => taken s
  | some (row, i) =>
    match pairLow? addr, rankOf? addr with
    | some lo, _ => commitAt s lo low v
    | none, none => writeBoard s rid row i addr v
    | none, some (r, _) => writeRank s r row i addr v

/-- The window of an address answers: a Rank window that does not takes no write and sets no flag (R8, R32, R52). -/
def State.answers (s : State) (addr : Nat) : Bool :=
  match rankOf? addr with | none => true | some (r, _) => s.rankOpen r

/-- A write judged by the mode, then by its register. -/
def writeGated (s : State) (rid addr : Nat) (low v : Word) : WriteOut :=
  if !s.answers addr then taken s
  else if s.modeRefuses addr then refusedBy s 1
  else writeTaken s rid addr low v

/-- The low half that a requester's write shadow holds for a pair, or 0. -/
def State.heldLow (s : State) (rid lo : Nat) : Word :=
  match s.writeShadow.get shadowDefault rid with
  | none => 0
  | some x => if x.pair = lo then x.word else 0

/-- The write shadows once the high half of a pair is written: a low half of it held by the requester is gone (R73). -/
def State.emptied (s : State) (rid lo : Nat) : Table (Option Shadow) :=
  match s.writeShadow.get shadowDefault rid with
  | none => s.writeShadow
  | some x => if x.pair = lo then s.writeShadow.set shadowDefault rid none else s.writeShadow
def State.emptyShadow (s : State) (rid lo : Nat) : State := { s with writeShadow := s.emptied rid lo }

/-- A 32-bit write and the offset at which an error of it is recorded: the low half of a pair is held, its high half
commits both (R73). -/
def writeHalf (s : State) (rid addr : Nat) (v : Word) : WriteOut × Nat :=
  match pairLow? addr, regRow? addr with
  | some lo, some (row, _) =>
    if !pairWritable row then (writeGated s rid addr 0 v, addr)
    else if addr = lo then (taken (s.setWriteShadow rid (some ⟨lo, v⟩)), addr)
    else (writeGated (s.emptyShadow rid lo) rid (lo + 4) (s.heldLow rid lo) v, lo)
  | _, _ => (writeGated s rid addr 0 v, addr)

/-- A 32-bit write of the host. -/
def hostWrite (s : State) (rid addr : Nat) (v : Word) : State :=
  let w := writeHalf s rid addr v
  w.1.finish rid w.2

/-- An 8-byte access (R106): its two halves in order; one access error at most. (DEDUCED, log 37.) -/
def hostWrite8 (s : State) (rid addr : Nat) (v : BitVec 64) : State :=
  let a := (writeHalf s rid addr (BitVec.ofNat 32 v.toNat)).1
  let b := (writeHalf a.st rid (addr + 4) (BitVec.ofNat 32 (v.toNat / 2 ^ 32))).1
  match a.err, b.err with
  | some c, _ => b.st.accessError rid c addr
  | none, some c => b.st.accessError rid c addr
  | none, none => b.st
def hostRead8 (s : State) (rid addr : Nat) : State :=
  let a := hostRead s rid addr
  let b := hostRead a.1 rid (addr + 4)
  { b.1 with lastRead := BitVec.ofNat 64 (a.2.toNat + b.2.toNat * 2 ^ 32) }

/-- A 32-bit read of the host. -/
def hostRead4 (s : State) (rid addr : Nat) : State :=
  let a := hostRead s rid addr
  { a.1 with lastRead := a.2.setWidth 64 }

/-- An access of a width or alignment that R107 does not allow. (DEDUCED, log 112.) -/
def badWidth (s : State) (rid addr : Nat) (write : Bool) : State :=
  { s.accessError rid 3 addr with lastRead := if write then s.lastRead else 0 }

/-- BAR0 is 16 MiB (Table 03-4): an address beyond it does not exist. -/
def inBar0 (addr : Nat) (t : State) : Host.Outcome State Fault Refusal :=
  if addr < 2 ^ 24 then .next t else .fault .noSuchAddress

/-! ### The access commands -/

/-- REGISTER_WRITE: an address that is not aligned makes the access one of R107. -/
def execRegisterWrite (rid addr : Nat) (value : BitVec 32) (s : State) : Host.Outcome State Fault Refusal :=
  inBar0 addr (if addr % 4 = 0 then hostWrite s rid addr value else badWidth s rid addr true)

def execBar08ByteAccess (rid addr : Nat) (write : Bool) (value : BitVec 64) (s : State) :
    Host.Outcome State Fault Refusal :=
  inBar0 addr
    (if addr % 8 ≠ 0 then badWidth s rid addr write else if write then hostWrite8 s rid addr value else hostRead8 s rid addr)

def execBar0BadWidthAccess (rid addr : Nat) (write : Bool) (s : State) : Host.Outcome State Fault Refusal :=
  inBar0 addr (badWidth s rid addr write)

/-- PAIR_LOW_READ and PAIR_HIGH_READ; a register that is no half of a pair reads as it is. (DESIGN CHOICE, log 117.) -/
def execPairLowRead (rid addr : Nat) (s : State) : Host.Outcome State Fault Refusal :=
  inBar0 addr (if addr % 4 = 0 then hostRead4 s rid addr else badWidth s rid addr false)
def execPairHighRead (rid addr : Nat) (s : State) : Host.Outcome State Fault Refusal :=
  inBar0 addr (if addr % 4 = 0 then hostRead4 s rid addr else badWidth s rid addr false)
def execPairLowWrite (rid addr : Nat) (value : BitVec 32) (s : State) : Host.Outcome State Fault Refusal :=
  inBar0 addr (if addr % 4 = 0 then hostWrite s rid addr value else badWidth s rid addr true)
def execPairHighWrite (rid addr : Nat) (value : BitVec 32) (s : State) : Host.Outcome State Fault Refusal :=
  inBar0 addr (if addr % 4 = 0 then hostWrite s rid addr value else badWidth s rid addr true)

/-! ### Commands that are a write of one register -/

/-- A word with one bit set. -/
def withBit (v : Word) (b : Nat) : Word := wordSet v b b 1
/-- A word with one bit clear. -/
def withoutBit (v : Word) (b : Nat) : Word := wordSet v b b 0

def execEpoTrimWrite (rid : Nat) (value : BitVec 32) (s : State) : Host.Outcome State Fault Refusal :=
  .next (hostWrite s rid Reg.EPO_TRIM value)
def execAlarmEnable (rid n : Nat) (value : BitVec 32) (s : State) : Host.Outcome State Fault Refusal :=
  happen (decide (n < 16)) s (hostWrite s rid (Reg.EPO_ALM_CTRLn n) (withBit value 0))
def execBrdEvtEnWrite (rid : Nat) (value : BitVec 32) (s : State) : Host.Outcome State Fault Refusal :=
  .next (hostWrite s rid Reg.BRD_EVT_EN value)
def execAngleCfgWrite (rid : Nat) (enc : Bool) (value : BitVec 32) (s : State) : Host.Outcome State Fault Refusal :=
  .next (hostWrite s rid (if enc then Reg.EPO_ANG_ENC else Reg.EPO_ANG_CFG) value)
def execEpoCalStep (rid : Nat) (high : BitVec 32) (s : State) : Host.Outcome State Fault Refusal :=
  .next (hostWrite s rid Reg.EPO_CAL_STEP_HI high)
def execEpoCalRateAdj (rid : Nat) (value : BitVec 32) (s : State) : Host.Outcome State Fault Refusal :=
  .next (hostWrite s rid Reg.EPO_CAL_RATE_ADJ value)
def execSnapshotGo (rid : Nat) (value : BitVec 32) (s : State) : Host.Outcome State Fault Refusal :=
  .next (hostWrite s rid Reg.EPO_SNAP_CTRL (withBit value 0))
def execSqEnable (rid n : Nat) (value : BitVec 32) (s : State) : Host.Outcome State Fault Refusal :=
  happen (decide (n < 64)) s (hostWrite s rid (Reg.PCI_SQ_CFG n) (withBit value 31))
def execSqDisable (rid n : Nat) (s : State) : Host.Outcome State Fault Refusal :=
  happen (decide (n < 64) && s.sqEn n) s (hostWrite s rid (Reg.PCI_SQ_CFG n) 0)
def execCqEnable (rid n : Nat) (value : BitVec 32) (s : State) : Host.Outcome State Fault Refusal :=
  happen (decide (n < 64)) s (hostWrite s rid (Reg.PCI_CQ_CFG n) (withBit value 31))
def execCqDisable (rid n : Nat) (s : State) : Host.Outcome State Fault Refusal :=
  happen (decide (n < 64) && s.cqEn n) s (hostWrite s rid (Reg.PCI_CQ_CFG n) 0)
/-- RING_CFG_WRITE: the ring registers of PCI. -/
def execRingCfgWrite (rid addr : Nat) (value : BitVec 32) (s : State) : Host.Outcome State Fault Refusal :=
  happen (decide (addr % 4 = 0) && (decide (0x21000 ≤ addr ∧ addr < 0x21800) || decide (0x22000 ≤ addr ∧ addr < 0x22800))) s
    (hostWrite s rid addr value)
def execMsixUnmask (rid v : Nat) (s : State) : Host.Outcome State Fault Refusal :=
  happen (decide (v < 256)) s (hostWrite s rid (Reg.PCI_MSIXv_CTRL v) 0)
def execClkStatsClr (rid : Nat) (value : BitVec 32) (s : State) : Host.Outcome State Fault Refusal :=
  .next (hostWrite s rid Reg.CLK_CTRL (withBit value 0))
def execSeStatsClr (rid r : Nat) (s : State) : Host.Outcome State Fault Refusal :=
  happen (decide (r < 8)) s (hostWrite s rid (Reg.SE_CTRL r) 1)
def execRnkStrmClr (rid r : Nat) (s : State) : Host.Outcome State Fault Refusal :=
  happen (decide (r < 8)) s (hostWrite s rid (Reg.RNK_STRM_CTRL r) 1)
/-- The control register of a line: 0-15 the DRV lines, 16 and 17 the RO_TX, 18 the markers. -/
def lineRegister (r line : Nat) : Nat := if line = 18 then Reg.DRV_MRK_CTRL r else lineCtrl r line
def execDrvCtrlWrite (rid r line : Nat) (value : BitVec 32) (s : State) : Host.Outcome State Fault Refusal :=
  happen (decide (r < 8 ∧ line < 19)) s (hostWrite s rid (lineRegister r line) value)
def execSynStatsClr (rid r : Nat) (s : State) : Host.Outcome State Fault Refusal :=
  happen (decide (r < 8)) s (hostWrite s rid (Reg.SYN_CTRL r) 1)
def execRangeChangeRequest (rid r : Nat) (bias : Bool) (k : Nat) (value : BitVec 32) (s : State) :
    Host.Outcome State Fault Refusal :=
  happen (decide (r < 8 ∧ k < 32)) s (hostWrite s rid (if bias then Reg.BIA_CTRLk r k else Reg.FFX_CTRLk r k) value)
def execFfxStatsClr (rid r : Nat) (s : State) : Host.Outcome State Fault Refusal :=
  happen (decide (r < 8)) s (hostWrite s rid (Reg.FFX_CTRL r) 1)
def execBiaStatsClr (rid r : Nat) (s : State) : Host.Outcome State Fault Refusal :=
  happen (decide (r < 8)) s (hostWrite s rid (Reg.BIA_CTRL r) 1)
def execDmdStatsClr (rid r : Nat) (s : State) : Host.Outcome State Fault Refusal :=
  happen (decide (r < 8)) s (hostWrite s rid (Reg.DMD_CTRL r) 1)
def execAcqStatsClr (rid r : Nat) (s : State) : Host.Outcome State Fault Refusal :=
  happen (decide (r < 8)) s (hostWrite s rid (Reg.ACQ_CTRL r) 1)
/-- MSH_RTE_WRITE: word 0 or 1 of a route entry. -/
def execMshRteWrite (rid n word : Nat) (value : BitVec 32) (s : State) : Host.Outcome State Fault Refusal :=
  happen (decide (n < 64 ∧ word < 2)) s (hostWrite s rid (if word = 0 then Reg.MSH_RTEn n else Reg.MSH_RTEn_SLOTS n) value)
def execLaneEnable (rid p : Nat) (value : BitVec 32) (s : State) : Host.Outcome State Fault Refusal :=
  happen (decide (p < 4)) s (hostWrite s rid (Reg.DLD_PORTp_CFG p) value)
def execLoopSelect (rid p : Nat) (value : BitVec 32) (s : State) : Host.Outcome State Fault Refusal :=
  happen (decide (p < 4)) s (hostWrite s rid (Reg.DLD_PORTp_CFG p) value)
def execVrdStatsClr (rid : Nat) (s : State) : Host.Outcome State Fault Refusal := .next (hostWrite s rid Reg.VRD_CTRL 1)
def execMshStatsClr (rid : Nat) (value : BitVec 32) (s : State) : Host.Outcome State Fault Refusal :=
  .next (hostWrite s rid Reg.MSH_CTRL (withBit value 0))
def execDldStatsClr (rid : Nat) (s : State) : Host.Outcome State Fault Refusal := .next (hostWrite s rid Reg.DLD_CTRL 1)
def execErrorInject (rid : Nat) (value : BitVec 32) (s : State) : Host.Outcome State Fault Refusal :=
  .next (hostWrite s rid Reg.BRD_MEM_INJ (withBit value 31))
def execLogClr (rid : Nat) (s : State) : Host.Outcome State Fault Refusal := .next (hostWrite s rid Reg.BRD_MEM_CTRL 2)
def execMemStatsClr (rid : Nat) (s : State) : Host.Outcome State Fault Refusal := .next (hostWrite s rid Reg.BRD_MEM_CTRL 1)
def execTdcArm (rid c : Nat) (s : State) : Host.Outcome State Fault Refusal :=
  happen (decide (c < 8)) s (hostWrite s rid (Reg.TDC_CTRLc c) 1)
def execTdcDisarm (rid c : Nat) (s : State) : Host.Outcome State Fault Refusal :=
  happen (decide (c < 8)) s (hostWrite s rid (Reg.TDC_CTRLc c) 2)
def execTdcStatsClr (rid : Nat) (s : State) : Host.Outcome State Fault Refusal := .next (hostWrite s rid Reg.TDC_CTRL 1)
def execLoopEnable (rid k : Nat) (value : BitVec 32) (s : State) : Host.Outcome State Fault Refusal :=
  happen (decide (k < 4)) s (hostWrite s rid (Reg.HTR_CTRLk k) (withBit value 0))
def execLoopDisable (rid k : Nat) (value : BitVec 32) (s : State) : Host.Outcome State Fault Refusal :=
  happen (decide (k < 4)) s (hostWrite s rid (Reg.HTR_CTRLk k) (withoutBit value 0))
def execSnsStatsClr (rid : Nat) (s : State) : Host.Outcome State Fault Refusal := .next (hostWrite s rid Reg.SNS_CTRL 1)
def execUrgentGo (rid : Nat) (value : BitVec 32) (s : State) : Host.Outcome State Fault Refusal :=
  .next (hostWrite s rid Reg.MON_URG (withBit value 31))
def execTableRun (rid : Nat) (value : BitVec 32) (s : State) : Host.Outcome State Fault Refusal :=
  .next (hostWrite s rid Reg.MON_CTRL (withBit value 0))
def execTableStop (rid : Nat) (value : BitVec 32) (s : State) : Host.Outcome State Fault Refusal :=
  .next (hostWrite s rid Reg.MON_CTRL (withoutBit value 0))
def execSweepDemand (rid : Nat) (s : State) : Host.Outcome State Fault Refusal := .next (hostWrite s rid Reg.THM_CTRL 1)
def execFloorWrite (rid : Nat) (value : BitVec 32) (s : State) : Host.Outcome State Fault Refusal :=
  .next (hostWrite s rid Reg.THM_FLOOR value)

end Sys2Proof.Machine
end

