-- ==== Sys2Proof/Machine/Dispatch.lean ====
section
/-!
DEFINITION. One arm for each command.
-/
namespace Sys2Proof.Machine

/-- The effect of a command on everything but the queue. -/
def exec (i : Instr) (s : State) : Host.Outcome State Fault Refusal :=
  match i with
  | .registerWrite rid addr value => Sys2Proof.Machine.execRegisterWrite rid addr value s
  | .bar08ByteAccess rid addr write value => Sys2Proof.Machine.execBar08ByteAccess rid addr write value s
  | .bar0BadWidthAccess rid addr write => Sys2Proof.Machine.execBar0BadWidthAccess rid addr write s
  | .pairLowRead rid addr => Sys2Proof.Machine.execPairLowRead rid addr s
  | .pairHighRead rid addr => Sys2Proof.Machine.execPairHighRead rid addr s
  | .pairLowWrite rid addr value => Sys2Proof.Machine.execPairLowWrite rid addr value s
  | .pairHighWrite rid addr value => Sys2Proof.Machine.execPairHighWrite rid addr value s
  | .requestSetup => Sys2Proof.Machine.execRequestSetup s
  | .requestStandby => Sys2Proof.Machine.execRequestStandby s
  | .requestArmed warnOk hystOk => Sys2Proof.Machine.execRequestArmed warnOk hystOk s
  | .requestHold => Sys2Proof.Machine.execRequestHold s
  | .requestQuiesce => Sys2Proof.Machine.execRequestQuiesce s
  | .requestCalibrate warnOk => Sys2Proof.Machine.execRequestCalibrate warnOk s
  | .requestTest => Sys2Proof.Machine.execRequestTest s
  | .requestSealed => Sys2Proof.Machine.execRequestSealed s
  | .requestClear => Sys2Proof.Machine.execRequestClear s
  | .requestHoldover => Sys2Proof.Machine.execRequestHoldover s
  | .requestTripped => Sys2Proof.Machine.execRequestTripped s
  | .requestUndefinedMode code => Sys2Proof.Machine.execRequestUndefinedMode code s
  | .powerOn => Sys2Proof.Machine.execPowerOn s
  | .internalPowerGood => Sys2Proof.Machine.execInternalPowerGood s
  | .powerUpStageEnd fault mask => Sys2Proof.Machine.execPowerUpStageEnd fault mask s
  | .supplyReset rail => Sys2Proof.Machine.execSupplyReset rail s
  | .supplyWarning rail => Sys2Proof.Machine.execSupplyWarning rail s
  | .supplyRecovery => Sys2Proof.Machine.execSupplyRecovery s
  | .clrNFall => Sys2Proof.Machine.execClrNFall s
  | .clrcodeApply r k => Sys2Proof.Machine.execClrcodeApply r k s
  | .perstNAssert => Sys2Proof.Machine.execPerstNAssert s
  | .perstNRelease => Sys2Proof.Machine.execPerstNRelease s
  | .hotReset => Sys2Proof.Machine.execHotReset s
  | .functionLevelReset => Sys2Proof.Machine.execFunctionLevelReset s
  | .linkRecovery rate width flit => Sys2Proof.Machine.execLinkRecovery rate width flit s
  | .epochInEdge => Sys2Proof.Machine.execEpochInEdge s
  | .refinLoss => Sys2Proof.Machine.execRefinLoss s
  | .refinRestored => Sys2Proof.Machine.execRefinRestored s
  | .pllLocked => Sys2Proof.Machine.execPllLocked s
  | .epoTrimWrite rid value => Sys2Proof.Machine.execEpoTrimWrite rid value s
  | .alarmEnable rid n value => Sys2Proof.Machine.execAlarmEnable rid n value s
  | .alarmFire n => Sys2Proof.Machine.execAlarmFire n s
  | .brdEvtEnWrite rid value => Sys2Proof.Machine.execBrdEvtEnWrite rid value s
  | .angleReferenceEdge => Sys2Proof.Machine.execAngleReferenceEdge s
  | .angleIncrementEdge => Sys2Proof.Machine.execAngleIncrementEdge s
  | .angleStall => Sys2Proof.Machine.execAngleStall s
  | .angleCfgWrite rid enc value => Sys2Proof.Machine.execAngleCfgWrite rid enc value s
  | .angleWindowEdge n => Sys2Proof.Machine.execAngleWindowEdge n s
  | .epoCalStep rid high => Sys2Proof.Machine.execEpoCalStep rid high s
  | .epoCalRateAdj rid value => Sys2Proof.Machine.execEpoCalRateAdj rid value s
  | .disciplineWatchExpiry => Sys2Proof.Machine.execDisciplineWatchExpiry s
  | .snapshotGo rid value => Sys2Proof.Machine.execSnapshotGo rid value s
  | .snapshotCapture => Sys2Proof.Machine.execSnapshotCapture s
  | .sqEnable rid n value => Sys2Proof.Machine.execSqEnable rid n value s
  | .sqDisable rid n => Sys2Proof.Machine.execSqDisable rid n s
  | .cqEnable rid n value => Sys2Proof.Machine.execCqEnable rid n value s
  | .cqDisable rid n => Sys2Proof.Machine.execCqDisable rid n s
  | .ringCfgWrite rid addr value => Sys2Proof.Machine.execRingCfgWrite rid addr value s
  | .sqTailDoorbell rid n value => Sys2Proof.Machine.execSqTailDoorbell rid n value s
  | .cqHeadDoorbell rid n value => Sys2Proof.Machine.execCqHeadDoorbell rid n value s
  | .descriptorFetch sq slots barrier => Sys2Proof.Machine.execDescriptorFetch sq slots barrier s
  | .descriptorArrival sq uid base ext => Sys2Proof.Machine.execDescriptorArrival sq uid base ext s
  | .fetchError sq uid kind => Sys2Proof.Machine.execFetchError sq uid kind s
  | .shot sq => Sys2Proof.Machine.execShot sq s
  | .gangPrepare r => Sys2Proof.Machine.execGangPrepare r s
  | .gangCommit => Sys2Proof.Machine.execGangCommit s
  | .abort sq => Sys2Proof.Machine.execAbort sq s
  | .nopDescriptor sq => Sys2Proof.Machine.execNopDescriptor sq s
  | .loadMicro sq image => Sys2Proof.Machine.execLoadMicro sq image s
  | .loadNano sq image => Sys2Proof.Machine.execLoadNano sq image s
  | .loadCache sq image => Sys2Proof.Machine.execLoadCache sq image s
  | .loadComplete uid kinds => Sys2Proof.Machine.execLoadComplete uid kinds s
  | .streamWindow sq data => Sys2Proof.Machine.execStreamWindow sq data s
  | .recordSetAlloc sq => Sys2Proof.Machine.execRecordSetAlloc sq s
  | .recordSetReady uid pages => Sys2Proof.Machine.execRecordSetReady uid pages s
  | .recordSetRecycle sq => Sys2Proof.Machine.execRecordSetRecycle sq s
  | .recycleDone uid => Sys2Proof.Machine.execRecycleDone uid s
  | .release sq => Sys2Proof.Machine.execRelease sq s
  | .releaseDone uid => Sys2Proof.Machine.execReleaseDone uid s
  | .finalEntry uid => Sys2Proof.Machine.execFinalEntry uid s
  | .coalesceTimeout n => Sys2Proof.Machine.execCoalesceTimeout n s
  | .msixUnmask rid v => Sys2Proof.Machine.execMsixUnmask rid v s
  | .mailboxPost k seq cmd len expire opt payload => Sys2Proof.Machine.execMailboxPost k seq cmd len expire opt payload s
  | .mailboxCancel k => Sys2Proof.Machine.execMailboxCancel k s
  | .mailboxExpire k => Sys2Proof.Machine.execMailboxExpire k s
  | .echo k wait => Sys2Proof.Machine.execEcho k wait s
  | .version k wait => Sys2Proof.Machine.execVersion k wait s
  | .shotStart uid => Sys2Proof.Machine.execShotStart uid s
  | .engineLead r e => Sys2Proof.Machine.execEngineLead r e s
  | .spanFence uid => Sys2Proof.Machine.execSpanFence uid s
  | .abortEpoch uid => Sys2Proof.Machine.execAbortEpoch uid s
  | .endOfShot uid => Sys2Proof.Machine.execEndOfShot uid s
  | .claimRelease uid => Sys2Proof.Machine.execClaimRelease uid s
  | .failureNotice uid r => Sys2Proof.Machine.execFailureNotice uid r s
  | .clkStatsClr rid value => Sys2Proof.Machine.execClkStatsClr rid value s
  | .nop r e => Sys2Proof.Machine.execNop r e s
  | .play r e => Sys2Proof.Machine.execPlay r e s
  | .jmp r e => Sys2Proof.Machine.execJmp r e s
  | .call r e => Sys2Proof.Machine.execCall r e s
  | .ret r e => Sys2Proof.Machine.execRet r e s
  | .ldc r e => Sys2Proof.Machine.execLdc r e s
  | .loop r e => Sys2Proof.Machine.execLoop r e s
  | .addc r e => Sys2Proof.Machine.execAddc r e s
  | .test r e => Sys2Proof.Machine.execTest r e s
  | .varm r e => Sys2Proof.Machine.execVarm r e s
  | .stagingComplete r e latch => Sys2Proof.Machine.execStagingComplete r e latch s
  | .brv r e => Sys2Proof.Machine.execBrv r e s
  | .brvEnd r e => Sys2Proof.Machine.execBrvEnd r e s
  | .brvTimeout r e => Sys2Proof.Machine.execBrvTimeout r e s
  | .waita r e => Sys2Proof.Machine.execWaita r e s
  | .waitw r e => Sys2Proof.Machine.execWaitw r e s
  | .waitEnd r e => Sys2Proof.Machine.execWaitEnd r e s
  | .waitTimeout r e => Sys2Proof.Machine.execWaitTimeout r e s
  | .quiet r e => Sys2Proof.Machine.execQuiet r e s
  | .stop r e => Sys2Proof.Machine.execStop r e s
  | .nanowordApply r e => Sys2Proof.Machine.execNanowordApply r e s
  | .portStart r p => Sys2Proof.Machine.execPortStart r p s
  | .portJump r p => Sys2Proof.Machine.execPortJump r p s
  | .portHalt r p => Sys2Proof.Machine.execPortHalt r p s
  | .portModify r p => Sys2Proof.Machine.execPortModify r p s
  | .segmentCommit r p => Sys2Proof.Machine.execSegmentCommit r p s
  | .microTrap r e nano addr due => Sys2Proof.Machine.execMicroTrap r e nano addr due s
  | .trapRetryEnd r e => Sys2Proof.Machine.execTrapRetryEnd r e s
  | .streamMissing r n => Sys2Proof.Machine.execStreamMissing r n s
  | .cacheRewrite r word => Sys2Proof.Machine.execCacheRewrite r word s
  | .streamWindowEnd uid => Sys2Proof.Machine.execStreamWindowEnd uid s
  | .streamReadFailure uid first count => Sys2Proof.Machine.execStreamReadFailure uid first count s
  | .seStatsClr rid r => Sys2Proof.Machine.execSeStatsClr rid r s
  | .rnkStrmClr rid r => Sys2Proof.Machine.execRnkStrmClr rid r s
  | .drvCtrlWrite rid r line value => Sys2Proof.Machine.execDrvCtrlWrite rid r line value s
  | .lineSettingEffect r line => Sys2Proof.Machine.execLineSettingEffect r line s
  | .fscSettleEnd r line => Sys2Proof.Machine.execFscSettleEnd r line s
  | .slotEffect r f => Sys2Proof.Machine.execSlotEffect r f s
  | .interpEffect r c => Sys2Proof.Machine.execInterpEffect r c s
  | .synStatsClr rid r => Sys2Proof.Machine.execSynStatsClr rid r s
  | .calibrationStageEnd six meas results => Sys2Proof.Machine.execCalibrationStageEnd six meas results s
  | .calibrationEnd => Sys2Proof.Machine.execCalibrationEnd s
  | .rangeChangeRequest rid r bias k value => Sys2Proof.Machine.execRangeChangeRequest rid r bias k value s
  | .rangeHoldBegin r bias k => Sys2Proof.Machine.execRangeHoldBegin r bias k s
  | .rangeHoldEnd r bias k => Sys2Proof.Machine.execRangeHoldEnd r bias k s
  | .ffxValEffect r k => Sys2Proof.Machine.execFfxValEffect r k s
  | .biaValEffect r k => Sys2Proof.Machine.execBiaValEffect r k s
  | .limitEffect r bias k => Sys2Proof.Machine.execLimitEffect r bias k s
  | .predistortionEffect r k => Sys2Proof.Machine.execPredistortionEffect r k s
  | .ffxStatsClr rid r => Sys2Proof.Machine.execFfxStatsClr rid r s
  | .biaStatsClr rid r => Sys2Proof.Machine.execBiaStatsClr rid r s
  | .filtEffect r k => Sys2Proof.Machine.execFiltEffect r k s
  | .gainEffect r f => Sys2Proof.Machine.execGainEffect r f s
  | .resultWindowArm r k => Sys2Proof.Machine.execResultWindowArm r k s
  | .windowOpen r k unit => Sys2Proof.Machine.execWindowOpen r k unit s
  | .forcedTrigger r k unit => Sys2Proof.Machine.execForcedTrigger r k unit s
  | .integrationEnd r k ue => Sys2Proof.Machine.execIntegrationEnd r k ue s
  | .verdictOnFabric r k => Sys2Proof.Machine.execVerdictOnFabric r k s
  | .routeEnqueue r k => Sys2Proof.Machine.execRouteEnqueue r k s
  | .verdictDelivery r k => Sys2Proof.Machine.execVerdictDelivery r k s
  | .captureEnd r u => Sys2Proof.Machine.execCaptureEnd r u s
  | .traceRearm r u => Sys2Proof.Machine.execTraceRearm r u s
  | .recordDelivery set => Sys2Proof.Machine.execRecordDelivery set s
  | .streamThroughDrainEnd set lost => Sys2Proof.Machine.execStreamThroughDrainEnd set lost s
  | .dmdStatsClr rid r => Sys2Proof.Machine.execDmdStatsClr rid r s
  | .acqStatsClr rid r => Sys2Proof.Machine.execAcqStatsClr rid r s
  | .blockTransmit l => Sys2Proof.Machine.execBlockTransmit l s
  | .verdictBlockReceived l block => Sys2Proof.Machine.execVerdictBlockReceived l block s
  | .routeForward n => Sys2Proof.Machine.execRouteForward n s
  | .routedDelivery n => Sys2Proof.Machine.execRoutedDelivery n s
  | .lossCapture n => Sys2Proof.Machine.execLossCapture n s
  | .frameTransmit l => Sys2Proof.Machine.execFrameTransmit l s
  | .epochCheckSend l => Sys2Proof.Machine.execEpochCheckSend l s
  | .portIdSend l => Sys2Proof.Machine.execPortIdSend l s
  | .comma l body => Sys2Proof.Machine.execComma l body s
  | .idle l fill => Sys2Proof.Machine.execIdle l fill s
  | .epochCheck l data => Sys2Proof.Machine.execEpochCheck l data s
  | .portId l data => Sys2Proof.Machine.execPortId l data s
  | .eqReq l data => Sys2Proof.Machine.execEqReq l data s
  | .eqAck l data => Sys2Proof.Machine.execEqAck l data s
  | .lossLo l data => Sys2Proof.Machine.execLossLo l data s
  | .lossHi l data => Sys2Proof.Machine.execLossHi l data s
  | .clockRecovered l => Sys2Proof.Machine.execClockRecovered l s
  | .blockLock l => Sys2Proof.Machine.execBlockLock l s
  | .frameLock l => Sys2Proof.Machine.execFrameLock l s
  | .lockLoss l => Sys2Proof.Machine.execLockLoss l s
  | .faultRetry l => Sys2Proof.Machine.execFaultRetry l s
  | .mshRteWrite rid n word value => Sys2Proof.Machine.execMshRteWrite rid n word value s
  | .laneEnable rid p value => Sys2Proof.Machine.execLaneEnable rid p value s
  | .loopSelect rid p value => Sys2Proof.Machine.execLoopSelect rid p value s
  | .txeqEffect l => Sys2Proof.Machine.execTxeqEffect l s
  | .vrdStatsClr rid => Sys2Proof.Machine.execVrdStatsClr rid s
  | .mshStatsClr rid value => Sys2Proof.Machine.execMshStatsClr rid value s
  | .dldStatsClr rid => Sys2Proof.Machine.execDldStatsClr rid s
  | .trainPort k wait reqs => Sys2Proof.Machine.execTrainPort k wait reqs s
  | .eyeScan k wait h v => Sys2Proof.Machine.execEyeScan k wait h v s
  | .resetPort k wait => Sys2Proof.Machine.execResetPort k wait s
  | .scrubRead => Sys2Proof.Machine.execScrubRead s
  | .scrubPassEnd => Sys2Proof.Machine.execScrubPassEnd s
  | .errorInject rid value => Sys2Proof.Machine.execErrorInject rid value s
  | .logClr rid => Sys2Proof.Machine.execLogClr rid s
  | .memStatsClr rid => Sys2Proof.Machine.execMemStatsClr rid s
  | .triggerEdge n rising => Sys2Proof.Machine.execTriggerEdge n rising s
  | .tdcArm rid c => Sys2Proof.Machine.execTdcArm rid c s
  | .tdcDisarm rid c => Sys2Proof.Machine.execTdcDisarm rid c s
  | .tdcStart c f => Sys2Proof.Machine.execTdcStart c f s
  | .tdcStop c f => Sys2Proof.Machine.execTdcStop c f s
  | .tdcWindowClose c => Sys2Proof.Machine.execTdcWindowClose c s
  | .tdcPost c => Sys2Proof.Machine.execTdcPost c s
  | .tdcStatsClr rid => Sys2Proof.Machine.execTdcStatsClr rid s
  | .sensorPeriodBoundary c cmClear compClear => Sys2Proof.Machine.execSensorPeriodBoundary c cmClear compClear s
  | .sensorPost c xR xX big => Sys2Proof.Machine.execSensorPost c xR xX big s
  | .heaterCodeEffect k => Sys2Proof.Machine.execHeaterCodeEffect k s
  | .sensorFault c cm mv => Sys2Proof.Machine.execSensorFault c cm mv s
  | .noSensor k => Sys2Proof.Machine.execNoSensor k s
  | .loopEnable rid k value => Sys2Proof.Machine.execLoopEnable rid k value s
  | .loopDisable rid k value => Sys2Proof.Machine.execLoopDisable rid k value s
  | .htrValEffect k => Sys2Proof.Machine.execHtrValEffect k s
  | .heaterCompliance k bad => Sys2Proof.Machine.execHeaterCompliance k bad s
  | .snsStatsClr rid => Sys2Proof.Machine.execSnsStatsClr rid s
  | .monitorSlotEnd sample clip mp => Sys2Proof.Machine.execMonitorSlotEnd sample clip mp s
  | .urgentGo rid value => Sys2Proof.Machine.execUrgentGo rid value s
  | .tableRun rid value => Sys2Proof.Machine.execTableRun rid value s
  | .tableStop rid value => Sys2Proof.Machine.execTableStop rid value s
  | .curveWrite k wait => Sys2Proof.Machine.execCurveWrite k wait s
  | .curveCommit k wait => Sys2Proof.Machine.execCurveCommit k wait s
  | .curveRead k wait => Sys2Proof.Machine.execCurveRead k wait s
  | .curveSave k wait ok => Sys2Proof.Machine.execCurveSave k wait ok s
  | .curveClear k wait => Sys2Proof.Machine.execCurveClear k wait s
  | .sealFitted => Sys2Proof.Machine.execSealFitted s
  | .sealRemoved => Sys2Proof.Machine.execSealRemoved s
  | .presencePress => Sys2Proof.Machine.execPresencePress s
  | .presenceWindowExpiry => Sys2Proof.Machine.execPresenceWindowExpiry s
  | .fwInfo k wait => Sys2Proof.Machine.execFwInfo k wait s
  | .fwWrite k wait ok => Sys2Proof.Machine.execFwWrite k wait ok s
  | .fwCommit k wait ok => Sys2Proof.Machine.execFwCommit k wait ok s
  | .flashRead k wait => Sys2Proof.Machine.execFlashRead k wait s
  | .calInfo k wait => Sys2Proof.Machine.execCalInfo k wait s
  | .calCommit k wait ok => Sys2Proof.Machine.execCalCommit k wait ok s
  | .calTableRead k wait => Sys2Proof.Machine.execCalTableRead k wait s
  | .calTableWrite k wait => Sys2Proof.Machine.execCalTableWrite k wait s
  | .mpLoad k wait => Sys2Proof.Machine.execMpLoad k wait s
  | .tripLogRead k wait => Sys2Proof.Machine.execTripLogRead k wait s
  | .tripLogErase k wait => Sys2Proof.Machine.execTripLogErase k wait s
  | .sweepDemand rid => Sys2Proof.Machine.execSweepDemand rid s
  | .scheduledSweep => Sys2Proof.Machine.execScheduledSweep s
  | .sweepBackstop => Sys2Proof.Machine.execSweepBackstop s
  | .sweepEnd temps => Sys2Proof.Machine.execSweepEnd temps s
  | .throttleReaches7 => Sys2Proof.Machine.execThrottleReaches7 s
  | .throttleFallsBelow7 => Sys2Proof.Machine.execThrottleFallsBelow7 s
  | .floorWrite rid value => Sys2Proof.Machine.execFloorWrite rid value s
  | .dmaStop => Sys2Proof.Machine.execDmaStop s
  | .tripLogAppend => Sys2Proof.Machine.execTripLogAppend s
  | .transitionComplete => Sys2Proof.Machine.execTransitionComplete s
  | .busMasterEnableWrite enable => Sys2Proof.Machine.execBusMasterEnableWrite enable s
  | .badSyncHeader l => Sys2Proof.Machine.execBadSyncHeader l s
  | .unknownControlBlock l => Sys2Proof.Machine.execUnknownControlBlock l s

end Sys2Proof.Machine
end

