-- ==== Sys2Proof/Machine/Tick.lean ====
section
/-!
DEFINITION. The passing of one tick of 0.4 ns, which is what a step does when no command waits: first what plays and is received in
the tick that ends, then the epoch and what begins with the next tick without a command.
-/
namespace Sys2Proof.Machine

/-- What plays, drops and is received in the tick that ends, and the angle windows left or entered in it. -/
def playTick (s : State) : State := noteWindows (receiveAll (dropMarkers (playFluxPaths (playLines (playPorts s)))))

/-- The stamps of the last five frame ticks are kept for windows that open late (R404). (DEDUCED, log 79.) -/
def noteFrame (s : State) : State :=
  if s.frameTick then { s with frameStamps := ((s.epoch.toNat, s.stamp) :: s.frameStamps).take 5 } else s

/-- What begins with a tick: the calendar and the angle, the tick after a CLR_N, stamps of frame ticks, channel states, segment
boundaries, FRAME entries, and what comes to the balls of the engines. -/
def beginTick (s : State) : State :=
  pollStops (engineBalls (applyFrames (crossBoundaries (initChannels (noteFrame (clearNext (tickAngle (tickCalendar s))))))))

/-- One tick: before the epoch has begun to count, only the model's own count advances. -/
def tick (s : State) : State :=
  if s.epochOn then beginTick { (playTick s) with now := s.now + 1, epoch := s.epoch + 1 }
  else clearNext { s with now := s.now + 1 }

end Sys2Proof.Machine
end

