-- ==== Sys2Proof/Safety.lean ====
section
/-!
DEFINITION. What a state of the part keeps in every step, what it means that a command completes, and the words in which statements
say what a command leaves unchanged.
-/
namespace Sys2Proof.Machine

/-- The registers and the addressed stores (the Record Store, the micro stores, the nano stores and the waveform caches) are in
canonical form: addresses strictly rising, and no entry equal to what an unlisted address reads as. -/
structure State.canonical (s : State) : Prop where
  regs : Table.wf (regReset s.part) s.regs = true
  mem : Table.wf wordDefault s.mem = true
  micro : Table.wf microDefault s.micro = true
  nano : Table.wf nanoDefault s.nano = true
  cache : Table.wf microDefault s.cache = true

/-- A command completes: it answers a next state, of which something holds. -/
def Completes (c : Instr) (s : State) (p : State → Prop) : Prop := ∃ t, exec c s = .next t ∧ p t

/-- Two fields share no bit. -/
abbrev Fld.apart (f g : Fld) : Prop := f.addr ≠ g.addr ∨ g.hi < f.lo ∨ f.hi < g.lo

/-- From s to t no register field changes but those of a list: a field that shares no bit with any of them reads as before. -/
def State.keepsFlds (s t : State) (l : List Fld) : Prop := ∀ f : Fld, (∀ g ∈ l, g.apart f) → t.get f = s.get f

/-- From s to t the fields of a list become 0 and nothing else changes, in the registers or elsewhere. -/
def State.clears (s t : State) (l : List Fld) : Prop :=
  (∀ f ∈ l, t.get f = 0) ∧ s.keepsFlds t l ∧ t = { s with regs := t.regs }

/-- A BRD_EVT bit. -/
def evtFld (bit : Nat) : Fld := ⟨Reg.BRD_EVT, bit, bit⟩

/-- The register fields that an event may change: its BRD_EVT bit and the Pending Bit of vector 0 (R110, R135). -/
def evtFlds (bit : Nat) : List Fld := [evtFld bit, pendingBit 0]

/-- From s to t only registers and the messages to the host change. -/
def State.onlyHost (s t : State) : Prop := t = { s with regs := t.regs, posted := t.posted, holding := t.holding }

/-- The register fields that an access error may change: BRD_ACC_ERR, BRD_ACC_ADDR and its event. -/
def accFlds : List Fld := [whole Reg.BRD_ACC_ERR, whole Reg.BRD_ACC_ADDR] ++ evtFlds evtAccess

/-- A write of setup registers is allowed by the mode: of the Board, and of a Rank that answers (Table 01-4, R52). -/
def State.boardOpen (s : State) : Prop := s.mode ≠ .calibrate ∧ s.mode ≠ .tripped
def State.rankWritable (s : State) (r : Nat) : Prop := s.rankOpen r = true ∧ s.mode ≠ .standby ∧ s.mode ≠ .calibrate

/-- The register fields that a change of the mode writes (Tables 01-5 and 01-6, R534, R110). -/
def modeFlds : List Fld :=
  [Reg.BRD_MODE_PREV, Reg.BRD_MODE_HOLD_HOST, Reg.BRD_MODE_HOLD_THROTTLE, Reg.BRD_MODE_LAST_COUNT, Reg.BRD_MODE_LAST_TO,
    Reg.BRD_MODE_LAST_FROM, Reg.BRD_MODE_LAST_EVENT] ++ evtFlds evtMode

/-- From s to t the mode changes to m by a row of Table 01-8: PREV and BRD_MODE_LAST tell it, and the event MODE is set. -/
def State.changesMode (s t : State) (m : Mode) (row : Nat) : Prop :=
  t.mode = m ∧ t.get Reg.BRD_MODE_PREV = s.mode.code ∧ t.get Reg.BRD_MODE_LAST_TO = m.code ∧
    t.get Reg.BRD_MODE_LAST_FROM = s.mode.code ∧ t.get Reg.BRD_MODE_LAST_EVENT = row ∧
    t.get Reg.BRD_MODE_LAST_COUNT = (s.get Reg.BRD_MODE_LAST_COUNT + 1) % 65536 ∧ t.get (evtFld evtMode) = 1

/-- From s to t nothing changes but the mode, registers and messages to the host. -/
def State.onlyMode (s t : State) : Prop := t = { s with mode := t.mode, regs := t.regs, posted := t.posted, holding := t.holding }

/-- Power-up is complete and no requested transition is in progress: a mode request is judged by Table 01-8 (R34, R52). -/
def State.requestable (s : State) : Prop := s.get Reg.BRD_MODE_BUSY = 0 ∧ s.get Reg.BRD_BOOT_STAGE = 0xF

/-- The request changes the mode, reports 0 and does nothing else. -/
def State.grants (s t : State) (m : Mode) (row : Nat) : Prop :=
  s.changesMode t m row ∧ t.get Reg.BRD_MODE_REQ_RESULT = 0 ∧ s.keepsFlds t (Reg.BRD_MODE_REQ_RESULT :: modeFlds) ∧
    s.onlyMode t

/-- From s to t nothing changes but registers. -/
def State.onlyRegs (s t : State) : Prop := t = { s with regs := t.regs }

/-! ### Completion entries and decisions -/

/-- Messages to the host go out at once (R100, R481). -/
def State.deliverable (s : State) : Prop := s.busMaster = true ∧ s.holding = [] ∧ s.dmaStopped = false

/-- The vector of a CQ. -/
def State.vectorOf (s : State) (n : Nat) : Nat := s.get (Reg.PCI_CQ_CFG_VECTOR n)

/-- From s to t one completion entry goes to CQ n, bytes 8-31 before bytes 0-7 (R117): the phase is that of the pass, the tail advances
(R116), and k of the entries owed are paid. What follows are messages of the CQ's vector. -/
def State.entryTo (s t : State) (n k kind status sq detail tag flags stamp : Nat) : Prop :=
  (∃ l, (∀ p ∈ l, p = Posted.msix (s.vectorOf n)) ∧
    t.posted = l ++ [Posted.mem (s.cqSlotAddr n) 8 (entryLow (decide ((s.cq n).pass % 2 = 0)) kind status sq detail tag flags),
      Posted.mem (s.cqSlotAddr n + 8) 24 stamp] ++ s.posted) ∧
  (t.cq n).tail = (if (s.cq n).tail + 1 = s.cqSize n then 0 else (s.cq n).tail + 1) ∧
  (t.cq n).owed = (s.cq n).owed - k ∧ (t.cq n).head = (s.cq n).head ∧ ∀ m, m ≠ n → t.cq m = s.cq m

/-- From s to t a descriptor leaves the front of its SQ and its admission entry says ACCEPTED, with DETAIL 0xF and the stamp of the
decision (R153, Table 03-17); CLK_ACCEPT counts it, and one entry is still owed. -/
def State.accepts (s t : State) (d : Desc) : Prop :=
  s.entryTo t (s.cqOf d.sq) 1 1 0 d.sq 0xF d.tag 0 s.stamp ∧
  t.sq d.sq = { s.sq d.sq with queue := (s.sq d.sq).queue.drop 1 } ∧ (∀ m, m ≠ d.sq → t.sq m = s.sq m) ∧
  t.get64 Reg.CLK_ACCEPT_LO = (s.get64 Reg.CLK_ACCEPT_LO + 1) % 2 ^ 64

/-- The register fields that an acceptance changes. -/
def State.acceptFlds (s : State) (d : Desc) : List Fld :=
  [Reg.CLK_BACKLOG_MAX_DECISION, whole Reg.CLK_ACCEPT_LO, whole (Reg.CLK_ACCEPT_LO + 4), pendingBit (s.vectorOf (s.cqOf d.sq))]

/-- From s to t only registers, messages to the host and the rings change. -/
def State.onlyRings (s t : State) : Prop := t = { s with regs := t.regs, posted := t.posted, sqs := t.sqs, cqs := t.cqs }

/-- From s to t a descriptor leaves the front of its SQ and its admission entry declines it with a code and a shard; no final entry
follows (R124), the Clock's registers record it, and a barrier of it ends (R127). Nothing else changes. -/
def State.declines (s t : State) (d : Desc) (code shard : Nat) : Prop :=
  s.entryTo t (s.cqOf d.sq) 2 1 code d.sq shard d.tag 0 s.stamp ∧
  t.sq d.sq = { s.sq d.sq with
    queue := (s.sq d.sq).queue.drop 1, barrier := if (s.sq d.sq).barrier = some d.uid then none else (s.sq d.sq).barrier } ∧
  (∀ m, m ≠ d.sq → t.sq m = s.sq m) ∧
  (t.rd (Reg.CLK_DECLINE_CNTk (code - 0x40))).toNat = min ((s.rd (Reg.CLK_DECLINE_CNTk (code - 0x40))).toNat + 1) 0xFFFFFFFF ∧
  t.rd Reg.CLK_LAST_DECLINE = BitVec.ofNat 32 (code * 2 ^ 24 + d.sq * 2 ^ 16 + d.tag) ∧
  s.keepsFlds t [Reg.CLK_BACKLOG_MAX_DECISION, whole (Reg.CLK_DECLINE_CNTk (code - 0x40)), whole Reg.CLK_LAST_DECLINE,
    pendingBit (s.vectorOf (s.cqOf d.sq))] ∧
  s.onlyRings t

/-- From s to t the final entry of a descriptor goes out with a status, DETAIL, FLAGS and stamp, and a barrier of it ends (R127). -/
def State.finishes (s t : State) (d : Desc) (status detail flags stamp : Nat) : Prop :=
  s.entryTo t (s.cqOf d.sq) 1 2 status d.sq detail d.tag flags stamp ∧
  t.sq d.sq = { s.sq d.sq with barrier := if (s.sq d.sq).barrier = some d.uid then none else (s.sq d.sq).barrier } ∧
  ∀ m, m ≠ d.sq → t.sq m = s.sq m

/-- The FLAGS of a final entry: LATE_DELIVERY beside the others when R26's limit has passed (R100). -/
def State.finalFlags (s : State) (flags : List Nat) (endAt : Nat) : Nat :=
  flagWord (if endAt + 5000 < s.now then flLate :: flags else flags)

/-! ### Microwords -/

/-- An engine may issue the microword w at its PC, of operation op: it runs, its issue tick has come, the word is legal and not poisoned,
no stop of its shot falls on this boundary, and no fallback applies to it. -/
def State.mayIssue (s : State) (r e op : Nat) (w : BitVec 32) : Prop :=
  s.issues r e op = true ∧ s.microWord r e (s.engine r e).pc = ⟨w, false⟩ ∧ mwOp w = op ∧ mwLegal w = true ∧
    stopsAtBoundary s (s.engine r e).shot ((s.engine r e).nextIssue + s.engineL r e) = false ∧ fallbackAt s r (s.engine r e) = none

/-- Engine e of Rank r becomes g; no other engine changes, and of the registers only its count of issued microwords, by one. -/
def State.issued (s t : State) (r e : Nat) (g : Engine) : Prop :=
  t.engine r e = g ∧ (∀ r' e', e' < 24 → (r', e') ≠ (r, e) → t.engine r' e' = s.engine r' e') ∧
    t.get64 (Reg.SE_ISSUED_LOe r e) = (s.get64 (Reg.SE_ISSUED_LOe r e) + 1) % 2 ^ 64

/-- The registers that an issue writes. -/
def issueFlds (r e : Nat) : List Fld := [whole (Reg.SE_ISSUED_LOe r e), whole (Reg.SE_ISSUED_LOe r e + 4)]

/-- From s to t a microword w of an engine is issued and done: the micro-state becomes that of g, the next issue tick is the word's cycle
length of (HOLD + 1) 4^SCALE ticks later (R183, R185), and a list of acts comes to the balls L ticks after the issue tick (R180). -/
def State.issuesTo (s t : State) (r e : Nat) (w : BitVec 32) (g : Engine) (acts : List BallAct) : Prop :=
  let i := (s.engine r e).nextIssue
  s.issued t r e { g with
    cur := (s.engine r e).pc, phase := .run, nextIssue := i + (wordBits w 5 0 + 1) * 4 ^ wordBits w 7 6,
    balls := (s.engine r e).balls ++ acts.map fun a => ⟨i + s.engineL r e, a⟩ } ∧
  s.keepsFlds t (issueFlds r e) ∧ t = { s with regs := t.regs, engines := t.engines }

/-- From s to t a microword raises a fault: the engine issues nothing more, and the fault comes to the balls L ticks later (R209). -/
def State.faultsTo (s t : State) (r e code : Nat) (g : Engine) : Prop :=
  s.issued t r e { g with
    cur := (s.engine r e).pc, phase := .run, halted := true,
    balls := (s.engine r e).balls ++ [⟨(s.engine r e).nextIssue + s.engineL r e, .fault code (s.engine r e).pc⟩] } ∧
  s.keepsFlds t (issueFlds r e) ∧ t = { s with regs := t.regs, engines := t.engines }

/-- From s to t a microword begins a wait for T ticks of (HOLD + 1) 4^SCALE 16 (R202). -/
def State.waitsTo (s t : State) (r e : Nat) (w : BitVec 32) (what : WaitFor) : Prop :=
  let g := s.engine r e
  s.issued t r e { g with
    cur := g.pc, phase := .wait, wait := some ⟨what, g.nextIssue, g.nextIssue + (wordBits w 5 0 + 1) * 4 ^ wordBits w 7 6 * 16⟩,
    balls := g.balls ++ [⟨g.nextIssue + s.engineL r e, .boundary⟩] } ∧
  s.keepsFlds t (issueFlds r e) ∧ t = { s with regs := t.regs, engines := t.engines }

/-- An engine polls in this tick the thing that its wait w is for, no stop of its shot falls on this boundary, and no fallback was taken
when the wait began. -/
def State.atPoll (s : State) (r e : Nat) (w : Wait) : Prop :=
  r < s.part.ranks ∧ e < 24 ∧ (s.engine r e).phase = .wait ∧ (s.engine r e).halted = false ∧ s.epoch.toNat % 4 = 0 ∧
    (s.engine r e).trapClear s.epoch.toNat = true ∧ (s.engine r e).wait = some w ∧ w.since ≤ s.epoch.toNat ∧
    stopsAtBoundary s (s.engine r e).shot (s.epoch.toNat + s.engineL r e) = false ∧
    ∀ f ∈ (s.engine r e).fallbacks, f.chosen = false

/-- From s to t the wait of an engine ends at this poll tick P: it becomes g, and its next issue tick is P + 8 (R200, R206). Boundaries of
poll ticks that have passed may come to the balls. -/
def State.endsWait (s t : State) (r e : Nat) (g : Engine) : Prop :=
  (∃ l : List Ball, (∀ b ∈ l, b.act = .boundary) ∧ t.engine r e = { g with
    phase := .run, wait := none, nextIssue := s.epoch.toNat + 8, balls := (s.engine r e).balls ++ l }) ∧
  (∀ r' e', e' < 24 → (r', e') ≠ (r, e) → t.engine r' e' = s.engine r' e') ∧ t = { s with engines := t.engines }

/-! ### Lanes -/

/-- The register fields that a lane's change of state may write: the lane's STATE and its port's state, LANES_UP, partner and lost
verdicts, with the event DALID (R371, R359, Table 10-16). -/
def laneFlds (l : Nat) : List Fld :=
  [Reg.DLD_LANEl_STAT_STATE l, Reg.DLD_PORTp_STAT_STATE (l / 4), Reg.DLD_PORTp_STAT_LANES_UP (l / 4),
    Reg.DLD_PORTp_PEER_HI_VALID (l / 4), whole (Reg.DLD_PORTp_TXLOST (l / 4))] ++ evtFlds evtDalid

/-- From s to t lane l becomes y, its STATE shows it, and its port is shown anew; a port that leaves UP drops what it had queued and
loses the routes that enter by it (R358, R359). -/
def State.lanePasses (s t : State) (l : Nat) (y : DLane) : Prop :=
  t.lane l = y ∧ (∀ l', l' ≠ l → t.lane l' = s.lane l') ∧ t.get (Reg.DLD_LANEl_STAT_STATE l) = y.st.code ∧
    t.get (Reg.DLD_PORTp_STAT_STATE (l / 4)) = t.portStateNow (l / 4) ∧
    (s.get (Reg.DLD_PORTp_STAT_STATE (l / 4)) ≠ t.portStateNow (l / 4) → t.get (evtFld evtDalid) = 1) ∧
    (s.get (Reg.DLD_PORTp_STAT_STATE (l / 4)) = portUp → t.portStateNow (l / 4) ≠ portUp →
      t.txQueue = s.txQueue.filter (fun v => decide (v.port ≠ l / 4)) ∧
      t.losses = s.losses ++ ((List.range 64).filter fun n => s.declared n && decide (s.routeIn n = l / 4)).map fun n =>
        (n, s.epoch.toNat)) ∧
    (s.get (Reg.DLD_PORTp_STAT_STATE (l / 4)) ≠ portUp → t.txQueue = s.txQueue ∧ t.losses = s.losses) ∧
    t = { s with
      lanes := t.lanes, regs := t.regs, posted := t.posted, holding := t.holding, txQueue := t.txQueue,
      lossNotices := t.lossNotices, losses := t.losses }

/-! ### The mailbox -/

/-- From s to t the MP answers slot k: DONE with STATUS, payload, WAIT and DATA_EPOCH, and vector 1 is raised if OPT asks for it (R141,
Tables 03-23 and 03-24). -/
def State.repliesTo (s t : State) (k wait status : Nat) (payload : List (BitVec 8)) (dataEpoch : Nat) : Prop :=
  let m := s.slotOf k
  t.slotOf k = { m with
    st := .done, reply := some ⟨status, m.seq, min 0xFFFFFFFF ((s.now - m.postedAt) / 2500), wait, dataEpoch, payload⟩ } ∧
  (∀ j, j ≠ k → t.slotOf j = s.slotOf j) ∧ (m.opt % 2 = 0 → t.posted = s.posted ∧ t.holding = s.holding) ∧
  (m.opt % 2 = 1 → s.vectorMasked 1 = true → t.get (pendingBit 1) = 1 ∧ t.posted = s.posted) ∧
  (m.opt % 2 = 1 → s.vectorMasked 1 = false → s.deliverable → t.posted = .msix 1 :: s.posted)

/-- The reply changes nothing but the slot and the host's interrupt. -/
def State.onlyReplies (s t : State) (k wait status : Nat) (payload : List (BitVec 8)) (dataEpoch : Nat) : Prop :=
  s.repliesTo t k wait status payload dataEpoch ∧ s.keepsFlds t [pendingBit 1] ∧
    t = { s with mbx := t.mbx, regs := t.regs, posted := t.posted, holding := t.holding }

/-! ### The fields that the STATS_CLR bits clear -/

/-- CLK_CTRL (Table 04-10). -/
def clkStatFlds : List Fld :=
  [Reg.CLK_BACKLOG_MAX_DECISION, whole Reg.CLK_GUARD, whole Reg.CLK_DROP_LO, whole (Reg.CLK_DROP_LO + 4)] ++
    (List.range 64).flatMap fun k => [whole (Reg.CLK_DECLINE_CNTk k)]
/-- VRD_CTRL (Table 10-1). -/
def vrdStatFlds : List Fld := [whole Reg.VRD_CNT_LO, whole (Reg.VRD_CNT_LO + 4), whole Reg.VRD_POISON, whole Reg.VRD_LOSS]
/-- MSH_CTRL (Table 10-12). -/
def mshStatFlds : List Fld := (List.range 64).flatMap fun n => [whole (Reg.MSH_RTSTATn n), whole (Reg.MSH_RTSTATn_CARRIED n)]
/-- DLD_CTRL (Table 10-15): the counters of Tables 10-16 and 10-17. -/
def dldStatFlds : List Fld :=
  ((List.range 4).flatMap fun p =>
    [whole (Reg.DLD_PORTp_TXLOST p), whole (Reg.DLD_PORTp_RXDROP p), whole (Reg.DLD_PORTp_EPOCH_ERR p)]) ++
  (List.range 16).flatMap fun l =>
    [Reg.DLD_LANEl_STAT_LOCK_LOSS l, Reg.DLD_LANEl_STAT_RM_REP l, Reg.DLD_LANEl_STAT_RM_DEL l, whole (Reg.DLD_LANEl_ERR0 l),
      whole (Reg.DLD_LANEl_ERR1 l), Reg.DLD_LANEl_TEST_PRBS_ERR l]
/-- BRD_MEM_CTRL.LOG_CLR and STATS_CLR (Table 11-7). -/
def memLogFlds : List Fld := ((List.range 16).flatMap fun e => [Reg.BRD_MEM_LOGe_W0_V e]) ++ [whole Reg.BRD_MEM_LOGSTAT]
def memStatFlds : List Fld :=
  (List.range 4).flatMap fun k =>
    [whole (Reg.BRD_MEM_CNTs_CE1 k), whole (Reg.BRD_MEM_CNTs_CE2 k), whole (Reg.BRD_MEM_CNTs_UE k),
      whole (Reg.BRD_MEM_CNTs_POISON k)]
/-- TDC_CTRL (Table 12-6). -/
def tdcStatFlds : List Fld :=
  ((List.range 4).flatMap fun i => [whole (Reg.TDC_TRIGCNTi i)]) ++
  (List.range 8).flatMap fun c => [whole (Reg.TDC_EARLYc c), whole (Reg.TDC_MISSc c), whole (Reg.TDC_LOSTc c)]
/-- SNS_CTRL (Table 13-10). -/
def snsStatFlds : List Fld := (List.range 8).flatMap fun c => [Reg.SNS_STATc_FAULTS c]
/-- SE_CTRL (R215). -/
def seStatFlds (r : Nat) : List Fld :=
  [Reg.SE_STAGE_PEAK r, whole (Reg.SE_CONFLICT r), whole (Reg.SE_TRAPS r)] ++
    (List.range 24).flatMap fun e => [Reg.SE_TRAPe_COUNT r e]
/-- RNK_STRM_CTRL (Table 06-11). -/
def strmStatFlds (r : Nat) : List Fld := [whole (Reg.RNK_STRM_STAT r)]
/-- SYN_CTRL (Table 07-10). -/
def synStatFlds (r : Nat) : List Fld :=
  ((List.range 18).flatMap fun l => [whole (lineStat r l)]) ++ [whole (Reg.DRV_HIT r), whole (Reg.DRV_HIT2 r)]
/-- FFX_CTRL and BIA_CTRL (Tables 08-11 and 08-14). -/
def ffxStatFlds (r : Nat) : List Fld :=
  ((List.range 32).flatMap fun k => [whole (Reg.FFX_STATk r k), whole (Reg.FFX_DROPk r k)]) ++ [whole (Reg.FFX_HIT r)]
def biaStatFlds (r : Nat) : List Fld :=
  ((List.range 32).flatMap fun k => [whole (Reg.BIA_STATk r k)]) ++ [whole (Reg.BIA_HIT r)]
/-- DMD_CTRL and ACQ_CTRL (Tables 09-10 and 09-12). -/
def dmdStatFlds (r : Nat) : List Fld := [whole (Reg.DMD_INV r)] ++ (List.range 2).flatMap fun f => [Reg.DMD_RXSTATf_OVR r f]
def acqStatFlds (r : Nat) : List Fld :=
  [whole (Reg.ACQ_STAT r)] ++ ((List.range 32).flatMap fun k => [Reg.ACQ_RWSTATk_FORCED r k]) ++
    (List.range 2).flatMap fun u => [Reg.ACQ_TRSTATu_MISSED r u]

end Sys2Proof.Machine
end

