-- ==== Sys2Proof/Certificates/Slice0/Obligations.lean ====
section
/-!
DEFINITION. The statements for the provers.
-/
open Sys2Proof Sys2Proof.Machine

/-! ### The block as a whole -/

/-- A step carries out the command at the front of the queue, on the state with the rest of the queue. -/
def Obligations.StepRunsFrontCommand : Prop :=
  ∀ (c : Instr) (rest : List Instr) (s : State), s.pending = c :: rest → step s = exec c { s with pending := rest }

/-- On an empty queue one tick passes: the model's count grows by one, and once the epoch counts it and the calendar's RAW counter
grow by one, modulo 2^64; before that both stand still. The idle step is the model's choice (assumption 2). -/
def Obligations.EmptyQueuePassesOneTick : Prop :=
  ∀ s : State, s.pending = [] → ∃ t, step s = .next t ∧ t.pending = [] ∧ t.now = s.now + 1 ∧
    (s.epochOn = true → t.epoch = s.epoch + 1 ∧ t.calRaw = (s.calRaw + 1) % 2 ^ 64) ∧
    (s.epochOn = false → t.epoch = s.epoch ∧ t.calRaw = s.calRaw) ∧
    t.part = s.part ∧ t.ref10M = s.ref10M ∧ t.serial = s.serial

/-- Every step keeps the registers and the addressed stores in canonical form. -/
def Obligations.StepKeepsCanonicalForm : Prop :=
  ∀ s t : State, s.canonical → step s = .next t → t.canonical

/-- The state after reset is in canonical form. -/
def Obligations.ResetIsCanonical : Prop := State.reset.canonical

/-- No command touches the queue, the model's count of ticks or what is fixed at manufacture; and only an EPOCH_IN edge and the
two restarts of the part touch the epoch or the calendar's RAW counter. -/
def Obligations.CommandsKeepQueueTimeAndPart : Prop :=
  ∀ (c : Instr) (s t : State), exec c s = .next t →
    t.pending = s.pending ∧ t.now = s.now ∧ t.part = s.part ∧ t.ref10M = s.ref10M ∧ t.serial = s.serial ∧
    (c ≠ .epochInEdge → c ≠ .powerOn → (∀ rail, c ≠ .supplyReset rail) → t.epoch = s.epoch ∧ t.calRaw = s.calRaw)

/-- A command ends in a next state, except an access to an address that BAR0 or BAR2 does not have; no command is refused. -/
def Obligations.OnlyAbsentAddressesStop : Prop :=
  ∀ (c : Instr) (s : State), (∃ t, exec c s = .next t) ∨
    (exec c s = .fault .noSuchAddress ∧
      ((∃ rid addr v, c = .registerWrite rid addr v ∧ 2 ^ 24 ≤ addr) ∨
       (∃ rid addr w v, c = .bar08ByteAccess rid addr w v ∧ 2 ^ 24 ≤ addr) ∨
       (∃ rid addr w, c = .bar0BadWidthAccess rid addr w ∧ 2 ^ 24 ≤ addr) ∨
       (∃ rid addr, c = .pairLowRead rid addr ∧ 2 ^ 24 ≤ addr) ∨ (∃ rid addr, c = .pairHighRead rid addr ∧ 2 ^ 24 ≤ addr) ∨
       (∃ rid addr v, c = .pairLowWrite rid addr v ∧ 2 ^ 24 ≤ addr) ∨
       (∃ rid addr v, c = .pairHighWrite rid addr v ∧ 2 ^ 24 ≤ addr) ∨
       (∃ rid n v, c = .sqTailDoorbell rid n v ∧ 64 ≤ n) ∨ (∃ rid n v, c = .cqHeadDoorbell rid n v ∧ 64 ≤ n)))

/-- The mode TRIPPED lasts until the next power-on or supply reset (R482): every other command, and every tick, leaves it. -/
def Obligations.TrippedLasts : Prop :=
  ∀ s t : State, s.mode = .tripped → step s = .next t → s.pending.head? ≠ some .powerOn →
    (∀ rail, s.pending.head? ≠ some (.supplyReset rail)) → t.mode = .tripped

/-! ### Accesses of BAR0 -/

/-- An access that R107 does not allow: no register is touched but those of R109, a read returns 0, FLAG reads 1 and
BRD_EVT.ACCESS is set; the first error also leaves CAUSE 0x3, COUNT 1, the requester and the offset, and a later one keeps them
and counts. -/
def Obligations.BadAccessIsRecorded : Prop :=
  ∀ (s : State) (rid addr : Nat) (write : Bool), addr < 2 ^ 24 → rid < 2 ^ 16 →
    Completes (.bar0BadWidthAccess rid addr write) s fun t =>
      t.get Reg.BRD_ACC_ERR_FLAG = 1 ∧ t.get (evtFld evtAccess) = 1 ∧
      t.lastRead = (if write then s.lastRead else 0) ∧
      (s.get Reg.BRD_ACC_ERR_FLAG = 0 → t.get Reg.BRD_ACC_ERR_CAUSE = 3 ∧ t.get Reg.BRD_ACC_ERR_COUNT = 1 ∧
        t.get Reg.BRD_ACC_ERR_REQ = rid ∧ t.rd Reg.BRD_ACC_ADDR = BitVec.ofNat 32 addr) ∧
      (s.get Reg.BRD_ACC_ERR_FLAG = 1 → t.get Reg.BRD_ACC_ERR_CAUSE = s.get Reg.BRD_ACC_ERR_CAUSE ∧
        t.get Reg.BRD_ACC_ERR_REQ = s.get Reg.BRD_ACC_ERR_REQ ∧ t.rd Reg.BRD_ACC_ADDR = s.rd Reg.BRD_ACC_ADDR ∧
        t.get Reg.BRD_ACC_ERR_COUNT = min (s.get Reg.BRD_ACC_ERR_COUNT + 1) (2 ^ Reg.BRD_ACC_ERR_COUNT.width - 1)) ∧
      s.keepsFlds t accFlds ∧
      t = { s with regs := t.regs, posted := t.posted, holding := t.holding, lastRead := t.lastRead }

/-- A read of a low half returns it live and copies the high half into the requester's shadow; a read of the high half returns the
shadow tagged with its pair and empties it, else the live half (R71, R72). A write of the low half of a pair that can be written
is held and never refused; the write of the high half of an alarm's compare value commits both halves, with a low half of 0 if
none is held, or, while the alarm is enabled, commits nothing and makes one access error with CAUSE 0x2 at the
offset of the low half (R70, R73); either way a low half held for the pair leaves the requester's shadow. -/
def Obligations.PairsAreWhole : Prop :=
  (∀ (s : State) (rid lo : Nat), lo % 4 = 0 → lo + 4 < 2 ^ 24 → pairLow? lo = some lo → pairLow? (lo + 4) = some lo →
     exec (.pairLowRead rid lo) s = .next { s with
       readShadow := s.readShadow.set shadowDefault rid (some ⟨lo, s.readReg rid (lo + 4)⟩),
       lastRead := (s.readReg rid lo).setWidth 64 } ∧
     (∀ w, s.readShadow.get shadowDefault rid = some ⟨lo, w⟩ → exec (.pairHighRead rid (lo + 4)) s = .next { s with
       readShadow := s.readShadow.set shadowDefault rid none, lastRead := w.setWidth 64 }) ∧
     ((∀ w, s.readShadow.get shadowDefault rid ≠ some ⟨lo, w⟩) →
       exec (.pairHighRead rid (lo + 4)) s = .next { s with lastRead := (s.readReg rid (lo + 4)).setWidth 64 })) ∧
  (∀ (s : State) (rid lo i : Nat) (row : RegRow) (v : Word), lo % 4 = 0 → lo < 2 ^ 24 → pairLow? lo = some lo →
    regRow? lo = some (row, i) → pairWritable row = true →
    exec (.pairLowWrite rid lo v) s =
      .next { s with writeShadow := s.writeShadow.set shadowDefault rid (some ⟨lo, v⟩) }) ∧
  ∀ (s : State) (rid n : Nat) (v : Word), n < 16 → s.boardOpen →
    (s.get (Reg.EPO_ALM_CTRLn_EN n) = 0 → Completes (.pairHighWrite rid (Reg.EPO_ALM_CMP_LOn n + 4) v) s fun t =>
      t.get64 (Reg.EPO_ALM_CMP_LOn n) = (s.heldLow rid (Reg.EPO_ALM_CMP_LOn n)).toNat + v.toNat * 2 ^ 32 ∧
      s.keepsFlds t [whole (Reg.EPO_ALM_CMP_LOn n), whole (Reg.EPO_ALM_CMP_LOn n + 4)] ∧
      t = { s with writeShadow := s.emptied rid (Reg.EPO_ALM_CMP_LOn n), regs := t.regs }) ∧
    (s.get (Reg.EPO_ALM_CTRLn_EN n) = 1 → exec (.pairHighWrite rid (Reg.EPO_ALM_CMP_LOn n + 4) v) s = .next
      (({ s with writeShadow := s.emptied rid (Reg.EPO_ALM_CMP_LOn n) }).accessError rid 2 (Reg.EPO_ALM_CMP_LOn n))) ∧
    (s.emptied rid (Reg.EPO_ALM_CMP_LOn n)).get shadowDefault rid =
      (match s.writeShadow.get shadowDefault rid with
        | none => none
        | some x => if x.pair = Reg.EPO_ALM_CMP_LOn n then none else some x) ∧
    ∀ q, q ≠ rid → (s.emptied rid (Reg.EPO_ALM_CMP_LOn n)).get shadowDefault q = s.writeShadow.get shadowDefault q

/-- REGISTER_WRITE: a plain register takes its writable bits; a Board address outside BRD and PCI is refused with CAUSE 0x1 in
CALIBRATE and TRIPPED; a Rank window that does not answer takes no write and makes no error (R8, R32, R533, Table 01-4). An 8-byte
access is its low half and then its high half: it reads the epoch whole, and commits a calendar step whole (R106). -/
def Obligations.PlainWritesFollowTheMode : Prop :=
  ∀ (s : State) (rid : Nat) (v : Word),
    (s.boardOpen → exec (.registerWrite rid Reg.EPO_PERIOD v) s = .next (s.wr Reg.EPO_PERIOD v)) ∧
    (∀ addr, addr % 4 = 0 → 0x30000 ≤ addr → addr < 0xF0000 → pairLow? addr = none → s.mode = .calibrate ∨ s.mode = .tripped →
      exec (.registerWrite rid addr v) s = .next (s.accessError rid 1 addr)) ∧
    (∀ addr, addr % 4 = 0 → 0x100000 ≤ addr → addr < 0x900000 → pairLow? addr = none →
      s.rankOpen (addr / 0x100000 - 1) = false → exec (.registerWrite rid addr v) s = .next s) ∧
    Completes (.bar08ByteAccess rid Reg.EPO_NOW_LO false 0) s (fun t =>
      t.lastRead = s.epoch ∧ t.readShadow.get shadowDefault rid = none ∧
      (∀ q, q ≠ rid → t.readShadow.get shadowDefault q = s.readShadow.get shadowDefault q) ∧
      t = { s with readShadow := t.readShadow, lastRead := t.lastRead }) ∧
    ∀ w : BitVec 64, s.boardOpen → Completes (.bar08ByteAccess rid Reg.EPO_CAL_STEP_LO true w) s fun t =>
      t.get64 Reg.EPO_CAL_OFS_LO = (s.get64 Reg.EPO_CAL_OFS_LO + w.toNat) % 2 ^ 64 ∧
      s.keepsFlds t [whole Reg.EPO_CAL_OFS_LO, whole (Reg.EPO_CAL_OFS_LO + 4), Reg.EPO_CAL_CTRL_STEP_GEN] ∧
      t.writeShadow.get shadowDefault rid = none ∧
      t = { s with regs := t.regs, disciplineAt := s.now, writeShadow := t.writeShadow }

/-- The STATS_CLR and LOG_CLR bits of the Board's blocks, and the STATS_CLR bits of a Rank that answers, clear exactly the fields
their tables name; CLK_CTRL and MSH_CTRL store their other fields beside (Tables 04-10, 06-11, 07-10, 08-11, 08-14, 09-10, 09-12,
10-1, 10-12, 10-15, 11-7, 12-6, 13-10, R215). -/
def Obligations.StatisticsClear : Prop :=
  (∀ (s : State) (rid : Nat),
    Completes (.logClr rid) s (fun t => s.clears t memLogFlds) ∧
    Completes (.memStatsClr rid) s (fun t => s.clears t memStatFlds) ∧
    (s.boardOpen →
      Completes (.vrdStatsClr rid) s (fun t => s.clears t vrdStatFlds) ∧
      Completes (.dldStatsClr rid) s (fun t => s.clears t dldStatFlds) ∧
      Completes (.tdcStatsClr rid) s (fun t => s.clears t tdcStatFlds) ∧
      Completes (.snsStatsClr rid) s (fun t => s.clears t snsStatFlds) ∧
      ∀ v : Word,
        (50 ≤ wordBits v 15 8 → wordBits v 15 8 ≤ 95 → Completes (.clkStatsClr rid v) s fun t =>
          (s.put Reg.CLK_CTRL_HOST_PCT (wordBits v 15 8)).clears t clkStatFlds ∧
          t.get Reg.CLK_CTRL_HOST_PCT = wordBits v 15 8) ∧
        Completes (.mshStatsClr rid v) s fun t =>
          (s.put Reg.MSH_CTRL_MAX_HOPS (wordBits v 11 8)).clears t mshStatFlds ∧
          t.get Reg.MSH_CTRL_MAX_HOPS = wordBits v 11 8)) ∧
  ∀ (s : State) (rid r : Nat), r < 8 → s.rankWritable r →
    Completes (.seStatsClr rid r) s (fun t => s.clears t (seStatFlds r)) ∧
    Completes (.rnkStrmClr rid r) s (fun t => s.clears t (strmStatFlds r)) ∧
    Completes (.synStatsClr rid r) s (fun t => s.clears t (synStatFlds r)) ∧
    Completes (.ffxStatsClr rid r) s (fun t => s.clears t (ffxStatFlds r)) ∧
    Completes (.biaStatsClr rid r) s (fun t => s.clears t (biaStatFlds r)) ∧
    Completes (.dmdStatsClr rid r) s (fun t => s.clears t (dmdStatFlds r)) ∧
    Completes (.acqStatsClr rid r) s (fun t => s.clears t (acqStatFlds r))

/-! ### The timebase -/

/-- EPO_TRIM takes a write in SETUP only, and any other mode makes an access error with CAUSE 0x1 (R67). A write of EPO_ANG_CFG or
EPO_ANG_ENC clears LOCK and restarts acquisition; while an admitted shot names an angle window it has no effect but an access
error with CAUSE 0x2 (R79). A step commit adds to OFS and counts STEP_GEN modulo 16 unless it is zero (R85); a rate adjustment
adds to RATE and saturates with RATE_SAT (R86); GO with SRC 0 captures the tick, and any other SRC empties DONE and arms a capture
(R89). WATCH seconds of ticks without discipline clear DISCIPLINED (R87); the armed source's edge captures the epoch, the
calendar, the angle and the stamp flags of one tick and sets DONE (R89). -/
def Obligations.TimebaseSettings : Prop :=
  ((∀ (s : State) (rid : Nat) (v : Word),
     (s.mode = .setup → exec (.epoTrimWrite rid v) s = .next (s.wr Reg.EPO_TRIM (v &&& 0xFFFF003F))) ∧
     (s.mode ≠ .setup → exec (.epoTrimWrite rid v) s = .next (s.accessError rid 1 Reg.EPO_TRIM))) ∧
   ∀ (s : State) (rid : Nat) (enc : Bool) (v : Word), s.boardOpen →
     let reg := if enc then Reg.EPO_ANG_ENC else Reg.EPO_ANG_CFG
     ((s.namesWindow fun _ => true) = false → Completes (.angleCfgWrite rid enc v) s fun t =>
       t.rd reg = (if enc then v else v &&& 0xFFFFFFF3) ∧ t.get Reg.EPO_ANG_STAT_LOCK = 0 ∧
       t.angle.pLast = 0 ∧ t.angle.history = [] ∧ t.angle.accepted = 0 ∧
       s.keepsFlds t [whole reg, Reg.EPO_ANG_STAT_LOCK] ∧ t = { s with regs := t.regs, angle := t.angle }) ∧
     ((s.namesWindow fun _ => true) = true → exec (.angleCfgWrite rid enc v) s = .next (s.accessError rid 2 reg))) ∧
  (∀ (s : State) (rid : Nat) (v : Word), s.boardOpen →
    Completes (.epoCalStep rid v) s (fun t =>
      let step := (s.heldLow rid Reg.EPO_CAL_STEP_LO).toNat + v.toNat * 2 ^ 32
      t.get64 Reg.EPO_CAL_OFS_LO = (s.get64 Reg.EPO_CAL_OFS_LO + step) % 2 ^ 64 ∧
      t.get Reg.EPO_CAL_CTRL_STEP_GEN =
        (if step = 0 then s.get Reg.EPO_CAL_CTRL_STEP_GEN else (s.get Reg.EPO_CAL_CTRL_STEP_GEN + 1) % 16) ∧
      s.keepsFlds t [whole Reg.EPO_CAL_OFS_LO, whole (Reg.EPO_CAL_OFS_LO + 4), Reg.EPO_CAL_CTRL_STEP_GEN] ∧
      t = { s with regs := t.regs, writeShadow := s.emptied rid Reg.EPO_CAL_STEP_LO, disciplineAt := s.now }) ∧
    Completes (.epoCalRateAdj rid v) s (fun t =>
      let sum := (s.rd Reg.EPO_CAL_RATE).toInt + v.toInt
      (t.rd Reg.EPO_CAL_RATE).toInt = max (-2 ^ 31) (min (2 ^ 31 - 1) sum) ∧
      (-2 ^ 31 ≤ sum → sum < 2 ^ 31 → t.get Reg.EPO_CAL_CTRL_RATE_SAT = s.get Reg.EPO_CAL_CTRL_RATE_SAT) ∧
      (sum < -2 ^ 31 ∨ 2 ^ 31 ≤ sum → t.get Reg.EPO_CAL_CTRL_RATE_SAT = 1 ∧ t.get (evtFld evtCalendar) = 1) ∧
      s.keepsFlds t ([whole Reg.EPO_CAL_RATE, Reg.EPO_CAL_CTRL_RATE_SAT] ++ evtFlds evtCalendar) ∧
      t = { s with regs := t.regs, posted := t.posted, holding := t.holding, disciplineAt := s.now }) ∧
    (wordBits v 7 4 = 0 → Completes (.snapshotGo rid v) s fun t =>
      t.get Reg.EPO_SNAP_CTRL_SRC = 0 ∧ t.get Reg.EPO_SNAP_CTRL_DONE = 1 ∧
      t.get64 Reg.EPO_SNAP_EPO_LO = s.epoch.toNat ∧ t.get64 Reg.EPO_SNAP_CAL_LO = s.calendar ∧
      t = { s with regs := t.regs, snapArmed := false }) ∧
    (wordBits v 7 4 ≠ 0 → Completes (.snapshotGo rid v) s fun t =>
      t.get Reg.EPO_SNAP_CTRL_SRC = wordBits v 7 4 ∧ t.get Reg.EPO_SNAP_CTRL_DONE = 0 ∧
      s.keepsFlds t [Reg.EPO_SNAP_CTRL_SRC, Reg.EPO_SNAP_CTRL_DONE] ∧ t = { s with regs := t.regs, snapArmed := true })) ∧
  (∀ s : State, s.get Reg.EPO_CAL_CTRL_DISCIPLINED = 1 → s.get Reg.EPO_CAL_CTRL_WATCH ≠ 0 →
    s.disciplineAt + s.get Reg.EPO_CAL_CTRL_WATCH * 2500000000 ≤ s.now →
    Completes .disciplineWatchExpiry s fun t =>
      t.get Reg.EPO_CAL_CTRL_DISCIPLINED = 0 ∧ t.get (evtFld evtCalendar) = 1 ∧
      s.keepsFlds t ([Reg.EPO_CAL_CTRL_DISCIPLINED] ++ evtFlds evtCalendar) ∧ s.onlyHost t) ∧
  ∀ s : State, s.snapArmed = true → Completes .snapshotCapture s fun t =>
    t.get64 Reg.EPO_SNAP_EPO_LO = s.epoch.toNat ∧ t.get64 Reg.EPO_SNAP_CAL_LO = s.calendar ∧
    t.rd Reg.EPO_SNAP_ANG =
      BitVec.ofNat 32 (s.angleNow * 2 ^ 16 + s.get Reg.EPO_SYNC_STAT_GEN * 2 ^ 8 + s.stampFlags) ∧
    t.get Reg.EPO_SNAP_CTRL_DONE = 1 ∧
    s.keepsFlds t [whole Reg.EPO_SNAP_EPO_LO, whole (Reg.EPO_SNAP_EPO_LO + 4), whole Reg.EPO_SNAP_CAL_LO,
      whole (Reg.EPO_SNAP_CAL_LO + 4), whole Reg.EPO_SNAP_ANG, Reg.EPO_SNAP_CTRL_DONE] ∧
    t = { s with regs := t.regs, snapArmed := false }

/-- BRD_EVT_EN stores its 14 bits, and raises vector 0 if and only if a bit already at 1 becomes enabled (R110). Enabling an alarm
stores EN and IRQ, clears the flags written with 1, and notes whether its compare value is already at or below the epoch (R69). An
enabled alarm that is not late fires in the tick whose epoch equals its compare value: FIRED is set; with REP 0 the alarm is
disabled, and otherwise its compare value advances by REP; with IRQ it raises BRD_EVT.ALARM (R68). -/
def Obligations.EventsAndAlarms : Prop :=
  (∀ (s : State) (rid : Nat) (v : Word),
     exec (.brdEvtEnWrite rid v) s = .next
       (if ∃ b, b < 14 ∧ (s.rd Reg.BRD_EVT).getLsbD b = true ∧ v.getLsbD b = true ∧ (s.rd Reg.BRD_EVT_EN).getLsbD b = false
        then (s.wr Reg.BRD_EVT_EN (v &&& 0x3FFF)).raiseVector 0 else s.wr Reg.BRD_EVT_EN (v &&& 0x3FFF))) ∧
  (∀ (s : State) (rid n : Nat) (v : Word), n < 16 → s.boardOpen → s.get (Reg.EPO_ALM_CTRLn_EN n) = 0 →
    Completes (.alarmEnable rid n v) s fun t =>
      t.get (Reg.EPO_ALM_CTRLn_EN n) = 1 ∧ t.get (Reg.EPO_ALM_CTRLn_IRQ n) = wordBits v 8 8 ∧
      (wordBits v 31 29 = 0 → t.get (Reg.EPO_ALM_CTRLn_FIRED n) = s.get (Reg.EPO_ALM_CTRLn_FIRED n)) ∧
      (wordBits v 31 31 = 1 → t.get (Reg.EPO_ALM_CTRLn_FIRED n) = 0) ∧
      t.alarmLate.get alarmFlagDefault n = decide (s.get64 (Reg.EPO_ALM_CMP_LOn n) ≤ s.epoch.toNat) ∧
      (∀ a, a ≠ Reg.EPO_ALM_CTRLn n → t.rd a = s.rd a) ∧
      t = { s with regs := t.regs, alarmAt := s.alarmAt.set alarmDefault n s.now, alarmLate := t.alarmLate }) ∧
  ∀ (s : State) (n : Nat), n < 16 → s.get (Reg.EPO_ALM_CTRLn_EN n) = 1 → s.alarmLate.get alarmFlagDefault n = false →
    s.get64 (Reg.EPO_ALM_CMP_LOn n) = s.epoch.toNat →
    Completes (.alarmFire n) s fun t =>
      t.get (Reg.EPO_ALM_CTRLn_FIRED n) = 1 ∧ t.get (Reg.EPO_ALM_CTRLn_LATE n) = s.get (Reg.EPO_ALM_CTRLn_LATE n) ∧
      (s.rd (Reg.EPO_ALM_REPn n) = 0 → t.get (Reg.EPO_ALM_CTRLn_EN n) = 0 ∧
        t.get64 (Reg.EPO_ALM_CMP_LOn n) = s.get64 (Reg.EPO_ALM_CMP_LOn n)) ∧
      (s.rd (Reg.EPO_ALM_REPn n) ≠ 0 → t.get (Reg.EPO_ALM_CTRLn_EN n) = 1 ∧ t.get64 (Reg.EPO_ALM_CMP_LOn n) =
        (s.get64 (Reg.EPO_ALM_CMP_LOn n) + (s.rd (Reg.EPO_ALM_REPn n)).toNat) % 2 ^ 64) ∧
      (s.get (Reg.EPO_ALM_CTRLn_IRQ n) = 1 → t.get (evtFld evtAlarm) = 1) ∧
      (s.get (Reg.EPO_ALM_CTRLn_IRQ n) = 0 → t.posted = s.posted ∧ t.holding = s.holding) ∧
      s.keepsFlds t ([Reg.EPO_ALM_CTRLn_FIRED n, Reg.EPO_ALM_CTRLn_EN n, whole (Reg.EPO_ALM_CMP_LOn n),
        whole (Reg.EPO_ALM_CMP_LOn n + 4)] ++ evtFlds evtAlarm) ∧
      t = { s with
        regs := t.regs, posted := t.posted, holding := t.holding, alarmLate := t.alarmLate, alarmFired := t.alarmFired }

/-- A reference edge of the angle is recognised DEGLITCH ticks after its epoch e (R75). The estimator measures the period from the
last one, pushes an accepted period into its history, and a period out of range or tolerance is an outlier; the second outlier in
succession leaves LOCK at 0 (R77, R78). In ENCODER mode the k-th increment edge puts the phase at OFS + k 2^48 / N, and the angle
follows it while LOCK is 1 and holds while it is 0. With no reference edge within two periods LOCK clears, LOCK_LOST and STALL are
set, and the admitted shots that name a window carry ANGLE_LOST. An edge of a window that is 8 t old shows in what the engines
see, and no other window does. -/
def Obligations.AngleFollowsItsEdges : Prop :=
  (∀ s : State, s.get Reg.EPO_ANG_CFG_SOURCE ≠ 0 → Completes .angleReferenceEdge s fun t =>
    let e := (s.epoch.toNat + 2 ^ 64 - s.get Reg.EPO_ANG_CFG_DEGLITCH) % 2 ^ 64
    let p := (e + 2 ^ 64 - s.angle.eRef) % 2 ^ 64
    let avg := s.get Reg.EPO_ANG_CFG_AVG
    let sum := ((p :: s.angle.history).take (2 ^ avg)).foldl (· + ·) 0
    t.angle.eRef = e ∧ t.angle.pLast = p ∧ t.angle.k = 0 ∧ t.angle.incCount = 0 ∧
    t.angle.ph = s.get Reg.EPO_ANG_ENC_OFS * 2 ^ 32 ∧ t.get64 Reg.EPO_ANG_REF_LO = e ∧ t.get Reg.EPO_ANG_STAT_STALL = 0 ∧
    (periodOk p s.angle.pLast (s.get Reg.EPO_ANG_CFG_TOL) = true →
      t.angle.accepted = s.angle.accepted + 1 ∧ t.angle.history = (p :: s.angle.history).take (2 ^ avg) ∧
      t.rd Reg.EPO_ANG_PERIOD = BitVec.ofNat 32 (sum / 2 ^ avg) ∧
      (sum / 2 ^ avg ≠ 0 → t.rd Reg.EPO_ANG_RATE = BitVec.ofNat 32 (2 ^ 48 / (sum / 2 ^ avg)))) ∧
    (periodOk p s.angle.pLast (s.get Reg.EPO_ANG_CFG_TOL) = false →
      t.angle.accepted = 0 ∧ t.angle.history = s.angle.history ∧ t.angle.rate = s.angle.rate ∧
      s.angle.outliers + 1 ≤ t.angle.outliers) ∧
    (2 ≤ t.angle.outliers → t.get Reg.EPO_ANG_STAT_LOCK = 0 ∧
      (s.get Reg.EPO_ANG_STAT_LOCK = 1 → t.get Reg.EPO_ANG_STAT_LOCK_LOST = 1 ∧ t.get (evtFld evtAngle) = 1)) ∧
    s.keepsFlds t ([whole Reg.EPO_ANG_PERIOD, whole Reg.EPO_ANG_RATE, whole Reg.EPO_ANG_REF_LO, whole (Reg.EPO_ANG_REF_LO + 4),
      Reg.EPO_ANG_STAT_STALL, Reg.EPO_ANG_STAT_COUNT_ERR, Reg.EPO_ANG_STAT_LOCK, Reg.EPO_ANG_STAT_LOCK_LOST] ++
      evtFlds evtAngle) ∧
    t = { s with regs := t.regs, posted := t.posted, holding := t.holding, shots := t.shots, angle := t.angle }) ∧
  (∀ s : State, s.get Reg.EPO_ANG_CFG_SOURCE = 2 → Completes .angleIncrementEdge s fun t =>
    t.angle.k = s.angle.k + 1 ∧ t.angle.incCount = s.angle.incCount + 1 ∧
    t.angle.ph = (s.get Reg.EPO_ANG_ENC_OFS * 2 ^ 32 + (s.angle.k + 1) * 2 ^ 48 / s.get Reg.EPO_ANG_ENC_N) % 2 ^ 48 ∧
    t.angleNow = (if s.get Reg.EPO_ANG_STAT_LOCK = 1 then t.angle.ph / 2 ^ 32 else s.angleNow) ∧
    t.get Reg.EPO_ANG_STAT_STALL = 0 ∧ s.keepsFlds t [Reg.EPO_ANG_STAT_STALL] ∧
    t = { s with regs := t.regs, angle := t.angle }) ∧
  (∀ s : State, s.get Reg.EPO_ANG_STAT_LOCK = 1 → s.angle.refAt + 2 * (s.rd Reg.EPO_ANG_PERIOD).toNat < s.now →
    Completes .angleStall s fun t =>
      t.get Reg.EPO_ANG_STAT_LOCK = 0 ∧ t.get Reg.EPO_ANG_STAT_LOCK_LOST = 1 ∧ t.get Reg.EPO_ANG_STAT_STALL = 1 ∧
      t.get (evtFld evtAngle) = 1 ∧
      (∀ x ∈ s.shots, x.phase ≠ .ended → x.desc.angleEn = true → ∃ y ∈ t.shots, y.desc = x.desc ∧ flAngleLost ∈ y.flags) ∧
      t.shots.length = s.shots.length ∧
      s.keepsFlds t ([Reg.EPO_ANG_STAT_LOCK, Reg.EPO_ANG_STAT_LOCK_LOST, Reg.EPO_ANG_STAT_STALL] ++ evtFlds evtAngle) ∧
      t = { s with regs := t.regs, posted := t.posted, holding := t.holding, shots := t.shots }) ∧
  ∀ (s : State) (n : Nat) (e : Nat × Nat × Bool), s.angle.moving.find? (fun m => decide (m.2.1 = n)) = some e → e.1 ≤ s.now →
    Completes (.angleWindowEdge n) s fun t =>
      (n ∈ t.angle.seen ↔ e.2.2 = true) ∧ (∀ w, w ≠ n → (w ∈ t.angle.seen ↔ w ∈ s.angle.seen)) ∧
      t.angle.moving.length + 1 = s.angle.moving.length ∧
      t = { s with angle := { s.angle with seen := t.angle.seen, moving := t.angle.moving } }

/-- An EPOCH_IN edge in SETUP or ARMED with LOCK at 1, EPO_SYNC armed and no admitted shot outstanding is accepted: the epoch
takes EPO_TRIM.LOAD, GEN counts, ACCEPTED is set and SUSPECT clears, ARM clears unless EVERY is 1, and every enabled alarm is
disabled and marked LOST (R61, R62). An edge in any other mode leaves the epoch, is recorded in EPO_LAST_IN and counted, and with
a check period that it does not meet sets MISMATCH (R66). -/
def Obligations.EpochEdges : Prop :=
  ∀ s : State, s.epochOn = true → s.get Reg.EPO_REF_LOCK = 1 →
    (s.mode = .setup ∨ s.mode = .armed → s.get Reg.EPO_SYNC_ARM = 1 ∨ s.get Reg.EPO_SYNC_EVERY = 1 → s.anyShot = false →
      Completes .epochInEdge s fun t =>
        t.epoch = BitVec.ofNat 64 (s.get Reg.EPO_TRIM_LOAD) ∧ t.get64 Reg.EPO_LAST_IN_LO = s.get Reg.EPO_TRIM_LOAD ∧
        t.get Reg.EPO_SYNC_STAT_GEN = (s.get Reg.EPO_SYNC_STAT_GEN + 1) % 256 ∧ t.get Reg.EPO_SYNC_STAT_ACCEPTED = 1 ∧
        t.get Reg.EPO_REF_SUSPECT = 0 ∧
        t.get Reg.EPO_SYNC_ARM = (if s.get Reg.EPO_SYNC_EVERY = 1 then s.get Reg.EPO_SYNC_ARM else 0) ∧
        (∀ n, n < 16 → t.get (Reg.EPO_ALM_CTRLn_EN n) = 0 ∧
          t.get (Reg.EPO_ALM_CTRLn_LOST n) =
            (if s.get (Reg.EPO_ALM_CTRLn_EN n) = 1 then 1 else s.get (Reg.EPO_ALM_CTRLn_LOST n))) ∧
        t.get (evtFld evtEpoch) = 1 ∧ t.mode = s.mode ∧ t.calRaw = s.calRaw ∧ t.shots = s.shots ∧ t.mem = s.mem) ∧
    (s.mode ≠ .setup → s.mode ≠ .armed → Completes .epochInEdge s fun t =>
      let per := (s.rd Reg.EPO_PERIOD).toNat
      let late : Int := (s.epoch.toNat : Int) - s.get Reg.EPO_TRIM_LOAD
      t.get64 Reg.EPO_LAST_IN_LO = s.epoch.toNat ∧
      t.get Reg.EPO_SYNC_STAT_IGNORED = min (s.get Reg.EPO_SYNC_STAT_IGNORED + 1) 65535 ∧
      (per ≠ 0 → late % per ≠ 0 → t.get Reg.EPO_SYNC_STAT_MISMATCH = 1 ∧ t.get (evtFld evtEpoch) = 1) ∧
      (per = 0 ∨ late % per = 0 → t.get Reg.EPO_SYNC_STAT_MISMATCH = s.get Reg.EPO_SYNC_STAT_MISMATCH ∧ t.posted = s.posted) ∧
      s.keepsFlds t ([whole Reg.EPO_LAST_IN_LO, whole (Reg.EPO_LAST_IN_LO + 4), Reg.EPO_SYNC_STAT_IGNORED,
        Reg.EPO_SYNC_STAT_MISMATCH] ++ evtFlds evtEpoch) ∧ s.onlyHost t)

/-! ### Modes -/

/-- While a transition is in progress every mode request, and every other write of BRD_MODE, only reports 0x9 (R34, R37); before
power-up is complete it only reports 0x6 (R52). -/
def Obligations.RequestsWaitForPowerUp : Prop :=
  (∀ (s : State) (rid : Nat) (v : Word),
    (s.get Reg.BRD_MODE_BUSY = 1 → exec (.registerWrite rid Reg.BRD_MODE v) s = .next (s.put Reg.BRD_MODE_REQ_RESULT 9)) ∧
    (s.get Reg.BRD_MODE_BUSY = 0 → s.get Reg.BRD_BOOT_STAGE ≠ 0xF →
      exec (.registerWrite rid Reg.BRD_MODE v) s = .next (s.put Reg.BRD_MODE_REQ_RESULT 6))) ∧
  ∀ (s : State) (c : Instr) (w h : Bool), c ∈ [.requestSetup, .requestStandby, .requestArmed w h, .requestHold, .requestQuiesce,
      .requestCalibrate w, .requestTest, .requestSealed, .requestClear, .requestHoldover, .requestTripped,
      .requestUndefinedMode 0xC, .requestUndefinedMode 0xD, .requestUndefinedMode 0xE, .requestUndefinedMode 0xF] →
    (s.get Reg.BRD_MODE_BUSY = 1 → exec c s = .next (s.put Reg.BRD_MODE_REQ_RESULT 9)) ∧
    (s.get Reg.BRD_MODE_BUSY = 0 → s.get Reg.BRD_BOOT_STAGE ≠ 0xF → exec c s = .next (s.put Reg.BRD_MODE_REQ_RESULT 6))

/-- Rows 1, 2 and 7 of Table 01-8 and the end of a transition from STANDBY (R31): SETUP from CLEAR, TEST and SEALED, and from
ARMED and HOLDOVER unless a shot stands in the way; STANDBY and TEST from SETUP. -/
def Obligations.SetupStandbyAndTest : Prop :=
  ∀ s : State,
    (s.requestable →
      (s.mode = .clear ∨ s.mode = .test ∨ s.mode = .sealed ∨ (s.mode = .armed ∧ s.anyShot = false) ∨
        (s.mode = .holdover ∧ s.anyRunning = false) → Completes .requestSetup s (fun t => s.grants t .setup 1)) ∧
      ((s.mode = .armed ∧ s.anyShot = true) ∨ s.mode = .run ∨ s.mode = .hold ∨ s.mode = .quiesce ∨
        (s.mode = .holdover ∧ s.anyRunning = true) → exec .requestSetup s = .next (s.put Reg.BRD_MODE_REQ_RESULT 4)) ∧
      (s.mode = .standby → exec .requestSetup s = .next
        { ((s.put Reg.BRD_MODE_REQ_RESULT 0).put Reg.BRD_MODE_BUSY 1) with transition := some .setup }) ∧
      (s.mode = .setup → Completes .requestStandby s fun t =>
        s.changesMode t .standby 2 ∧ t.get Reg.BRD_MODE_REQ_RESULT = 0 ∧
        (∀ r k, r < s.part.ranks → k < 32 → (t.ffxAt r k).x = 0 ∧ (t.ffxAt r k).standbyX = (s.ffxAt r k).x) ∧
        t = { s with mode := t.mode, regs := t.regs, posted := t.posted, holding := t.holding, ffx := t.ffx }) ∧
      (s.mode = .setup → Completes .requestTest s fun t => s.grants t .test 7)) ∧
    (s.mode = .standby → s.transition = some .setup → Completes .transitionComplete s fun t =>
      s.changesMode t .setup 1 ∧ t.get Reg.BRD_MODE_BUSY = 0 ∧ t.transition = none ∧
      (∀ r k, r < s.part.ranks → k < 32 → (t.ffxAt r k).x = (s.ffxAt r k).standbyX) ∧ t.engines = s.engines ∧
      t.shots = s.shots ∧ t.mem = s.mem)

/-- A request for ARMED from SETUP (R36): with every rail above its warning level plus hysteresis HOLD_SUPPLY clears whatever
follows; then the first condition that fails refuses it with its code, and with none the mode changes by row 3. HOLD and QUIESCE:
a request for HOLD from ARMED or RUN is row 4 and sets HOLD_HOST; in HOLD it sets HOLD_HOST only. A request for ARMED in HOLD
clears HOLD_HOST, and leaves HOLD, for RUN if a shot is running and else for ARMED, when no cause is left (R534, note 6 of Table
01-8). A request for QUIESCE with no shot accepted goes on to SETUP at once by row 10. -/
def Obligations.ArmedHoldAndQuiesce : Prop :=
  (∀ (s : State) (w h : Bool), s.requestable → s.mode = .setup →
     let supply := h = false ∧ s.get Reg.BRD_MODE_HOLD_SUPPLY = 1 ∨ w = false ∧ h = false
     let s1 := if h then s.put Reg.BRD_MODE_HOLD_SUPPLY 0 else s
     (s.get Reg.EPO_REF_LOCK = 0 → exec (.requestArmed w h) s = .next (s1.put Reg.BRD_MODE_REQ_RESULT 2)) ∧
     (s.get Reg.EPO_REF_LOCK = 1 → s.get Reg.EPO_REF_SUSPECT = 1 →
       exec (.requestArmed w h) s = .next (s1.put Reg.BRD_MODE_REQ_RESULT 3)) ∧
     (s.get Reg.EPO_REF_LOCK = 1 → s.get Reg.EPO_REF_SUSPECT = 0 →
       (supply → exec (.requestArmed w h) s = .next (s1.put Reg.BRD_MODE_REQ_RESULT 7)) ∧
       (¬supply → s.get Reg.THM_STAT_LEVEL = 7 → exec (.requestArmed w h) s = .next (s1.put Reg.BRD_MODE_REQ_RESULT 8)) ∧
       (¬supply → s.get Reg.THM_STAT_LEVEL ≠ 7 → Completes (.requestArmed w h) s fun t => s1.grants t .armed 3))) ∧
  ∀ s : State, s.requestable →
    (s.mode = .armed ∨ s.mode = .run → Completes .requestHold s fun t =>
      s.changesMode t .hold 4 ∧ t.get Reg.BRD_MODE_HOLD_HOST = 1 ∧ t.get Reg.BRD_MODE_REQ_RESULT = 0 ∧
      s.keepsFlds t (Reg.BRD_MODE_REQ_RESULT :: modeFlds) ∧ s.onlyMode t) ∧
    (s.mode = .hold → exec .requestHold s = .next ((s.put Reg.BRD_MODE_REQ_RESULT 0).put Reg.BRD_MODE_HOLD_HOST 1)) ∧
    (s.mode = .hold → ∀ w h : Bool, s.get Reg.BRD_MODE_HOLD_THROTTLE = 0 → s.get Reg.BRD_MODE_HOLD_SUPPLY = 0 ∨ h = true →
      Completes (.requestArmed w h) s fun t =>
        s.changesMode t (if s.anyRunning then .run else .armed) 3 ∧ t.get Reg.BRD_MODE_REQ_RESULT = 0 ∧
        t.get Reg.BRD_MODE_HOLD_HOST = 0 ∧ t.get Reg.BRD_MODE_HOLD_SUPPLY = 0 ∧ s.onlyMode t) ∧
    (s.mode = .armed ∨ s.mode = .run ∨ s.mode = .hold → s.shots = [] → Completes .requestQuiesce s fun t =>
      t.mode = .setup ∧ t.get Reg.BRD_MODE_LAST_EVENT = 10 ∧ t.get Reg.BRD_MODE_LAST_FROM = Mode.quiesce.code ∧
      t.get Reg.BRD_MODE_REQ_RESULT = 0 ∧ t.get Reg.BRD_MODE_LAST_COUNT = (s.get Reg.BRD_MODE_LAST_COUNT + 2) % 65536 ∧
      s.keepsFlds t (Reg.BRD_MODE_REQ_RESULT :: modeFlds) ∧ s.onlyMode t) ∧
    (s.mode = .quiesce → exec .requestQuiesce s = .next (s.put Reg.BRD_MODE_REQ_RESULT 0))

/-- CALIBRATE needs LOCK and the supply (R457) and starts the routine with a sweep; SEALED needs the seal and an open presence
window (R38); a request for CLEAR, HOLDOVER or TRIPPED reports 0 in that mode and 1 in every other; a code from 0xC on reports 0xA
(R37). -/
def Obligations.CalibrateSealedAndUnreachable : Prop :=
  ∀ (s : State) (w : Bool), s.requestable →
    (s.mode = .setup →
      (s.get Reg.EPO_REF_LOCK = 1 → w = true → s.thm.running = none → Completes (.requestCalibrate w) s fun t =>
        s.changesMode t .calibrate 6 ∧ t.get Reg.BRD_MODE_REQ_RESULT = 0 ∧ t.routine.isSome = true ∧
        t.thm.running = some (s.now + 1) ∧ t.get Reg.THM_STAT_RUNNING = 1 ∧
        t = { s with
          mode := t.mode, regs := t.regs, posted := t.posted, holding := t.holding, routine := t.routine, snss := t.snss,
          thm := t.thm }) ∧
      (s.get Reg.EPO_REF_LOCK = 0 → exec (.requestCalibrate w) s = .next (s.put Reg.BRD_MODE_REQ_RESULT 2)) ∧
      (s.get Reg.CAL_SEAL_SEAL_FITTED = 1 → (∃ u, s.window = some u ∧ s.now < u) →
        Completes .requestSealed s fun t => s.grants t .sealed 8) ∧
      (s.get Reg.CAL_SEAL_SEAL_FITTED = 0 ∨ s.window = none ∨ (∃ u, s.window = some u ∧ u ≤ s.now) →
        exec .requestSealed s = .next (s.put Reg.BRD_MODE_REQ_RESULT 5))) ∧
    exec .requestClear s = .next (s.put Reg.BRD_MODE_REQ_RESULT (if s.mode = .clear then 0 else 1)) ∧
    exec .requestHoldover s = .next (s.put Reg.BRD_MODE_REQ_RESULT (if s.mode = .holdover then 0 else 1)) ∧
    exec .requestTripped s = .next (s.put Reg.BRD_MODE_REQ_RESULT (if s.mode = .tripped then 0 else 1)) ∧
    ∀ c, 0xC ≤ c → c ≤ 0xF → exec (.requestUndefinedMode c) s = .next (s.put Reg.BRD_MODE_REQ_RESULT 0xA)

/-! ### Power-up, resets, the reference and the supply -/

/-- A power-on and a supply reset restart the part from before its first stage whatever its mode: mode CLEAR, RESET_CAUSE 1 or 2,
no work, no epoch; the SPI flash keeps its contents (R44, R477). The first stage begins at internal power-good (R503). -/
def Obligations.RestartsBeginAgain : Prop :=
  ∀ s : State,
    (∀ c cause, (c = .powerOn ∧ cause = 1) ∨ (∃ rail, rail < 16 ∧ c = .supplyReset rail ∧ cause = 2) → Completes c s fun t =>
      t.mode = .clear ∧ t.get Reg.BRD_BOOT_RESET_CAUSE = cause ∧ t.get Reg.BRD_BOOT_STAGE = 0 ∧ t.epochOn = false ∧
      t.epoch = 0 ∧ t.calRaw = 0 ∧ t.shots = [] ∧ t.works = [] ∧ t.sqs = [] ∧ t.mem = [] ∧ t.powerGoodAt = none ∧
      (∀ a, a ≠ Reg.BRD_BOOT → t.rd a = State.rd { State.reset with part := s.part } a) ∧
      t.fwBank = s.fwBank ∧ t.fwBody = s.fwBody ∧ t.calBank = s.calBank ∧ t.calBody = s.calBody ∧
      t.curveBank = s.curveBank ∧ t.curveBody = s.curveBody ∧ t.tripLog = s.tripLog) ∧
    (s.powerGoodAt = none → Completes .internalPowerGood s fun t =>
      t.get Reg.BRD_BOOT_STAGE = 1 ∧ t.powerGoodAt = some s.now ∧ s.keepsFlds t [Reg.BRD_BOOT_STAGE] ∧
      t = { s with regs := t.regs, powerGoodAt := t.powerGoodAt, thm := { s.thm with startAt := s.now, schedAt := s.now } })

/-- The stages of power-up run in the order of Table 01-9, and a fault stops power-up at its stage with its FAIL code (R50, R53).
The epoch begins to count with stage 2; stage 3 needs a valid firmware slot; stages 4 and 6 clear the stores and report what is
ready. -/
def Obligations.PowerUpStages : Prop :=
  ∀ (s : State) (mask : Nat), s.get Reg.BRD_BOOT_FAIL = 0 →
    (∀ n m, (n, m) ∈ [(1, 2), (2, 3), (4, 5), (5, 6), (6, 7), (7, 0xF)] → s.get Reg.BRD_BOOT_STAGE = n →
      Completes (.powerUpStageEnd false mask) s fun t =>
        t.get Reg.BRD_BOOT_STAGE = m ∧ t.get Reg.BRD_BOOT_FAIL = 0 ∧ t.mode = s.mode ∧ (n = 1 → t.epochOn = true) ∧
        (n = 4 → t.mem = [] ∧ t.get Reg.BRD_BOOT_STACK_READY = 2 ^ s.part.stacks - 1) ∧
        (n = 6 → t.micro = [] ∧ t.nano = [] ∧ t.cache = [] ∧ t.get Reg.BRD_BOOT_RANK_READY = 2 ^ s.part.ranks - 1)) ∧
    (s.get Reg.BRD_BOOT_STAGE = 3 →
      (newestBank s.fwBank = none → exec (.powerUpStageEnd false mask) s = .next (s.put Reg.BRD_BOOT_FAIL 1)) ∧
      (∀ n h, newestBank s.fwBank = some (n, h) → n < 2 → Completes (.powerUpStageEnd false mask) s fun t =>
        t.get Reg.BRD_BOOT_STAGE = 4 ∧ t.get Reg.BRD_BOOT_FW_SLOT = n ∧ t.server = 2)) ∧
    (s.get Reg.BRD_BOOT_STAGE = 7 → exec (.powerUpStageEnd true mask) s = .next (s.put Reg.BRD_BOOT_FAIL 4)) ∧
    (∀ n fail, (n, fail) ∈ [(4, 2), (6, 3)] → s.get Reg.BRD_BOOT_STAGE = n → Completes (.powerUpStageEnd true mask) s fun t =>
      t.get Reg.BRD_BOOT_FAIL = fail ∧ t.get Reg.BRD_BOOT_STAGE = n ∧ t = { s with regs := t.regs })

/-- At the detection of a REFIN loss HOLDOVER, LOST and SUSPECT are set, LOCK clears and the loss is counted (R91); the part
enters HOLDOVER by row 15 from the modes that admit or run shots. REFIN's return begins the re-lock; its end clears HOLDOVER and
sets LOCK, leaves SUSPECT, and takes the part from HOLDOVER to SETUP by row 16 when no shot runs (R94). -/
def Obligations.ReferenceIsLostAndFound : Prop :=
  ∀ s : State, s.epochOn = true →
    (s.get Reg.EPO_REF_LOCK = 1 → Completes .refinLoss s fun t =>
      t.get Reg.EPO_REF_HOLDOVER = 1 ∧ t.get Reg.EPO_REF_LOST = 1 ∧ t.get Reg.EPO_REF_SUSPECT = 1 ∧
      t.get Reg.EPO_REF_LOCK = 0 ∧ t.get Reg.EPO_REF_LOSS_COUNT = min (s.get Reg.EPO_REF_LOSS_COUNT + 1) 65535 ∧
      (s.mode = .armed ∨ s.mode = .run ∨ s.mode = .hold ∨ s.mode = .quiesce →
        t.mode = .holdover ∧ t.get Reg.BRD_MODE_LAST_EVENT = 15) ∧
      (s.mode = .clear ∨ s.mode = .setup ∨ s.mode = .standby ∨ s.mode = .test ∨ s.mode = .sealed ∨ s.mode = .tripped →
        t.mode = s.mode ∧ s.keepsFlds t [Reg.EPO_REF_HOLDOVER, Reg.EPO_REF_LOST, Reg.EPO_REF_SUSPECT, Reg.EPO_REF_LOCK,
          Reg.EPO_REF_LOSS_COUNT])) ∧
    (s.get Reg.EPO_REF_LOCK = 0 → s.relocking = false → exec .refinRestored s = .next { s with relocking := true }) ∧
    (s.relocking = true →
      (s.mode ≠ .holdover ∨ s.anyRunning = true → Completes .pllLocked s fun t =>
        t.get Reg.EPO_REF_HOLDOVER = 0 ∧ t.get Reg.EPO_REF_LOCK = 1 ∧
        s.keepsFlds t [Reg.EPO_REF_HOLDOVER, Reg.EPO_REF_LOCK] ∧ t = { s with regs := t.regs, relocking := false }) ∧
      (s.mode = .holdover → s.anyRunning = false → Completes .pllLocked s fun t =>
        t.get Reg.EPO_REF_HOLDOVER = 0 ∧ t.get Reg.EPO_REF_LOCK = 1 ∧ s.changesMode t .setup 16 ∧
        t = { s with
          mode := t.mode, regs := t.regs, posted := t.posted, holding := t.holding, relocking := false }))

/-- A supply warning with no dip open sets DIP_ACTIVE, opens an entry of the dip log with the epoch 249 t before it, raises
BRD_EVT.SUPPLY and, in ARMED, RUN and HOLD, sets HOLD_SUPPLY in HOLD (row 11, R474, R475). The recovery 2,500 t later or after
closes the entry; a dip that is not long clears HOLD_SUPPLY and leaves HOLD unless another cause holds (row 12). -/
def Obligations.SupplyDips : Prop :=
  (∀ (s : State) (rail : Nat), rail < 16 → s.dip = none → Completes (.supplyWarning rail) s fun t =>
    t.get Reg.PWR_STAT_DIP_ACTIVE = 1 ∧ t.get Reg.PWR_EVT_DIP = 1 ∧ t.get (evtFld evtSupply) = 1 ∧
    t.dip = some ⟨s.epoch.toNat - 249, s.now, 2 ^ rail⟩ ∧
    t.get64 (Reg.PWR_DIPLOGk_START_LO (t.get Reg.PWR_STAT_NEWEST)) = s.epoch.toNat - 249 ∧
    (s.mode = .armed ∨ s.mode = .run → t.mode = .hold ∧ t.get Reg.BRD_MODE_LAST_EVENT = 11) ∧
    (s.mode = .armed ∨ s.mode = .run ∨ s.mode = .hold → t.get Reg.BRD_MODE_HOLD_SUPPLY = 1) ∧
    (s.mode ≠ .armed → s.mode ≠ .run → s.mode ≠ .calibrate → t.mode = s.mode)) ∧
  ∀ (s : State) (d : Dip), s.dip = some d → d.wAt + 2500 ≤ s.now → Completes .supplyRecovery s fun t =>
    t.get Reg.PWR_STAT_DIP_ACTIVE = 0 ∧ t.get Reg.PWR_STAT_BELOW_WARN = 0 ∧ t.dip = none ∧
    t.get (evtFld evtSupply) = 1 ∧
    (s.now - 2499 - d.wAt ≤ 2500000 → s.mode = .hold → t.get Reg.BRD_MODE_HOLD_SUPPLY = 0 ∧
      (s.get Reg.BRD_MODE_HOLD_HOST = 0 → s.get Reg.BRD_MODE_HOLD_THROTTLE = 0 →
        t.mode = (if s.anyRunning then .run else .armed) ∧ t.get Reg.BRD_MODE_LAST_EVENT = 12)) ∧
    (2500000 < s.now - 2499 - d.wAt → t.mode = s.mode ∧ t.get Reg.PWR_EVT_LONG_DIP = 1 ∧
      t.get Reg.BRD_MODE_HOLD_SUPPLY = s.get Reg.BRD_MODE_HOLD_SUPPLY)

/-- The seal and the presence button (R471, R38): a press is counted modulo the width of PRESSES and opens the window for 30 s;
when the seal is removed or the window closes, SEALED returns to SETUP by row 18. -/
def Obligations.SealAndPresence : Prop :=
  ∀ s : State,
    exec .sealFitted s = .next (s.put Reg.CAL_SEAL_SEAL_FITTED 1) ∧
    Completes .presencePress s (fun t =>
      t.get Reg.CAL_SEAL_PRESSES = (s.get Reg.CAL_SEAL_PRESSES + 1) % 2 ^ Reg.CAL_SEAL_PRESSES.width ∧
      s.keepsFlds t [Reg.CAL_SEAL_PRESSES] ∧ t = { s with regs := t.regs, window := some (s.now + 30 * 2500000000) }) ∧
    (s.mode = .sealed → Completes .sealRemoved s fun t =>
      s.changesMode t .setup 18 ∧ t.get Reg.CAL_SEAL_SEAL_FITTED = 0 ∧
      s.keepsFlds t (Reg.CAL_SEAL_SEAL_FITTED :: modeFlds) ∧ s.onlyMode t) ∧
    (s.mode ≠ .sealed → exec .sealRemoved s = .next (s.put Reg.CAL_SEAL_SEAL_FITTED 0)) ∧
    (∀ u, s.window = some u → u ≤ s.now →
      (s.mode = .sealed → Completes .presenceWindowExpiry s fun t => s.changesMode t .setup 18 ∧ s.keepsFlds t modeFlds ∧
        t = { s with mode := t.mode, regs := t.regs, posted := t.posted, holding := t.holding, window := none }) ∧
      (s.mode ≠ .sealed → exec .presenceWindowExpiry s = .next { s with window := none }))

/-- CLR_N takes every mode but CLEAR and TRIPPED to CLEAR by row 19, and changes nothing in TRIPPED. In any other mode the control
registers of the outputs return to reset, settings that wait are dropped, heaters go to 0 mA with their loops off, and the shots
stay until the next tick (R41, R267, R300). A reset of the function clears the rings but for their configuration, writes RESET_CAUSE
and leaves the mode in CLEAR by row 20, or in TRIPPED; the shots it ends are gone in the next tick (R41, R56). -/
def Obligations.ClearAndFunctionResets : Prop :=
  ∀ s : State,
    (s.mode = .tripped → exec .clrNFall s = .next s) ∧
    (s.mode ≠ .tripped → Completes .clrNFall s fun t =>
      t.mode = .clear ∧ (s.mode ≠ .clear → t.get Reg.BRD_MODE_LAST_EVENT = 19 ∧ t.get (evtFld evtMode) = 1) ∧
      t.clrNext = true ∧ t.shots = s.shots ∧ t.epoch = s.epoch ∧
      (∀ r l, r < s.part.ranks → l < 18 → t.rd (lineCtrl r l) = regReset s.part (lineCtrl r l) ∧ (t.line r l).pend = []) ∧
      (∀ r k, r < s.part.ranks → k < 32 → t.rd (Reg.FFX_CTRLk r k) = regReset s.part (Reg.FFX_CTRLk r k) ∧
        t.rd (Reg.BIA_CTRLk r k) = regReset s.part (Reg.BIA_CTRLk r k)) ∧
      (∀ k, k < 4 → (t.heater k).code = 0 ∧ t.get (Reg.HTR_CTRLk_LOOP_EN k) = 0 ∧ t.get (Reg.HTR_CTRLk_CLEAR k) = 1)) ∧
    ∀ c cause, (c, cause) ∈ [(Instr.perstNAssert, 3), (.hotReset, 4), (.functionLevelReset, 5)] → Completes c s fun t =>
      t.get Reg.BRD_BOOT_RESET_CAUSE = cause ∧ t.get Reg.BRD_BOOT_STAGE = s.get Reg.BRD_BOOT_STAGE ∧
      t.shots = (if s.mode = .clear ∨ s.mode = .tripped then [] else
        (s.shots.filter fun x => decide (x.phase ≠ .ended)).map fun x => { x with silent := true }) ∧
      (∀ w ∈ t.wins, ∃ x ∈ t.shots, x.desc.uid = w.owner) ∧ (s.mode ≠ .tripped → t.clrNext = true) ∧
      (∀ u : State, u.clrNext = true → ∀ x ∈ (clearNext u).shots, x.silent = false) ∧
      t.gang = none ∧ t.sqs = [] ∧ t.cqs = [] ∧ t.holding.length ≤ 1 ∧ t.epoch = s.epoch ∧
      (∀ n, n < 64 → t.get (Reg.PCI_SQ_CFG_EN n) = 0 ∧ t.get (Reg.PCI_CQ_CFG_EN n) = 0 ∧
        t.get (Reg.PCI_SQ_CFG_CQ n) = s.get (Reg.PCI_SQ_CFG_CQ n)) ∧
      t.mode = (if s.mode = .tripped then .tripped else .clear) ∧
      (s.mode ≠ .clear → s.mode ≠ .tripped → t.get Reg.BRD_MODE_LAST_EVENT = 20) ∧ (c = .perstNAssert → t.perst = true)

/-- The release of PERST_N only lets the endpoint leave reset (R56). A link that leaves recovery shows its rate and width and the
capacity of Table 03-3; one that was up counts the recovery and raises BRD_EVT.LINK, and so does a capacity below what is reserved
(R98, R100). Setting Bus Master Enable delivers in order what was held; clearing it holds what is due, and shows R100 as applied. -/
def Obligations.LinkAndBusMaster : Prop :=
  ∀ s : State,
    (s.perst = true → exec .perstNRelease s = .next { s with perst := false }) ∧
    (∀ rate width flit, 1 ≤ rate → rate ≤ 3 → width = 8 ∨ width = 16 → (rate = 3 → flit = true) →
      (s.get Reg.PCI_LINK_FLIT = 1 → flit = true) → s.perst = false → Completes (.linkRecovery rate width flit) s fun t =>
        t.get Reg.PCI_LINK_UP = 1 ∧ t.get Reg.PCI_LINK_RATE = rate ∧ t.get Reg.PCI_LINK_WIDTH = width ∧
        t.get Reg.PCI_LINK_FLIT = (if flit then 1 else 0) ∧
        (t.rd Reg.PCI_STREAM_CAP).toNat = linkCapacity rate width ∧
        t.get Reg.PCI_LINK_RETRAINS =
          (if s.get Reg.PCI_LINK_UP = 1 then min (s.get Reg.PCI_LINK_RETRAINS + 1) 255 else s.get Reg.PCI_LINK_RETRAINS) ∧
        (s.get Reg.PCI_LINK_UP = 1 ∨ linkCapacity rate width < s.d2hNow → t.get (evtFld evtLink) = 1) ∧
        s.keepsFlds t ([whole Reg.PCI_LINK, whole Reg.PCI_STREAM_CAP, Reg.PCI_DMA_ERR_LATE_DELIVERY] ++ evtFlds evtLink) ∧
        s.onlyHost t) ∧
    (s.dmaStopped = false → s.holdHits = [] → Completes (.busMasterEnableWrite true) s fun t =>
      t.busMaster = true ∧ t.holding = [] ∧ t.posted.length = s.posted.length + s.holding.length ∧
      t = { s with busMaster := t.busMaster, holding := t.holding, posted := t.posted }) ∧
    (s.busMaster = true → Completes (.busMasterEnableWrite false) s fun t =>
      t.busMaster = false ∧ t.posted = s.posted ∧ t.get Reg.PCI_DMA_ERR_LATE_DELIVERY = 1 ∧ t.get (evtFld evtLink) = 1 ∧
      s.keepsFlds t ([Reg.PCI_DMA_ERR_LATE_DELIVERY] ++ evtFlds evtLink) ∧
      t = { s with busMaster := t.busMaster, regs := t.regs, holding := t.holding }) ∧
    (s.busMaster = false → exec (.busMasterEnableWrite false) s = .next s)

/-! ### Rings -/

/-- Enabling a ring with an allowed size and, for a CQ, an allowed vector stores its settings and sets head and tail to 0, of a CQ
also the pass count; an SQ whose CQ is disabled stays disabled with CAUSE 0xA (R113, R535). Clearing EN of an SQ changes no other
field; the fetches that have not arrived lapse and their two entries of credit each are released (R112, R114). Clearing EN of a CQ
is refused with CAUSE 0x8 while entries are owed to it or an enabled SQ names it. -/
def Obligations.RingsAreEnabledAndDisabled : Prop :=
  (∀ (s : State) (rid n : Nat) (v : Word), n < 64 → 4 ≤ wordBits v 20 16 → wordBits v 20 16 ≤ 16 →
    (s.get (Reg.PCI_SQ_CFG_EN n) = 0 →
      (s.get (Reg.PCI_CQ_CFG_EN (wordBits v 5 0)) = 1 → Completes (.sqEnable rid n v) s fun t =>
        t.get (Reg.PCI_SQ_CFG_EN n) = 1 ∧ t.get (Reg.PCI_SQ_CFG_SIZE_LOG2 n) = wordBits v 20 16 ∧
        t.get (Reg.PCI_SQ_CFG_CQ n) = wordBits v 5 0 ∧
        (t.sq n).head = 0 ∧ (t.sq n).tail = 0 ∧ (t.sq n).fetchPos = 0 ∧ (t.sq n).err = none ∧ (t.sq n).queue = (s.sq n).queue ∧
        (∀ m, m ≠ n → t.sq m = s.sq m) ∧ s.keepsFlds t [whole (Reg.PCI_SQ_CFG n)] ∧ t = { s with regs := t.regs, sqs := t.sqs }) ∧
      (s.get (Reg.PCI_CQ_CFG_EN (wordBits v 5 0)) = 0 → Completes (.sqEnable rid n v) s fun t =>
        t.get (Reg.PCI_SQ_CFG_EN n) = 0 ∧ t.get Reg.BRD_ACC_ERR_FLAG = 1 ∧
        (s.get Reg.BRD_ACC_ERR_FLAG = 0 → t.get Reg.BRD_ACC_ERR_CAUSE = 0xA) ∧
        s.keepsFlds t (whole (Reg.PCI_SQ_CFG n) :: accFlds) ∧ s.onlyHost t)) ∧
    (s.get (Reg.PCI_CQ_CFG_EN n) = 0 → 2 ≤ wordBits v 7 0 → Completes (.cqEnable rid n v) s fun t =>
      t.get (Reg.PCI_CQ_CFG_EN n) = 1 ∧ t.get (Reg.PCI_CQ_CFG_VECTOR n) = wordBits v 7 0 ∧
      (t.cq n).head = 0 ∧ (t.cq n).tail = 0 ∧ (t.cq n).pass = 0 ∧ (∀ m, m ≠ n → t.cq m = s.cq m) ∧
      s.keepsFlds t [whole (Reg.PCI_CQ_CFG n)] ∧ t = { s with regs := t.regs, cqs := t.cqs })) ∧
  ∀ (s : State) (rid n : Nat), n < 64 →
    (s.get (Reg.PCI_SQ_CFG_EN n) = 1 → Completes (.sqDisable rid n) s fun t =>
      t.get (Reg.PCI_SQ_CFG_EN n) = 0 ∧ s.keepsFlds t [Reg.PCI_SQ_CFG_EN n] ∧
      (t.sq n).queue = (s.sq n).queue.filter (fun f => f.desc.isSome) ∧
      (t.cq (s.cqOf n)).owed = (s.cq (s.cqOf n)).owed - 2 * ((s.sq n).queue.filter fun f => f.desc.isNone).length ∧
      (∀ m, m ≠ n → t.sq m = s.sq m) ∧ (∀ m, m ≠ s.cqOf n → t.cq m = s.cq m) ∧
      t = { s with regs := t.regs, sqs := t.sqs, cqs := t.cqs }) ∧
    (s.get (Reg.PCI_CQ_CFG_EN n) = 1 →
      ((s.cq n).owed = 0 → (∀ q, q < 64 → s.get (Reg.PCI_SQ_CFG_EN q) = 1 → s.cqOf q ≠ n) →
        exec (.cqDisable rid n) s = .next (s.put (Reg.PCI_CQ_CFG_EN n) 0)) ∧
      ((s.cq n).owed ≠ 0 ∨ (∃ q, q < 64 ∧ s.get (Reg.PCI_SQ_CFG_EN q) = 1 ∧ s.cqOf q = n) →
        exec (.cqDisable rid n) s = .next (s.accessError rid 8 (Reg.PCI_CQ_CFG n))))

/-- Ring configuration written while EN is 0 is stored, or has no effect at all with CAUSE 0xB for a bad size and 0x9 for vector 0
or 1 (R535); written while EN is 1 it has no effect with CAUSE 0x7 (R112). Unmasking a vector whose Pending Bit is set clears the
bit and sends its message (R135). -/
def Obligations.RingSettingsAndUnmask : Prop :=
  ∀ (s : State) (rid n : Nat) (v : Word),
    (n < 64 →
      (s.get (Reg.PCI_SQ_CFG_EN n) = 0 → wordBits v 31 31 = 0 →
        (4 ≤ wordBits v 20 16 ∧ wordBits v 20 16 ≤ 16 →
          exec (.ringCfgWrite rid (Reg.PCI_SQ_CFG n) v) s = .next (s.wr (Reg.PCI_SQ_CFG n) (v &&& 0x801F003F))) ∧
        (wordBits v 20 16 < 4 ∨ 16 < wordBits v 20 16 →
          exec (.ringCfgWrite rid (Reg.PCI_SQ_CFG n) v) s = .next (s.accessError rid 0xB (Reg.PCI_SQ_CFG n)))) ∧
      (s.get (Reg.PCI_CQ_CFG_EN n) = 0 → 4 ≤ wordBits v 20 16 → wordBits v 20 16 ≤ 16 → wordBits v 7 0 < 2 →
        exec (.ringCfgWrite rid (Reg.PCI_CQ_CFG n) v) s = .next (s.accessError rid 9 (Reg.PCI_CQ_CFG n))) ∧
      (s.get (Reg.PCI_CQ_CFG_EN n) = 0 →
        exec (.ringCfgWrite rid (Reg.PCI_CQ_COAL n) v) s = .next (s.wr (Reg.PCI_CQ_COAL n) (v &&& 0xFFFF00FF))) ∧
      (s.get (Reg.PCI_CQ_CFG_EN n) = 1 →
        exec (.ringCfgWrite rid (Reg.PCI_CQ_COAL n) v) s = .next (s.accessError rid 7 (Reg.PCI_CQ_COAL n)))) ∧
    (n < 256 → s.get (pendingBit n) = 1 → s.busMaster = true → s.holding = [] → s.dmaStopped = false →
      Completes (.msixUnmask rid n) s fun t =>
        t.get (Reg.PCI_MSIXv_CTRL_MASK n) = 0 ∧ t.get (pendingBit n) = 0 ∧ t.posted = .msix n :: s.posted ∧
        s.keepsFlds t [whole (Reg.PCI_MSIXv_CTRL n), pendingBit n] ∧ t = { s with regs := t.regs, posted := t.posted })

/-- Doorbells: a tail that the two conditions of R120 allow is taken, and a bad one puts the SQ in ERROR with the low nibble of
its status; in ERROR a doorbell has no effect. A head within the used slots is taken, and another makes an access error with CAUSE
0x6 (R121). A doorbell to a disabled ring makes one with CAUSE 0xC. -/
def Obligations.DoorbellsMoveTheRings : Prop :=
  ∀ (s : State) (rid n : Nat) (v : Word), n < 64 →
    let new := wordBits v 15 0
    (s.get (Reg.PCI_SQ_CFG_EN n) = 1 → (s.sq n).err = none →
      (new < s.sqSize n → ringDist (s.sqSize n) new (s.sq n).tail ≤
          ringDist (s.sqSize n) ((s.sq n).head + s.sqSize n - 1) (s.sq n).tail →
        exec (.sqTailDoorbell rid n v) s = .next (s.setSq n { s.sq n with tail := new })) ∧
      (s.sqSize n ≤ new → Completes (.sqTailDoorbell rid n v) s fun t =>
        (t.sq n).err = some 4 ∧ t.get (evtFld evtRing) = 1 ∧ (t.sq n).tail = (s.sq n).tail ∧
        t = { s with regs := t.regs, posted := t.posted, holding := t.holding, sqs := t.sqs, cqs := t.cqs }) ∧
      (new < s.sqSize n → ringDist (s.sqSize n) ((s.sq n).head + s.sqSize n - 1) (s.sq n).tail <
          ringDist (s.sqSize n) new (s.sq n).tail → Completes (.sqTailDoorbell rid n v) s fun t => (t.sq n).err = some 5)) ∧
    (s.get (Reg.PCI_SQ_CFG_EN n) = 1 → (s.sq n).err ≠ none → exec (.sqTailDoorbell rid n v) s = .next s) ∧
    (s.get (Reg.PCI_SQ_CFG_EN n) = 0 →
      exec (.sqTailDoorbell rid n v) s = .next (s.accessError rid 0xC (n * 0x1000))) ∧
    (s.get (Reg.PCI_CQ_CFG_EN n) = 0 →
      exec (.cqHeadDoorbell rid n v) s = .next (s.accessError rid 0xC (n * 0x1000 + 0x40))) ∧
    (s.get (Reg.PCI_CQ_CFG_EN n) = 1 →
      (new < s.cqSize n → ringDist (s.cqSize n) new (s.cq n).head ≤ ringDist (s.cqSize n) (s.cq n).tail (s.cq n).head →
        exec (.cqHeadDoorbell rid n v) s = .next (s.setCq n { s.cq n with head := new })) ∧
      (s.cqSize n ≤ new ∨ ringDist (s.cqSize n) (s.cq n).tail (s.cq n).head < ringDist (s.cqSize n) new (s.cq n).head →
        exec (.cqHeadDoorbell rid n v) s = .next (s.accessError rid 6 (n * 0x1000 + 0x40))))

/-- A fetch reserves its two entries of the CQ's credit (R124) and, with BARRIER, holds later ones (R127); an arrival fixes the
descriptor's arrival epoch (R125); a failed read puts the SQ in ERROR, and its descriptor and the later ones lapse with their
credit (R137). The time condition of a CQ raises its vector and empties its pending count (R134). -/
def Obligations.FetchArrivalAndFailure : Prop :=
  (∀ (s : State) (sq slots : Nat) (b : Bool), s.canFetch sq slots = true → Completes (.descriptorFetch sq slots b) s fun t =>
    (t.sq sq).queue = (s.sq sq).queue ++ [⟨s.nextUid, slots, b, none⟩] ∧
    (t.sq sq).fetchPos = ((s.sq sq).fetchPos + slots) % s.sqSize sq ∧
    (t.sq sq).barrier = (if b then some s.nextUid else none) ∧
    (t.cq (s.cqOf sq)).owed = (s.cq (s.cqOf sq)).owed + 2 ∧
    t = { s with sqs := t.sqs, cqs := t.cqs, nextUid := s.nextUid + 1 }) ∧
  (∀ (s : State) (sq uid : Nat) (base : BitVec 512) (ext : List (BitVec 512)) (f : Fetch),
    s.fetching sq uid = some f → f.slots = ext.length + 1 → slotField base 8 4 = ext.length →
    f.barrier = decide (slotField base 23 1 = 1) → Completes (.descriptorArrival sq uid base ext) s fun t =>
      (t.sq sq).queue = (s.sq sq).queue.map (fun g =>
        if g.uid = uid then { g with desc := some ⟨uid, sq, base, ext, s.epoch.toNat, s.now⟩ } else g) ∧
      t = { s with sqs := t.sqs }) ∧
  (∀ (s : State) (sq uid kind : Nat), (s.fetching sq uid).isSome = true → kind < 4 →
    Completes (.fetchError sq uid kind) s fun t =>
      (t.sq sq).err = some kind ∧ t.get (dmaErrBit kind) = 1 ∧ t.get (evtFld evtRing) = 1 ∧
      (t.sq sq).queue = (s.sq sq).queue.filter (fun f => decide (f.uid ∉ (fromUid uid (s.sq sq).queue).map Fetch.uid)) ∧
      t = { s with regs := t.regs, posted := t.posted, holding := t.holding, sqs := t.sqs, cqs := t.cqs }) ∧
  ∀ (s : State) (n : Nat), n < 64 → s.epoch.toNat % 256 = 0 → s.get (Reg.PCI_CQ_COAL_TIME n) ≠ 0 → (s.cq n).count ≠ 0 →
    (s.cq n).oldest + s.get (Reg.PCI_CQ_COAL_TIME n) * 256 ≤ s.now →
    exec (.coalesceTimeout n) s =
      .next ((s.setCq n { s.cq n with count := 0 }).raiseVector (s.get (Reg.PCI_CQ_CFG_VECTOR n)))

/-! ### The Clock's decisions -/

/-- A claim fits if at every tick of its interval the sum of the claims that hold the tick, with it, stays within the capacity
(R160). -/
def Obligations.FitsAtEveryTick : Prop :=
  ∀ (cs : List Claim) (x b e cap : Nat), b < e →
    (fits cs x b e cap = true ↔ ∀ t, b ≤ t → t < e → sumAt cs t + x ≤ cap)

/-- SHOT: the descriptor at the front of its SQ is declined with the code and the shard of the answer, a TYPE in no table as
BAD_TYPE; an accepted one becomes an admitted shot that holds its claims (R151), and SE_SHOT of its engines names it. The answer
is the lowest code that a shard reports, of the lowest shard among those that report it (R153). A gang that the Board's front
checks let pass is prepared, each Rank shard answers once, and the commit accepts it if every shard says yes (R167). -/
def Obligations.ShotsAreDecided : Prop :=
  (∀ (s : State) (d : Desc), s.front d.sq = some d → d.sq < 64 → s.deliverable → s.gang = none →
    (d.typ = 1 → d.ranks.length ≤ 1 →
      (shotAnswer s [] d = none → Completes (.shot d.sq) s fun t =>
        s.accepts t d ∧ t.shots = s.shots ++ [newShot s d] ∧
        (∀ r e, r < 8 → e < 24 → d.rankMask.testBit r = true → (d.engines r).testBit e = true →
          t.get (Reg.SE_SHOTe_SQ r e) = d.sq ∧ t.get (Reg.SE_SHOTe_TAG r e) = d.tag) ∧
        s.keepsFlds t (s.acceptFlds d ++ d.ranks.flatMap fun r =>
          ((List.range 24).filter fun e => (d.engines r).testBit e).map fun e => whole (Reg.SE_SHOTe r e)) ∧
        t = { s with regs := t.regs, posted := t.posted, sqs := t.sqs, cqs := t.cqs, shots := t.shots }) ∧
      ∀ c k, shotAnswer s [] d = some (c, k) → Completes (.shot d.sq) s fun t => s.declines t d c k) ∧
    (extLimit d.typ = none → Completes (.shot d.sq) s fun t => s.declines t d 0x40 0xF) ∧
    (d.typ = 1 → 1 < d.ranks.length → formatFail s d = none → (∀ c, shotBoard s [] d = some c → 0x50 ≤ c) →
      exec (.shot d.sq) s = .next { s with gang := some ⟨d, shotBoard s [] d, []⟩ })) ∧
  (∀ (s : State) (d : Desc) (c k : Nat), shotAnswer s [] d = some (c, k) → formatFail s d = none →
    ∀ c' k', (c', k') ∈ reports (shotBoard s [] d) ((s.namedRanks d).map fun r => (r, shotRank s [] d r)) →
      c < c' ∨ (c = c' ∧ k ≤ k')) ∧
  ∀ (s : State) (g : Gang), s.gang = some g →
    (∀ r, r ∈ g.desc.ranks → (∀ a ∈ g.answers, a.1 ≠ r) → exec (.gangPrepare r) s =
      .next { s with gang := some { g with answers := g.answers ++ [(r, shotRank s [] g.desc r)] } }) ∧
    ((∀ r ∈ g.desc.ranks, ∃ a ∈ g.answers, a.1 = r) → g.desc.sq < 64 → s.deliverable → epochReset s g.desc = false →
      admissionClosed s = false → g.board = none →
      ((∀ a ∈ g.answers, a.2 = none) → Completes .gangCommit s fun t =>
        s.accepts t g.desc ∧ t.gang = none ∧ t.shots = s.shots ++ [newShot s g.desc] ∧
        s.keepsFlds t (s.acceptFlds g.desc ++ g.desc.ranks.flatMap fun r =>
          ((List.range 24).filter fun e => (g.desc.engines r).testBit e).map fun e => whole (Reg.SE_SHOTe r e)) ∧
        t = { s with regs := t.regs, posted := t.posted, sqs := t.sqs, cqs := t.cqs, shots := t.shots, gang := t.gang }) ∧
      ∀ r c, 0x50 ≤ c → c < 0x80 → (r, some c) ∈ g.answers →
        (∀ r' c', (r', some c') ∈ g.answers → c < c' ∨ (c = c' ∧ r ≤ r')) →
        Completes .gangCommit s fun t => ({ s with gang := none } : State).declines t g.desc c r)

/-- ABORT targets the shots of the SQ and the tags that it names which have not ended, and fixes their abort epoch 64 t after its
commit (R158); one that matches no shot, and a NOP, receive their final entry directly after the admission entry (R159, R129). -/
def Obligations.AbortsAndNopsAreDecided : Prop :=
  ∀ (s : State) (d : Desc), s.front d.sq = some d → d.sq < 64 → s.deliverable →
    (d.typ = 0x02 →
      (abortAnswer s d = none →
        (s.shots.any (targeted d) = true → Completes (.abort d.sq) s fun t =>
          s.accepts t d ∧
          t.shots = s.shots.map (fun x => if targeted d x = true then
            { x with abort := x.abort.or (some ⟨s.epoch.toNat + 64, decide (d.body 33 0 1 = 1)⟩), abortedBy := d.uid :: x.abortedBy }
            else x) ∧
          (∃ w, t.works = s.works ++ [w] ∧ w.desc = d ∧ w.kind = .abort ∧ w.done = false ∧ w.endAt = s.now + 64) ∧
          s.keepsFlds t (s.acceptFlds d) ∧
          t = { s with regs := t.regs, posted := t.posted, sqs := t.sqs, cqs := t.cqs, shots := t.shots, works := t.works }) ∧
        (s.shots.any (targeted d) = false → Completes (.abort d.sq) s fun t =>
          (∃ u, s.accepts u d ∧ u.finishes t d 1 0 0 s.stamp) ∧ s.keepsFlds t (s.acceptFlds d) ∧ s.onlyRings t)) ∧
      ∀ c k, abortAnswer s d = some (c, k) → Completes (.abort d.sq) s fun t => s.declines t d c k) ∧
    (d.typ = 0x30 →
      (nopAnswer s d = none → Completes (.nopDescriptor d.sq) s fun t =>
        (∃ u, s.accepts u d ∧ u.finishes t d 1 0 0 s.stamp) ∧ s.keepsFlds t (s.acceptFlds d) ∧ s.onlyRings t) ∧
      ∀ c k, nopAnswer s d = some (c, k) → Completes (.nopDescriptor d.sq) s fun t => s.declines t d c k)

/-! ### Untimed work and stream windows -/

/-- LOAD_MICRO, LOAD_NANO and LOAD_CACHE: accepted, the load is under way with its image, which is inline or what the host reads
answer (R196, R222), and the nanowords and blocks it touches are not resident (R197, R223); declined, nothing else changes. -/
def Obligations.LoadsAreDecided : Prop :=
  ∀ (s : State) (d : Desc), s.front d.sq = some d → d.sq < 64 → s.deliverable → s.gang = none →
    (d.typ = 0x10 ∨ d.typ = 0x12 → ∀ image, d.extCount ≠ 0 ∨ image.length = d.loadCount * d.loadWords →
      let c : Instr := if d.typ = 0x10 then .loadMicro d.sq image else .loadCache d.sq image
      (loadAnswer s [] d = none → Completes c s fun t =>
        s.accepts t d ∧
        (∃ w, t.works = s.works ++ [w] ∧ w.desc = d ∧ w.kind = (if d.typ = 0x10 then .loadMicro else .loadCache) ∧ w.flags = [] ∧
          w.image = if d.extCount = 0 then image else (slotWords d.ext (d.loadCount * d.loadWords)).map some) ∧
        (d.typ = 0x12 → ∀ r ∈ d.ranks, ∀ b, b < 1536 →
          t.blockResident r b = (s.blockResident r b &&
            !decide ((touchedBlocks d).1 ≤ b ∧ b < (touchedBlocks d).1 + (touchedBlocks d).2))) ∧
        s.keepsFlds t (s.acceptFlds d ++ if d.typ = 0x10 then [] else
          d.ranks.flatMap fun r => (List.range 48).map fun w => whole (Reg.RNK_CACHE_RESw r w)) ∧
        t = { s with regs := t.regs, posted := t.posted, sqs := t.sqs, cqs := t.cqs, works := t.works }) ∧
      ∀ x k, loadAnswer s [] d = some (x, k) → Completes c s fun t => s.declines t d x k) ∧
    (d.typ = 0x11 → ∀ image, d.extCount ≠ 0 ∨ image.length = d.loadCount →
      (loadAnswer s [] d = none → Completes (.loadNano d.sq image) s fun t =>
        s.accepts t d ∧
        (∃ w, t.works = s.works ++ [w] ∧ w.desc = d ∧ w.kind = .loadNano ∧ w.flags = [] ∧
          w.image = if d.extCount = 0 then image.flatMap nanoSplit else (slotWords d.ext (d.loadCount * 8)).map some) ∧
        (∀ r, r < 8 → ∀ a, a < 65536 → t.nanoResident r a = (s.nanoResident r a &&
          !(d.rankMask.testBit r && decide (d.loadDest ≤ a ∧ a < d.loadDest + d.loadCount)))) ∧
        s.keepsFlds t (s.acceptFlds d) ∧
        t = { s with regs := t.regs, posted := t.posted, sqs := t.sqs, cqs := t.cqs, works := t.works, nanoRes := t.nanoRes }) ∧
      ∀ x k, loadAnswer s [] d = some (x, k) → Completes (.loadNano d.sq image) s fun t => s.declines t d x k)

/-- LOAD_COMPLETE: the stores hold the image, a word whose read failed as a poisoned word of cause HOST (R197, R380); every other
word of the stores and of the Record Store, where the copies lie, is as before; MICRO_PARTIAL is clear; the read errors show in
PCI_DMA_ERR, and the final entry carries POISONED for them. -/
def Obligations.LoadsComplete : Prop :=
  ∀ (s : State) (w : Work) (kinds : BitVec 4), s.work? w.desc.uid = some w → s.deliverable →
    w.image.any Option.isNone = decide (kinds ≠ 0) → w.desc.loadDest + w.desc.loadCount ≤ w.desc.loadLimit →
    (∀ r ∈ w.desc.ranks, r < s.part.ranks) →
    (w.kind = .loadMicro ∧ w.desc.typ = 0x10) ∨ (w.kind = .loadNano ∧ w.desc.typ = 0x11) ∨ (w.kind = .loadCache ∧ w.desc.typ = 0x12) →
    let d := w.desc
    Completes (.loadComplete d.uid kinds) s fun t =>
      s.finishes t d w.status 0 (flagWord (if kinds = 0 then w.flags else flPoisoned :: w.flags)) s.stamp ∧
      t.works = s.works.filter (fun v => decide (v.desc.uid ≠ d.uid)) ∧
      (∀ k, k < 4 → t.get (dmaErrBit k) = if kinds.getLsbD k = true then 1 else s.get (dmaErrBit k)) ∧
      (d.typ = 0x10 →
        (∀ r e a, r < 8 → e < 24 → a < 8192 → t.microWord r e a =
          if d.rankMask.testBit r = true ∧ d.loadEngines.testBit e = true ∧ d.loadDest ≤ a ∧ a < d.loadDest + d.loadCount then
            imageCell (imageAt w.image (a - d.loadDest)) else s.microWord r e a) ∧
        (∀ r e, r < 8 → e < 24 → t.engine r e =
          if d.rankMask.testBit r = true ∧ d.loadEngines.testBit e = true then { s.engine r e with partialLoad := false } else s.engine r e) ∧
        t.nano = s.nano ∧ t.cache = s.cache ∧ t.nanoRes = s.nanoRes) ∧
      (d.typ = 0x11 →
        (∀ r a, r < 8 → a < 65536 → t.nanoWord r a =
          if d.rankMask.testBit r = true ∧ d.loadDest ≤ a ∧ a < d.loadDest + d.loadCount then
            ⟨BitVec.ofNat 256 (((List.range 8).map fun j => imageAt w.image (8 * (a - d.loadDest) + j)).foldr
              (fun x n => (imageCell x).word.toNat + n * 2 ^ 32) 0),
              ((List.range 8).map fun j => imageAt w.image (8 * (a - d.loadDest) + j)).any Option.isNone⟩
          else s.nanoWord r a) ∧
        t.micro = s.micro ∧ t.cache = s.cache ∧ t.engines = s.engines) ∧
      (d.typ = 0x12 →
        (∀ r b, r < 8 → b < cacheWords → t.cacheWord r b =
          if d.rankMask.testBit r = true ∧ 4 * d.loadDest ≤ b ∧ b < 4 * (d.loadDest + d.loadCount) then
            imageCell (imageAt w.image (b - 4 * d.loadDest)) else s.cacheWord r b) ∧
        t.micro = s.micro ∧ t.nano = s.nano ∧ t.engines = s.engines) ∧
      s.keepsFlds t ([whole Reg.PCI_DMA_ERR, pendingBit (s.vectorOf (s.cqOf d.sq))] ++
        d.ranks.flatMap fun r => (List.range 48).map fun b => whole (Reg.RNK_CACHE_RESw r b)) ∧
      (∀ m, (∀ r ∈ d.ranks, ∀ i, i < d.loadCount →
          (d.typ = 0x10 → ∀ e, e < 24 → d.loadEngines.testBit e = true → m ≠ microCopy r e (d.loadDest + i)) ∧
          (d.typ = 0x11 → ∀ j, j < 4 → m ≠ nanoCopy r (d.loadDest + i) + j) ∧
          (d.typ = 0x12 → ∀ j, j < 2 → m ≠ cacheCopy r (2 * (d.loadDest + i) + j))) → t.memAt m = s.memAt m) ∧
      t = { s with
        regs := t.regs, posted := t.posted, sqs := t.sqs, cqs := t.cqs, works := t.works, micro := t.micro, nano := t.nano,
        cache := t.cache, nanoRes := t.nanoRes, engines := t.engines, mem := t.mem }

/-- STREAM_WINDOW and the descriptors of record sets: what an acceptance leaves of the stream (R246) and of the sets (R332, R333,
R396); declined, nothing else changes. -/
def Obligations.WindowsAndSetsAreDecided : Prop :=
  ∀ (s : State) (d : Desc), s.front d.sq = some d → d.sq < 64 → s.deliverable → s.gang = none →
    (d.typ = 0x13 → ∀ data, d.extCount ≠ 0 ∨ data.length * 4 = d.wBytes →
      (windowAnswer s [] d = none → Completes (.streamWindow d.sq data) s fun t =>
        s.accepts t d ∧
        (∃ x w, s.owners d = [x] ∧ t.wins = s.wins ++ [w] ∧ w.desc = d ∧ w.owner = x.desc.uid ∧ w.started = 0 ∧ w.ended = false ∧
          w.data = (if d.extCount = 0 then data else slotWords d.ext (d.wBytes / 4)).map some ∧
          (t.stream d.wRank d.wStream).isOpen = true ∧ (t.stream d.wRank d.wStream).owner = x.desc.uid ∧
          (t.stream d.wRank d.wStream).lastIn = d.wLast ∧
          (t.stream d.wRank d.wStream).admitted = if d.wseq = 0 then 1 else (s.stream d.wRank d.wStream).admitted + 1) ∧
        (∀ r n, r < 8 → n < 256 → (r, n) ≠ (d.wRank, d.wStream) → t.stream r n = s.stream r n) ∧
        s.keepsFlds t (s.acceptFlds d) ∧
        t = { s with
          regs := t.regs, posted := t.posted, sqs := t.sqs, cqs := t.cqs, wins := t.wins, streams := t.streams, engines := t.engines }) ∧
      ∀ c k, windowAnswer s [] d = some (c, k) → Completes (.streamWindow d.sq data) s fun t => s.declines t d c k) ∧
    (d.typ = 0x20 → d.setOp ≠ 1 →
      (allocAnswer s [] d = none → Completes (.recordSetAlloc d.sq) s fun t =>
        s.accepts t d ∧ (∃ w, t.works = s.works ++ [w] ∧ w.desc = d ∧ w.kind = .alloc) ∧
        t.rset d.setNo = { rsetDefault 0 with
          st := .allocating, through := d.setThrough, segs := d.setSegs, pay := d.setPay, stride := d.setStride, base := d.setBase,
          mirror := d.setMirror, held := d.setUnits } ∧
        (∀ n, n ≠ d.setNo → t.rset n = s.rset n) ∧ s.keepsFlds t (s.acceptFlds d) ∧
        t = { s with regs := t.regs, posted := t.posted, sqs := t.sqs, cqs := t.cqs, works := t.works, rsets := t.rsets }) ∧
      ∀ c k, allocAnswer s [] d = some (c, k) → Completes (.recordSetAlloc d.sq) s fun t => s.declines t d c k) ∧
    (d.typ = 0x20 → d.setOp = 1 →
      (recycleAnswer s d = none → Completes (.recordSetRecycle d.sq) s fun t =>
        s.accepts t d ∧ (∃ w, t.works = s.works ++ [w] ∧ w.desc = d ∧ w.kind = .recycle) ∧
        t.rset d.setNo = { s.rset d.setNo with recycling := (s.rset d.setNo).recycling + d.setSegs } ∧
        (∀ n, n ≠ d.setNo → t.rset n = s.rset n) ∧ s.keepsFlds t (s.acceptFlds d) ∧
        t = { s with regs := t.regs, posted := t.posted, sqs := t.sqs, cqs := t.cqs, works := t.works, rsets := t.rsets }) ∧
      ∀ c k, recycleAnswer s d = some (c, k) → Completes (.recordSetRecycle d.sq) s fun t => s.declines t d c k) ∧
    (d.typ = 0x21 →
      (releaseAnswer s [] d = none → Completes (.release d.sq) s fun t =>
        s.accepts t d ∧ (∃ w, t.works = s.works ++ [w] ∧ w.desc = d ∧ w.kind = .release ∧ w.done = false) ∧
        (∀ n, t.rset n = if n ∈ d.releaseSets then { s.rset n with st := .releasing } else s.rset n) ∧
        s.keepsFlds t (s.acceptFlds d) ∧
        t = { s with regs := t.regs, posted := t.posted, sqs := t.sqs, cqs := t.cqs, works := t.works, rsets := t.rsets }) ∧
      ∀ c k, releaseAnswer s [] d = some (c, k) → Completes (.release d.sq) s fun t => s.declines t d c k)

/-- The work of record sets: an ALLOC ends with its pages chosen from the pool's free ones and the set READY (R332, R378); a
RECYCLE frees the oldest filled segments (R334); a RELEASE waits until every record of its sets is delivered, and they are FREE
(R396, R397). -/
def Obligations.SetWorkEnds : Prop :=
  ∀ (s : State) (w : Work), s.work? w.desc.uid = some w → s.deliverable →
    let d := w.desc
    (∀ pages, w.kind = .alloc → pages.length = d.setUnits → pages.Nodup →
      (∀ p ∈ pages, firstPage s.part ≤ p ∧ p < firstPage s.part + poolUnits s.part ∧ ∀ x ∈ s.rsets, p ∉ x.2.pages) →
      Completes (.recordSetReady d.uid pages) s fun t =>
        s.finishes t d w.status 0 (flagWord w.flags) s.stamp ∧
        t.rset d.setNo = { s.rset d.setNo with st := .ready, pages := pages } ∧ (∀ n, n ≠ d.setNo → t.rset n = s.rset n) ∧
        t.works = s.works.filter (fun v => decide (v.desc.uid ≠ d.uid)) ∧
        s.keepsFlds t [pendingBit (s.vectorOf (s.cqOf d.sq))] ∧
        t = { s with regs := t.regs, posted := t.posted, sqs := t.sqs, cqs := t.cqs, works := t.works, rsets := t.rsets }) ∧
    (w.kind = .recycle → Completes (.recycleDone d.uid) s fun t =>
      s.finishes t d w.status 0 (flagWord w.flags) s.stamp ∧
      t.rset d.setNo = { s.rset d.setNo with
        filled := (s.rset d.setNo).filled.drop d.setSegs, recycling := (s.rset d.setNo).recycling - d.setSegs } ∧
      (∀ n, n ≠ d.setNo → t.rset n = s.rset n) ∧ t.works = s.works.filter (fun v => decide (v.desc.uid ≠ d.uid)) ∧
      s.keepsFlds t [pendingBit (s.vectorOf (s.cqOf d.sq))] ∧
      t = { s with regs := t.regs, posted := t.posted, sqs := t.sqs, cqs := t.cqs, works := t.works, rsets := t.rsets }) ∧
    (w.kind = .release → w.done = false → (∀ n ∈ d.releaseSets, (s.rset n).recycling = 0 ∧
        ∀ f ∈ (s.rset n).filled, f.delivered = true) → Completes (.releaseDone d.uid) s fun t =>
      s.finishes t d w.status 0 (flagWord w.flags) s.stamp ∧
      (∀ n, t.rset n = if n ∈ d.releaseSets then rsetDefault n else s.rset n) ∧
      t.works = s.works.filter (fun v => decide (v.desc.uid ≠ d.uid)) ∧
      s.keepsFlds t [pendingBit (s.vectorOf (s.cqOf d.sq))] ∧
      t = { s with regs := t.regs, posted := t.posted, sqs := t.sqs, cqs := t.cqs, works := t.works, rsets := t.rsets })

/-! ### The life of a shot -/

/-- ENGINE_LEAD loads the start state of R179, and the first issue tick is s - L (R180). SHOT_START runs the shot, its claimed
ports rest with their private slots, VPH 0 and full AMP (R225, R226), and ARMED changes to RUN (row 9). The span fence frees the
exclusive claims, and stops what still runs with FENCE and DROPPED (R149, R151). The end of the shot frees its ports, and the last
one takes RUN to ARMED (row 10); the flow claims end 5,000 t after the span (R151). -/
def Obligations.ShotsRunAndEnd : Prop :=
  ∀ (s : State) (x : Shot), s.shot? x.desc.uid = some x →
    let uid := x.desc.uid
    (∀ r e, e < 24 → s.leadShot r e = some x → (s.engine r e).phase = .idle → Completes (.engineLead r e) s fun t =>
      (t.engine r e).phase = .lead ∧ (t.engine r e).shot = uid ∧ (t.engine r e).pc = x.desc.entry r ∧
      (t.engine r e).nextIssue = x.desc.startEpoch - (if s.get (Reg.SE_CFGe_FLUX_ONLY r e) = 1 then 36 else 48) ∧
      (t.engine r e).c0 = BitVec.ofNat 16 (x.desc.arg r) ∧ (t.engine r e).c1 = BitVec.ofNat 16 (x.desc.arg r / 65536) ∧
      (t.engine r e).c2 = 0 ∧ (t.engine r e).c3 = 0 ∧ (t.engine r e).flag = false ∧ (t.engine r e).rstack = [] ∧
      (∀ k, ((t.engine r e).latch k).st = .unarmed) ∧
      (∀ r' e', e' < 24 → (r', e') ≠ (r, e) → t.engine r' e' = s.engine r' e') ∧ t = { s with engines := t.engines }) ∧
    (x.phase = .admitted → x.desc.startEpoch ≤ s.epoch.toNat → s.led x = true →
      (∀ a, x.abort = some a → x.desc.startEpoch < a.epoch) → Completes (.shotStart uid) s fun t =>
        (∃ y, t.shot? uid = some y ∧ y.phase = .running ∧ y.started = true ∧ y.desc = x.desc) ∧
        (∀ r ∈ x.desc.ranks, ∀ p, p < 96 →
          (claimsPort x.desc r p = true →
            (t.port r p).shot = some uid ∧ (t.port r p).piece = .rest ∧ (t.port r p).start = s.epoch.toNat ∧
            (t.port r p).pend = none ∧ (t.port r p).queue = [] ∧
            (s.epoch.toNat % 4 = 0 ∨ 64 ≤ p → (t.port r p).amp = 0x7FFF ∧
              (p < 64 → (t.port r p).fslot = p ∧ (t.port r p).vph = 0 ∧ (t.slot r p).phofs = 0))) ∧
          (claimsPort x.desc r p = false → t.port r p = s.port r p)) ∧
        (s.mode = .armed → s.changesMode t .run 9) ∧ (s.mode ≠ .armed → t.mode = s.mode)) ∧
    (x.started = true → x.desc.startEpoch + x.desc.span ≤ s.epoch.toNat →
      (s.anyEngine x = false → x.exclusive = true →
        exec (.spanFence uid) s = .next (s.updShot uid fun y => { y with exclusive := false })) ∧
      (s.anyEngine x = true → Completes (.spanFence uid) s fun t =>
        (∀ r ∈ x.desc.ranks, ∀ e, e < 24 → (t.engine r e).runs uid = false) ∧
        t.get Reg.CLK_GUARD_FENCE = min (s.get Reg.CLK_GUARD_FENCE + 1) 65535 ∧
        ∃ y, t.shot? uid = some y ∧ y.exclusive = false ∧ flDropped ∈ y.flags)) ∧
    (x.phase = .running → s.shotSpent x = true → Completes (.endOfShot uid) s fun t =>
      (∃ y, t.shot? uid = some y ∧ y.phase = .ended ∧ y.exclusive = false ∧ y.segsLeft = 0) ∧
      (∀ r ∈ x.desc.ranks, ∀ p, p < 96 → (s.port r p).shot = some uid → (t.port r p).shot = none) ∧
      (s.mode = .run → (∀ z ∈ s.shots, z.desc.uid ≠ uid → z.phase ≠ .running) → s.changesMode t .armed 10) ∧
      ((∃ z ∈ s.shots, z.desc.uid ≠ uid ∧ z.phase = .running) → t.mode = s.mode)) ∧
    (x.flow = true → x.desc.startEpoch + x.desc.span + 5000 ≤ s.epoch.toNat →
      exec (.claimRelease uid) s = .next (s.updShot uid fun y => { y with flow := false }))

/-- At the abort epoch the ABORT's work is done: an admitted target is cancelled with ABORTED_HOST, a running one carries
ABORTED_HOST, and with IMMEDIATE its engines stop (R158). A failure notice stops the draining engines of a gang with GANG_STOP on
the surviving Ranks and marks F + 24 for the others (R169, R536). A window ends at the end of its play interval, with DROPPED for
what has not started (R250); a failed read poisons its words (R139). -/
def Obligations.StopsReachTheirTargets : Prop :=
  (∀ (s : State) (w : Work), s.work? w.desc.uid = some w → w.kind = .abort → w.endAt ≤ s.now → w.done = false →
    Completes (.abortEpoch w.desc.uid) s fun t =>
      t.work? w.desc.uid = some { w with done := true, stamp := s.stamp } ∧
      ∀ x ∈ s.shots, w.desc.uid ∈ x.abortedBy →
        (x.phase = .admitted → ∃ y ∈ t.shots, y.desc.uid = x.desc.uid ∧ y.phase = .ended ∧ stAbortedHost ∈ y.status) ∧
        (x.phase = .running →
          (∃ y ∈ t.shots, y.desc.uid = x.desc.uid ∧ stAbortedHost ∈ y.status ∧ y.fixed = true) ∧
          (w.desc.body 33 0 1 = 1 → ∀ r ∈ x.desc.ranks, ∀ e, e < 24 → (t.engine r e).runs x.desc.uid = false))) ∧
  (∀ (s : State) (x : Shot) (r f : Nat), s.shot? x.desc.uid = some x → x.failed.find? (fun g => decide (g.1 = r)) = some (r, f) →
    f + 24 ≤ s.epoch.toNat → x.phase = .running → x.desc.gangStop = true → 1 < x.desc.ranks.length → x.gangStop = none →
    Completes (.failureNotice x.desc.uid r) s fun t =>
      (∃ y, t.shot? x.desc.uid = some y ∧ y.gangStop = some (f + 24)) ∧
      ∀ q ∈ x.desc.ranks, (∀ g ∈ x.failed, g.1 ≠ q) → ∀ e, e < 24 → (s.engine q e).phase = .drain → (s.engine q e).shot = x.desc.uid →
        (t.engine q e).phase = .idle) ∧
  ∀ (s : State) (w : StreamWin), s.win? w.desc.uid = some w → w.ended = false →
    (w.desc.startEpoch + w.desc.span ≤ s.epoch.toNat → Completes (.streamWindowEnd w.desc.uid) s fun t =>
      (∃ v, t.win? w.desc.uid = some v ∧ v.desc = w.desc ∧ v.ended = true ∧ v.endAt = s.now ∧ v.stamp = s.stamp ∧
        (w.started < w.desc.wSegs → flDropped ∈ v.flags)) ∧ t = { s with wins := t.wins }) ∧
    ∀ first count, w.desc.extCount = 0 → w.desc.startEpoch ≤ s.epoch.toNat + 16256 → s.epoch.toNat < w.desc.startEpoch → 0 < count →
      Completes (.streamReadFailure w.desc.uid first count) s fun t =>
        t.get Reg.PCI_DMA_ERR_STREAM = 1 ∧ s.keepsFlds t [Reg.PCI_DMA_ERR_STREAM] ∧
        (∃ v, t.win? w.desc.uid = some v ∧ v.desc = w.desc ∧ v.data.length = w.data.length ∧
          ∀ i, i < w.data.length → v.data[i]? = some (if first ≤ i ∧ i < first + count then none else (w.data[i]?).join)) ∧
        t = { s with regs := t.regs, wins := t.wins }

/-- FINAL_ENTRY writes the final entry of a shot with the status that R132 selects, of an ABORT once the shots it stopped have
theirs (R159), and of a stream window (R250), and with it the reservation ends; LATE_DELIVERY is set when R26's limit has passed. -/
def Obligations.FinalEntriesGoOut : Prop :=
  ∀ s : State, s.deliverable →
    (∀ x : Shot, s.shot? x.desc.uid = some x → x.phase = .ended → x.records = 0 → (∀ z ∈ s.results, z.shot ≠ x.desc.uid) →
      (∀ w ∈ s.wins, w.owner = x.desc.uid → w.ended = true) → (x.started = true → x.endAt + 640 ≤ s.now) →
      Completes (.finalEntry x.desc.uid) s fun t =>
        s.finishes t x.desc x.finalStatus x.failDetail (s.finalFlags x.flags x.endAt) x.stamp ∧
        t.shots = s.shots.filter (fun y => decide (y.desc.uid ≠ x.desc.uid)) ∧
        t.works = s.works.map (fun w => if w.desc.uid ∈ x.abortedBy then { w with stamp := s.stamp } else w) ∧
        s.keepsFlds t [pendingBit (s.vectorOf (s.cqOf x.desc.sq))] ∧
        t = { s with regs := t.regs, posted := t.posted, sqs := t.sqs, cqs := t.cqs, shots := t.shots, works := t.works }) ∧
    (∀ w : Work, s.shot? w.desc.uid = none → s.work? w.desc.uid = some w → w.kind = .abort → w.done = true →
      (∀ x ∈ s.shots, w.desc.uid ∉ x.abortedBy) → Completes (.finalEntry w.desc.uid) s fun t =>
        s.finishes t w.desc w.status 0 (flagWord w.flags) w.stamp ∧
        t.works = s.works.filter (fun v => decide (v.desc.uid ≠ w.desc.uid)) ∧
        s.keepsFlds t [pendingBit (s.vectorOf (s.cqOf w.desc.sq))] ∧
        t = { s with regs := t.regs, posted := t.posted, sqs := t.sqs, cqs := t.cqs, works := t.works }) ∧
    ∀ w : StreamWin, s.shot? w.desc.uid = none → s.work? w.desc.uid = none → s.win? w.desc.uid = some w → w.ended = true →
      Completes (.finalEntry w.desc.uid) s fun t =>
        s.finishes t w.desc w.status 0 (s.finalFlags w.flags w.endAt) w.stamp ∧
        t.wins = s.wins.filter (fun v => decide (v.desc.uid ≠ w.desc.uid)) ∧
        s.keepsFlds t [pendingBit (s.vectorOf (s.cqOf w.desc.sq))] ∧
        t = { s with regs := t.regs, posted := t.posted, sqs := t.sqs, cqs := t.cqs, wins := t.wins }

/-! ### Sequencer engines -/

/-- NOP, JMP, CALL, RET, LDC, LOOP, ADDC and TEST act on the micro-state as Table 05-4 says (R186-R188), and take their cycle
length whatever they do (R183); a fifth CALL raises RSTACK_OVER and a RET of an empty stack RSTACK_UNDER (R188). -/
def Obligations.MicrowordsOfControl : Prop :=
  ∀ (s : State) (r e : Nat) (w : BitVec 32),
    let g := s.engine r e
    let next := (g.pc + 1) % 8192
    let tgt := wordBits w 20 8
    let k := wordBits w 25 24
    let v := BitVec.ofNat 16 (wordBits w 23 8)
    let c := condHolds s g (wordBits w 26 24)
    (s.mayIssue r e 0x00 w → Completes (.nop r e) s fun t => s.issuesTo t r e w { g with pc := next } [.boundary]) ∧
    (s.mayIssue r e 0x02 w → Completes (.jmp r e) s fun t =>
      s.issuesTo t r e w { g with pc := if c = true then tgt else next } [.boundary]) ∧
    (s.mayIssue r e 0x03 w →
      (c = false → Completes (.call r e) s fun t => s.issuesTo t r e w { g with pc := next } [.boundary]) ∧
      (c = true → g.rstack.length < 4 → Completes (.call r e) s fun t =>
        s.issuesTo t r e w { g with pc := tgt, rstack := next :: g.rstack } [.boundary]) ∧
      (c = true → 4 ≤ g.rstack.length → Completes (.call r e) s fun t => s.faultsTo t r e 3 g)) ∧
    (s.mayIssue r e 0x04 w →
      (c = false → Completes (.ret r e) s fun t => s.issuesTo t r e w { g with pc := next } [.boundary]) ∧
      (∀ a l, c = true → g.rstack = a :: l → Completes (.ret r e) s fun t =>
        s.issuesTo t r e w { g with pc := a, rstack := l } [.boundary]) ∧
      (c = true → g.rstack = [] → Completes (.ret r e) s fun t => s.faultsTo t r e 4 g)) ∧
    (s.mayIssue r e 0x05 w → Completes (.ldc r e) s fun t =>
      s.issuesTo t r e w { g.setCounter k v with pc := next } [.boundary]) ∧
    (s.mayIssue r e 0x06 w →
      (g.counter k = 0 → Completes (.loop r e) s fun t => s.issuesTo t r e w { g with pc := next } [.boundary]) ∧
      (g.counter k = 1 → Completes (.loop r e) s fun t =>
        s.issuesTo t r e w { g.setCounter k 0 with pc := next } [.boundary]) ∧
      (g.counter k ≠ 0 → g.counter k ≠ 1 → Completes (.loop r e) s fun t =>
        s.issuesTo t r e w { g.setCounter k (g.counter k - 1) with pc := tgt } [.boundary])) ∧
    (s.mayIssue r e 0x07 w → Completes (.addc r e) s fun t =>
      s.issuesTo t r e w { g.setCounter k (g.counter k + v) with pc := next } [.boundary]) ∧
    (s.mayIssue r e 0x08 w → Completes (.test r e) s fun t =>
      s.issuesTo t r e w { g with pc := next, flag := decide (g.counter k = v) } [.boundary])

/-- PLAY sends its nanoword to the balls (R186), outside the claimed nano range it only counts (R195); QUIET and STOP come to the
balls too (R184); VARM arms its latch for the SOURCE of its ARMS nanoword and stages its n distinct targets by I + 8 + 4 n (R198);
BRV, WAITA and WAITW begin waits, a BRV of an unarmed latch faults (R203), and the waits end at a poll tick with the event or at
the timeout (R200, R206). A nanoword leaves the engine at its ball tick and the engines go on (R193). -/
def Obligations.MicrowordsOfPlayAndWait : Prop :=
  (∀ (s : State) (r e : Nat) (w : BitVec 32),
    let g := s.engine r e
    let next := (g.pc + 1) % 8192
    let a := wordBits w 23 8
    let k := wordBits w 25 24
    let c := condHolds s g (wordBits w 26 24)
    (s.mayIssue r e 0x01 w →
      (c = false → Completes (.play r e) s fun t => s.issuesTo t r e w { g with pc := next } [.boundary]) ∧
      (∀ n, c = true → nanoClaimed s g.shot r a = true → s.nanoWord r a = ⟨n, false⟩ → nwPlayOk n.toNat = true →
        Completes (.play r e) s fun t => s.issuesTo t r e w { g with pc := next } [.nano a n]) ∧
      (∀ n, c = true → nanoClaimed s g.shot r a = true → s.nanoWord r a = ⟨n, false⟩ → nwPlayOk n.toNat = false →
        Completes (.play r e) s fun t => s.faultsTo t r e 2 g) ∧
      (c = true → nanoClaimed s g.shot r a = true → (s.nanoWord r a).poison = true →
        Completes (.play r e) s fun t => s.faultsTo t r e 7 g) ∧
      (c = true → nanoClaimed s g.shot r a = false → Completes (.play r e) s fun t =>
        (t.engine r e).pc = next ∧ t.get Reg.CLK_GUARD_PORT = min (s.get Reg.CLK_GUARD_PORT + 1) 65535 ∧
        (∀ y ∈ t.shots, y.desc.uid = g.shot → flDropped ∈ y.flags) ∧
        s.keepsFlds t (Reg.CLK_GUARD_PORT :: issueFlds r e) ∧
        t = { s with regs := t.regs, engines := t.engines, shots := t.shots })) ∧
    (∀ n, s.mayIssue r e 0x09 w → nanoClaimed s g.shot r a = true → s.nanoWord r a = ⟨n, false⟩ → nwArmsOk n.toNat = true →
      armsSource n.toNat < 32768 →
      let m := (stagedTargets (armsTargets n.toNat)).length
      s.stagingOf r g.shot - (g.latch k).slots + m ≤ s.gambitClaim g.shot r → Completes (.varm r e) s fun t =>
        s.issued t r e { g.setLatch k
          { st := .armed, source := armsSource n.toNat, value := 0, arms := a, targets := armsTargets n.toNat, slots := m,
            armedAt := g.nextIssue, stagedAt := g.nextIssue + 8 + 4 * m, staged := false } with
          pc := next, cur := g.pc, phase := .run, nextIssue := g.nextIssue + (wordBits w 5 0 + 1) * 4 ^ wordBits w 7 6,
          balls := g.balls ++ [⟨g.nextIssue + s.engineL r e, .boundary⟩] } ∧
        s.keepsFlds t (Reg.SE_STAGE_PEAK r :: issueFlds r e) ∧ t = { s with regs := t.regs, engines := t.engines }) ∧
    (s.mayIssue r e 0x0A w →
      ((g.latch k).st ≠ .unarmed → Completes (.brv r e) s fun t => s.waitsTo t r e w (.brv k)) ∧
      ((g.latch k).st = .unarmed → Completes (.brv r e) s fun t => s.faultsTo t r e 5 g)) ∧
    (s.mayIssue r e 0x0B w → Completes (.waita r e) s fun t => s.waitsTo t r e w (.alarm (wordBits w 11 8))) ∧
    (s.mayIssue r e 0x0C w → Completes (.waitw r e) s fun t =>
      s.waitsTo t r e w (.window (wordBits w 10 8) (decide (wordBits w 11 11 = 1)))) ∧
    (s.mayIssue r e 0x0D w → Completes (.quiet r e) s fun t =>
      s.issuesTo t r e w { g with pc := next } [if c = true then .quiet else .boundary]) ∧
    (s.mayIssue r e 0x0E w → Completes (.stop r e) s fun t => s.issuesTo t r e w { g with halted := true } [.stop])) ∧
  (∀ (s : State) (r e k : Nat), k < 4 → ((s.engine r e).latch k).st ≠ .unarmed → ((s.engine r e).latch k).stagedAt ≤ s.epoch.toNat →
    ((s.engine r e).latch k).staged = false → exec (.stagingComplete r e k) s =
      .next (s.setEngine r e ((s.engine r e).setLatch k { (s.engine r e).latch k with staged := true }))) ∧
  (∀ (s : State) (r e : Nat) (w : Wait), s.atPoll r e w →
    let g := s.engine r e
    let next := (g.pc + 1) % 8192
    (∀ k, w.what = .brv k →
      ((g.latch k).st = .full → (g.latch k).staged = true → Completes (.brvEnd r e) s fun t =>
        s.endsWait t r e { g.setLatch k latchDefault with pc := (g.latch k).targets.getD (g.latch k).value 0 }) ∧
      (w.limit ≤ s.epoch.toNat → (g.latch k).st ≠ .full ∨ (g.latch k).staged = false → Completes (.brvTimeout r e) s fun t =>
        s.endsWait t r e { g.setLatch k latchDefault with pc := (g.latch k).targets.getD 0xF 0 })) ∧
    (waitMet s w = true → Completes (.waitEnd r e) s fun t => s.endsWait t r e { g with pc := next, flag := false }) ∧
    (waitMet s w = false → w.limit ≤ s.epoch.toNat → (∀ k, w.what ≠ .brv k) → Completes (.waitTimeout r e) s fun t =>
      s.endsWait t r e { g with pc := next, flag := true })) ∧
  ∀ (s : State) (r e addr t : Nat) (n : BitVec 256) (l : List Ball) (x : Shot), r < s.part.ranks → e < 24 →
    (s.engine r e).balls = ⟨t, .nano addr n⟩ :: l → t ≤ s.epoch.toNat → s.shot? (s.engine r e).shot = some x →
    s.unstopped x = true → (∀ i, i < e → (s.engine r i).dueNano s.epoch.toNat = none) → Completes (.nanowordApply r e) s fun u =>
      u.engine r e = { s.engine r e with balls := l } ∧
      (∀ r' e', e' < 24 → (r', e') ≠ (r, e) → u.engine r' e' = s.engine r' e') ∧
      u.micro = s.micro ∧ u.nano = s.nano ∧ u.cache = s.cache ∧ u.mem = s.mem ∧ (n = 0 → u = { s with engines := u.engines }) ∧
      -- a DRIVE nanoword with one valid command for a claimed channel: the command waits at its port for the frame tick (R193, R227)
      (nwKind n.toNat = 1 → pcValid (bitsOf n.toNat 95 0) = true → pcValid (bitsOf n.toNat 191 96) = false →
        portCmdOk x.desc r (pcTgt (bitsOf n.toNat 95 0)) (pcCommand e (bitsOf n.toNat 95 0)) = true →
        s.get (Reg.SE_CFGe_FLUX_ONLY r e) = 0 → (∀ q ∈ s.commanded, q.1 ≠ t) →
        let p := pcTgt (bitsOf n.toNat 95 0)
        (u.port r p).queue = (s.port r p).queue ++
          [(if pcOpc (bitsOf n.toNat 95 0) = 1 then t else nextFrame t, pcCommand e (bitsOf n.toNat 95 0))])

/-! ### Ports, traps and streams -/

/-- The due command of a port acts: a START of a cached segment and a HALT cut the piece and discard a pending command (R228),
behind a streamed segment they wait (R229); a JUMP waits for the next boundary and replaces a pending one (R231, R232); a MODIFY
changes the channel state alone (R226, R237). A START of a streamed segment that R248 does not allow rests and counts a miss
(R249). A commit chooses the pending command, the next repetition or a rest granule (R230). -/
def Obligations.PortsFollowCommands : Prop :=
  ∀ (s : State) (r p : Nat), p < 96 →
    let x := s.port r p
    let onlyPort (t : State) : Prop := ∀ r' p', p' < 96 → (r', p') ≠ (r, p) → t.port r' p' = s.port r' p'
    (∀ c, x.dueCmd s.epoch.toNat = some c →
      let q := x.queue.eraseP fun z => decide (z.1 ≤ s.epoch.toNat)
      let vph := if c.phOp = 1 then BitVec.ofNat 16 c.phase else if c.phOp = 2 then x.vph + BitVec.ofNat 16 c.phase else x.vph
      (x.piece.isStreamed = true → (c.opc = 0 ∨ c.opc = 2) →
        Completes (if c.opc = 0 then .portStart r p else .portHalt r p) s fun t =>
          t.port r p = { x with queue := q, pend := some c } ∧ onlyPort t ∧ t = { s with ports := t.ports }) ∧
      (x.piece.isStreamed = false → c.opc = 0 → c.streamed = false → Completes (.portStart r p) s fun t =>
        t.port r p = { x with
          queue := q, pend := none, piece := .cached c.seg c.len c.rep, eng := c.engine, start := s.epoch.toNat,
          stop := s.epoch.toNat + 16 * c.len, committed := none, commCmd := none, muteFrom := none, amp := c.amp,
          fslot := if p < 64 then c.fslot else x.fslot, vph := if p < 64 then vph else x.vph } ∧
        onlyPort t ∧ t = { s with ports := t.ports, tones := t.tones }) ∧
      (x.piece.isStreamed = false → c.opc = 0 → c.streamed = true → s.streamReady r p c s.epoch.toNat = none →
        Completes (.portStart r p) s fun t =>
          (t.port r p).piece = .rest ∧ (t.port r p).start = s.epoch.toNat ∧ (t.port r p).pend = none ∧ (t.port r p).queue = q ∧
          (t.port r p).amp = x.amp ∧ onlyPort t ∧
          t.get (Reg.RNK_STRM_STAT_MISS r) = min (s.get (Reg.RNK_STRM_STAT_MISS r) + 1) 65535 ∧
          (∀ y ∈ t.shots, x.shot = some y.desc.uid → flDropped ∈ y.flags) ∧
          s.keepsFlds t [Reg.RNK_STRM_STAT_MISS r] ∧ t = { s with ports := t.ports, regs := t.regs, shots := t.shots }) ∧
      (x.piece.isStreamed = false → c.opc = 2 → Completes (.portHalt r p) s fun t =>
        t.port r p = { x with
          queue := q, pend := none, piece := .rest, eng := c.engine, start := s.epoch.toNat, stop := s.epoch.toNat + 16,
          committed := none, commCmd := none, muteFrom := none } ∧
        onlyPort t ∧ t = { s with ports := t.ports }) ∧
      (c.opc = 1 → x.commitDue p s.epoch.toNat = false → Completes (.portJump r p) s fun t =>
        t.port r p = { x with queue := q, pend := some c } ∧ onlyPort t ∧ t = { s with ports := t.ports }) ∧
      (c.opc = 3 → Completes (.portModify r p) s fun t =>
        t.port r p = { x with
          queue := q, amp := c.amp, fslot := if p < 64 then c.fslot else x.fslot, vph := if p < 64 then vph else x.vph } ∧
        onlyPort t ∧ t = { s with ports := t.ports, tones := t.tones })) ∧
    (x.commitDue p s.epoch.toNat = true →
      (∀ c, x.pend = some c → c.streamed = false → c.opc ≠ 2 → Completes (.segmentCommit r p) s fun t =>
        t.port r p = { x with committed := some (.cached c.seg c.len c.rep, c.engine), commCmd := some c, pend := none } ∧
        onlyPort t ∧ t = { s with ports := t.ports }) ∧
      (∀ c, x.pend = some c → c.opc = 2 → Completes (.segmentCommit r p) s fun t =>
        t.port r p = { x with committed := some (.rest, c.engine), commCmd := none, pend := none } ∧
        onlyPort t ∧ t = { s with ports := t.ports }) ∧
      (∀ seg len k, x.pend = none → x.piece = .cached seg len (k + 1) → Completes (.segmentCommit r p) s fun t =>
        t.port r p = { x with committed := some (.cached seg len k, x.eng), commCmd := none } ∧
        onlyPort t ∧ t = { s with ports := t.ports }) ∧
      (x.pend = none → (∀ seg len k, x.piece ≠ .cached seg len (k + 1)) → Completes (.segmentCommit r p) s fun t =>
        t.port r p = { x with committed := some (.rest, x.eng), commCmd := none } ∧ onlyPort t ∧ t = { s with ports := t.ports }))

/-- A micro-trap counts, tells its cause and sets TRAPPED, and the word it met is poisoned (R210, R212). A retry with a good copy
and a good save record by the due tick puts the word back and leaves the engine as it was; past the due tick the Rank fails and
its engines of the shot stop (R212, R168). A stream whose next window is not admitted by its lead tick starves, and its engine
arms the fallback (R251). A poisoned word of the waveform cache is rewritten from its copy (R224). -/
def Obligations.TrapsAndRecovery : Prop :=
  (∀ (s : State) (r e addr due : Nat) (nano : Bool), r < s.part.ranks → e < 24 → addr < (if nano then 65536 else 8192) →
    s.epoch.toNat ≤ due → due ≤ s.epoch.toNat + 256 → (s.engine r e).readsAhead = true →
    Completes (.microTrap r e nano addr due) s fun t =>
      (t.engine r e).trap = some ⟨if nano then 2 else 1, due, addr, nano⟩ ∧
      t.engine r e = { s.engine r e with trap := (t.engine r e).trap } ∧
      (∀ r' e', e' < 24 → (r', e') ≠ (r, e) → t.engine r' e' = s.engine r' e') ∧
      t.get (Reg.SE_TRAPe_CAUSE r e) = (if nano then 2 else 1) ∧
      t.get (Reg.SE_TRAPe_COUNT r e) = min (s.get (Reg.SE_TRAPe_COUNT r e) + 1) 65535 ∧
      (t.rd (Reg.SE_TRAPS r)).toNat = min ((s.rd (Reg.SE_TRAPS r)).toNat + 1) 0xFFFFFFFF ∧
      (∀ y ∈ t.shots, y.desc.uid = (s.engine r e).shot → flTrapped ∈ y.flags) ∧
      (if nano then (t.nanoWord r addr).poison = true ∧ t.micro = s.micro else (t.microWord r e addr).poison = true ∧ t.nano = s.nano)) ∧
  (∀ (s : State) (r e : Nat) (k : Trap), (s.engine r e).trap = some k → e < 24 →
    (s.epoch.toNat ≤ k.due → k.nano = false → (s.memAt (microCopy r e k.addr)).poison = false →
      (s.memAt (microCopy r e k.addr)).flips = 0 →
      (∀ i, i < 16 → (s.memAt (saveArea r e + i)).poison = false ∧ (s.memAt (saveArea r e + i)).flips = 0) →
      Completes (.trapRetryEnd r e) s fun t =>
        t.microWord r e k.addr =
          ⟨(s.memAt (microCopy r e k.addr)).data.extractLsb' (32 * (k.addr % 2)) 32, false⟩ ∧
        t.engine r e = { s.engine r e with trap := none } ∧
        (∀ r' e', e' < 24 → (r', e') ≠ (r, e) → t.engine r' e' = s.engine r' e') ∧
        t = { s with engines := t.engines, micro := t.micro }) ∧
    (∀ x, k.due < s.epoch.toNat → s.shot? (s.engine r e).shot = some x → Completes (.trapRetryEnd r e) s fun t =>
      (∀ e', e' < 24 → (t.engine r e').runs x.desc.uid = false) ∧
      ∃ y, t.shot? x.desc.uid = some y ∧ (r, s.epoch.toNat) ∈ y.failed ∧ flBroken ∈ y.flags ∧ flPoisoned ∈ y.flags ∧
        (if x.desc.ranks.length = 1 then stMemUncorrectable else stGangPartial) ∈ y.status)) ∧
  (∀ (s : State) (r n : Nat) (w : StreamWin), s.lastWin r n = some w → (s.stream r n).isOpen = true → (s.stream r n).starved = false →
    w.desc.wLast = false → leadTick w.desc ≤ s.epoch.toNat → n < 256 → Completes (.streamMissing r n) s fun t =>
      t.stream r n = { s.stream r n with starved := true } ∧
      t.get (Reg.RNK_STRM_STAT_STARVED r) = min (s.get (Reg.RNK_STRM_STAT_STARVED r) + 1) 65535 ∧
      t.engine r w.desc.wEngine = { s.engine r w.desc.wEngine with
        fallbacks := (s.engine r w.desc.wEngine).fallbacks ++
          [⟨n, w.desc.startEpoch + w.desc.span - 20000, w.desc.wseq + 1, w.desc.fbLoop, w.desc.fbExit, false⟩] } ∧
      (∀ y ∈ t.shots, y.desc.uid = w.owner → flTrapped ∈ y.flags)) ∧
  ∀ (s : State) (r w : Nat), r < s.part.ranks → 2 * w + 1 < cacheWords →
    (s.cacheWord r (2 * w)).poison = true ∨ (s.cacheWord r (2 * w + 1)).poison = true →
    (s.memAt (cacheCopy r w)).flips = 0 → (s.memAt (cacheCopy r w)).poison = false → Completes (.cacheRewrite r w) s fun t =>
      t.cacheWord r (2 * w) = ⟨(s.memAt (cacheCopy r w)).data.extractLsb' 0 32, false⟩ ∧
      t.cacheWord r (2 * w + 1) = ⟨(s.memAt (cacheCopy r w)).data.extractLsb' 32 32, false⟩ ∧
      (∀ r' a, a < cacheWords → (r', a) ≠ (r, 2 * w) → (r', a) ≠ (r, 2 * w + 1) → t.cacheWord r' a = s.cacheWord r' a) ∧
      t = { s with cache := t.cache }

/-! ### Outputs -/

/-- A write of the control register of an unclaimed line or of the markers releases it and waits 64 t (R266, R268); a claimed one
refuses it with CAUSE 0x4 (R269). A waiting setting takes effect at a frame tick, and a change of FSC settles for 5,000 t (R271);
slot writes and INTERP take effect at a frame tick (R276, R278). Every code lies within the limit of its line, whatever the sum,
and saturation and the limit are told apart (R263, R274). -/
def Obligations.LinesFollowTheirSettings : Prop :=
  (∀ (s : State) (rid r l : Nat) (v : Word), r < 8 → s.rankWritable r →
    (l < 18 → lineClaimed s r l = false → Completes (.drvCtrlWrite rid r l v) s fun t =>
      t.rd (lineCtrl r l) = (v &&& if l < 16 then 0x31 else 0x731) ∧
      t.line r l = { s.line r l with
        mute := s.flag ⟨lineCtrl r l, 31, 31⟩ || (s.line r l).mute,
        pend := (s.line r l).pend ++ [(s.now + 64, decide (wordBits v 0 0 = 1), wordBits v 5 4, wordBits v 10 8)] } ∧
      (∀ r' l', l' < 18 → (r', l') ≠ (r, l) → t.line r' l' = s.line r' l') ∧
      s.keepsFlds t [whole (lineCtrl r l)] ∧ t = { s with regs := t.regs, lines := t.lines }) ∧
    (l < 18 → lineClaimed s r l = true →
      exec (.drvCtrlWrite rid r l v) s = .next (s.accessError rid 4 (lineCtrl r l))) ∧
    (lineClaimed s r 18 = true →
      exec (.drvCtrlWrite rid r 18 v) s = .next (s.accessError rid 4 (Reg.DRV_MRK_CTRL r))) ∧
    (lineClaimed s r 18 = false → Completes (.drvCtrlWrite rid r 18 v) s fun t =>
      t.rd (Reg.DRV_MRK_CTRL r) = v &&& 0xFF ∧
      t.mrkMuteAt r =
        ⟨if s.get (Reg.DRV_MRK_CTRL_CLEAR r) = 1 then 0xFF else (s.mrkMuteAt r).mask,
          (s.mrkMuteAt r).pend ++ [(s.now + 64, wordBits v 7 0)]⟩ ∧
      (∀ r', r' ≠ r → t.mrkMuteAt r' = s.mrkMuteAt r') ∧
      s.keepsFlds t [whole (Reg.DRV_MRK_CTRL r)] ∧ t = { s with regs := t.regs, mrkMute := t.mrkMute })) ∧
  (∀ (s : State) (r : Nat), s.epoch.toNat % 4 = 0 →
    (∀ l due m f sh rest, r < s.part.ranks → l < 18 → (s.line r l).pend = (due, m, f, sh) :: rest → due ≤ s.now →
      Completes (.lineSettingEffect r l) s fun t =>
        t.line r l = { s.line r l with
          mute := m, fsc := f, shift := if l < 16 then (s.line r l).shift else min sh 4, pend := rest,
          settle := if f = (s.line r l).fsc then (s.line r l).settle else some (s.now + 5000) } ∧
        (∀ r' l', l' < 18 → (r', l') ≠ (r, l) → t.line r' l' = s.line r' l') ∧ t = { s with lines := t.lines }) ∧
    (∀ due m rest, r < s.part.ranks → (s.mrkMuteAt r).pend = (due, m) :: rest → due ≤ s.now →
      Completes (.lineSettingEffect r 18) s fun t =>
        t.mrkMuteAt r = ⟨m, rest⟩ ∧ (∀ r', r' ≠ r → t.mrkMuteAt r' = s.mrkMuteAt r') ∧ t = { s with mrkMute := t.mrkMute }) ∧
    (∀ f w, f < 128 → s.slotWrites.find? (fun x => decide (x.slot = r * 128 + f)) = some w → w.due ≤ s.now →
      Completes (.slotEffect r f) s fun t =>
        t.slot r f = ⟨w.freq, w.phofs⟩ ∧ (∀ r' f', f' < 128 → (r', f') ≠ (r, f) → t.slot r' f' = s.slot r' f') ∧
        t.slotWrites = s.slotWrites.eraseP (fun x => decide (x.slot = r * 128 + f)) ∧
        t = { s with slots := t.slots, tones := t.tones, slotWrites := t.slotWrites }) ∧
    ∀ c due b, c < 64 → s.interpPend.find? (fun e => decide (e.2.1 = r * 64 + c)) = some (due, r * 64 + c, b) → due ≤ s.now →
      Completes (.interpEffect r c) s fun t =>
        t.interp.get interpDefault (r * 64 + c) = b ∧
        (∀ k, k ≠ r * 64 + c → t.interp.get interpDefault k = s.interp.get interpDefault k) ∧
        t = { s with interp := t.interp, interpPend := t.interpPend }) ∧
  (∀ (s : State) (r l u : Nat), l < 18 → (s.line r l).settle = some u → u ≤ s.now → Completes (.fscSettleEnd r l) s fun t =>
    t.line r l = { s.line r l with settle := none } ∧
    (∀ r' l', l' < 18 → (r', l') ≠ (r, l) → t.line r' l' = s.line r' l') ∧ t = { s with lines := t.lines }) ∧
  ∀ sum lim : Int, 0 ≤ lim → lim ≤ 32767 →
    -lim ≤ (clampCode sum lim).1 ∧ (clampCode sum lim).1 ≤ lim ∧ (-lim ≤ sum → sum ≤ lim → (clampCode sum lim).1 = sum) ∧
      ((clampCode sum lim).2.1 = true ↔ sum < -32767 ∨ 32767 < sum) ∧
      (lim < 32767 → ((clampCode sum lim).2.2 = true ↔ sum < -lim ∨ lim < sum))

/-- A write of a flux or bias control register releases the output and requests its span: the span in force cancels, another one
is pending (R299, R303). The hold begins 64 t later at an unclaimed output, or at a quiet point, or when the last claim has ended;
it takes the new span at 0 V for 500 t or 5,000 t (R304, R305). Waiting values, limits and predistortion take effect at their tick
(R291, R293, R295, R297), a BIAS value clamped to its limit and counted (R297), and CLRCODE applies at R + 5,001 (R300). -/
def Obligations.FluxOutputsFollowTheirSettings : Prop :=
  (∀ (s : State) (rid r k : Nat) (v : Word), r < 8 → k < 32 → s.rankWritable r →
    (Completes (.rangeChangeRequest rid r false k v) s fun t =>
      t.get (Reg.FFX_CTRLk_CLEAR r k) = 0 ∧ t.get (Reg.FFX_CTRLk_SPAN r k) = wordBits v 0 0 ∧
      t.ffxAt r k = { s.ffxAt r k with
        range := if wordBits v 0 0 = (s.ffxAt r k).span then none else some ⟨wordBits v 0 0, !fluxClaimed s r false k, s.now⟩ } ∧
      s.keepsFlds t [Reg.FFX_CTRLk_CLEAR r k, Reg.FFX_CTRLk_SPAN r k] ∧ t = { s with regs := t.regs, ffx := t.ffx }) ∧
    Completes (.rangeChangeRequest rid r true k v) s fun t =>
      t.get (Reg.BIA_CTRLk_CLEAR r k) = 0 ∧ t.get (Reg.BIA_CTRLk_SPAN r k) = wordBits v 1 0 ∧
      t.get (Reg.BIA_CTRLk_CAL_EN r k) = wordBits v 8 8 ∧
      t.biaAt r k = { s.biaAt r k with
        range := if wordBits v 1 0 = (s.biaAt r k).span then none else some ⟨wordBits v 1 0, !fluxClaimed s r true k, s.now⟩ } ∧
      s.keepsFlds t [Reg.BIA_CTRLk_CLEAR r k, Reg.BIA_CTRLk_SPAN r k, Reg.BIA_CTRLk_CAL_EN r k] ∧
      t = { s with regs := t.regs, bia := t.bia }) ∧
  ∀ (s : State) (r k : Nat), r < s.part.ranks → k < 32 →
    let f := s.ffxAt r k
    let b := s.biaAt r k
    let sameFfx (t : State) : Prop := ∀ r' k', k' < 32 → (r', k') ≠ (r, k) → t.ffxAt r' k' = s.ffxAt r' k'
    -- the output takes a code, clamped, in this tick
    let takes (t : State) (code : Int) (c : Bia) : Prop :=
      t.biaAt r k = { c with code := biasClamp c.span c.lim code, last := some s.now } ∧
      (∀ r' k', k' < 32 → (r', k') ≠ (r, k) → t.biaAt r' k' = s.biaAt r' k') ∧
      t.get64 (Reg.BIA_LAST_LOk r k) = s.epoch.toNat ∧
      t.get (Reg.BIA_STATk_LIM_HIT r k) = (if biasClamp c.span c.lim code = code then s.get (Reg.BIA_STATk_LIM_HIT r k)
        else min (s.get (Reg.BIA_STATk_LIM_HIT r k) + 1) 65535) ∧
      (biasClamp c.span c.lim code ≠ code → t.get ⟨Reg.BIA_HIT r, k, k⟩ = 1) ∧
      s.keepsFlds t [whole (Reg.BIA_LAST_LOk r k), whole (Reg.BIA_LAST_LOk r k + 4), Reg.BIA_STATk_LIM_HIT r k,
        ⟨Reg.BIA_HIT r, k, k⟩] ∧
      t = { s with regs := t.regs, bia := t.bia }
    (∀ q, f.range = some q → f.hold = none → (q.free = true ∧ q.since + 64 ≤ s.now) ∨ f.quiet = true ∨
        (q.free = false ∧ fluxClaimed s r false k = false) → Completes (.rangeHoldBegin r false k) s fun t =>
      t.ffxAt r k = { f with span := q.span, range := none, hold := some (s.now + 500), x := 0, s0 := 0, s1 := 0 } ∧
      sameFfx t ∧ t = { s with ffx := t.ffx }) ∧
    (∀ q, b.range = some q → b.hold = none → (q.free = true ∧ q.since + 64 ≤ s.now) ∨ b.quiet = true ∨
        (q.free = false ∧ fluxClaimed s r true k = false) → Completes (.rangeHoldBegin r true k) s fun t =>
      (t.biaAt r k).code = 0 ∧ takes t 0 { b with span := q.span, range := none, hold := some (s.now + 5000), clrAt := none }) ∧
    (∀ u, f.hold = some u → u ≤ s.now → Completes (.rangeHoldEnd r false k) s fun t =>
      t.ffxAt r k = { f with hold := none } ∧ sameFfx t ∧ t = { s with ffx := t.ffx }) ∧
    (∀ u, b.hold = some u → u ≤ s.now → Completes (.rangeHoldEnd r true k) s fun t =>
      t.biaAt r k = { b with hold := none } ∧ t = { s with bia := t.bia }) ∧
    (∀ u v, f.valPend = some (u, v) → u ≤ s.now → f.hold = none → Completes (.ffxValEffect r k) s fun t =>
      t.ffxAt r k = { f with x := v, valPend := none } ∧ sameFfx t ∧ t = { s with ffx := t.ffx }) ∧
    (∀ u v, b.valPend = some (u, v) → u ≤ s.now → b.hold = none → (∀ z, b.last = some z → z + 25000 ≤ s.now) →
      Completes (.biaValEffect r k) s fun t => takes t (biasCode b.span v.toNat) { b with valPend := none, clrAt := none }) ∧
    (∀ u v rest, f.limPend = (u, v) :: rest → u ≤ s.now → Completes (.limitEffect r false k) s fun t =>
      t.ffxAt r k = { f with lim := v, limPend := rest } ∧ sameFfx t ∧ t = { s with ffx := t.ffx }) ∧
    (∀ u v rest, b.limPend = (u, v) :: rest → u ≤ s.now →
      (biasClamp b.span v b.code = b.code → Completes (.limitEffect r true k) s fun t =>
        t.biaAt r k = { b with lim := v, limPend := rest } ∧ t = { s with bia := t.bia }) ∧
      (biasClamp b.span v b.code ≠ b.code → Completes (.limitEffect r true k) s fun t =>
        takes t b.code { b with lim := v, limPend := rest })) ∧
    (∀ u second a kk rest, f.pdPend = (u, second, a, kk) :: rest → u ≤ s.now → Completes (.predistortionEffect r k) s fun t =>
      t.ffxAt r k = { f with
        a0 := if second then f.a0 else a, k0 := if second then f.k0 else kk, a1 := if second then a else f.a1,
        k1 := if second then kk else f.k1, s0 := f.x, s1 := f.x, pdPend := rest } ∧ sameFfx t ∧ t = { s with ffx := t.ffx }) ∧
    ∀ u, b.clrAt = some u → u ≤ s.now → Completes (.clrcodeApply r k) s fun t =>
      takes t (biasCode b.span (s.get (Reg.BIA_CLRCODEk_CODE r k))) { b with clrAt := none }

/-! ### Acquisition, verdicts and records -/

/-- FILT and GAIN come into force at a frame tick and make frames invalid (R318, R341). The command that arms next finds its
window idle and arms it, or finds it busy and counts in BUSY_DROP; one with MODE 0b10 arms its trace unit (R320, R327). An armed
window opens at the first frame tick at or after its arm tick or its trigger; a forced trigger fires when none came within TIMEOUT
(R328). At its end the window's point gives the verdict of Table 09-3: 0xE, 0xF, the nearest region within its radius, or 0xC
(R321, R324, R325). A capture that ends leaves its unit re-arming for at least 40 t (R330, R331). -/
def Obligations.WindowsArmOpenAndEnd : Prop :=
  ∀ (s : State) (r k : Nat), k < 32 →
    let w := s.rwin r k
    let u := s.unit r (k / 16)
    let sameWins (t : State) : Prop := ∀ r' k', k' < 32 → (r', k') ≠ (r, k) → t.rwin r' k' = s.rwin r' k'
    let flagged (t : State) (uid fl : Nat) : Prop :=
      t.shots.length = s.shots.length ∧ ∀ x ∈ s.shots, x.desc.uid = uid → ∃ y ∈ t.shots, y.desc = x.desc ∧ fl ∈ y.flags
    (∀ d v rest, (s.tone r k).filtPend = (d, v) :: rest → d ≤ s.now → s.epoch.toNat % 4 = 0 → v ≠ (s.tone r k).filt →
      Completes (.filtEffect r k) s fun t =>
        t.tone r k = { s.tone r k with
          filt := v, filtPend := rest, hist := [],
          badUntil := if v = 0 then (s.tone r k).badUntil else max (s.tone r k).badUntil (s.epoch.toNat + 4 * (2 ^ v - 1)) } ∧
        t = { s with tones := t.tones }) ∧
    (∀ d v rest, (s.feed r (k / 16)).gainPend = (d, v) :: rest → d ≤ s.now → s.epoch.toNat % 4 = 0 →
      v ≠ (s.feed r (k / 16)).gain → Completes (.gainEffect r (k / 16)) s fun t =>
        (t.feed r (k / 16)).gain = v ∧ (t.feed r (k / 16)).gainPend = rest ∧
        (t.feed r (k / 16)).badUntil = max (s.feed r (k / 16)).badUntil (s.epoch.toNat + 64) ∧
        (t.tone r k).badUntil = max (s.tone r k).badUntil (s.epoch.toNat + 64) ∧
        t = { s with tones := t.tones, feeds := t.feeds }) ∧
    (∀ c, nextArm s r k = some c → c.mode ≠ 2 → w.cmd = none → Completes (.resultWindowArm r k) s fun t =>
      t.rwin r k = { rwinDefault 0 with
        cmd := some c, armedAt := s.epoch.toNat, src := trigSource (s.get (Reg.ACQ_RWCFGk_TRIG_SRC r k)),
        timeout := max 16 (s.get (Reg.ACQ_RWCFGk_TIMEOUT r k)),
        traceMissed := decide (c.mode = 1) && (decide (u.st ≠ .ready) || throughBusy s c.shot) } ∧
      sameWins t ∧
      (c.mode = 1 → u.st = .ready → throughBusy s c.shot = false →
        (t.unit r (k / 16)).st = .armed ∧ (t.unit r (k / 16)).cmd = some c) ∧
      (c.mode ≠ 1 → t.regs = s.regs ∧ t.shots = s.shots ∧ t.traces = s.traces) ∧
      t = { s with acqs := s.acqs.erase c, rwins := t.rwins, regs := t.regs, shots := t.shots, traces := t.traces }) ∧
    (∀ c d, nextArm s r k = some c → c.mode ≠ 2 → w.cmd = some d → (∀ a, w.openAt = some a → s.epoch.toNat < a + 4 * d.frames) →
      Completes (.resultWindowArm r k) s fun t =>
        t.get (Reg.ACQ_STAT_BUSY_DROP r) = min (s.get (Reg.ACQ_STAT_BUSY_DROP r) + 1) 65535 ∧ flagged t c.shot flDropped ∧
        s.keepsFlds t [Reg.ACQ_STAT_BUSY_DROP r] ∧ t = { s with acqs := s.acqs.erase c, regs := t.regs, shots := t.shots }) ∧
    (∀ c, nextArm s r k = some c → c.mode = 2 → w.cmd = none → u.st = .ready → throughBusy s c.shot = false →
      Completes (.resultWindowArm r k) s fun t =>
        t.unit r (k / 16) = { u with
          st := .armed, cmd := some c, armedAt := s.epoch.toNat,
          src := trigSource (s.get (Reg.ACQ_TRCFGu_TRIG_SRC r (k / 16))),
          timeout := max 16 (s.get (Reg.ACQ_TRCFGu_TIMEOUT r (k / 16))), trig := none, forced := false, openAt := none, inv := 0,
          clip := false } ∧
        t = { s with acqs := s.acqs.erase c, traces := t.traces }) ∧
    (∀ c a, w.cmd = some c → c.rank = r → c.tone = k → w.openAt = none → a ≤ s.epoch.toNat →
      (w.src = 0 ∧ a = nextFrame w.armedAt) ∨ (w.src ≠ 0 ∧ ∃ x, w.trig = some x ∧ a = nextFrame x) →
      Completes (.windowOpen r k false) s fun t =>
        (t.rwin r k).openAt = some a ∧ (t.rwin r k).cmd = some c ∧ sameWins t ∧
        (s.get (Reg.DMD_RXCALf_STALE r (k / 16)) = 1 → flagged t c.shot flCalStale) ∧
        (u.cmd = some c → u.st = .armed → (t.unit r (k / 16)).st = .capturing ∧ (t.unit r (k / 16)).openAt = some a ∧
          (t.unit r (k / 16)).endAt = a + 4 * c.frames) ∧
        s.keepsFlds t [whole (Reg.DMD_INV r)] ∧
        t = { s with rwins := t.rwins, shots := t.shots, regs := t.regs, traces := t.traces }) ∧
    (∀ c a, u.cmd = some c → c.mode = 2 → u.st = .armed → a ≤ s.epoch.toNat →
      (u.src = 0 ∧ a = nextFrame u.armedAt) ∨ (u.src ≠ 0 ∧ ∃ x, u.trig = some x ∧ a = nextFrame x) →
      Completes (.windowOpen r (k / 16) true) s fun t =>
        (t.unit r (k / 16)).st = .capturing ∧ (t.unit r (k / 16)).openAt = some a ∧
        (t.unit r (k / 16)).endAt = a + max 16 (s.get (Reg.ACQ_TRPOSTu_POST r (k / 16))) ∧
        t = { s with shots := t.shots, traces := t.traces }) ∧
    (∀ c, w.cmd = some c → w.openAt = none → w.trig = none → w.src ≠ 0 → w.armedAt + w.timeout + 12 ≤ s.epoch.toNat →
      Completes (.forcedTrigger r k false) s fun t =>
        t.rwin r k = { w with trig := some (w.armedAt + w.timeout), forced := true } ∧
        t.get (Reg.ACQ_RWSTATk_FORCED r k) = min (s.get (Reg.ACQ_RWSTATk_FORCED r k) + 1) 65535 ∧ flagged t c.shot flForced ∧
        s.keepsFlds t [Reg.ACQ_RWSTATk_FORCED r k] ∧ t = { s with rwins := t.rwins, shots := t.shots, regs := t.regs }) ∧
    (∀ c, u.cmd = some c → c.mode = 2 → u.st = .armed → u.trig = none → u.src ≠ 0 →
      u.armedAt + u.timeout + 12 ≤ s.epoch.toNat → Completes (.forcedTrigger r (k / 16) true) s fun t =>
        t.unit r (k / 16) = { u with trig := some (u.armedAt + u.timeout), forced := true } ∧ flagged t c.shot flForced ∧
        t = { s with shots := t.shots, traces := t.traces }) ∧
    (∀ c a ue, w.cmd = some c → w.openAt = some a → a + 4 * c.frames ≤ s.epoch.toNat →
      Completes (.integrationEnd r k ue) s fun t =>
        let sh := min 47 (s.get (Reg.ACQ_WHDRw_RSHIFT r c.wset))
        let dist (j : Nat) : Int := (pointOf w.aI sh - signed 24 (s.rd (Reg.ACQ_RGNd_j_CI r c.dset j)).toNat) ^ 2 +
          (pointOf w.aQ sh - signed 24 (s.rd (Reg.ACQ_RGNd_j_CQ r c.dset j)).toNat) ^ 2
        let rad (j : Nat) : Int := ((s.rd (Reg.ACQ_RGNd_j_RAD r c.dset j)).toNat % 2 ^ 24 : Nat)
        let n := min 12 (s.get (Reg.ACQ_DHDRd_NSTATES r c.dset))
        let strict := s.get (Reg.ACQ_RWCFGk_STRICT r k) = 1 ∧ w.inv ≠ 0
        (t.rwin r k).cmd = none ∧ sameWins t ∧
        (∃ v record,
          (c.verd = true ∨ record.isSome = true → t.results = s.results ++
            [⟨c.shot, c.engine, r, k, a + 4 * c.frames, if c.verd then some v else none, record, false, false, false⟩]) ∧
          (c.verd = false → record = none → t.results = s.results) ∧ (c.mode ≠ 1 → (record.isSome = true ↔ c.record = true)) ∧
          (ue = true → v = 0xE) ∧ (ue = false → strict → v = 0xF) ∧
          (ue = false → ¬strict →
            (v < n ∧ dist v ≤ rad v ^ 2 ∧ ∀ j, j < n → dist v ≤ dist j ∧ (j < v → dist v < dist j)) ∨
            (v = 0xC ∧ ∀ j, j < n → (∀ i, i < n → dist j ≤ dist i ∧ (i < j → dist j < dist i)) → rad j ^ 2 < dist j))) ∧
        t = { s with rwins := t.rwins, shots := t.shots, results := t.results, traces := t.traces }) ∧
    (∀ c a, u.cmd = some c → u.st = .capturing → u.openAt = some a → u.endAt ≤ s.epoch.toNat →
      (c.mode ≠ 2 → (s.rwin r c.tone).cmd ≠ some c) → (c.mode = 2 → recordTurn s (r * 34 + k / 16) = true) →
      Completes (.captureEnd r (k / 16)) s fun t =>
        (t.unit r (k / 16)).st = .rearming ∧ (t.unit r (k / 16)).cmd = none ∧ (t.unit r (k / 16)).endTick = s.now ∧
        (t.unit r (k / 16)).lastShot = some c.shot ∧
        (c.mode = 2 → (t.unit r (k / 16)).missed = 0) ∧ (c.mode ≠ 2 → (t.unit r (k / 16)).missed = u.missed ∧ t.regs = s.regs) ∧
        t = { s with traces := t.traces, rsets := t.rsets, mem := t.mem, shots := t.shots, regs := t.regs }) ∧
    (u.st = .rearming → u.endTick + 40 ≤ s.now → s.now ≤ u.endTick + 500 → Completes (.traceRearm r (k / 16)) s fun t =>
      t.unit r (k / 16) = { u with st := .ready, dead := s.now - u.endTick } ∧
      t.get (Reg.ACQ_TRSTATu_DEAD r (k / 16)) = s.now - u.endTick ∧ s.keepsFlds t [Reg.ACQ_TRSTATu_DEAD r (k / 16)] ∧
      t = { s with traces := t.traces, regs := t.regs })

/-- At B + 20 a verdict is on the fabric, counted and shown, 0xE if its Rank failed, and its record completes (R343, R326, R334):
it fills the next segment of its set, or is dropped and counted (R335). At B + 28 it enters the queue of every OUT port of its
route with the delivery tick B + 194 (R354), unless a lower tone took the slot (R348), the port polices it (R350) or is not UP
(R359). At B + 44 it reaches every armed latch of its source (R343). Received verdicts are forwarded and delivered by their own
ticks (R355, R345), and a loss reaches the latches 16 t after it (R358). -/
def Obligations.VerdictsTravelTheFabric : Prop :=
  ∀ (s : State) (r k : Nat), r < 8 → k < 32 →
    let t0 := r * 32 + k
    let allCapture (t : State) (p : Nat → Bool) (v : Nat) : Prop :=
      ∀ r' e, t.engine r' e = (s.engine r' e).capture p v s.epoch.toNat
    let dropped (t : State) (uid : Nat) : Prop := ∀ y ∈ t.shots, y.desc.uid = uid → flDropped ∈ y.flags
    let marked (t : State) (x : Res) : Prop := t.results = s.results.map fun z => if z = x then { x with enqueued := true } else z
    (∀ x, s.res? r k (fabricDue s) = some x → (∀ d, x.record = some d → recordTurn s (recordPlace d) = true) →
      let v := x.verdict.map fun v => if s.rankFailed x.shot r then 0xE else v
      Completes (.verdictOnFabric r k) s fun t =>
        (∀ w, v = some w → w < 16 →
          t.results = s.results.map (fun z => if z = x then { x with verdict := some w, onFabric := true, record := none } else z) ∧
          t.get64 Reg.VRD_CNT_LO = (s.get64 Reg.VRD_CNT_LO + 1) % 2 ^ 64 ∧ t.get (Reg.ACQ_RWSTATk_VERDICT r k) = w) ∧
        (v = none → t.results = s.results.erase x ∧ t.get64 Reg.VRD_CNT_LO = s.get64 Reg.VRD_CNT_LO ∧
          t.get (Reg.ACQ_RWSTATk_VERDICT r k) = s.get (Reg.ACQ_RWSTATk_VERDICT r k)) ∧
        (x.record = none → t = { s with regs := t.regs, results := t.results }) ∧
        (∀ d y, x.record = some d → s.shot? d.shot = some y →
          let n := y.desc.recset
          let q := s.rset n
          (n = 0xFFFF ∨ y.segsLeft = 0 → t.rsets = s.rsets ∧ t.mem = s.mem ∧ dropped t d.shot ∧
            t.get (Reg.ACQ_STAT_NOREC d.rank) = min (s.get (Reg.ACQ_STAT_NOREC d.rank) + 1) 65535) ∧
          (n ≠ 0xFFFF → y.segsLeft ≠ 0 → q.through = false → d.cap = none →
            let hdr := recordHeader { d with verdict := v.getD 0xF } y.desc.tag y.desc.sq q.count (recFlagWord d.flags) 0 0
            t.rset n = { q with
              fillPos := if q.fillPos + 1 = q.segs then 0 else q.fillPos + 1, count := q.count + 1,
              filled := q.filled ++ [⟨q.fillPos, q.count, y.desc.uid, hdr, 0, 0, false, none, false⟩] } ∧
            (∀ i, i < 8 → t.memAt (q.word (q.fillPos * segPitch q.pay + 8 * i)) = ⟨hdr.extractLsb' (64 * i) 64, false, 0⟩) ∧
            ∀ m, m ≠ n → t.rset m = s.rset m)) ∧
        s.keepsFlds t ([whole Reg.VRD_CNT_LO, whole (Reg.VRD_CNT_LO + 4), Reg.ACQ_RWSTATk_VERDICT r k] ++
          (x.record.map fun d => Reg.ACQ_STAT_NOREC d.rank).toList) ∧
        t = { s with regs := t.regs, results := t.results, rsets := t.rsets, mem := t.mem, shots := t.shots }) ∧
    (∀ x, s.res? r k (enqueueDue s) = some x → enqueueTurn s x = true →
      (s.toneRoute t0 = none → Completes (.routeEnqueue r k) s fun t => marked t x ∧ t = { s with results := t.results }) ∧
      ∀ n slot, s.toneRoute t0 = some (n, slot) →
        (s.results.any (sameSlot s x) = true → Completes (.routeEnqueue r k) s fun t =>
          marked t x ∧ dropped t x.shot ∧
          t.get (Reg.MSH_RTSTATn_POLICED n) = min (s.get (Reg.MSH_RTSTATn_POLICED n) + 1) 65535 ∧
          s.keepsFlds t [Reg.MSH_RTSTATn_POLICED n] ∧ t = { s with results := t.results, regs := t.regs, shots := t.shots }) ∧
        (s.results.any (sameSlot s x) = false →
          ((∀ p ∈ s.routeOut n, s.routeUse p n < s.routeSlots n ∧ s.portIsUp p = true) → Completes (.routeEnqueue r k) s fun t =>
            marked t x ∧
            t.txQueue = s.txQueue ++ (s.routeOut n).map (fun p => ⟨p, n, slot, x.verdict.getD 0xF, x.endAt + 194, 1⟩) ∧
            (s.routeOut n ≠ [] →
              (t.rd (Reg.MSH_RTSTATn_CARRIED n)).toNat = min ((s.rd (Reg.MSH_RTSTATn_CARRIED n)).toNat + 1) 0xFFFFFFFF) ∧
            s.keepsFlds t [whole (Reg.MSH_RTSTATn_CARRIED n)] ∧
            t = { s with results := t.results, regs := t.regs, txQueue := t.txQueue, routeSends := t.routeSends }) ∧
          (∀ p, s.routeOut n = [p] → s.routeSlots n ≤ s.routeUse p n → Completes (.routeEnqueue r k) s fun t =>
            marked t x ∧ dropped t x.shot ∧
            t.get (Reg.MSH_RTSTATn_POLICED n) = min (s.get (Reg.MSH_RTSTATn_POLICED n) + 1) 65535 ∧
            s.keepsFlds t [Reg.MSH_RTSTATn_POLICED n] ∧ t = { s with results := t.results, regs := t.regs, shots := t.shots }) ∧
          (∀ p, s.routeOut n = [p] → s.routeUse p n < s.routeSlots n → s.portIsUp p = false →
            Completes (.routeEnqueue r k) s fun t =>
              marked t x ∧
              (t.rd (Reg.DLD_PORTp_TXLOST p)).toNat = min ((s.rd (Reg.DLD_PORTp_TXLOST p)).toNat + 1) 0xFFFFFFFF ∧
              s.keepsFlds t [whole (Reg.DLD_PORTp_TXLOST p)] ∧ t = { s with results := t.results, regs := t.regs }))) ∧
    (∀ x, s.res? r k (deliverDue s) = some x → x.verdict.getD 0xF < 16 → Completes (.verdictDelivery r k) s fun t =>
      let v := x.verdict.getD 0xF
      t.results = s.results.erase x ∧ t.get (lastNibble t0) = v ∧ allCapture t (fun q => decide (q = t0)) v ∧
      (t.rd Reg.VRD_POISON).toNat =
        (if v = 0xE then min ((s.rd Reg.VRD_POISON).toNat + 1) 0xFFFFFFFF else (s.rd Reg.VRD_POISON).toNat) ∧
      (∀ y ∈ t.shots, y.desc.uid = x.shot → y.endAt = s.now) ∧ s.keepsFlds t [lastNibble t0, whole Reg.VRD_POISON] ∧
      t = { s with results := t.results, regs := t.regs, engines := t.engines, shots := t.shots }) ∧
    ∀ n, n < 64 →
      (s.rxHeld.any (forwardDue s n) = true → Completes (.routeForward n) s fun t =>
        t.rxHeld = s.rxHeld.map (fun x => if forwardDue s n x then { x with forwarded := true } else x) ∧
        (∀ x, s.rxHeld.filter (forwardDue s n) = [x] →
          (∀ p ∈ s.routeOut n, s.routeUse p n < s.routeSlots n ∧ s.portIsUp p = true) →
          t.txQueue = s.txQueue ++ (s.routeOut n).map (fun p => ⟨p, n, x.slot, x.value, x.due + 150, x.hop + 1⟩) ∧
          t.regs = s.regs) ∧
        t = { s with rxHeld := t.rxHeld, txQueue := t.txQueue, routeSends := t.routeSends, regs := t.regs }) ∧
      (s.rxHeld.any (routedDue s n) = true → Completes (.routedDelivery n) s fun t =>
        t.rxHeld = s.rxHeld.map (fun x => if routedDue s n x then { x with delivered := true } else x) ∧
        (∀ r' e, t.engine r' e = (s.rxHeld.filter (routedDue s n)).foldl
          (fun g x => g.capture (fun q => decide (q = routedSource n x.slot)) x.value s.epoch.toNat) (s.engine r' e)) ∧
        s.keepsFlds t [whole Reg.VRD_POISON] ∧
        t = { s with rxHeld := t.rxHeld, engines := t.engines, regs := t.regs, shots := t.shots }) ∧
      (s.lossDue n = true → Completes (.lossCapture n) s fun t =>
        t.losses = s.losses.eraseP (fun e => decide (e.1 = n)) ∧ allCapture t (sourceOnRoute n) 0xE ∧
        (t.rd Reg.VRD_LOSS).toNat = min ((s.rd Reg.VRD_LOSS).toNat + s.latchCount (sourceOnRoute n)) 0xFFFFFFFF ∧
        t.get (Reg.MSH_RTSTATn_LOSS n) = min (s.get (Reg.MSH_RTSTATn_LOSS n) + 1) 65535 ∧
        t.lossNotices = s.lossNotices ++ ((s.routeOut n).filter fun p => s.portIsUp p).map (fun p => (p, n)) ∧
        (∀ y ∈ t.shots, (∃ r' e, (s.engine r' e).shot = y.desc.uid ∧ (s.engine r' e).captures (sourceOnRoute n) s.epoch.toNat ≠ 0) →
          flPoisoned ∈ y.flags) ∧
        s.keepsFlds t [whole Reg.VRD_LOSS, Reg.MSH_RTSTATn_LOSS n] ∧
        t = { s with
          losses := t.losses, engines := t.engines, regs := t.regs, lossNotices := t.lossNotices, shots := t.shots })

/-- A record goes to its host segment with its VALID word after the rest, then the count goes to MIRROR (R336, R395); a
stream-through record goes by its drain (R338). The scrubber corrects what it can, poisons what it cannot, and tells the log (R381, R387, R390).
An injected error inverts NBITS bits in TEST and is refused elsewhere (R391). -/
def Obligations.RecordsAndTheRecordStore : Prop :=
  (∀ (s : State) (n : Nat) (f : Filled), s.delivers = true → (s.rset n).nextOut = some f →
    let v := s.rset n
    let a := v.base + f.seg * v.stride * 64
    let at0 := f.seg * segPitch v.pay
    let hw := (List.range 6).map fun i => v.word (at0 + 16 + 8 * i)
    let pw := (List.range f.words).map fun i => v.word (at0 + 64 + 8 * i)
    let mirrored := v.mirror.toList.map fun m => Posted.mem m 8 v.count
    let out (t : State) : Prop :=
      (∃ l, t.posted = mirrored ++ Posted.mem a 4 (f.header.toNat % 2 ^ 32) :: l ++ s.posted) ∧
      t.rset n = { v with filled := v.filled.map fun g => if g.seq = f.seq then { g with delivered := true } else g } ∧
      (∀ m, m ≠ n → t.rset m = s.rset m) ∧
      t = { s with
        posted := t.posted, rsets := t.rsets, shots := t.shots, regs := t.regs, mem := t.mem, corrected := t.corrected,
        passCe := t.passCe, freeCtr := t.freeCtr, nanoRes := t.nanoRes }
    (f.through = false → Completes (.recordDelivery n) s fun t =>
      out t ∧
      ((∀ w ∈ hw ++ pw, (s.memAt w).flips = 0 ∧ (s.memAt w).poison = false) →
        t.posted = mirrored ++ Posted.mem a 4 (f.header.toNat % 2 ^ 32) ::
          (sendPayload { s with posted := [] } (a + 64) (pw.map fun w => (s.memAt w).data)).posted ++
          Posted.mem (a + 4) 60 (deliveredHead f (hw.map s.memAt) false 0 / 2 ^ 32) :: s.posted ∧
        t.shots = s.shots.map (fun x => if x.desc.uid = f.shot then { x with records := x.records - 1 } else x) ∧
        t = { s with posted := t.posted, rsets := t.rsets, shots := t.shots })) ∧
    ∀ lost, f.through = true → lost ≤ f.words →
      lost = 0 ∨ drainSafe v f (match s.shot? f.shot with | none => 0 | some x => x.desc.d2hBw) = false →
      Completes (.streamThroughDrainEnd n lost) s fun t =>
        out t ∧ (lost ≠ 0 → ∀ y ∈ t.shots, y.desc.uid = f.shot → flDropped ∈ y.flags)) ∧
  (∀ s : State, s.flag Reg.BRD_RS_CFG_SCRUB_EN = true →
    let w := s.scrubPos
    let c := s.memAt w
    let k := s.stackOf w
    let counts (t : State) (a : Nat) : Prop := (t.rd a).toNat = min ((s.rd a).toNat + 1) 0xFFFFFFFF
    (w < memWords s.part → Completes .scrubRead s fun t =>
      t.scrubPos = w + 1 ∧ t.get Reg.BRD_RS_STAT_PROGRESS = (w + 1) * 256 / memWords s.part % 256 ∧
      (∀ w', w' ≠ w → t.memAt w' = s.memAt w') ∧
      (c.poison = true → c.flips ≤ 2 → counts t (Reg.BRD_MEM_CNTs_POISON k)) ∧
      (c.flips = 0 → t.mem = s.mem ∧ s.keepsFlds t [whole (Reg.BRD_MEM_CNTs_POISON k), Reg.BRD_RS_STAT_PROGRESS] ∧
        t = { s with regs := t.regs, scrubPos := w + 1 }) ∧
      (c.flips = 1 → t.memAt w = ⟨c.data, c.poison, 0⟩ ∧ counts t (Reg.BRD_MEM_CNTs_CE1 k)) ∧
      (c.flips = 2 → t.memAt w = ⟨c.data, c.poison, 0⟩ ∧ counts t (Reg.BRD_MEM_CNTs_CE2 k) ∧ t.get (evtFld evtMemory) = 1) ∧
      (c.flips = 3 → t.memAt w = ⟨poisonData causeMemory, true, 0⟩ ∧ counts t (Reg.BRD_MEM_CNTs_UE k) ∧
        counts t (Reg.BRD_MEM_CNTs_POISON k) ∧ t.get (evtFld evtMemory) = 1 ∧
        (s.get Reg.BRD_MEM_LOGSTAT_COUNT ≤ 16 →
          t.get Reg.BRD_MEM_LOGSTAT_COUNT = min 16 (s.get Reg.BRD_MEM_LOGSTAT_COUNT + 1) ∧
          t.rd (Reg.BRD_MEM_LOGe_W0 (t.get Reg.BRD_MEM_LOGSTAT_NEWEST)) =
            BitVec.ofNat 32 (2 ^ 31 + kindUe * 2 ^ 28 + k * 2 ^ 18 + s.regionCode w * 2 ^ 15) ∧
          t.get64 (Reg.BRD_MEM_LOGe_RSA_LO (t.get Reg.BRD_MEM_LOGSTAT_NEWEST)) = w * 8 ∧
          t.get64 (Reg.BRD_MEM_LOGe_EPOCH_LO (t.get Reg.BRD_MEM_LOGSTAT_NEWEST)) = s.epoch.toNat)) ∧
      t = { s with
        regs := t.regs, scrubPos := t.scrubPos, mem := t.mem, posted := t.posted, holding := t.holding, corrected := t.corrected,
        passCe := t.passCe, freeCtr := t.freeCtr, nanoRes := t.nanoRes }) ∧
    (memWords s.part ≤ w → Completes .scrubPassEnd s fun t =>
      t.get Reg.BRD_RS_STAT_PASSES = min (s.get Reg.BRD_RS_STAT_PASSES + 1) 65535 ∧ t.get Reg.BRD_RS_STAT_PROGRESS = 0 ∧
      s.keepsFlds t [Reg.BRD_RS_STAT_PASSES, Reg.BRD_RS_STAT_PROGRESS] ∧
      t = { s with regs := t.regs, scrubPos := 0, scrubPass := s.scrubPass + 1, passCe := [] })) ∧
  ∀ (s : State) (rid : Nat) (v : Word),
    let w := s.get64 Reg.BRD_MEM_INJ_ADDR_LO / 8
    let c := s.memAt w
    let sameRest (t : State) : Prop :=
      (∀ w', w' ≠ w → t.memAt w' = s.memAt w') ∧ t.get Reg.BRD_MEM_INJ_NBITS = wordBits v 1 0 ∧
      s.keepsFlds t [Reg.BRD_MEM_INJ_NBITS]
    (s.mode ≠ .test →
      exec (.errorInject rid v) s = .next (s.accessError rid 1 Reg.BRD_MEM_INJ)) ∧
    (s.mode = .test →
      (memWords s.part ≤ w → Completes (.errorInject rid v) s fun t => t.mem = s.mem ∧ sameRest t ∧ s.onlyRegs t) ∧
      (w < memWords s.part → c.flips = 0 → Completes (.errorInject rid v) s fun t =>
        t.memAt w = { c with flips := max 1 (wordBits v 1 0) } ∧ sameRest t ∧
        t = { s with regs := t.regs, mem := t.mem, holdHits := t.holdHits }) ∧
      (w < memWords s.part → c.flips ≠ 0 → Completes (.errorInject rid v) s fun t =>
        t.memAt w = { c with flips := Config.mergedFlips s.freeCtr } ∧ sameRest t ∧
        t = { s with regs := t.regs, mem := t.mem, holdHits := t.holdHits, freeCtr := s.freeCtr + 1 }))

/-! ### Lanes, ports and routes -/

/-- A lane begins a frame with COMMA, IDLE and the loss notices, after filling the one in progress with MGMT blocks and IDLE
(R364, R359). Between them it sends loss notices first, then verdict blocks by delivery tick, route and group (R356), and once
every 64 frames EPOCH_CHECK and, 32 frames later, PORT_ID (Table 10-8). -/
def Obligations.LanesSendFrames : Prop :=
  ∀ (s : State) (l : Nat), s.transmits l = true →
    let x := s.lane l
    let p := l / 4
    let sameLanes (t : State) : Prop := ∀ l', l' ≠ l → t.lane l' = s.lane l'
    let notices : List TxBlock := (lossBlocks s p).reverse.map fun b => ⟨l, false, b⟩
    let left := s.lossNotices.filter fun e => decide (e.1 ≠ p)
    (Completes (.frameTransmit l) s fun t =>
      t.lane l = { x with
        mgmt := x.mgmt.drop (64 - x.txPos), txPos := (lossBlocks s p).length + 2, frames := x.frames + 1 } ∧
      sameLanes t ∧
      (∃ fill : List TxBlock, fill.length = 64 - x.txPos ∧
        (∀ b ∈ fill, b.lane = l ∧ b.data = false ∧
          (b.payload = idleBlock ∨ (b.payload ∈ x.mgmt ∧ s.portLoopMode p ≠ 2))) ∧
        t.dldSent = notices ++ ⟨l, false, idleBlock⟩ :: ⟨l, false, commaBlock⟩ :: fill ++ s.dldSent) ∧
      t.lossNotices = left ∧ t = { s with lanes := t.lanes, dldSent := t.dldSent, lossNotices := t.lossNotices }) ∧
    (s.portIsUp p = true → x.txPos < 64 →
      (lossBlocks s p ≠ [] → Completes (.blockTransmit l) s fun t =>
        t.dldSent = notices ++ s.dldSent ∧ t.lane l = { x with txPos := x.txPos + (lossBlocks s p).length } ∧ sameLanes t ∧
        t.lossNotices = left ∧ t = { s with lanes := t.lanes, dldSent := t.dldSent, lossNotices := t.lossNotices }) ∧
      (lossBlocks s p = [] → (∃ v ∈ s.txQueue, v.port = p) → Completes (.blockTransmit l) s fun t =>
        (∃ v ∈ s.txQueue, v.port = p ∧
          (∀ w ∈ s.txQueue, w.port = p → v.due < w.due ∨ (v.due = w.due ∧
            (v.route < w.route ∨ (v.route = w.route ∧ v.slot / 8 ≤ w.slot / 8)))) ∧
          t.dldSent = ⟨l, true, verdictBlock v.route (v.slot / 8) v.due v.hop fun i =>
            ((s.txQueue.find? fun w => sameBlock v w && decide (w.slot % 8 = i)).map TxVerdict.value).getD 0xD⟩ :: s.dldSent ∧
          t.txQueue = s.txQueue.filter fun w => !(sameBlock v w)) ∧
        t.lane l = { x with txPos := x.txPos + 1 } ∧ sameLanes t ∧
        t = { s with lanes := t.lanes, dldSent := t.dldSent, txQueue := t.txQueue }) ∧
      (lossBlocks s p = [] → (∀ v ∈ s.txQueue, v.port ≠ p) → exec (.blockTransmit l) s = .next s)) ∧
    (s.mgmtTurn l = true → x.lastCheck = 0 ∨ x.lastCheck + 64 ≤ x.frames → Completes (.epochCheckSend l) s fun t =>
      t.dldSent = ⟨l, false, mgmtBlock subEpochCheck (s.epoch.toNat % 2 ^ 48)⟩ :: s.dldSent ∧
      t.lane l = { x with lastCheck := x.frames, txPos := x.txPos + 1 } ∧ sameLanes t ∧
      t = { s with lanes := t.lanes, dldSent := t.dldSent }) ∧
    (s.mgmtTurn l = true → x.lastCheck ≠ 0 → x.lastCheck + 32 ≤ x.frames → x.lastId < x.lastCheck + 32 →
      Completes (.portIdSend l) s fun t =>
        t.dldSent = ⟨l, false, mgmtBlock subPortId (s.serial % 2 ^ 40 * 2 ^ 8 + p)⟩ :: s.dldSent ∧
        t.lane l = { x with lastId := x.frames, txPos := x.txPos + 1 } ∧ sameLanes t ∧
        t = { s with lanes := t.lanes, dldSent := t.dldSent })

/-- Every block received moves the lane's place in the frame. A bad header counts, and on a locked lane loses the routes of its
port (R362, R358); an unknown control block or a wrong COMMA counts in CTL_ERR (R363). A verdict block with a good CRC is held for
its delivery tick or discarded and counted as a mismatch, a hop too many, late or a duplicate (R355, R357). IDLE at position 1
matches rates (R365). EPOCH_CHECK trains the lane or fails (R367); PORT_ID, EQ_REQ, EQ_ACK and the loss notices act on a locked
lane. -/
def Obligations.LanesReceiveBlocks : Prop :=
  ∀ (s : State) (l : Nat), l < 16 → (s.lane l).receives = true →
    let x := s.lane l
    let p := l / 4
    let sameLanes (t : State) : Prop := ∀ l', l' ≠ l → t.lane l' = s.lane l'
    let sees (t : State) (valid comma : Bool) : Prop := t.lane l = x.see valid comma ∧ sameLanes t
    let counts (t : State) (f : Fld) (most : Nat) : Prop := t.get f = min (s.get f + 1) most
    let lost (t : State) (ns : List Nat) : Prop :=
      t.losses = s.losses ++ (ns.filter fun n => s.declared n && decide (s.routeIn n = p)).map fun n => (n, s.epoch.toNat)
    let named (d : BitVec 48) (first count : Nat) : List Nat :=
      ((List.range count).filter fun i => d.toNat.testBit i).map fun i => first + i
    let only (t : State) (fs : List Fld) : Prop := s.keepsFlds t fs ∧ t = { s with lanes := t.lanes, regs := t.regs }
    -- an error counter of ERR0 raises DALID when it reaches ERR_THR
    let err0 (t : State) (f : Fld) : Prop :=
      counts t f 65535 ∧ (s.get f < 65535 → s.get f + 1 = s.get Reg.DLD_THR_ERR_THR → t.get (evtFld evtDalid) = 1) ∧
      (if x.locked then lost t (List.range 64) else t.losses = s.losses) ∧ s.keepsFlds t (f :: evtFlds evtDalid) ∧
      t = { s with lanes := t.lanes, regs := t.regs, posted := t.posted, holding := t.holding, losses := t.losses }
    Completes (.badSyncHeader l) s (fun t => sees t false false ∧ err0 t (Reg.DLD_LANEl_ERR0_BAD_HDR l)) ∧
    Completes (.unknownControlBlock l) s (fun t => sees t true false ∧
      counts t (Reg.DLD_LANEl_ERR1_CTL_ERR l) 65535 ∧ only t [Reg.DLD_LANEl_ERR1_CTL_ERR l]) ∧
    (∀ body : BitVec 56,
      (body.toNat = 0x1DB3C72E859A64 → Completes (.comma l body) s fun t =>
        sees t true true ∧ t = { s with lanes := t.lanes }) ∧
      (body.toNat ≠ 0x1DB3C72E859A64 → Completes (.comma l body) s fun t =>
        sees t true false ∧ counts t (Reg.DLD_LANEl_ERR1_CTL_ERR l) 65535 ∧ only t [Reg.DLD_LANEl_ERR1_CTL_ERR l])) ∧
    (∀ fill, Completes (.idle l fill) s fun t =>
      let first := (x.see true false).rxPos = 1
      sees t true false ∧ t.get (Reg.DLD_LANEl_STAT_FILL l) = min fill 15 ∧
      t.get (Reg.DLD_LANEl_STAT_RM_DEL l) = (if first ∧ 3 < fill then (s.get (Reg.DLD_LANEl_STAT_RM_DEL l) + 1) % 256
        else s.get (Reg.DLD_LANEl_STAT_RM_DEL l)) ∧
      t.get (Reg.DLD_LANEl_STAT_RM_REP l) = (if first ∧ fill < 2 then (s.get (Reg.DLD_LANEl_STAT_RM_REP l) + 1) % 256
        else s.get (Reg.DLD_LANEl_STAT_RM_REP l)) ∧
      only t [Reg.DLD_LANEl_STAT_FILL l, Reg.DLD_LANEl_STAT_RM_DEL l, Reg.DLD_LANEl_STAT_RM_REP l]) ∧
    (∀ b : BitVec 64,
      let q := b.toNat
      let n := vbRoute q
      (x.locked = false ∨ s.edgeWindow = true → Completes (.verdictBlockReceived l b) s fun t =>
        sees t true false ∧ t = { s with lanes := t.lanes }) ∧
      (x.locked = true → s.edgeWindow = false → blockCrc q ≠ q % 256 → Completes (.verdictBlockReceived l b) s fun t =>
        sees t true false ∧ err0 t (Reg.DLD_LANEl_ERR0_CRC l)) ∧
      (x.locked = true → s.edgeWindow = false → blockCrc q = q % 256 → s.portIsUp p = false →
        Completes (.verdictBlockReceived l b) s fun t => sees t true false ∧ t = { s with lanes := t.lanes }) ∧
      (x.locked = true → s.edgeWindow = false → blockCrc q = q % 256 → s.portIsUp p = true →
        (s.declared n = false ∨ s.routeIn n ≠ p → Completes (.verdictBlockReceived l b) s fun t =>
          sees t true false ∧ counts t (Reg.DLD_PORTp_RXDROP_ROUTE_MISMATCH p) 65535 ∧
          only t [Reg.DLD_PORTp_RXDROP_ROUTE_MISMATCH p]) ∧
        (s.declared n = true → s.routeIn n = p →
          (max 1 (s.get Reg.MSH_CTRL_MAX_HOPS) < vbHop q → Completes (.verdictBlockReceived l b) s fun t =>
            sees t true false ∧ counts t (Reg.DLD_PORTp_RXDROP_HOP_DROP p) 65535 ∧ only t [Reg.DLD_PORTp_RXDROP_HOP_DROP p]) ∧
          (vbHop q ≤ max 1 (s.get Reg.MSH_CTRL_MAX_HOPS) →
            (decodeDue s.epoch.toNat (vbDue q) = none → Completes (.verdictBlockReceived l b) s fun t =>
              sees t true false ∧ counts t (Reg.DLD_LANEl_ERR1_LATE l) 65535 ∧ lost t (List.range 64) ∧
              s.keepsFlds t [Reg.DLD_LANEl_ERR1_LATE l] ∧ t = { s with lanes := t.lanes, regs := t.regs, losses := t.losses }) ∧
            ∀ d, decodeDue s.epoch.toNat (vbDue q) = some d →
              ((∃ y ∈ s.rxHeld, y.route = n ∧ y.due = d ∧ ∃ v ∈ blockVerdicts q, v.1 = y.slot) →
                Completes (.verdictBlockReceived l b) s fun t =>
                  sees t true false ∧ counts t (Reg.DLD_LANEl_ERR1_CTL_ERR l) 65535 ∧ only t [Reg.DLD_LANEl_ERR1_CTL_ERR l]) ∧
              ((∀ y ∈ s.rxHeld, y.route = n → y.due = d → ∀ v ∈ blockVerdicts q, v.1 ≠ y.slot) →
                Completes (.verdictBlockReceived l b) s fun t =>
                  sees t true false ∧
                  t.rxHeld = s.rxHeld.filter (RxVerdict.held s.epoch.toNat) ++ (blockVerdicts q).map (fun v =>
                    ⟨n, v.1, v.2, d, vbHop q, decide (s.routeOut n = []), !s.routeLocal n⟩) ∧
                  (t.rd (Reg.MSH_RTSTATn_CARRIED n)).toNat =
                    min ((s.rd (Reg.MSH_RTSTATn_CARRIED n)).toNat + (blockVerdicts q).length) 0xFFFFFFFF ∧
                  s.keepsFlds t [whole (Reg.MSH_RTSTATn_CARRIED n)] ∧
                  t = { s with lanes := t.lanes, regs := t.regs, rxHeld := t.rxHeld }))))) ∧
    (∀ data : BitVec 48,
      (x.locked = false ∨ s.edgeWindow = true → Completes (.epochCheck l data) s fun t =>
        sees t true false ∧ t = { s with lanes := t.lanes }) ∧
      (x.locked = true → s.edgeWindow = false →
        let delta := (s.epoch.toNat + 2 ^ 48 - data.toNat) % 2 ^ 48
        let ok := decide (1 ≤ delta ∧ delta ≤ 100)
        let st := if x.st = .check ∧ ok ∧ 2 ≤ x.good + 1 then LaneState.trained
          else if x.st = .trained ∧ !ok then LaneState.check else x.st
        Completes (.epochCheck l data) s fun t =>
          t.get (Reg.DLD_PORTp_STAT_EPOCH_DELTA p) = min delta 0xFFFF ∧
          t.lane l = { x.see true false with
            good := if x.st = .loop then x.good else if ok then x.good + 1 else 0, st := st } ∧
          sameLanes t ∧
          t.get (Reg.DLD_PORTp_EPOCH_ERR_COUNT p) = (if x.st ≠ .loop ∧ !ok then min (s.get (Reg.DLD_PORTp_EPOCH_ERR_COUNT p) + 1) 65535
            else s.get (Reg.DLD_PORTp_EPOCH_ERR_COUNT p)) ∧
          (st ≠ x.st → t.get (Reg.DLD_LANEl_STAT_STATE l) = st.code ∧ t.get (Reg.DLD_PORTp_STAT_STATE p) = t.portStateNow p) ∧
          (st = x.st → only t [Reg.DLD_PORTp_STAT_EPOCH_DELTA p, Reg.DLD_PORTp_EPOCH_ERR_COUNT p]) ∧
          t = { s with
            lanes := t.lanes, regs := t.regs, posted := t.posted, holding := t.holding, txQueue := t.txQueue,
            lossNotices := t.lossNotices, losses := t.losses })) ∧
    ∀ data : BitVec 48,
      let d := data.toNat
      let pre := d % 16
      let post := d / 2 ^ 16 % 32
      (x.locked = false → ∀ c ∈ [Instr.portId l data, .eqReq l data, .eqAck l data, .lossLo l data, .lossHi l data],
        Completes c s fun t => sees t true false ∧ t = { s with lanes := t.lanes }) ∧
      (x.locked = true →
        (Completes (.portId l data) s fun t =>
          sees t true false ∧ t.rd (Reg.DLD_PORTp_PEER_LO p) = BitVec.ofNat 32 (d / 2 ^ 8) ∧
          t.get (Reg.DLD_PORTp_PEER_HI_SERIAL_HI p) = d / 2 ^ 40 ∧ t.get (Reg.DLD_PORTp_PEER_HI_PORT p) = d % 4 ∧
          t.get (Reg.DLD_PORTp_PEER_HI_VALID p) = 1 ∧
          only t [whole (Reg.DLD_PORTp_PEER_LO p), Reg.DLD_PORTp_PEER_HI_SERIAL_HI p, Reg.DLD_PORTp_PEER_HI_PORT p,
            Reg.DLD_PORTp_PEER_HI_VALID p]) ∧
        (eqReqOk d = true → s.get (Reg.DLD_LANEl_TXEQ_EQ_REMOTE l) = 1 → Completes (.eqReq l data) s fun t =>
          t.lane l = { x.see true false with mgmt := x.mgmt ++ [mgmtBlock subEqAck d] } ∧ sameLanes t ∧
          t.get (Reg.DLD_LANEl_TXEQ_PRE l) = pre ∧
          t.get (Reg.DLD_LANEl_TXEQ_POST l) = (if 31 < pre + post then 31 - pre else post) ∧
          t.get (Reg.DLD_LANEl_TXEQ_MAIN l) = 63 - pre - (if 31 < pre + post then 31 - pre else post) ∧
          only t [Reg.DLD_LANEl_TXEQ_PRE l, Reg.DLD_LANEl_TXEQ_POST l, Reg.DLD_LANEl_TXEQ_MAIN l]) ∧
        (eqReqOk d = true → s.get (Reg.DLD_LANEl_TXEQ_EQ_REMOTE l) = 0 → Completes (.eqReq l data) s fun t =>
          t.lane l = { x.see true false with
            mgmt := x.mgmt ++ [mgmtBlock subEqAck (d / 2 ^ 40 * 2 ^ 40 + s.get (Reg.DLD_LANEl_TXEQ_POST l) * 2 ^ 16 +
              s.get (Reg.DLD_LANEl_TXEQ_PRE l))] } ∧
          sameLanes t ∧ t = { s with lanes := t.lanes }) ∧
        (eqReqOk d = false → Completes (.eqReq l data) s fun t => sees t true false ∧ t = { s with lanes := t.lanes }) ∧
        (Completes (.eqAck l data) s fun t =>
          t.lane l = { x.see true false with ack := some d } ∧ sameLanes t ∧ t = { s with lanes := t.lanes }) ∧
        (Completes (.lossLo l data) s fun t =>
          sees t true false ∧ lost t (named data 0 48) ∧ t = { s with lanes := t.lanes, losses := t.losses }) ∧
        Completes (.lossHi l data) s fun t =>
          sees t true false ∧ lost t (named data 48 16) ∧ t = { s with lanes := t.lanes, losses := t.losses })

/-- A lane goes CDR, BLOCK, FRAME, CHECK (or LOOP in a loopback), and FAULT when a lock is lost (R366, R371, Table 10-9); new taps
take effect at a frame boundary (R368). A write of a port's CFG that changes LANE_EN while a route uses the port, or LOOP while a
shot claims such a route, is refused with CAUSE 0x2; another one settles every lane (R351, R369). A route is declared if its entry
is complete and every port of OUT carries its load, else OVER or OFF (R347, R349); one that a shot claims is not changed (R351). -/
def Obligations.LanesPortsAndRoutesFollowSettings : Prop :=
  (∀ (s : State) (l : Nat), l < 16 →
    let x := s.lane l
    (x.st = .cdr → Completes (.clockRecovered l) s fun t =>
      s.lanePasses t l { x with st := .block, headers := [] } ∧ s.keepsFlds t (laneFlds l)) ∧
    (x.st = .block → x.headers.length = 64 → (∀ h ∈ x.headers, h = true) → Completes (.blockLock l) s fun t =>
      s.lanePasses t l { x with st := .frame, commas := 0, missed := 0, rxPos := 0 } ∧ s.keepsFlds t (laneFlds l)) ∧
    (x.st = .frame → 2 ≤ x.commas → Completes (.frameLock l) s fun t =>
      s.lanePasses t l { x with st := if s.portLoopMode (l / 4) = 0 then .check else .loop, good := 0 } ∧
      s.keepsFlds t (laneFlds l)) ∧
    ((x.st = .frame ∨ x.locked = true) ∧ 16 ≤ (x.headers.filter fun b => !b).length ∨ x.locked = true ∧ 2 ≤ x.missed →
      Completes (.lockLoss l) s fun t =>
        s.lanePasses t l { x with st := .fault, since := s.now, headers := [], good := 0 } ∧
        t.get (Reg.DLD_LANEl_STAT_LOCK_LOSS l) = min (s.get (Reg.DLD_LANEl_STAT_LOCK_LOSS l) + 1) 255 ∧
        s.keepsFlds t (Reg.DLD_LANEl_STAT_LOCK_LOSS l :: laneFlds l)) ∧
    (x.st = .fault → x.since + 2500000 ≤ s.now → s.get (Reg.DLD_PORTp_CFG_AUTO (l / 4)) = 1 → Completes (.faultRetry l) s fun t =>
      s.lanePasses t l { x with st := .cdr, good := 0, headers := [], rxPos := 0, commas := 0, missed := 0 } ∧
      s.keepsFlds t (laneFlds l)) ∧
    (x.txPos ≤ 2 ∨ 64 ≤ x.txPos → Completes (.txeqEffect l) s fun t =>
      t.lane l = { x with pre := s.get (Reg.DLD_LANEl_TXEQ_PRE l), post := s.get (Reg.DLD_LANEl_TXEQ_POST l) } ∧
      (∀ l', l' ≠ l → t.lane l' = s.lane l') ∧ t = { s with lanes := t.lanes })) ∧
  (∀ (s : State) (rid p : Nat) (v : Word), p < 4 → s.boardOpen →
    let refusing := (wordBits v 3 0 ≠ s.get (Reg.DLD_PORTp_CFG_LANE_EN p) ∧ s.portRouted p = true) ∨
      (wordBits v 10 8 ≠ s.get (Reg.DLD_PORTp_CFG_LOOP p) ∧ s.portClaimed p = true)
    ∀ c ∈ [Instr.laneEnable rid p v, .loopSelect rid p v],
      (refusing → exec c s = .next (s.accessError rid 2 (Reg.DLD_PORTp_CFG p))) ∧
      (¬refusing → Completes c s fun t =>
        t.rd (Reg.DLD_PORTp_CFG p) = v &&& 0x71F ∧
        t.portLoopMode p = (if wordBits v 10 8 ≤ 3 then wordBits v 10 8 else 0) ∧
        (∀ i, i < 4 → (t.lane (4 * p + i)).st =
          (let st := (s.lane (4 * p + i)).st
          if wordBits v i i ≠ 1 then .disabled
          else if st = .disabled then .cdr
          else if t.portLoopMode p ≠ 0 ∧ (st = .check ∨ st = .trained) then .loop
          else if t.portLoopMode p = 0 ∧ st = .loop then .check
          else st) ∧
          ((t.lane (4 * p + i)).st ≠ (s.lane (4 * p + i)).st →
            t.get (Reg.DLD_LANEl_STAT_STATE (4 * p + i)) = (t.lane (4 * p + i)).st.code)) ∧
        (∀ l, l / 4 ≠ p → t.lane l = s.lane l) ∧ t.get (Reg.DLD_PORTp_STAT_STATE p) = t.portStateNow p ∧
        t.get (Reg.MSH_PORTLOADp_CAP p) = 8 * (t.enabledLanes p).length ∧ (∀ n, s.declared n = true → t.declared n = true) ∧
        t = { s with
          lanes := t.lanes, regs := t.regs, posted := t.posted, holding := t.holding, txQueue := t.txQueue,
          lossNotices := t.lossNotices, losses := t.losses })) ∧
  ∀ (s : State) (rid n word : Nat) (v : Word), n < 64 → word < 2 → s.boardOpen →
    (s.routeClaimed n = true → exec (.mshRteWrite rid n word v) s =
      .next (s.accessError rid 2 (if word = 0 then Reg.MSH_RTEn n else Reg.MSH_RTEn_SLOTS n))) ∧
    (s.routeClaimed n = false → Completes (.mshRteWrite rid n word v) s fun t =>
      (word = 0 → t.get (Reg.MSH_RTEn_EN n) = wordBits v 31 31 ∧ t.get (Reg.MSH_RTEn_OUT n) = wordBits v 19 16 ∧
        t.get (Reg.MSH_RTEn_LOCAL n) = wordBits v 11 11 ∧ t.get (Reg.MSH_RTEn_IN n) = wordBits v 10 8 ∧
        t.routeSlots n = s.routeSlots n) ∧
      (word = 1 → t.routeSlots n = wordBits v 8 0 ∧ t.get (Reg.MSH_RTEn_EN n) = s.get (Reg.MSH_RTEn_EN n) ∧
        t.routeOut n = s.routeOut n ∧ t.routeIn n = s.routeIn n ∧ t.routeLocal n = s.routeLocal n) ∧
      (t.get (Reg.MSH_RTEn_STATE n) = 0 ↔
        ¬(t.get (Reg.MSH_RTEn_EN n) = 1 ∧ t.routeIn n ≤ 4 ∧ t.routeSlots n ≠ 0 ∧
          (t.routeOut n ≠ [] ∨ (t.routeLocal n = true ∧ t.routeIn n < 4)))) ∧
      (t.get (Reg.MSH_RTEn_STATE n) = 1 → ∀ p ∈ t.routeOut n, t.portLoad p ≤ t.portCapacity p) ∧
      (t.get (Reg.MSH_RTEn_STATE n) = 2 → ∃ p ∈ t.routeOut n, t.portCapacity p < t.portLoad p + t.routeSlots n) ∧
      t.get (Reg.MSH_RTEn_STATE n) ≤ 2 ∧ (∀ m, m ≠ n → s.declared m = true → t.declared m = true) ∧
      (∀ p, p < 4 → t.get (Reg.MSH_PORTLOADp_LOAD p) = t.portLoad p ∧ t.get (Reg.MSH_PORTLOADp_CAP p) = t.portCapacity p) ∧
      s.keepsFlds t ([Reg.MSH_RTEn_EN n, Reg.MSH_RTEn_OUT n, Reg.MSH_RTEn_LOCAL n, Reg.MSH_RTEn_IN n, Reg.MSH_RTEn_SLOTS_SLOTS n] ++
        (List.range 64).map Reg.MSH_RTEn_STATE ++ (List.range 4).map (fun p => whole (Reg.MSH_PORTLOADp p))) ∧
      s.onlyRegs t)

/-! ### Triggers, intervals, sensors, heaters and the monitor -/

/-- A recognised edge of TRIG_IN shows its level, and a rising one counts and triggers what waits for it, stamped DEGLITCH + 8
ticks before (R403). A TDC channel is armed unless it measures, disarmed at any time (R414), started by the first start event
(R408), and closes WIN + 1 ticks later. A stop is reported, or counted as EARLY, LATE, BUSY or EXTRA (R409-R411). The posting
shows every interval in order, with the start and SEQ, and goes to DONE, or to ARMED with REPEAT (R412). -/
def Obligations.TriggersAndIntervals : Prop :=
  (∀ (s : State) (n : Nat), n < 4 →
    (Completes (.triggerEdge n false) s fun t =>
      t.get ⟨Reg.TDC_TRIGSTAT, n, n⟩ = 0 ∧ s.keepsFlds t [⟨Reg.TDC_TRIGSTAT, n, n⟩] ∧ s.onlyRegs t) ∧
    Completes (.triggerEdge n true) s fun t =>
      let at_ := s.epoch.toNat - s.get (Reg.TDC_TRIGi_DEGLITCH n) - 8
      t.get ⟨Reg.TDC_TRIGSTAT, n, n⟩ = 1 ∧
      (t.rd (Reg.TDC_TRIGCNTi n)).toNat = min ((s.rd (Reg.TDC_TRIGCNTi n)).toNat + 1) 0xFFFFFFFF ∧
      (∀ r k, t.rwin r k = triggerWindow (s.rwin r k) (n + 1) at_) ∧ (∀ r u, t.unit r u = triggerUnit (s.unit r u) (n + 1) at_) ∧
      s.keepsFlds t [⟨Reg.TDC_TRIGSTAT, n, n⟩, whole (Reg.TDC_TRIGCNTi n)] ∧
      t = { s with regs := t.regs, rwins := t.rwins, traces := t.traces }) ∧
  ∀ (s : State) (c : Nat), c < 8 →
    let x := s.tdc c
    let fresh : Tdc := ⟨.idle, 0, 0, 0, [], [], 0⟩
    let others (t : State) : Prop := ∀ c', c' ≠ c → t.tdc c' = s.tdc c'
    let stateFld := Reg.TDC_STATc_STATE c
    let passes (t : State) (y : Tdc) : Prop := t.tdc c = y ∧ others t ∧ t.get stateFld = y.st.code
    let only (t : State) (fs : List Fld) : Prop := s.keepsFlds t fs ∧ t = { s with regs := t.regs, tdcs := t.tdcs }
    let counts (t : State) (f : Fld) : Prop := t.get f = min (s.get f + 1) 65535
    (∀ rid, s.boardOpen →
      (x.active = true → exec (.tdcArm rid c) s = .next (s.accessError rid 2 (Reg.TDC_CTRLc c))) ∧
      (x.active = false → Completes (.tdcArm rid c) s fun t => passes t { fresh with st := .armed } ∧ only t [stateFld]) ∧
      Completes (.tdcDisarm rid c) s (fun t => passes t fresh ∧ only t [stateFld])) ∧
    (∀ f, s.sourceFires (s.get (Reg.TDC_CFGc_START_SRC c)) f = true →
      (x.st = .armed → Completes (.tdcStart c f) s fun t =>
        passes t ⟨.running, s.now, s.epoch.toNat, f, [], [], 0⟩ ∧ only t [stateFld]) ∧
      (x.st = .converting ∨ (x.st = .done ∧ s.get (Reg.TDC_CFGc_REPEAT c) = 1) → Completes (.tdcStart c f) s fun t =>
        counts t (Reg.TDC_LOSTc_START_LOST c) ∧ s.keepsFlds t [Reg.TDC_LOSTc_START_LOST c] ∧ s.onlyRegs t) ∧
      (x.st = .idle ∨ x.st = .running ∨ (x.st = .done ∧ s.get (Reg.TDC_CFGc_REPEAT c) ≠ 1) →
        exec (.tdcStart c f) s = .next s)) ∧
    (∀ f, s.sourceFires (s.get (Reg.TDC_CFGc_STOP_SRC c)) f = true →
      let d := x.interval s.now f
      let win : Int := (s.get (Reg.TDC_WINc_WIN c) + 1 : Nat)
      let own := x.startTick = s.now ∧ x.f0 = f ∧ s.get (Reg.TDC_CFGc_STOP_SRC c) = s.get (Reg.TDC_CFGc_START_SRC c)
      let measures := x.st = .running ∨ x.st = .converting
      let room := x.reported.length < min 16 (max 1 (s.get (Reg.TDC_CFGc_MAX_STOPS c)))
      let y := { x with measured := (s.now, f) :: x.measured }
      (x.st = .idle ∨ x.st = .done ∨ (measures ∧ own) → exec (.tdcStop c f) s = .next s) ∧
      (x.st = .armed → Completes (.tdcStop c f) s fun t =>
        counts t (Reg.TDC_EARLYc_EARLY c) ∧ s.keepsFlds t [Reg.TDC_EARLYc_EARLY c] ∧ s.onlyRegs t) ∧
      (measures → ¬own →
        (win * 400 < d → Completes (.tdcStop c f) s fun t =>
          counts t (Reg.TDC_EARLYc_LATE c) ∧ s.keepsFlds t [Reg.TDC_EARLYc_LATE c] ∧ s.onlyRegs t) ∧
        (d ≤ win * 400 → x.stopBusy s.now f = true → Completes (.tdcStop c f) s fun t =>
          counts t (Reg.TDC_MISSc_BUSY c) ∧ s.keepsFlds t [Reg.TDC_MISSc_BUSY c] ∧ s.onlyRegs t) ∧
        (d ≤ win * 400 → x.stopBusy s.now f = false →
          (d ≤ -2 → Completes (.tdcStop c f) s fun t =>
            t.tdc c = y ∧ others t ∧ counts t (Reg.TDC_EARLYc_EARLY c) ∧ only t [Reg.TDC_EARLYc_EARLY c]) ∧
          (-2 < d → ¬room → Completes (.tdcStop c f) s fun t =>
            t.tdc c = y ∧ others t ∧ counts t (Reg.TDC_MISSc_EXTRA c) ∧ only t [Reg.TDC_MISSc_EXTRA c]) ∧
          (-2 < d → room → Completes (.tdcStop c f) s fun t =>
            t.tdc c = { y with
              reported := (t.tdc c).reported, below := if d ≤ 1 then x.below + 1 else x.below } ∧
            (t.tdc c).reported.Perm ((if d ≤ 1 then 0 else d.toNat) :: x.reported) ∧
            (x.reported.Pairwise (· ≤ ·) → (t.tdc c).reported.Pairwise (· ≤ ·)) ∧ others t ∧
            t = { s with tdcs := t.tdcs })))) ∧
    (x.st = .running → x.startTick + s.get (Reg.TDC_WINc_WIN c) + 1 ≤ s.now → Completes (.tdcWindowClose c) s fun t =>
      passes t { x with st := .converting } ∧ only t [stateFld]) ∧
    (x.st = .converting → x.reported.length ≤ 16 → x.startEpoch < 2 ^ 64 → x.f0 < 400 → Completes (.tdcPost c) s fun t =>
      passes t { fresh with st := if s.get (Reg.TDC_CFGc_REPEAT c) = 1 then .armed else .done } ∧
      (∀ j, j < 16 →
        (x.reported[j]? = none → t.rd (Reg.TDC_RES_LOc_j c j) = 0 ∧ t.rd (Reg.TDC_RES_HIc_j c j) = 0) ∧
        ∀ d, x.reported[j]? = some d →
          t.rd (Reg.TDC_RES_LOc_j c j) = BitVec.ofNat 32 d ∧ t.get (Reg.TDC_RES_HIc_j_D_HI c j) = d / 2 ^ 32 % 256 ∧
          t.get (Reg.TDC_RES_HIc_j_V c j) = 1 ∧ t.get (Reg.TDC_RES_HIc_j_BELOW_RES c j) = (if j < x.below then 1 else 0)) ∧
      t.get (Reg.TDC_STATc_NSTOPS c) = x.reported.length ∧ t.get64 (Reg.TDC_START_LOc c) = x.startEpoch ∧
      t.get (Reg.TDC_STARTFc_F0 c) = x.f0 ∧ t.get (Reg.TDC_STATc_SEQ c) = (s.get (Reg.TDC_STATc_SEQ c) + 1) % 65536 ∧
      (t.get (Reg.TDC_STATc_EPOCH_RESET c) = 1 ↔ ∃ e, s.edgeAcceptedAt = some e ∧ x.startTick ≤ e) ∧
      (t.get (Reg.TDC_STATc_HOLDOVER c) = 1 ↔ ∃ e, s.lossAt = some e ∧ x.startTick ≤ e.2) ∧ t.get (evtFld evtTdc) = 1 ∧
      s.keepsFlds t ([whole (Reg.TDC_STATc c), whole (Reg.TDC_START_LOc c), whole (Reg.TDC_START_LOc c + 4), Reg.TDC_STARTFc_F0 c] ++
        ((List.range 16).flatMap fun j => [whole (Reg.TDC_RES_LOc_j c j), whole (Reg.TDC_RES_HIc_j c j)]) ++ evtFlds evtTdc) ∧
      t = { s with regs := t.regs, tdcs := t.tdcs, posted := t.posted, holding := t.holding })

/-- At a boundary of its period a sensor channel takes its settings, posts the period that ended 2,500 t later, and begins the
next one, invalid for 3 periods after a change of EN, EXC or PER (R421, R424, Table 13-1). A posting filters a valid raw result,
shows temperature, SEQ, flags and the period's epoch (R422, R423, R425), and updates the loops on the channel: the law of R436,
OVERTEMP, or HOLD (R437). A fault makes the period in progress invalid and counts (R430). -/
def Obligations.SensorsPostAndLoopsFollow : Prop :=
  ∀ (s : State) (c : Nat), c < 8 →
    let x := s.sns c
    let others (t : State) : Prop := ∀ c', c' ≠ c → t.sns c' = s.sns c'
    (∀ cmClear compClear, s.snsAtBoundary c = true → Completes (.sensorPeriodBoundary c cmClear compClear) s fun t =>
      let y := t.sns c
      let exc := s.get (Reg.SNS_CFGc_EXC c)
      let per := s.get (Reg.SNS_PERc_PER c)
      let tau := s.get (Reg.SNS_CFGc_TAU c)
      let en := s.get (Reg.SNS_CFGc_EN c) = 1
      y.exc = exc ∧ y.per = per ∧ y.tau = tau ∧ y.cm = s.rd (Reg.SNS_CMc c) ∧ (y.on = true ↔ en) ∧
      y.faultCm = (x.faultCm && !cmClear) ∧ y.faultComp = (x.faultComp && !compClear) ∧ y.yR = x.yR ∧ y.yX = x.yX ∧
      (∀ p, x.cur = some p → y.post = some (s.now + 2500, p)) ∧ (x.cur = none → y.post = x.post) ∧ (¬en → y.cur = none) ∧
      (en → x.on = false ∨ exc ≠ x.exc ∨ per ≠ x.per →
        y.cur = some ⟨s.epoch.toNat, snsPeriod per, true⟩ ∧ y.left = max x.left 3 - 1 ∧ y.n = 0) ∧
      (en → x.on = true → exc = x.exc → per = x.per → x.left = 0 → x.faulty = false → x.cal = false → s.mode ≠ .tripped →
        y.cur = some ⟨s.epoch.toNat, snsPeriod per, false⟩ ∧ y.left = 0 ∧ y.n = if x.restart ∨ tau ≠ x.tau then 0 else x.n) ∧
      others t ∧ t = { s with snss := t.snss }) ∧
    (∀ p due xR xX big, x.post = some (due, p) → due ≤ s.now → p.b < 2 ^ 64 → Completes (.sensorPost c xR xX big) s fun t =>
      let clip := big = true ∨ xR < 0
      let bad := p.bad = true ∨ clip
      let n := min (x.n + 1) (snsK x.tau x.per)
      let yR := x.yR + (xR - x.yR) / n
      let temp : Option Nat := match s.curveTemp c yR with | .temp v => some v.toNat | _ => none
      let stat := Reg.SNS_STATc c
      (bad → t.sns c = { x with post := none } ∧ t.get64 (Reg.SNS_RES_LOc c) = s.get64 (Reg.SNS_RES_LOc c) ∧
        t.rd (Reg.SNS_QUADc c) = s.rd (Reg.SNS_QUADc c) ∧ t.rd (Reg.SNS_TEMPc c) = 0 ∧ t.get (Reg.SNS_STATc_TEMP_OK c) = 0) ∧
      (¬bad → t.sns c = { x with post := none, n := n, yR := yR, yX := x.yX + (xX - x.yX) / n } ∧
        t.get64 (Reg.SNS_RES_LOc c) = yR.toNat % 2 ^ 64 ∧ t.rd (Reg.SNS_TEMPc c) = BitVec.ofNat 32 (temp.getD 0) ∧
        t.get (Reg.SNS_STATc_TEMP_OK c) = (if temp.isSome then 1 else 0) ∧
        t.get (Reg.SNS_STATc_FILLING c) = (if n < snsK x.tau x.per then 1 else 0) ∧
        t.get (Reg.SNS_STATc_CURVE_RANGE c) = (if s.curveTemp c yR = .range then 1 else 0) ∧
        t.get (Reg.SNS_STATc_CURVE_EMPTY c) = (if s.curveTemp c yR = .empty then 1 else 0)) ∧
      t.get (Reg.SNS_STATc_SEQ c) = (s.get (Reg.SNS_STATc_SEQ c) + 1) % 65536 ∧
      t.get (Reg.SNS_STATc_FAULTS c) = s.get (Reg.SNS_STATc_FAULTS c) ∧
      (t.get (Reg.SNS_STATc_INVALID c) = 1 ↔ bad) ∧ (t.get (Reg.SNS_STATc_OVR c) = 1 ↔ clip) ∧
      (t.get (Reg.SNS_STATc_FAULT_CM c) = 1 ↔ x.faultCm = true) ∧ (t.get (Reg.SNS_STATc_FAULT_COMP c) = 1 ↔ x.faultComp = true) ∧
      t.get64 (Reg.SNS_EPO_LOc c) = p.b ∧
      (∀ k, k < 4 →
        let h := s.heater k
        let on := s.get (Reg.HTR_CTRLk_LOOP_EN k) = 1 ∧ s.get (Reg.HTR_LOOPk_SRC k) = c
        let code (out : Nat) := some (s.now + 2500, s.htrCode k out)
        let o := loopUpdate (s.rd (Reg.HTR_SPk k)).toNat ((temp.getD 0 : Nat) : Int) (s.rd (Reg.HTR_KPk k)).toNat
          (s.rd (Reg.HTR_KIk k)).toNat (s.get (Reg.HTR_CEILk_CEIL k)) (s.get (Reg.HTR_RATEk_RATE k)) (s.get (Reg.HTR_IACCk_IACC k))
          h.out h.satHi h.satLo
        (¬on → t.heater k = h ∧ t.get (Reg.HTR_STATk_STATE k) = s.get (Reg.HTR_STATk_STATE k)) ∧
        (on → bad ∨ temp = none → t.heater k = h ∧
          t.get (Reg.HTR_STATk_STATE k) = if s.get (Reg.HTR_STATk_STATE k) = htrNoSensor then htrNoSensor else htrHold) ∧
        (on → ¬bad → ∀ v, temp = some v → (s.rd (Reg.HTR_TMAXk k)).toNat < v →
          t.get (Reg.HTR_CTRLk_LOOP_EN k) = 0 ∧ t.get (Reg.HTR_STATk_STATE k) = htrOvertemp ∧
          t.get (Reg.HTR_STATk_OVERTEMP_SEEN k) = 1 ∧ t.get (evtFld evtCryo) = 1 ∧
          t.heater k = { h with out := 0, codePend := code 0 }) ∧
        (on → ¬bad → ∀ v, temp = some v → v ≤ (s.rd (Reg.HTR_TMAXk k)).toNat →
          t.get (Reg.HTR_STATk_STATE k) = htrRun ∧ t.get (Reg.HTR_IACCk_IACC k) = o.1.toNat % 2 ^ 20 ∧
          t.get (Reg.HTR_STATk_SAT_RATE k) = (if o.2.2 then 1 else 0) ∧ t.get64 (Reg.HTR_UPD_LOk k) = s.epoch.toNat ∧
          t.heater k = { h with
            out := o.2.1.toNat, codePend := code o.2.1.toNat, satHi := decide (o.2.1 = s.get (Reg.HTR_CEILk_CEIL k)),
            satLo := decide (o.2.1 = 0), last := s.now })) ∧
      others t ∧
      s.keepsFlds t ([whole stat, whole (Reg.SNS_RES_LOc c), whole (Reg.SNS_RES_LOc c + 4), whole (Reg.SNS_QUADc c),
        whole (Reg.SNS_TEMPc c), whole (Reg.SNS_EPO_LOc c), whole (Reg.SNS_EPO_LOc c + 4)] ++
        ((List.range 4).flatMap fun k => [Reg.HTR_CTRLk_LOOP_EN k, Reg.HTR_STATk_STATE k, Reg.HTR_STATk_SAT_HI k,
          Reg.HTR_STATk_SAT_RATE k, Reg.HTR_STATk_OVERTEMP_SEEN k, Reg.HTR_IACCk_IACC k, whole (Reg.HTR_UPD_LOk k),
          whole (Reg.HTR_UPD_LOk k + 4)]) ++ evtFlds evtCryo) ∧
      t = { s with snss := t.snss, regs := t.regs, heaters := t.heaters, posted := t.posted, holding := t.holding }) ∧
    ∀ cm mv, x.on = true → (cm = true → x.faultCm = false ∧ outsideWindow x.cm mv = true) → (cm = false → x.faultComp = false) →
      Completes (.sensorFault c cm mv) s fun t =>
        t.sns c = { x with
          faultCm := cm || x.faultCm, faultComp := !cm || x.faultComp, cur := x.cur.map fun p => { p with bad := true } } ∧
        others t ∧ t.get (Reg.SNS_STATc_FAULTS c) = min (s.get (Reg.SNS_STATc_FAULTS c) + 1) 255 ∧ t.get (evtFld evtCryo) = 1 ∧
        s.keepsFlds t (Reg.SNS_STATc_FAULTS c :: evtFlds evtCryo) ∧
        t = { s with snss := t.snss, regs := t.regs, posted := t.posted, holding := t.holding }

/-- A heater's written value and a loop's new code come into force at their tick (R434, R436). Setting LOOP_EN releases the output
and starts the loop in HOLD from the output in force; clearing it ends the loop at once (R438). With no posting for TIMEOUT the
output goes to FALLBACK (R437). COMP shows compliance, and its setting raises CRYO (R435). -/
def Obligations.HeatersFollowTheirSettings : Prop :=
  ∀ (s : State) (k : Nat), k < 4 →
    let h := s.heater k
    let others (t : State) : Prop := ∀ k', k' ≠ k → t.heater k' = s.heater k'
    let stateFld := Reg.HTR_STATk_STATE k
    (∀ due v, h.valPend = some (due, v) → due ≤ s.now → Completes (.htrValEffect k) s fun t =>
      t.heater k = { h with code := v, valPend := none } ∧ others t ∧ t = { s with heaters := t.heaters }) ∧
    (∀ due v, h.codePend = some (due, v) → due ≤ s.now → Completes (.heaterCodeEffect k) s fun t =>
      t.heater k = { h with code := v, codePend := none } ∧ others t ∧ t = { s with heaters := t.heaters }) ∧
    (∀ rid v, s.boardOpen →
      (s.get (Reg.HTR_CTRLk_LOOP_EN k) = 0 → h.code < 2 ^ 20 → Completes (.loopEnable rid k v) s fun t =>
        let o := if s.get (Reg.HTR_LOOPk_OUT_MODE k) = 1 then h.code * h.code / 2 ^ 20 else h.code
        t.get (Reg.HTR_CTRLk_CLEAR k) = 0 ∧ t.get (Reg.HTR_CTRLk_LOOP_EN k) = 1 ∧ t.get stateFld = htrHold ∧
        t.get (Reg.HTR_IACCk_IACC k) = o ∧ t.heater k = { h with out := o, satHi := false, satLo := false, last := s.now } ∧
        others t ∧ s.keepsFlds t [Reg.HTR_CTRLk_CLEAR k, Reg.HTR_CTRLk_LOOP_EN k, stateFld, Reg.HTR_IACCk_IACC k] ∧
        t = { s with regs := t.regs, heaters := t.heaters }) ∧
      (s.get (Reg.HTR_CTRLk_LOOP_EN k) = 1 →
        (Completes (.loopEnable rid k v) s fun t => t.get (Reg.HTR_CTRLk_CLEAR k) = 0 ∧ t.get (Reg.HTR_CTRLk_LOOP_EN k) = 1 ∧
          s.keepsFlds t [Reg.HTR_CTRLk_CLEAR k] ∧ s.onlyRegs t) ∧
        Completes (.loopDisable rid k v) s fun t =>
          t.get (Reg.HTR_CTRLk_CLEAR k) = 0 ∧ t.get (Reg.HTR_CTRLk_LOOP_EN k) = 0 ∧ t.get stateFld = htrOff ∧
          t.heater k = { h with codePend := none } ∧ others t ∧
          s.keepsFlds t [Reg.HTR_CTRLk_CLEAR k, Reg.HTR_CTRLk_LOOP_EN k, stateFld] ∧
          t = { s with regs := t.regs, heaters := t.heaters }) ∧
      (s.get (Reg.HTR_CTRLk_LOOP_EN k) = 0 → Completes (.loopDisable rid k v) s fun t =>
        t.get (Reg.HTR_CTRLk_CLEAR k) = 0 ∧ s.keepsFlds t [Reg.HTR_CTRLk_CLEAR k] ∧ s.onlyRegs t)) ∧
    (s.get (Reg.HTR_CTRLk_LOOP_EN k) = 1 → s.get (Reg.HTR_SAFEk_TIMEOUT k) ≠ 0 → s.get stateFld ≠ htrNoSensor →
      h.last + s.get (Reg.HTR_SAFEk_TIMEOUT k) * 2500000000 ≤ s.now → Completes (.noSensor k) s fun t =>
        let f := s.get (Reg.HTR_SAFEk_FALLBACK k)
        t.get stateFld = htrNoSensor ∧ t.get (Reg.HTR_IACCk_IACC k) = f ∧ t.get (evtFld evtCryo) = 1 ∧
        t.heater k = { h with out := f, code := s.htrCode k f, codePend := none } ∧ others t ∧
        s.keepsFlds t ([stateFld, Reg.HTR_IACCk_IACC k] ++ evtFlds evtCryo) ∧
        t = { s with regs := t.regs, heaters := t.heaters, posted := t.posted, holding := t.holding }) ∧
    (s.get (Reg.HTR_STATk_COMP k) = 0 → Completes (.heaterCompliance k true) s fun t =>
      t.get (Reg.HTR_STATk_COMP k) = 1 ∧ t.get (evtFld evtCryo) = 1 ∧
      s.keepsFlds t (Reg.HTR_STATk_COMP k :: evtFlds evtCryo) ∧ s.onlyHost t) ∧
    (s.get (Reg.HTR_STATk_COMP k) = 1 → exec (.heaterCompliance k true) s = .next s) ∧
    Completes (.heaterCompliance k false) s fun t =>
      t.get (Reg.HTR_STATk_COMP k) = 0 ∧ s.keepsFlds t [Reg.HTR_STATk_COMP k] ∧ s.onlyRegs t

/-- The visit in progress takes its discharge, settling and sample slots in turn; a whole group posts its value, SEQ, REP, FLAGS
and epoch (R441, R442), and the table moves on (R443). A boundary with the converter free takes an urgent request first, which
puts the table's visit aside to begin again, then the interrupted visit, then the table (R444, R445). RUN at 0 stops the table,
and CALIBRATE suspends it (R443, R446). MON_URG.GO is refused while BUSY and in CALIBRATE (R444). -/
def Obligations.MonitorVisits : Prop :=
  (∀ (s : State) (sample : Int) (clip : Bool), s.slotEnded = true →
    let m := s.mon
    let c := Instr.monitorSlotEnd sample clip []
    let steady := s.get Reg.MON_CTRL_RUN = 1 ∧ m.fresh = false ∧ m.lp = decide (s.get Reg.MON_CTRL_LP = 1) ∧ s.mode ≠ .calibrate
    (∀ mp, Completes (.monitorSlotEnd sample clip mp) s fun t =>
      t.mon.slotAt = some s.now ∧ t.mon.fresh = false ∧ t.mon.lp = decide (s.get Reg.MON_CTRL_LP = 1) ∧
      t = { s with regs := t.regs, mon := t.mon }) ∧
    (∀ v, m.visit = some v → steady → m.urgent = [] →
      let goesOn (w : MonVisit) := Completes c s fun t => t = { s with mon := { m with slotAt := some s.now, visit := some w } }
      let n := 2 ^ v.avg
      let value := BitVec.ofInt 32 (clampTo (-2147483648) 2147483647 (asr (v.sum + sample) v.shift))
      let flags := (if v.resumed then 8 else 0) + (if s.get Reg.CAL_RESULTS_MON_STALE = 1 then 4 else 0) +
        (if s.monAbsent v.src then 2 else 0) + (if v.clip || clip then 1 else 0)
      (v.step = .discharge → goesOn { v with step := if v.delay = 0 then .sample else .settle, done := 0 }) ∧
      (v.step = .settle → v.done + 1 < v.delay → goesOn { v with done := v.done + 1 }) ∧
      (v.step = .settle → v.delay ≤ v.done + 1 → goesOn { v with step := .sample, done := 0 }) ∧
      (v.step = .sample → v.done + 1 < n →
        goesOn { v with sum := v.sum + sample, clip := v.clip || clip, done := v.done + 1 }) ∧
      (v.step = .sample → n ≤ v.done + 1 → v.urgent = false → v.entry < 128 → v.group < 256 → Completes c s fun t =>
        t.rd (Reg.MON_RESe v.entry) = value ∧
        t.get (Reg.MON_RESe_W1_SEQ v.entry) = (s.get (Reg.MON_RESe_W1_SEQ v.entry) + 1) % 256 ∧
        t.get (Reg.MON_RESe_W1_REP v.entry) = v.group ∧ wordBits (t.rd (Reg.MON_RESe_W1 v.entry)) 7 0 = flags ∧
        t.get64 (Reg.MON_RESe_EPOCH_LO v.entry) = s.epoch.toNat ∧
        (v.group + 1 < v.groups → t.mon = { m with
          slotAt := some s.now,
          visit := some { v with group := v.group + 1, done := 0, sum := 0, clip := false } }) ∧
        (v.groups ≤ v.group + 1 → m.held = none →
          let next := if s.monLen ≤ v.entry + 1 then 0 else v.entry + 1
          s.monAbsent (s.monVisit next).src = false →
          t.mon = { m with slotAt := some s.now, visit := some (s.monVisit next), next := next } ∧
          t.get Reg.MON_STAT_PASSES = (if s.monLen ≤ v.entry + 1 then (s.get Reg.MON_STAT_PASSES + 1) % 65536
            else s.get Reg.MON_STAT_PASSES))) ∧
      (v.step = .sample → n ≤ v.done + 1 → v.urgent = true → v.host = true → v.group + 1 = v.groups → Completes c s fun t =>
        (∀ w, m.held = some w → s.monAbsent w.src = false →
          t.mon = { m with slotAt := some s.now, visit := some w, held := none } ∧ t.rd Reg.MON_URG_RES = value ∧
          t.get Reg.MON_URG_FLG_FLAGS = flags ∧ t.get64 Reg.MON_URG_EPO_LO = s.epoch.toNat ∧ t.get Reg.MON_URG_BUSY = 0 ∧
          t.get Reg.MON_URG_DONE = 1))) ∧
    (∀ q rest, steady → m.urgent = q :: rest → s.monAbsent q.src = false →
      (m.visit = none → Completes c s fun t =>
        t = { s with mon := { m with slotAt := some s.now, visit := some (urgentVisit q), urgent := rest } }) ∧
      (∀ v, m.visit = some v → v.urgent = false → v.step ≠ .sample ∨ v.done + 1 < 2 ^ v.avg → Completes c s fun t =>
        t = { s with mon := { m with
          slotAt := some s.now, visit := some (urgentVisit q), urgent := rest, held := some v.restart } })) ∧
    (steady → m.urgent = [] → m.visit = none →
      (∀ w, m.held = some w → s.monAbsent w.src = false → Completes c s fun t =>
        t = { s with mon := { m with slotAt := some s.now, visit := some w, held := none } }) ∧
      (m.held = none → s.monAbsent (s.monVisit m.next).src = false → Completes c s fun t =>
        t = { s with mon := { m with slotAt := some s.now, visit := some (s.monVisit m.next) } })) ∧
    (s.get Reg.MON_CTRL_RUN = 0 → m.urgent = [] → (∀ v, m.visit = some v → v.urgent = false ∧ v.step ≠ .sample) → Completes c s fun t =>
      t.mon.visit = none ∧ t.mon.held = none ∧ t.regs = s.regs) ∧
    (∀ v, m.visit = some v → v.urgent = false → v.step ≠ .sample → s.mode = .calibrate → s.get Reg.MON_CTRL_RUN = 1 → m.fresh = false →
      Completes c s fun t => t.mon.visit = none ∧ (∃ w, t.mon.held = some w ∧ w.entry = v.entry ∧ w.step = .discharge) ∧
        t.regs = s.regs)) ∧
  ∀ (s : State) (rid : Nat) (v : Word),
    (s.mode = .calibrate → exec (.urgentGo rid v) s = .next (s.accessError rid 1 Reg.MON_URG)) ∧
    (s.boardOpen →
      (s.get Reg.MON_URG_BUSY = 1 → exec (.urgentGo rid v) s = .next (s.accessError rid 2 Reg.MON_URG)) ∧
      (s.get Reg.MON_URG_BUSY = 0 → Completes (.urgentGo rid v) s fun t =>
        t.get Reg.MON_URG_SRC = wordBits v 15 0 ∧ t.get Reg.MON_URG_BUSY = 1 ∧ t.get Reg.MON_URG_DONE = 0 ∧
        t.mon = { s.mon with urgent := s.mon.urgent ++ [⟨true, monSource (wordBits v 15 0), s.get Reg.MON_URG_CFG_DELAY,
          max 1 (min (s.get Reg.MON_URG_CFG_AVG) 8), min (s.get Reg.MON_URG_CFG_SHIFT) 8⟩] } ∧
        s.keepsFlds t [Reg.MON_URG_SRC, Reg.MON_URG_BUSY, Reg.MON_URG_DONE] ∧ t = { s with regs := t.regs, mon := t.mon }) ∧
      (Completes (.tableRun rid v) s fun t =>
        t.get Reg.MON_CTRL_RUN = 1 ∧ t.get Reg.MON_CTRL_LEN = wordBits v 15 8 ∧ t.get Reg.MON_CTRL_LP = wordBits v 1 1 ∧
        t.mon = { s.mon with fresh := s.mon.fresh || decide (s.get Reg.MON_CTRL_RUN = 0) } ∧
        s.keepsFlds t [whole Reg.MON_CTRL] ∧ t = { s with regs := t.regs, mon := t.mon }) ∧
      Completes (.tableStop rid v) s fun t =>
        t.get Reg.MON_CTRL_RUN = 0 ∧ t.get Reg.MON_CTRL_LEN = wordBits v 15 8 ∧ t.get Reg.MON_CTRL_LP = wordBits v 1 1 ∧
        s.keepsFlds t [whole Reg.MON_CTRL] ∧ s.onlyRegs t)

/-! ### The mailbox, calibration and temperature -/

/-- A request posted in a slot waits for the MP, or is answered UNKNOWN_COMMAND at once if the server that runs does not know it
(R140, R144); a posted one can be cancelled, and expires (R143). A command whose LEN is not the stated one answers BAD_LEN. The
commands that only read answer OK with their payload (Tables 03-25, 10-10 and 14-15, R453), or FAILED where there is nothing to
read. -/
def Obligations.MailboxAnswers : Prop :=
  (∀ (s : State) (k : Nat), k < 8 →
    let m := s.slotOf k
    (∀ seq cmd len expire opt payload, m.st ≠ .posted →
      let q : Mailbox :=
        ⟨.posted, seq % 256, cmd % 65536, len % 65536, expire % 65536, opt % 256, payload, s.now, none⟩
      (s.server = 0 ∨ s.serves (cmd % 65536) = true → Completes (.mailboxPost k seq cmd len expire opt payload) s fun t =>
        t.slotOf k = q ∧ (∀ j, j ≠ k → t.slotOf j = s.slotOf j) ∧ t = { s with mbx := t.mbx }) ∧
      (s.server ≠ 0 → s.serves (cmd % 65536) = false → Completes (.mailboxPost k seq cmd len expire opt payload) s fun t =>
        t.slotOf k = { q with st := .done, reply := some ⟨mbUnknown, seq % 256, 0, 0, 0, []⟩ } ∧
        (∀ j, j ≠ k → t.slotOf j = s.slotOf j) ∧ s.keepsFlds t [pendingBit 1] ∧
        t = { s with mbx := t.mbx, regs := t.regs, posted := t.posted, holding := t.holding })) ∧
    (m.st = .posted → ∀ seq cmd len expire opt payload, exec (.mailboxPost k seq cmd len expire opt payload) s = .next s) ∧
    (m.st = .posted → Completes (.mailboxCancel k) s fun t => s.onlyReplies t k (Config.noWait s.now) mbCancelled [] 0) ∧
    (m.st ≠ .posted → exec (.mailboxCancel k) s = .next s) ∧
    (m.st = .posted → m.expire ≠ 0 → m.postedAt + m.expire * 2500000 ≤ s.now → Completes (.mailboxExpire k) s fun t =>
      s.repliesTo t k (Config.noWait s.now) mbExpired [] 0 ∧
      t.get Reg.BRD_MP_SLIP_EXPIRED = min (s.get Reg.BRD_MP_SLIP_EXPIRED + 1) 65535 ∧
      s.keepsFlds t [pendingBit 1, Reg.BRD_MP_SLIP_EXPIRED] ∧
      t = { s with mbx := t.mbx, regs := t.regs, posted := t.posted, holding := t.holding })) ∧
  ∀ (s : State) (k wait : Nat),
    let m := s.slotOf k
    let ready (cmd : Nat) : Prop := s.mbxReady k cmd wait = true
    let answers (c : Instr) (status : Nat) (payload : List (BitVec 8)) : Prop :=
      Completes c s fun t => s.onlyReplies t k wait status payload 0
    (ready 0x0001 → (m.len ≤ 2016 → answers (.echo k wait) mbOk ((List.range m.len).map fun i => BitVec.ofNat 8 (m.byte i))) ∧
      (2016 < m.len → answers (.echo k wait) mbBadLen [])) ∧
    (ready 0x0002 → (2016 < m.len → answers (.version k wait) mbBadLen []) ∧
      (m.len ≤ 2016 → answers (.version k wait) mbOk (bytesOf (s.fwVersion (s.get Reg.BRD_BOOT_FW_SLOT)) 4 ++
        bytesOf (s.get Reg.BRD_BOOT_FW_SLOT) 1 ++ bytesOf s.server 1))) ∧
    (ready 0x0101 → (m.len = 0 → answers (.fwInfo k wait) mbOk (fwInfo s 0 ++ fwInfo s 1)) ∧
      (m.len ≠ 0 → answers (.fwInfo k wait) mbBadLen [])) ∧
    (ready 0x0104 →
      (m.len = 6 → 1 ≤ m.num 4 2 → m.num 4 2 ≤ 2016 → answers (.flashRead k wait) mbOk
        ((List.range (m.num 4 2)).map fun i => s.flashByte (m.num 0 4 + i))) ∧
      (m.len ≠ 6 ∨ m.num 4 2 = 0 ∨ 2016 < m.num 4 2 → answers (.flashRead k wait) mbBadLen [])) ∧
    (ready 0x0201 → (m.len = 0 → answers (.calInfo k wait) mbOk (calInfo s 0 ++ calInfo s 1)) ∧
      (m.len ≠ 0 → answers (.calInfo k wait) mbBadLen [])) ∧
    (ready 0x0203 → (m.len ≠ 2 → answers (.calTableRead k wait) mbBadLen []) ∧
      (m.len = 2 → m.byte 0 < s.part.ranks → m.byte 1 < 18 → answers (.calTableRead k wait) mbOk
        ((s.flatTable (m.byte 0) (m.byte 1)).flatMap fun x => bytesOf x.toNat 2)) ∧
      (m.len = 2 → s.part.ranks ≤ m.byte 0 ∨ 18 ≤ m.byte 1 → answers (.calTableRead k wait) mbFailed [])) ∧
    (ready 0x0301 → (m.len ≠ 0 → answers (.mpLoad k wait) mbBadLen []) ∧
      (m.len = 0 → Completes (.mpLoad k wait) s fun t => s.onlyReplies t k wait mbOk
        (bytesOf s.mpLoad 4 ++ bytesOf s.mpAge 4 ++ bytesOf (s.rd Reg.BRD_MP_SLIP).toNat 4 ++
          bytesOf (max (Config.mpPeak s.now % 65536) (s.mpLoad / 65536)) 4) s.epoch.toNat)) ∧
    (ready 0x0302 → (m.len ≠ 4 → answers (.tripLogRead k wait) mbBadLen []) ∧
      (m.len = 4 → ∀ x, s.tripLog.reverse[m.num 0 4]? = some x → answers (.tripLogRead k wait) mbOk (bytesOf x.toNat 64)) ∧
      (m.len = 4 → s.tripLog.length ≤ m.num 0 4 → answers (.tripLogRead k wait) mbFailed [])) ∧
    (ready 0x0403 → (m.len ≠ 6 ∨ m.num 4 2 = 0 ∨ 128 < m.num 4 2 → answers (.curveRead k wait) mbBadLen []) ∧
      (m.len = 6 → 1 ≤ m.num 4 2 → m.num 4 2 ≤ 128 → answers (.curveRead k wait) mbOk
        (bytesOf (s.curve (m.byte 0)).length 2 ++ bytesOf 0 2 ++
          (((s.curve (m.byte 0)).drop (m.num 2 2)).take (m.num 4 2)).flatMap fun p => bytesOf p.1 8 ++ bytesOf p.2 4))) ∧
    (ready 0x0502 → (m.len ≠ 1 → ∀ h v, answers (.eyeScan k wait h v) mbBadLen []) ∧
      (m.len = 1 → m.byte 0 < 16 → (s.lane (m.byte 0)).locked = true → ∀ h v,
        answers (.eyeScan k wait h v) mbOk (bytesOf h 2 ++ bytesOf v 2)) ∧
      (m.len = 1 → 16 ≤ m.byte 0 ∨ (s.lane (m.byte 0)).locked = false → ∀ h v, answers (.eyeScan k wait h v) mbFailed []))

/-- The mailbox commands that change something: a curve's shadow, its commit, saving and clearing (R429, R453); firmware while
FW_WRITE and FW_COMMIT are allowed (R470); the calibration store and a flatness table in SEALED (R461, R462, R468); the trip log
in SEALED (R482); and the restart or training of a port that no shot uses (R372). One that is not allowed answers NOT_IN_THIS_MODE
or FAILED and changes nothing else. -/
def Obligations.MailboxChanges : Prop :=
  ∀ (s : State) (k wait : Nat),
    let m := s.slotOf k
    let ready (cmd : Nat) : Prop := s.mbxReady k cmd wait = true
    let answers (c : Instr) (status : Nat) : Prop := Completes c s fun t => s.onlyReplies t k wait status [] 0
    let bank (t : State) : Prop :=
      t = { s with
        mbx := t.mbx, regs := t.regs, posted := t.posted, holding := t.holding, freeCtr := t.freeCtr, calBank := t.calBank,
        calBody := t.calBody, curveBank := t.curveBank, curveBody := t.curveBody, fwBank := t.fwBank, fwBody := t.fwBody }
    (∀ ok, (ready 0x0401 → m.num 4 2 = 0 ∨ 128 < m.num 4 2 ∨ m.len ≠ 8 + 12 * m.num 4 2 → answers (.curveWrite k wait) mbBadLen) ∧
      (ready 0x0402 → m.len ≠ 4 → answers (.curveCommit k wait) mbBadLen) ∧
      (ready 0x0404 → m.len ≠ 0 → answers (.curveSave k wait ok) mbBadLen) ∧
      (ready 0x0405 → m.len ≠ 1 → answers (.curveClear k wait) mbBadLen) ∧
      (ready 0x0102 → m.num 8 2 = 0 ∨ 2000 < m.num 8 2 ∨ m.len ≠ 16 + m.num 8 2 → answers (.fwWrite k wait ok) mbBadLen) ∧
      (ready 0x0103 → m.len ≠ 12 → answers (.fwCommit k wait ok) mbBadLen) ∧
      (ready 0x0202 → m.len ≠ 0 → answers (.calCommit k wait ok) mbBadLen) ∧
      (ready 0x0204 → m.len ≠ 132 → answers (.calTableWrite k wait) mbBadLen) ∧
      (ready 0x0303 → m.len ≠ 0 → answers (.tripLogErase k wait) mbBadLen) ∧
      (ready 0x0503 → m.len ≠ 1 → answers (.resetPort k wait) mbBadLen)) ∧
    (ready 0x0401 → 1 ≤ m.num 4 2 → m.num 4 2 ≤ 128 → m.len = 8 + 12 * m.num 4 2 →
      (m.byte 0 < 32 → m.num 2 2 + m.num 4 2 ≤ 200 → Completes (.curveWrite k wait) s fun t =>
        s.repliesTo t k wait mbOk [] 0 ∧
        (∀ i, i < m.num 4 2 → t.curveShadow.get curvePointDefault (m.byte 0 * 200 + m.num 2 2 + i) =
          (m.num (8 + 12 * i) 8, m.num (16 + 12 * i) 4)) ∧
        (∀ a, a < m.byte 0 * 200 + m.num 2 2 ∨ m.byte 0 * 200 + m.num 2 2 + m.num 4 2 ≤ a →
          t.curveShadow.get curvePointDefault a = s.curveShadow.get curvePointDefault a) ∧
        t = { s with mbx := t.mbx, regs := t.regs, posted := t.posted, holding := t.holding, curveShadow := t.curveShadow }) ∧
      (32 ≤ m.byte 0 ∨ 200 < m.num 2 2 + m.num 4 2 → answers (.curveWrite k wait) mbFailed)) ∧
    (ready 0x0402 → m.len = 4 →
      let pts := (List.range (m.num 2 2)).map fun i => s.curveShadow.get curvePointDefault (m.byte 0 * 200 + i)
      let ok := m.byte 0 < 32 ∧ 2 ≤ m.num 2 2 ∧ m.num 2 2 ≤ 200 ∧
        ((pts.map Prod.fst).Pairwise (· < ·) ∨ (pts.map Prod.fst).Pairwise (· > ·))
      (ok → Completes (.curveCommit k wait) s fun t =>
        s.repliesTo t k wait mbOk (bytesOf s.epoch.toNat 4) 0 ∧ t.curve (m.byte 0) = pts ∧
        (∀ u, u ≠ m.byte 0 → t.curve u = s.curve u) ∧
        t = { s with mbx := t.mbx, regs := t.regs, posted := t.posted, holding := t.holding, curves := t.curves }) ∧
      (¬ok → answers (.curveCommit k wait) mbFailed)) ∧
    (ready 0x0405 → m.len = 1 →
      (m.byte 0 < 32 → Completes (.curveClear k wait) s fun t =>
        s.repliesTo t k wait mbOk [] 0 ∧ t.curve (m.byte 0) = [] ∧ (∀ u, u ≠ m.byte 0 → t.curve u = s.curve u) ∧
        t = { s with mbx := t.mbx, regs := t.regs, posted := t.posted, holding := t.holding, curves := t.curves }) ∧
      (32 ≤ m.byte 0 → answers (.curveClear k wait) mbFailed)) ∧
    (ready 0x0404 → m.len = 0 →
      let n := commitTarget s.curveBank
      (Completes (.curveSave k wait true) s fun t =>
        s.repliesTo t k wait mbOk [] 0 ∧ t.curveBody.get curveBodyDefault n = s.curves ∧
        (∃ h, (t.curveBank.get bankDefault n).hdr = some h ∧ h.seq = commitSeq s.curveBank ∧ h.stamp = s.stamp) ∧
        t.curveBank.get bankDefault (1 - n) = s.curveBank.get bankDefault (1 - n) ∧ bank t) ∧
      Completes (.curveSave k wait false) s fun t =>
        s.repliesTo t k wait mbFailed [] 0 ∧ (t.curveBank.get bankDefault n).hdr = none ∧ t.curveBody = s.curveBody ∧ bank t) ∧
    (ready 0x0102 → 1 ≤ m.num 8 2 → m.num 8 2 ≤ 2000 → m.len = 16 + m.num 8 2 →
      (s.fwAllowed = false → ∀ ok, answers (.fwWrite k wait ok) mbNotInMode) ∧
      (s.fwAllowed = true → s.fwSlotOk (m.byte 0) = false → ∀ ok, answers (.fwWrite k wait ok) mbFailed) ∧
      (s.fwAllowed = true → s.fwSlotOk (m.byte 0) = true → m.num 4 4 + m.num 8 2 ≤ 2 ^ 24 - 4096 →
        answers (.fwWrite k wait false) mbFailed ∧
        Completes (.fwWrite k wait true) s fun t =>
          s.repliesTo t k wait mbOk [] 0 ∧ (t.fwBank.get bankDefault (m.byte 0)).hdr = none ∧
          (∀ i, i < m.num 8 2 →
            t.fwBody.get fwByteDefault (m.byte 0 * 2 ^ 24 + m.num 4 4 + i) = some (BitVec.ofNat 8 (m.byte (16 + i)))) ∧
          bank t)) ∧
    (ready 0x0103 → m.len = 12 →
      let n := m.byte 0
      (s.fwAllowed = false → ∀ ok, answers (.fwCommit k wait ok) mbNotInMode) ∧
      (s.fwAllowed = true → s.fwSlotOk n = false → ∀ ok, answers (.fwCommit k wait ok) mbFailed) ∧
      (s.fwAllowed = true → s.fwSlotOk n = true → m.num 4 4 ≤ 2 ^ 24 - 4096 →
        answers (.fwCommit k wait false) mbFailed ∧
        Completes (.fwCommit k wait true) s fun t =>
          s.repliesTo t k wait mbOk (bytesOf (commitSeq s.fwBank) 4) 0 ∧
          (t.fwBank.get bankDefault n).hdr = some ⟨commitSeq s.fwBank, m.num 4 4,
            BitVec.ofNat 32 (crc32 ((List.range (m.num 4 4)).map (s.fwByte n))), m.num 8 4, s.stamp⟩ ∧ bank t)) ∧
    (ready 0x0202 → m.len = 0 →
      let n := commitTarget s.calBank
      (s.mode ≠ .sealed → ∀ ok, answers (.calCommit k wait ok) mbNotInMode) ∧
      (s.mode = .sealed →
        (Completes (.calCommit k wait true) s fun t =>
          s.repliesTo t k wait mbOk (bytesOf (commitSeq s.calBank) 4) 0 ∧ t.calBody.get calBodyDefault n = s.calSnapshot ∧
          (∃ h, (t.calBank.get bankDefault n).hdr = some h ∧ h.seq = commitSeq s.calBank ∧ h.word = s.calVref ∧ h.stamp = s.stamp) ∧
          t.calBank.get bankDefault (1 - n) = s.calBank.get bankDefault (1 - n) ∧ t.get Reg.CAL_STORE_UNSAVED = 0 ∧ bank t) ∧
        Completes (.calCommit k wait false) s fun t =>
          s.repliesTo t k wait mbFailed [] 0 ∧ (t.calBank.get bankDefault n).hdr = none ∧ t.calBody = s.calBody ∧ bank t)) ∧
    (ready 0x0204 → m.len = 132 →
      let tab := (List.range 65).map fun i => BitVec.ofNat 16 (m.num (2 + 2 * i) 2)
      let fits := m.byte 0 < s.part.ranks ∧ m.byte 1 < 18 ∧ ∀ x ∈ tab, x.toNat ≤ 0x8000
      (s.mode ≠ .sealed → answers (.calTableWrite k wait) mbNotInMode) ∧
      (s.mode = .sealed → ¬fits → answers (.calTableWrite k wait) mbFailed) ∧
      (s.mode = .sealed → fits → Completes (.calTableWrite k wait) s fun t =>
        s.repliesTo t k wait mbOk [] 0 ∧ t.get (staleBit (lineCal (m.byte 0) (m.byte 1))) = 0 ∧
        t.flatPend = s.flatPend ++ [(s.now + 64, lineKey (m.byte 0) (m.byte 1), tab)] ∧
        s.keepsFlds t [pendingBit 1, staleBit (lineCal (m.byte 0) (m.byte 1))] ∧
        t = { s with mbx := t.mbx, regs := t.regs, posted := t.posted, holding := t.holding, flatPend := t.flatPend })) ∧
    (ready 0x0303 → m.len = 0 →
      (s.mode ≠ .sealed → answers (.tripLogErase k wait) mbNotInMode) ∧
      (s.mode = .sealed → Completes (.tripLogErase k wait) s fun t =>
        s.repliesTo t k wait mbOk [] 0 ∧
        t = { s with mbx := t.mbx, regs := t.regs, posted := t.posted, holding := t.holding, tripLog := [] })) ∧
    (ready 0x0503 → m.len = 1 →
      let p := m.byte 0
      (4 ≤ p → answers (.resetPort k wait) mbFailed) ∧
      (p < 4 → s.portClaimed p = true → answers (.resetPort k wait) mbNotInMode) ∧
      (p < 4 → s.portClaimed p = false → Completes (.resetPort k wait) s fun t =>
        (t.slotOf k).st = .done ∧ (∀ l ∈ s.enabledLanes p, (t.lane l).st = .cdr) ∧
        (∀ l, l ∉ s.enabledLanes p → t.lane l = s.lane l))) ∧
    (ready 0x0501 →
      let p := m.byte 0
      ∀ reqs : List (Nat × Nat × Nat),
        (m.len ≠ 2 → answers (.trainPort k wait reqs) mbBadLen) ∧
        (m.len = 2 → 4 ≤ p → answers (.trainPort k wait reqs) mbFailed) ∧
        (m.len = 2 → p < 4 → s.trainBegan k = none →
          (s.portClaimed p = true → answers (.trainPort k wait reqs) mbNotInMode) ∧
          (s.portClaimed p = false → Completes (.trainPort k wait reqs) s fun t =>
            t.training = some (k, s.now) ∧ t.mbx = s.mbx ∧
            ∀ l ∈ s.enabledLanes p, (t.lane l).st = if (s.lane l).st = .fault then .cdr else (s.lane l).st)) ∧
        (m.len = 2 → p < 4 → ∀ b, s.trainBegan k = some b →
          (s.portIsUp p = true → Completes (.trainPort k wait reqs) s fun t =>
            t.training = none ∧ s.repliesTo t k wait mbOk (s.trainReply p) 0) ∧
          (s.portIsUp p = false → b + 250000000 ≤ s.now → Completes (.trainPort k wait reqs) s fun t =>
            t.training = none ∧ s.repliesTo t k wait mbFailed (s.trainReply p) 0) ∧
          (s.portIsUp p = false → s.now < b + 250000000 → Completes (.trainPort k wait reqs) s fun t =>
            t.training = s.training ∧ t.mbx = s.mbx ∧ (m.byte 1 ≠ 1 → t = s))))

/-- A calibration stage adds its results; stage 1 measures VCAL_IN, and more than 0.5 % off CAL_VREF ends the routine with RESULT
3 (R458, R459). The end of the routine applies every result in one tick and returns to SETUP by row 17 (R460). -/
def Obligations.CalibrationRoutine : Prop :=
  ∀ (s : State) (q : Routine), s.routine = some q →
    (∀ six meas results, s.stageEnds six results = true →
      let c := Instr.calibrationStageEnd six meas results
      let near := 200 * (meas - (s.get Reg.CAL_VREF_VREF : Int)).natAbs ≤ s.get Reg.CAL_VREF_VREF
      (six = true → Completes c s fun t =>
        t = { s with routine := some { q with six := false, results := q.results ++ results } }) ∧
      (six = false → q.stage ≠ 1 → Completes c s fun t =>
        t = { s with routine := some { q with stage := q.stage + 1, results := q.results ++ results } }) ∧
      (six = false → q.stage = 1 → near → Completes c s fun t =>
        t.routine = some { q with stage := 2, six := true, results := q.results ++ results } ∧
        t.rd Reg.CAL_VCAL_MEAS = BitVec.ofInt 32 meas ∧ s.keepsFlds t [whole Reg.CAL_VCAL_MEAS] ∧
        t = { s with routine := t.routine, regs := t.regs }) ∧
      (six = false → q.stage = 1 → ¬near → s.mode = .calibrate → Completes c s fun t =>
        s.changesMode t .setup 17 ∧ t.routine = none ∧ t.get Reg.CAL_STAT_RESULT = 3 ∧
        t.rd Reg.CAL_VCAL_MEAS = BitVec.ofInt 32 meas ∧
        s.keepsFlds t ([whole Reg.CAL_VCAL_MEAS, Reg.CAL_STAT_RESULT] ++ modeFlds))) ∧
    (q.stage = 6 → q.six = false → q.opening = false → s.mode = .calibrate → (q.results.map Prod.fst).Nodup →
      q.results.length < 65536 → (∀ e ∈ q.results, (e.1 < 10 ∨ e.1 ∈ s.allCals) ∧ e.2.1 < 16) →
      Completes .calibrationEnd s fun t =>
        let bad := (q.results.filter fun e => decide (e.2.1 ≠ 1)).length
        s.changesMode t .setup 17 ∧ t.routine = none ∧ t.calVref = s.get Reg.CAL_VREF_VREF ∧
        t.get Reg.CAL_STAT_RESULT = (if bad = 0 then 1 else 2) ∧ t.get Reg.CAL_STAT_FAILED = bad ∧
        ((∃ e ∈ q.results, e.2.1 = 1) → t.get Reg.CAL_STORE_UNSAVED = 1) ∧
        (∀ e ∈ q.results, e.1 = 0 →
          t.get Reg.CAL_RESULTS_MON_PASS = (if e.2.1 = 1 then 1 else 0) ∧
          t.get Reg.CAL_RESULTS_MON_STALE = (if e.2.1 = 1 then 0 else 1)) ∧
        (∀ e ∈ q.results, e.1 ∈ s.allCals →
          t.get (staleBit e.1) = (if e.2.1 = 1 then 0 else 1) ∧ t.get (resultField e.1) = e.2.1) ∧
        t = { s with
          mode := t.mode, regs := t.regs, routine := none, calVref := t.calVref, thm := t.thm, flat := t.flat, snss := t.snss,
          tones := t.tones, feeds := t.feeds, posted := t.posted, holding := t.holding })

/-- A demand starts a sweep in the next tick, or another one after that in progress; the MP's schedule and the backstop demand
sweeps too and are counted (R478, Tables 14-11 and 14-14). A sweep that ends stores every temperature, sets the level from the
hottest sensor and FLOOR (R479), and shuts the part down if a sensor meets the shutdown test (R480, R42). Level 7 takes the part
to HOLD by row 13, and falling below it lets it go by row 14. After a trip the log takes its record (R482) and DMA stops (R481). -/
def Obligations.TemperaturesThrottleAndTrip : Prop :=
  (∀ s : State,
    let demanded (t : State) (th : Thermal) : Prop :=
      (s.thm.running = none → t.thm = { th with running := some (s.now + 1), startAt := s.now + 1 } ∧
        t.get Reg.THM_STAT_RUNNING = 1) ∧
      (s.thm.running ≠ none → t.thm = { th with again := true })
    let slips (t : State) (late : Bool) : Prop := t.get Reg.BRD_MP_SLIP_SWEEPS =
      if late then min (s.get Reg.BRD_MP_SLIP_SWEEPS + 1) 65535 else s.get Reg.BRD_MP_SLIP_SWEEPS
    let only (t : State) (fs : List Fld) : Prop := s.keepsFlds t fs ∧ t = { s with regs := t.regs, thm := t.thm }
    let period := s.get Reg.THM_SCHED_PERIOD
    (s.boardOpen → ∀ rid, Completes (.sweepDemand rid) s fun t => demanded t s.thm ∧ only t [Reg.THM_STAT_RUNNING]) ∧
    (s.server = 2 → period ≠ 0 → s.thm.schedAt + period * 2500000 ≤ s.now → Completes .scheduledSweep s fun t =>
      demanded t { s.thm with schedAt := s.now } ∧ slips t (decide (s.thm.schedAt + (period + 1) * 2500000 < s.now)) ∧
      only t [Reg.THM_STAT_RUNNING, Reg.BRD_MP_SLIP_SWEEPS]) ∧
    (s.powerGoodAt ≠ none → s.thm.running = none → s.thm.startAt + 125000000 ≤ s.now → Completes .sweepBackstop s fun t =>
      demanded t (if s.sweepDue then { s.thm with schedAt := s.now } else s.thm) ∧ slips t s.sweepDue ∧
      t.get Reg.THM_CNT_BACKSTOP = min (s.get Reg.THM_CNT_BACKSTOP + 1) 65535 ∧
      only t [Reg.THM_STAT_RUNNING, Reg.BRD_MP_SLIP_SWEEPS, Reg.THM_CNT_BACKSTOP]) ∧
    (∀ t0 temps, s.thm.running = some t0 → t0 + 192000 ≤ s.now →
      let u := (List.range 24).foldl (storeTemp temps) s
      (∀ c, c < 24 → (∀ v, s.converted temps c = some v → u.get (Reg.THM_TEMPn_VALID c) = 1 ∧
          u.get (Reg.THM_TEMPn_TEMP c) = unsigned 16 v) ∧
        (s.converted temps c = none → u.get (Reg.THM_TEMPn_VALID c) = 0 ∧
          u.get (Reg.THM_TEMPn_TEMP c) = s.get (Reg.THM_TEMPn_TEMP c))) ∧
      ((∀ c, c < 24 → u.trips c = false) → Completes (.sweepEnd temps) s fun t =>
        t.mode = s.mode ∧ t.get Reg.THM_CNT_SWEEPS = (s.get Reg.THM_CNT_SWEEPS + 1) % 65536 ∧
        t.get64 Reg.THM_SWEEP_LO = s.epoch.toNat ∧
        (∀ c, c < 24 → t.rd (Reg.THM_TEMPn c) = u.rd (Reg.THM_TEMPn c)) ∧
        t.thm.running = (if s.thm.again then some (s.now + 1) else none) ∧
        t.get Reg.THM_STAT_RUNNING = (if s.thm.again then 1 else 0) ∧
        (∀ c v, u.hottest = some (c, v) → t.get Reg.THM_STAT_HOTTEST = c ∧ t.get Reg.THM_STAT_LEVEL_T = u.levelFor v ∧
          t.get Reg.THM_STAT_LEVEL = max (u.levelFor v) (s.get Reg.THM_FLOOR_FLOOR) ∧
          (t.get Reg.THM_STAT_LEVEL ≠ s.get Reg.THM_STAT_LEVEL → t.get (evtFld evtThrottle) = 1)) ∧
        t = { s with
          regs := t.regs, thm := t.thm, routine := t.routine, peffWas := t.peffWas, posted := t.posted, holding := t.holding }) ∧
      ((∃ c, c < 24 ∧ u.trips c = true) → Completes (.sweepEnd temps) s fun t =>
        t.mode = .tripped ∧ (s.mode ≠ .tripped → t.trippedAt = some s.now ∧ t.tripOwed = true))) ∧
    (s.levelMoved = true →
      (s.get Reg.THM_STAT_LEVEL = 7 →
        (s.mode = .armed ∨ s.mode = .run → Completes .throttleReaches7 s fun t =>
          s.changesMode t .hold 13 ∧ t.get Reg.BRD_MODE_HOLD_THROTTLE = 1 ∧ t.thm = { s.thm with changed := none } ∧
          s.keepsFlds t modeFlds ∧
          t = { s with mode := t.mode, regs := t.regs, thm := t.thm, posted := t.posted, holding := t.holding }) ∧
        (s.mode = .hold → Completes .throttleReaches7 s fun t =>
          t.get Reg.BRD_MODE_HOLD_THROTTLE = 1 ∧ t.thm = { s.thm with changed := none } ∧ only t [Reg.BRD_MODE_HOLD_THROTTLE]) ∧
        (s.mode ≠ .armed → s.mode ≠ .run → s.mode ≠ .hold → Completes .throttleReaches7 s fun t =>
          t = { s with thm := { s.thm with changed := none } })) ∧
      (s.get Reg.THM_STAT_LEVEL ≠ 7 →
        (s.mode = .hold → s.get Reg.BRD_MODE_HOLD_HOST = 0 → s.get Reg.BRD_MODE_HOLD_SUPPLY = 0 →
          Completes .throttleFallsBelow7 s fun t =>
            s.changesMode t (if s.anyRunning then .run else .armed) 14 ∧ t.get Reg.BRD_MODE_HOLD_THROTTLE = 0 ∧
            t.thm = { s.thm with changed := none } ∧ s.keepsFlds t modeFlds ∧
            t = { s with mode := t.mode, regs := t.regs, thm := t.thm, posted := t.posted, holding := t.holding }) ∧
        (s.mode ≠ .hold ∨ s.get Reg.BRD_MODE_HOLD_HOST = 1 ∨ s.get Reg.BRD_MODE_HOLD_SUPPLY = 1 →
          Completes .throttleFallsBelow7 s fun t =>
            t.get Reg.BRD_MODE_HOLD_THROTTLE = 0 ∧ t.thm = { s.thm with changed := none } ∧
            only t [Reg.BRD_MODE_HOLD_THROTTLE]))) ∧
    (s.boardOpen → ∀ rid v, Completes (.floorWrite rid v) s fun t =>
      let new := max (s.get Reg.THM_STAT_LEVEL_T) (wordBits v 2 0)
      let old := s.get Reg.THM_STAT_LEVEL
      t.get Reg.THM_FLOOR_FLOOR = wordBits v 2 0 ∧ t.get Reg.THM_STAT_LEVEL = new ∧
      (new ≠ old → t.get (evtFld evtThrottle) = 1) ∧
      t.thm = { s.thm with changed := if (old = 7) ≠ (new = 7) then some s.now else s.thm.changed } ∧
      s.keepsFlds t ([whole Reg.THM_FLOOR, Reg.THM_STAT_LEVEL] ++ evtFlds evtThrottle) ∧
      t = { s with regs := t.regs, thm := t.thm, peffWas := t.peffWas, posted := t.posted, holding := t.holding }) ∧
    (s.tripOwed = true → Completes .tripLogAppend s fun t => t = { s with
      tripLog := (if 4096 ≤ s.tripLog.length then s.tripLog.drop 1024 else s.tripLog) ++ [s.tripWords], tripOwed := false }) ∧
    ∀ z, s.trippedAt = some z → s.dmaStopped = false → s.entriesWritten = true ∨ z + 125000 ≤ s.now →
      Completes .dmaStop s fun t => t = { s with dmaStopped := true })
end

