-- ==== Sys2Proof/Laws/Table.lean ====
section
/-!
SUPPORT. The laws of tables: a read after a write at the same key gives the value written, a write leaves every other
key alone, and every write keeps the canonical form.
-/
namespace Sys2Proof.Machine

variable {α : Type} [DecidableEq α] {dflt : Nat → α}

omit [DecidableEq α] in
theorem Table.get_dropWhile_le (t : Table α) (k j : Nat) (h : k < j) :
    Table.get dflt (t.dropWhile (fun e => decide (e.1 ≤ k))) j = Table.get dflt t j := by
  induction t with
  | nil => rfl
  | cons e t ih =>
    obtain ⟨i, w⟩ := e
    by_cases hi : i ≤ k
    · have h1 : ¬ j < i := by omega
      have h2 : j ≠ i := by omega
      simpa [List.dropWhile, hi, Table.get, h1, h2] using ih
    · simp [List.dropWhile, hi]

omit [DecidableEq α] in
theorem Table.get_dropWhile_self (t : Table α) (k : Nat) :
    Table.get dflt (t.dropWhile (fun e => decide (e.1 ≤ k))) k = dflt k := by
  induction t with
  | nil => rfl
  | cons e t ih =>
    obtain ⟨i, w⟩ := e
    by_cases hi : i ≤ k
    · simpa [List.dropWhile, hi] using ih
    · have h1 : k < i := by omega
      simp [List.dropWhile, hi, Table.get, h1]

/-- A read after a write at the same key gives the value written. -/
@[simp] theorem Table.get_set_same (t : Table α) (k : Nat) (v : α) :
    Table.get dflt (Table.set dflt t k v) k = v := by
  induction t with
  | nil =>
    simp only [Table.set]; split
    · simp_all [Table.get]
    · simp [Table.get]
  | cons e t ih =>
    obtain ⟨i, w⟩ := e
    simp only [Table.set]
    split
    · split
      · rename_i h hv; simp [Table.get, h, hv]
      · simp [Table.get]
    · split
      · split
        · rename_i h1 h2 hv; rw [Table.get_dropWhile_self, hv]
        · simp [Table.get]
      · rename_i h1 h2
        simpa [Table.get, h1, h2] using ih

/-- A write leaves every other key alone. -/
theorem Table.get_set_ne (t : Table α) {k j : Nat} (v : α) (h : j ≠ k) :
    Table.get dflt (Table.set dflt t k v) j = Table.get dflt t j := by
  induction t with
  | nil =>
    simp only [Table.set]; split
    · rfl
    · simp only [Table.get, h, if_false, ite_self]
  | cons e t ih =>
    obtain ⟨i, w⟩ := e
    simp only [Table.set]
    split
    · rename_i hk
      split
      · rfl
      · by_cases hj : j < k
        · have : j < i := by omega
          simp [Table.get, hj, this]
        · simp [Table.get, hj, h]
    · split
      · rename_i h1 h2
        subst h2
        by_cases hj : j < k
        · split
          · have : Table.get dflt (t.dropWhile (fun e => decide (e.1 ≤ k))) j = dflt j := by
              clear ih
              induction t with
              | nil => rfl
              | cons e t ih2 =>
                obtain ⟨i, w⟩ := e
                by_cases hi : i ≤ k
                · simpa [List.dropWhile, hi] using ih2
                · have : j < i := by omega
                  simp [List.dropWhile, hi, Table.get, this]
            simp [Table.get, hj, this]
          · simp [Table.get, hj]
        · have hkj : k < j := by omega
          split
          · rw [Table.get_dropWhile_le _ _ _ hkj]; simp [Table.get, hj, h]
          · simp [Table.get, hj, h]
      · simp only [Table.get]; rw [ih]

theorem Table.wfAbove_mono (t : Table α) (a b : Nat) (h : a ≤ b) (hw : Table.wfAbove dflt (some b) t = true) :
    Table.wfAbove dflt (some a) t = true := by
  cases t with
  | nil => rfl
  | cons e t =>
    obtain ⟨i, w⟩ := e
    simp only [Table.wfAbove, Bool.and_eq_true, decide_eq_true_eq] at hw ⊢
    exact ⟨⟨by omega, hw.1.2⟩, hw.2⟩

theorem Table.dropWhile_of_wfAbove (t : Table α) (k : Nat) (hw : Table.wfAbove dflt (some k) t = true) :
    t.dropWhile (fun e => decide (e.1 ≤ k)) = t := by
  cases t with
  | nil => rfl
  | cons e t =>
    obtain ⟨i, w⟩ := e
    simp only [Table.wfAbove, Bool.and_eq_true, decide_eq_true_eq] at hw
    have : ¬ i ≤ k := by omega
    simp [List.dropWhile, this]

theorem Table.wfAbove_set (t : Table α) (b k : Nat) (v : α) (h : b < k)
    (hw : Table.wfAbove dflt (some b) t = true) :
    Table.wfAbove dflt (some b) (Table.set dflt t k v) = true := by
  induction t generalizing b with
  | nil =>
    simp only [Table.set]; split
    · rfl
    · rename_i hv; simp [Table.wfAbove, h, hv]
  | cons e t ih =>
    obtain ⟨i, w⟩ := e
    simp only [Table.wfAbove, Bool.and_eq_true, decide_eq_true_eq] at hw
    obtain ⟨⟨hb, hwne⟩, hrest⟩ := hw
    simp only [Table.set]
    split
    · rename_i hk
      split
      · simp [Table.wfAbove, hb, hwne, hrest]
      · rename_i hv
        simp [Table.wfAbove, h, hv, hk, hwne, hrest]
    · split
      · rename_i h1 h2
        subst h2
        split
        · rw [Table.dropWhile_of_wfAbove _ _ hrest]
          exact Table.wfAbove_mono _ _ _ (by omega) hrest
        · rename_i hv; simp [Table.wfAbove, h, hv, hrest]
      · rename_i h1 h2
        simp only [Table.wfAbove, Bool.and_eq_true, decide_eq_true_eq]
        exact ⟨⟨hb, hwne⟩, ih i (by omega) hrest⟩

/-- A write keeps the canonical form. -/
theorem Table.wf_set (t : Table α) (k : Nat) (v : α) (hw : Table.wf dflt t = true) :
    Table.wf dflt (Table.set dflt t k v) = true := by
  cases t with
  | nil =>
    simp only [Table.set]; split
    · rfl
    · rename_i hv; simp [Table.wf, Table.wfAbove, hv]
  | cons e t =>
    obtain ⟨i, w⟩ := e
    simp only [Table.wf, Table.wfAbove, Bool.and_eq_true, decide_eq_true_eq] at hw
    obtain ⟨hwne, hrest⟩ := hw
    simp only [Table.set]
    split
    · rename_i hk
      split
      · simp [Table.wf, Table.wfAbove, hwne, hrest]
      · rename_i hv; simp [Table.wf, Table.wfAbove, hv, hk, hwne, hrest]
    · split
      · rename_i h1 h2
        subst h2
        split
        · rw [Table.dropWhile_of_wfAbove _ _ hrest]
          cases t with
          | nil => rfl
          | cons e t =>
            obtain ⟨j, u⟩ := e
            simp only [Table.wfAbove, Bool.and_eq_true, decide_eq_true_eq] at hrest
            simp [Table.wf, Table.wfAbove, hrest.1.2, hrest.2]
        · rename_i hv; simp [Table.wf, Table.wfAbove, hv, hrest]
      · rename_i h1 h2
        simp only [Table.wf, Table.wfAbove, Bool.and_eq_true, decide_eq_true_eq]
        exact ⟨hwne, Table.wfAbove_set t i k v (by omega) hrest⟩

theorem Table.wf_update (t : Table α) (k : Nat) (f : α → α) (hw : Table.wf dflt t = true) :
    Table.wf dflt (Table.update dflt t k f) = true := Table.wf_set t k _ hw

theorem Table.wf_updateAll (ks : List Nat) (f : Nat → α → α) (t : Table α) (hw : Table.wf dflt t = true) :
    Table.wf dflt (Table.updateAll dflt t ks f) = true := by
  induction ks generalizing t with
  | nil => exact hw
  | cons k ks ih => exact ih _ (Table.wf_update t k _ hw)

theorem Table.wf_nil : Table.wf dflt ([] : Table α) = true := rfl

end Sys2Proof.Machine
end

