-- ==== Sys2Proof/Laws/Registers.lean ====
section
/-!
SUPPORT. Reads after writes of registers and of their fields, and what the event and access-error operations leave alone.
-/
namespace Sys2Proof.Machine

/-! ### Words -/

theorem State.rd_wr_same (s : State) (a : Nat) (v : Word) : (s.wr a v).rd a = v := Table.get_set_same ..

theorem State.rd_wr_ne (s : State) {a b : Nat} (v : Word) (h : b ≠ a) : (s.wr a v).rd b = s.rd b :=
  Table.get_set_ne _ _ h

@[simp] theorem State.rd_wr (s : State) (a b : Nat) (v : Word) : (s.wr a v).rd b = if b = a then v else s.rd b := by
  split
  · subst b; exact s.rd_wr_same a v
  · exact s.rd_wr_ne v ‹_›

/-! ### Bits of fields -/

theorem testBit_wordBits (w : Word) (hi lo i : Nat) :
    (wordBits w hi lo).testBit i = (decide (i < hi + 1 - lo) && w.getLsbD (lo + i)) := by
  simp only [wordBits, Nat.testBit_mod_two_pow, Nat.testBit_div_two_pow, BitVec.getLsbD]
  rw [Nat.add_comm i lo]

theorem wordSet_lt (w : Word) (hi lo v : Nat) (h : lo ≤ hi) (h' : hi < 32) :
    w.toNat / 2 ^ (hi + 1) * 2 ^ (hi + 1) + v % 2 ^ (hi + 1 - lo) * 2 ^ lo + w.toNat % 2 ^ lo < 2 ^ 32 := by
  have h0 := w.isLt
  have h1 : v % 2 ^ (hi + 1 - lo) * 2 ^ lo + w.toNat % 2 ^ lo < 2 ^ (hi + 1) := by
    have e : 2 ^ (hi + 1) = 2 ^ (hi + 1 - lo) * 2 ^ lo := by rw [← Nat.pow_add]; congr 1; omega
    have a := Nat.mod_lt v (Nat.two_pow_pos (hi + 1 - lo))
    have b := Nat.mod_lt w.toNat (Nat.two_pow_pos lo)
    rw [e]
    calc _ < v % 2 ^ (hi + 1 - lo) * 2 ^ lo + 2 ^ lo := by omega
      _ = (v % 2 ^ (hi + 1 - lo) + 1) * 2 ^ lo := by rw [Nat.add_mul, Nat.one_mul]
      _ ≤ _ := Nat.mul_le_mul_right _ a
  have h2 : w.toNat / 2 ^ (hi + 1) < 2 ^ (31 - hi) := by
    rw [Nat.div_lt_iff_lt_mul (Nat.two_pow_pos _), ← Nat.pow_add]
    have : 31 - hi + (hi + 1) = 32 := by omega
    rw [this]; exact h0
  have e2 : 2 ^ 32 = 2 ^ (31 - hi) * 2 ^ (hi + 1) := by rw [← Nat.pow_add]; congr 1; omega
  rw [e2, Nat.add_assoc]
  calc _ < w.toNat / 2 ^ (hi + 1) * 2 ^ (hi + 1) + 2 ^ (hi + 1) := by omega
    _ = (w.toNat / 2 ^ (hi + 1) + 1) * 2 ^ (hi + 1) := by rw [Nat.add_mul, Nat.one_mul]
    _ ≤ _ := Nat.mul_le_mul_right _ h2

theorem getLsbD_wordSet (w : Word) (hi lo v i : Nat) (h : lo ≤ hi) (h' : hi < 32) :
    (wordSet w hi lo v).getLsbD i = if lo ≤ i ∧ i ≤ hi then v.testBit (i - lo) else w.getLsbD i := by
  have hlt := wordSet_lt w hi lo v h h'
  have e : 2 ^ (hi + 1) = 2 ^ lo * 2 ^ (hi + 1 - lo) := by rw [← Nat.pow_add]; congr 1; omega
  have key : w.toNat / 2 ^ (hi + 1) * 2 ^ (hi + 1) + v % 2 ^ (hi + 1 - lo) * 2 ^ lo + w.toNat % 2 ^ lo =
      2 ^ (hi + 1) * (w.toNat / 2 ^ (hi + 1)) + (2 ^ lo * (v % 2 ^ (hi + 1 - lo)) + w.toNat % 2 ^ lo) := by
    rw [Nat.mul_comm (2 ^ (hi + 1)), Nat.mul_comm (2 ^ lo)]; omega
  have b := Nat.mod_lt w.toNat (Nat.two_pow_pos lo)
  have c : 2 ^ lo * (v % 2 ^ (hi + 1 - lo)) + w.toNat % 2 ^ lo < 2 ^ (hi + 1) := by
    have a := Nat.mod_lt v (Nat.two_pow_pos (hi + 1 - lo))
    rw [e]
    calc _ < 2 ^ lo * (v % 2 ^ (hi + 1 - lo)) + 2 ^ lo := by omega
      _ = 2 ^ lo * (v % 2 ^ (hi + 1 - lo) + 1) := by rw [Nat.mul_add, Nat.mul_one]
      _ ≤ _ := Nat.mul_le_mul_left _ a
  rw [wordSet, BitVec.getLsbD, BitVec.toNat_ofNat, Nat.mod_eq_of_lt hlt, key, Nat.testBit_two_pow_mul_add _ c,
    Nat.testBit_two_pow_mul_add _ b]
  simp only [Nat.testBit_mod_two_pow, Nat.testBit_div_two_pow, BitVec.getLsbD]
  by_cases h1 : i < lo
  · rw [if_pos (by omega), if_pos h1, if_neg (by omega)]; simp [h1]
  · by_cases h2 : i < hi + 1
    · rw [if_pos h2, if_neg h1, if_pos (by omega)]; simp; omega
    · rw [if_neg h2, if_neg (by omega)]; congr 1; omega

theorem wordBits_wordSet_same (w : Word) (hi lo v : Nat) (h : lo ≤ hi) (h' : hi < 32) :
    wordBits (wordSet w hi lo v) hi lo = v % 2 ^ (hi + 1 - lo) := by
  apply Nat.eq_of_testBit_eq
  intro i
  rw [testBit_wordBits, getLsbD_wordSet _ _ _ _ _ h h', Nat.testBit_mod_two_pow]
  by_cases hi' : i < hi + 1 - lo
  · rw [if_pos (by omega)]; simp [hi']
  · simp [hi']

theorem wordBits_wordSet_apart (w : Word) (hi lo v hi2 lo2 : Nat) (h : lo ≤ hi) (h' : hi < 32)
    (d : hi2 < lo ∨ hi < lo2) : wordBits (wordSet w hi lo v) hi2 lo2 = wordBits w hi2 lo2 := by
  apply Nat.eq_of_testBit_eq
  intro i
  rw [testBit_wordBits, testBit_wordBits, getLsbD_wordSet _ _ _ _ _ h h']
  by_cases hi' : i < hi2 + 1 - lo2
  · rw [if_neg (by omega)]
  · simp [hi']

/-! ### Fields -/

@[simp] theorem State.rd_put (s : State) (f : Fld) (v b : Nat) :
    (s.put f v).rd b = if b = f.addr then wordSet (s.rd f.addr) f.hi f.lo v else s.rd b := State.rd_wr ..

theorem State.get_put_same (s : State) (f : Fld) (v : Nat) (h : f.lo ≤ f.hi) (h' : f.hi < 32) :
    (s.put f v).get f = v % 2 ^ (f.hi + 1 - f.lo) := by
  rw [State.get, State.rd_put, if_pos rfl, wordBits_wordSet_same _ _ _ _ h h']

theorem State.get_put_apart (s : State) (f g : Fld) (v : Nat) (h : f.lo ≤ f.hi) (h' : f.hi < 32) (d : f.apart g) :
    (s.put f v).get g = s.get g := by
  rw [State.get, State.get, State.rd_put]
  by_cases e : g.addr = f.addr
  · rw [if_pos e, wordBits_wordSet_apart _ _ _ _ _ _ h h' (by simp only [Fld.apart] at d; omega), e]
  · rw [if_neg e]

theorem State.get_wr_ne (s : State) (f : Fld) (a : Nat) (v : Word) (h : f.addr ≠ a) : (s.wr a v).get f = s.get f := by
  rw [State.get, State.get, State.rd_wr_ne _ _ h]

/-- A field that lies within a register. -/
def Fld.fits (f : Fld) : Prop := f.lo ≤ f.hi ∧ f.hi < 32

/-! ### Counters -/

theorem State.get_lt (s : State) (f : Fld) : s.get f < 2 ^ (f.hi + 1 - f.lo) := Nat.mod_lt _ (Nat.two_pow_pos _)

theorem State.get_put_val (s : State) (f : Fld) (v : Nat) (h : f.fits) (k : v < 2 ^ (f.hi + 1 - f.lo)) :
    (s.put f v).get f = v := by
  rw [State.get_put_same _ _ _ h.1 h.2, Nat.mod_eq_of_lt k]

/-- A saturating counter. -/
theorem State.get_bump_same (s : State) (f : Fld) (h : f.fits) :
    (s.bump f).get f = min (s.get f + 1) (2 ^ f.width - 1) := by
  have := s.get_lt f
  have e : f.hi + 1 - f.lo = f.width := rfl
  rw [e] at this
  unfold State.bump
  split
  · rw [State.get_put_val _ _ _ h ‹_›]; omega
  · omega

theorem State.get_bump_apart (s : State) (f g : Fld) (h : f.fits) (d : f.apart g) : (s.bump f).get g = s.get g := by
  unfold State.bump
  split
  · exact State.get_put_apart _ _ _ _ h.1 h.2 d
  · rfl

theorem State.get_bumpWrap_same (s : State) (f : Fld) (h : f.fits) :
    (s.bumpWrap f).get f = (s.get f + 1) % 2 ^ f.width := by
  unfold State.bumpWrap
  exact State.get_put_val _ _ _ h (Nat.mod_lt _ (Nat.two_pow_pos _))

theorem State.get_bumpWrap_apart (s : State) (f g : Fld) (h : f.fits) (d : f.apart g) : (s.bumpWrap f).get g = s.get g :=
  State.get_put_apart _ _ _ _ h.1 h.2 d

theorem State.rd_put_ne (s : State) (f : Fld) (v a : Nat) (h : a ≠ f.addr) : (s.put f v).rd a = s.rd a := by
  rw [State.rd_put, if_neg h]

theorem State.rd_bump_ne (s : State) (f : Fld) (a : Nat) (h : a ≠ f.addr) : (s.bump f).rd a = s.rd a := by
  unfold State.bump
  split
  · exact s.rd_put_ne _ _ _ h
  · rfl

/-! ### 64-bit pairs -/

theorem State.get64_put64 (s : State) (lo v : Nat) (h : v < 2 ^ 64) : (s.put64 lo v).get64 lo = v := by
  unfold State.put64 State.get64
  rw [State.rd_wr_same, State.rd_wr_ne _ _ (by omega), State.rd_wr_same, BitVec.toNat_ofNat, BitVec.toNat_ofNat]
  omega

theorem State.get_put64_apart (s : State) (lo v : Nat) (f : Fld) (h : f.addr ≠ lo) (k : f.addr ≠ lo + 4) :
    (s.put64 lo v).get f = s.get f := by
  rw [State.put64, State.get_wr_ne _ _ _ _ k, State.get_wr_ne _ _ _ _ h]

theorem State.rd_put64_ne (s : State) (lo v a : Nat) (h : a ≠ lo) (k : a ≠ lo + 4) : (s.put64 lo v).rd a = s.rd a := by
  rw [State.put64, State.rd_wr_ne _ _ k, State.rd_wr_ne _ _ h]

theorem State.get64_lt (s : State) (lo : Nat) : s.get64 lo < 2 ^ 64 := by
  have h1 := (s.rd lo).isLt
  have h2 := (s.rd (lo + 4)).isLt
  unfold State.get64; omega

/-! ### What changes no other field -/

theorem State.keepsFlds_refl (s : State) (l : List Fld) : s.keepsFlds s l := fun _ _ => rfl

theorem State.keepsFlds_trans {s t u : State} {l : List Fld} (h : s.keepsFlds t l) (k : t.keepsFlds u l) : s.keepsFlds u l :=
  fun f a => (k f a).trans (h f a)

theorem State.keepsFlds_mono {s t : State} {l m : List Fld} (h : s.keepsFlds t l) (k : l ⊆ m) : s.keepsFlds t m :=
  fun f a => h f fun g b => a g (k b)

theorem State.keepsFlds_regs {s t u : State} {l : List Fld} (h : s.keepsFlds t l) (e : u.regs = t.regs) (p : u.part = t.part) :
    s.keepsFlds u l := fun f a => by
  rw [← h f a, State.get, State.get, State.rd, State.rd, e, p]

theorem State.keepsFlds_put {s t : State} {l : List Fld} (h : s.keepsFlds t l) (g : Fld) (v : Nat) (m : g ∈ l) (w : g.fits) :
    s.keepsFlds (t.put g v) l := fun f a => by
  rw [State.get_put_apart _ _ _ _ w.1 w.2 (a g m), h f a]

theorem State.keepsFlds_wr {s t : State} {l : List Fld} (h : s.keepsFlds t l) (b : Nat) (v : Word) (m : whole b ∈ l) :
    s.keepsFlds (t.wr b v) l := fun f a => by
  rw [← h f a, State.get, State.get, State.rd_wr]
  have d := a _ m
  split
  · rename_i e
    simp only [Fld.apart, whole] at d
    have z : f.hi < 0 ∨ 31 < f.lo := by omega
    apply Nat.eq_of_testBit_eq
    intro i
    rw [testBit_wordBits, testBit_wordBits, BitVec.getLsbD_of_ge, BitVec.getLsbD_of_ge] <;> omega
  · rfl

/-! ### Clearing -/

theorem State.clears_refl (s : State) : s.clears s [] :=
  ⟨by simp, s.keepsFlds_refl _, rfl⟩

theorem State.get_put_zero (s : State) (f g : Fld) (w : g.fits) (h : s.get f = 0) : (s.put g 0).get f = 0 := by
  apply Nat.eq_of_testBit_eq
  intro i
  have hi : (s.get f).testBit i = false := by rw [h]; simp
  rw [State.get, testBit_wordBits] at hi
  rw [State.get, testBit_wordBits, State.rd_put]
  by_cases e : f.addr = g.addr
  · rw [if_pos e, getLsbD_wordSet _ _ _ _ _ w.1 w.2, ← e]
    split
    · simp
    · simpa using hi
  · rw [if_neg e]; simpa using hi

theorem State.get_wr_zero (s : State) (f : Fld) (a : Nat) (h : s.get f = 0) : (s.wr a 0).get f = 0 := by
  rw [State.get, State.rd_wr]
  split
  · simp [wordBits]
  · exact h

theorem State.clears_put {s t : State} {l : List Fld} (h : s.clears t l) (g : Fld) (w : g.fits) :
    s.clears (t.put g 0) (l ++ [g]) := by
  refine ⟨fun f m => ?_, State.keepsFlds_put (State.keepsFlds_mono h.2.1 (by simp)) _ _ (by simp) w, ?_⟩
  · rcases List.mem_append.1 m with m | m
    · exact State.get_put_zero _ _ _ w (h.1 f m)
    · simp only [List.mem_singleton] at m; subst m
      rw [State.get_put_same _ _ _ w.1 w.2]; simp
  · rw [h.2.2]; rfl

theorem State.clears_wr {s t : State} {l : List Fld} (h : s.clears t l) (a : Nat) :
    s.clears (t.wr a 0) (l ++ [whole a]) := by
  refine ⟨fun f m => ?_, State.keepsFlds_wr (State.keepsFlds_mono h.2.1 (by simp)) _ _ (by simp), ?_⟩
  · rcases List.mem_append.1 m with m | m
    · exact State.get_wr_zero _ _ _ (h.1 f m)
    · simp only [List.mem_singleton] at m; subst m
      simp [State.get, whole, wordBits]
  · rw [h.2.2]; rfl

theorem State.clears_foldl {s t : State} {l : List Fld} (n : Nat) (f : State → Nat → State) (c : Nat → List Fld)
    (hf : ∀ t l k, k < n → s.clears t l → s.clears (f t k) (l ++ c k)) (h : s.clears t l) :
    s.clears ((List.range n).foldl f t) (l ++ (List.range n).flatMap c) := by
  induction n with
  | zero => simpa using h
  | succ n ih =>
    rw [List.range_succ, List.foldl_append, List.flatMap_append, ← List.append_assoc]
    simpa using hf _ _ n (by omega) (ih fun t l k m => hf t l k (by omega))

/-- A fold that starts at the state itself. -/
theorem State.clears_range {s : State} (n : Nat) (f : State → Nat → State) (c : Nat → List Fld)
    (hf : ∀ t l k, k < n → s.clears t l → s.clears (f t k) (l ++ c k)) :
    s.clears ((List.range n).foldl f s) ((List.range n).flatMap c) := by
  simpa using State.clears_foldl n f c hf s.clears_refl

/-- One more field after a block. -/
theorem State.clears_app {s t : State} {l a b : List Fld} (h : s.clears t (l ++ a ++ b)) : s.clears t (l ++ (a ++ b)) := by
  rwa [List.append_assoc] at h

end Sys2Proof.Machine
end

