-- ==== Sys2Proof/Laws/Events.lean ====
section
/-!
SUPPORT. All that sending a message, raising a vector, raising an event and recording an access error can do.
-/
namespace Sys2Proof.Machine

theorem State.onlyHost_refl (s : State) : s.onlyHost s := rfl

theorem State.onlyHost_trans {s t u : State} (h : s.onlyHost t) (k : t.onlyHost u) : s.onlyHost u := by
  rw [State.onlyHost] at *; rw [k, h]

theorem State.onlyHost_put (s : State) (f : Fld) (v : Nat) : s.onlyHost (s.put f v) := rfl
theorem State.onlyHost_wr (s : State) (a : Nat) (v : Word) : s.onlyHost (s.wr a v) := rfl

theorem State.send_onlyHost (s : State) (p : Posted) (final : Bool) (due : Nat) : s.onlyHost (s.send p final due) := by
  unfold State.send
  split
  · exact s.onlyHost_refl
  · split <;> rfl

theorem State.send_regs (s : State) (p : Posted) (final : Bool) (due : Nat) : (s.send p final due).regs = s.regs := by
  unfold State.send
  split
  · rfl
  · split <;> rfl

theorem State.onlyHost_part {s t : State} (h : s.onlyHost t) : t.part = s.part := by rw [h]

theorem State.get_send (s : State) (p : Posted) (final : Bool) (due : Nat) (f : Fld) :
    (s.send p final due).get f = s.get f := by
  rw [State.get, State.get, State.rd, State.rd, s.send_regs, State.onlyHost_part (s.send_onlyHost ..)]

theorem pendingBit_fits (v : Nat) : (pendingBit v).fits := ⟨Nat.le_refl _, by simp only [pendingBit]; omega⟩

theorem State.raiseVector_onlyHost (s : State) (v : Nat) : s.onlyHost (s.raiseVector v) := by
  unfold State.raiseVector
  split
  · rfl
  · exact s.send_onlyHost ..

theorem State.raiseVector_keeps (s : State) (v : Nat) : s.keepsFlds (s.raiseVector v) [pendingBit v] := by
  unfold State.raiseVector
  split
  · exact State.keepsFlds_put (s.keepsFlds_refl _) _ _ (by simp) (pendingBit_fits v)
  · exact fun f _ => s.get_send ..

theorem State.event_onlyHost (s : State) (bit : Nat) : s.onlyHost (s.event bit) := by
  unfold State.event
  dsimp only
  split
  · exact s.onlyHost_refl
  · split
    · exact State.onlyHost_trans (State.onlyHost_put _ _ _) (State.raiseVector_onlyHost _ _)
    · exact State.onlyHost_put _ _ _

theorem evtFld_fits {bit : Nat} (h : bit < 32) : (evtFld bit).fits := ⟨Nat.le_refl _, h⟩

theorem State.event_keeps (s : State) {bit : Nat} (h : bit < 32) : s.keepsFlds (s.event bit) (evtFlds bit) := by
  have a : s.keepsFlds (s.put (evtFld bit) 1) (evtFlds bit) :=
    State.keepsFlds_put (s.keepsFlds_refl _) _ _ (by simp [evtFlds]) (evtFld_fits h)
  unfold State.event
  dsimp only
  split
  · exact s.keepsFlds_refl _
  · split
    · exact State.keepsFlds_trans a (State.keepsFlds_mono (State.raiseVector_keeps _ 0) (by simp [evtFlds]))
    · exact a

/-- A field that an event leaves alone. -/
theorem State.get_event (s : State) {bit : Nat} (h : bit < 32) (f : Fld) (d : (evtFld bit).apart f)
    (e : (pendingBit 0).apart f) : (s.event bit).get f = s.get f :=
  s.event_keeps h f fun g m => by
    rcases List.mem_cons.1 m with rfl | m
    · exact d
    · rw [List.mem_singleton.1 m]; exact e

/-- A word other than BRD_EVT and the first word of the Pending Bits. -/
theorem State.rd_event (s : State) {bit : Nat} (h : bit < 32) (a : Nat) (d : a ≠ Reg.BRD_EVT) (e : a ≠ Reg.PCI_PBAw 0) :
    (s.event bit).rd a = s.rd a := by
  have k := s.get_event h (whole a) (Or.inl (Ne.symm d)) (Or.inl (Ne.symm e))
  simp only [State.get, whole, wordBits] at k
  apply BitVec.eq_of_toNat_eq
  have h1 := ((s.event bit).rd a).isLt
  have h2 := (s.rd a).isLt
  omega

/-- The event bit reads 1 afterwards. -/
theorem State.event_flag (s : State) {bit : Nat} (h : bit < 32) : (s.event bit).get (evtFld bit) = 1 := by
  have b : (s.put (evtFld bit) 1).get (evtFld bit) = 1 := by
    rw [State.get_put_same _ _ _ (evtFld_fits h).1 (evtFld_fits h).2]
    simp [evtFld, show bit + 1 - bit = 1 by omega]
  unfold State.event
  dsimp only
  split
  · rename_i a; simpa [State.flag, evtFld] using a
  · split
    · refine (State.raiseVector_keeps _ 0 _ fun g m => ?_).trans b
      rw [List.mem_singleton.1 m]
      exact Or.inl (by simp [pendingBit, evtFld, Reg.PCI_PBAw, Reg.BRD_EVT])
    · exact b

theorem State.bump_onlyHost (s : State) (f : Fld) : s.onlyHost (s.bump f) := by
  unfold State.bump
  split
  · exact s.onlyHost_put _ _
  · exact s.onlyHost_refl

theorem State.accessError_onlyHost (s : State) (rid cause offset : Nat) : s.onlyHost (s.accessError rid cause offset) := by
  unfold State.accessError
  dsimp only
  refine State.onlyHost_trans ?_ (State.event_onlyHost _ _)
  split
  · exact s.bump_onlyHost _
  · exact State.onlyHost_trans (State.onlyHost_trans (State.onlyHost_trans (State.onlyHost_trans (State.onlyHost_trans
      (s.onlyHost_put _ _) (State.bump_onlyHost _ _)) (State.onlyHost_put _ _ _)) (State.onlyHost_put _ _ _))
      (State.onlyHost_put _ _ _)) (State.onlyHost_wr _ _ _)

theorem State.put_whole_eq (s : State) (f : Fld) (v : Nat) : s.put f v = s.wr f.addr (wordSet (s.rd f.addr) f.hi f.lo v) := rfl

/-- A write of a field of a register that may change as a whole. -/
theorem State.keepsFlds_putw {s t : State} {l : List Fld} (h : s.keepsFlds t l) (g : Fld) (v : Nat) (m : whole g.addr ∈ l) :
    s.keepsFlds (t.put g v) l := State.keepsFlds_wr h _ _ m

theorem State.keepsFlds_bump {s t : State} {l : List Fld} (h : s.keepsFlds t l) (g : Fld) (m : g ∈ l) (w : g.fits) :
    s.keepsFlds (t.bump g) l := by
  unfold State.bump
  split
  · exact State.keepsFlds_put h _ _ m w
  · exact h

theorem State.keepsFlds_bumpw {s t : State} {l : List Fld} (h : s.keepsFlds t l) (g : Fld) (m : whole g.addr ∈ l) :
    s.keepsFlds (t.bump g) l := by
  unfold State.bump
  split
  · exact State.keepsFlds_putw h _ _ m
  · exact h

theorem State.accessError_keeps (s : State) (rid cause offset : Nat) :
    s.keepsFlds (s.accessError rid cause offset) accFlds := by
  have r := s.keepsFlds_refl accFlds
  have m : whole Reg.BRD_ACC_ERR ∈ accFlds := by simp [accFlds]
  unfold State.accessError
  dsimp only
  refine State.keepsFlds_trans ?_ (State.keepsFlds_mono (State.event_keeps _ (by decide)) (by simp [accFlds]))
  split
  · exact State.keepsFlds_bumpw r _ m
  · exact State.keepsFlds_wr (State.keepsFlds_putw (State.keepsFlds_putw (State.keepsFlds_putw (State.keepsFlds_bumpw
      (State.keepsFlds_putw r _ _ m) _ m) _ _ m) _ _ m) _ _ m) _ _ (by simp [accFlds])

end Sys2Proof.Machine
end

