-- ==== Sys2Proof/Laws/KeepOps.lean ====
section
/-!
SUPPORT. What every operation of the model leaves alone: the queue, what is fixed at manufacture, and the model's count of ticks; and
that each keeps the canonical form of the registers and stores.
-/
namespace Sys2Proof.Machine

/-- From a to b: the queue, the manufacture facts and the count of ticks are the same, and the canonical form is kept. -/
structure Ok0 (a b : State) : Prop where
  pending : b.pending = a.pending
  part : b.part = a.part
  ref10M : b.ref10M = a.ref10M
  serial : b.serial = a.serial
  now : b.now = a.now
  canon : a.canonical → b.canonical

/-- The same, and the epoch and the calendar's RAW counter are the same too, and the mode TRIPPED stays. -/
structure Ok (a b : State) : Prop extends Ok0 a b where
  epoch : b.epoch = a.epoch
  calRaw : b.calRaw = a.calRaw
  trip : a.mode = .tripped → b.mode = .tripped

def OkW (a : State) (w : WriteOut) : Prop := Ok a w.st

theorem Ok0.refl (a : State) : Ok0 a a := ⟨rfl, rfl, rfl, rfl, rfl, id⟩
theorem Ok.refl (a : State) : Ok a a := ⟨Ok0.refl a, rfl, rfl, id⟩

theorem Ok0.trans {a b c : State} (h : Ok0 a b) (k : Ok0 b c) : Ok0 a c :=
  ⟨k.pending.trans h.pending, k.part.trans h.part, k.ref10M.trans h.ref10M, k.serial.trans h.serial, k.now.trans h.now,
    fun d => k.canon (h.canon d)⟩

theorem Ok0.stores {a x y : State} (h1 : y.pending = x.pending) (h2 : y.part = x.part) (h3 : y.ref10M = x.ref10M)
    (h4 : y.serial = x.serial) (h5 : y.now = x.now)
    (h6 : Table.wf (regReset x.part) x.regs = true → Table.wf (regReset x.part) y.regs = true)
    (h7 : Table.wf wordDefault x.mem = true → Table.wf wordDefault y.mem = true)
    (h8 : Table.wf microDefault x.micro = true → Table.wf microDefault y.micro = true)
    (h9 : Table.wf nanoDefault x.nano = true → Table.wf nanoDefault y.nano = true)
    (h10 : Table.wf microDefault x.cache = true → Table.wf microDefault y.cache = true) (h : Ok0 a x) : Ok0 a y :=
  ⟨h1.trans h.pending, h2.trans h.part, h3.trans h.ref10M, h4.trans h.serial, h5.trans h.now, fun c =>
    let d := h.canon c
    ⟨by rw [h2]; exact h6 d.regs, h7 d.mem, h8 d.micro, h9 d.nano, h10 d.cache⟩⟩

theorem Ok.stores {a x y : State} (h1 : y.pending = x.pending) (h2 : y.part = x.part) (h3 : y.ref10M = x.ref10M)
    (h4 : y.serial = x.serial) (h5 : y.now = x.now) (e : y.epoch = x.epoch) (r : y.calRaw = x.calRaw) (m : y.mode = x.mode)
    (h6 : Table.wf (regReset x.part) x.regs = true → Table.wf (regReset x.part) y.regs = true)
    (h7 : Table.wf wordDefault x.mem = true → Table.wf wordDefault y.mem = true)
    (h8 : Table.wf microDefault x.micro = true → Table.wf microDefault y.micro = true)
    (h9 : Table.wf nanoDefault x.nano = true → Table.wf nanoDefault y.nano = true)
    (h10 : Table.wf microDefault x.cache = true → Table.wf microDefault y.cache = true) (h : Ok a x) : Ok a y :=
  ⟨Ok0.stores h1 h2 h3 h4 h5 h6 h7 h8 h9 h10 h.toOk0, e.trans h.epoch, r.trans h.calRaw, fun i => m.trans (h.trip i)⟩

theorem Ok.upd {a x y : State} (h1 : y.pending = x.pending) (h2 : y.part = x.part) (h3 : y.ref10M = x.ref10M)
    (h4 : y.serial = x.serial) (h5 : y.now = x.now) (e : y.epoch = x.epoch) (r : y.calRaw = x.calRaw) (m : y.mode = x.mode) (h6 : y.regs = x.regs)
    (h7 : y.mem = x.mem) (h8 : y.micro = x.micro) (h9 : y.nano = x.nano) (h10 : y.cache = x.cache) (h : Ok a x) : Ok a y :=
  Ok.stores h1 h2 h3 h4 h5 e r m (by rw [h6]; exact id) (by rw [h7]; exact id) (by rw [h8]; exact id) (by rw [h9]; exact id)
    (by rw [h10]; exact id) h

theorem Ok.record {a x : State} (v_epochOn : Bool) (v_freeCtr : Nat) (v_lastRead : BitVec 64) (v_readShadow : Table (Option Shadow)) (v_writeShadow : Table (Option Shadow)) (v_rsetSel : Table Nat) (v_transition : Option Mode) (v_powerGoodAt : Option Nat) (v_calAcc : Int) (v_disciplineAt : Nat) (v_angle : Angle) (v_alarmAt : Table Nat) (v_alarmLate : Table Bool) (v_alarmFired : Table (Option Nat)) (v_snapArmed : Bool) (v_relocking : Bool) (v_lossAt : Option (Nat × Nat)) (v_sqs : Table Sq) (v_cqs : Table Cq) (v_nextUid : Nat) (v_busMaster : Bool) (v_perst : Bool) (v_posted : List Posted) (v_holding : List Held) (v_holdHits : List Nat) (v_dmaStopped : Bool) (v_gang : Option Gang) (v_shots : List Shot) (v_works : List Work) (v_wins : List StreamWin) (v_streams : Table Stream) (v_engines : Table Engine) (v_nanoRes : Table Bool) (v_commanded : List (Nat × Nat × Nat)) (v_ports : Table Port) (v_slots : Table Slot) (v_slotWrites : List SlotWrite) (v_frames : List FrameEntry) (v_mrk : Table (List MrkEdge)) (v_mrkMute : Table MrkMute) (v_lines : Table Line) (v_interp : Table Bool) (v_interpPend : List (Nat × Nat × Bool)) (v_flat : Table (BitVec 16)) (v_synth : Table (List SynTick)) (v_ffx : Table Ffx) (v_bia : Table Bia) (v_clrNext : Bool) (v_acqs : List AcqCmd) (v_tones : Table Tone) (v_feeds : Table Feed) (v_rwins : Table RWin) (v_traces : Table TraceUnit) (v_results : List Res) (v_frameStamps : List (Nat × Nat)) (v_rsets : Table RSet) (v_scrubPos : Nat) (v_scrubPass : Nat) (v_corrected : Table (Option Nat)) (v_passCe : Table Nat) (v_txQueue : List TxVerdict) (v_rxHeld : List RxVerdict) (v_routeSends : List RouteSend) (v_losses : List (Nat × Nat)) (v_lanes : Table DLane) (v_lossNotices : List (Nat × Nat)) (v_dldSent : List TxBlock) (v_edgeAcceptedAt : Option Nat) (v_epochOld : Nat) (v_tdcs : Table Tdc) (v_snss : Table Sns) (v_heaters : Table Heater) (v_mon : Monitor) (v_curveShadow : Table (Nat × Nat)) (v_curves : Table (List (Nat × Nat))) (v_mbx : Table Mailbox) (v_server : Nat) (v_training : Option (Nat × Nat)) (v_fwBank : Table FlashBank) (v_fwBody : Table (Option (BitVec 8))) (v_calBank : Table FlashBank) (v_calBody : Table CalBody) (v_curveBank : Table FlashBank) (v_curveBody : Table (Table (List (Nat × Nat)))) (v_tripLog : List (BitVec 512)) (v_tripOwed : Bool) (v_routine : Option Routine) (v_dip : Option Dip) (v_trippedAt : Option Nat) (v_window : Option Nat) (v_thm : Thermal) (v_peffWas : Nat × Nat) (v_calVref : Nat) (v_flatPend : List (Nat × Nat × List (BitVec 16))) (h : Ok a x) :
    Ok a ⟨x.pending, x.part, x.ref10M, x.serial, x.now, x.epoch, v_epochOn, v_freeCtr, x.regs, v_lastRead, v_readShadow, v_writeShadow, v_rsetSel, x.mode, v_transition, v_powerGoodAt, x.calRaw, v_calAcc, v_disciplineAt, v_angle, v_alarmAt, v_alarmLate, v_alarmFired, v_snapArmed, v_relocking, v_lossAt, v_sqs, v_cqs, v_nextUid, v_busMaster, v_perst, v_posted, v_holding, v_holdHits, v_dmaStopped, v_gang, v_shots, v_works, v_wins, v_streams, v_engines, x.micro, x.nano, v_nanoRes, x.cache, v_commanded, v_ports, v_slots, v_slotWrites, v_frames, v_mrk, v_mrkMute, v_lines, v_interp, v_interpPend, v_flat, v_synth, v_ffx, v_bia, v_clrNext, v_acqs, v_tones, v_feeds, v_rwins, v_traces, v_results, v_frameStamps, v_rsets, x.mem, v_scrubPos, v_scrubPass, v_corrected, v_passCe, v_txQueue, v_rxHeld, v_routeSends, v_losses, v_lanes, v_lossNotices, v_dldSent, v_edgeAcceptedAt, v_epochOld, v_tdcs, v_snss, v_heaters, v_mon, v_curveShadow, v_curves, v_mbx, v_server, v_training, v_fwBank, v_fwBody, v_calBank, v_calBody, v_curveBank, v_curveBody, v_tripLog, v_tripOwed, v_routine, v_dip, v_trippedAt, v_window, v_thm, v_peffWas, v_calVref, v_flatPend⟩ :=
  Ok.upd (x := x) rfl rfl rfl rfl rfl rfl rfl rfl rfl rfl rfl rfl rfl h

theorem Ok.record_mem {a x : State} (v_epochOn : Bool) (v_freeCtr : Nat) (v_lastRead : BitVec 64) (v_readShadow : Table (Option Shadow)) (v_writeShadow : Table (Option Shadow)) (v_rsetSel : Table Nat) (v_transition : Option Mode) (v_powerGoodAt : Option Nat) (v_calAcc : Int) (v_disciplineAt : Nat) (v_angle : Angle) (v_alarmAt : Table Nat) (v_alarmLate : Table Bool) (v_alarmFired : Table (Option Nat)) (v_snapArmed : Bool) (v_relocking : Bool) (v_lossAt : Option (Nat × Nat)) (v_sqs : Table Sq) (v_cqs : Table Cq) (v_nextUid : Nat) (v_busMaster : Bool) (v_perst : Bool) (v_posted : List Posted) (v_holding : List Held) (v_holdHits : List Nat) (v_dmaStopped : Bool) (v_gang : Option Gang) (v_shots : List Shot) (v_works : List Work) (v_wins : List StreamWin) (v_streams : Table Stream) (v_engines : Table Engine) (v_nanoRes : Table Bool) (v_commanded : List (Nat × Nat × Nat)) (v_ports : Table Port) (v_slots : Table Slot) (v_slotWrites : List SlotWrite) (v_frames : List FrameEntry) (v_mrk : Table (List MrkEdge)) (v_mrkMute : Table MrkMute) (v_lines : Table Line) (v_interp : Table Bool) (v_interpPend : List (Nat × Nat × Bool)) (v_flat : Table (BitVec 16)) (v_synth : Table (List SynTick)) (v_ffx : Table Ffx) (v_bia : Table Bia) (v_clrNext : Bool) (v_acqs : List AcqCmd) (v_tones : Table Tone) (v_feeds : Table Feed) (v_rwins : Table RWin) (v_traces : Table TraceUnit) (v_results : List Res) (v_frameStamps : List (Nat × Nat)) (v_rsets : Table RSet) (v_scrubPos : Nat) (v_scrubPass : Nat) (v_corrected : Table (Option Nat)) (v_passCe : Table Nat) (v_txQueue : List TxVerdict) (v_rxHeld : List RxVerdict) (v_routeSends : List RouteSend) (v_losses : List (Nat × Nat)) (v_lanes : Table DLane) (v_lossNotices : List (Nat × Nat)) (v_dldSent : List TxBlock) (v_edgeAcceptedAt : Option Nat) (v_epochOld : Nat) (v_tdcs : Table Tdc) (v_snss : Table Sns) (v_heaters : Table Heater) (v_mon : Monitor) (v_curveShadow : Table (Nat × Nat)) (v_curves : Table (List (Nat × Nat))) (v_mbx : Table Mailbox) (v_server : Nat) (v_training : Option (Nat × Nat)) (v_fwBank : Table FlashBank) (v_fwBody : Table (Option (BitVec 8))) (v_calBank : Table FlashBank) (v_calBody : Table CalBody) (v_curveBank : Table FlashBank) (v_curveBody : Table (Table (List (Nat × Nat)))) (v_tripLog : List (BitVec 512)) (v_tripOwed : Bool) (v_routine : Option Routine) (v_dip : Option Dip) (v_trippedAt : Option Nat) (v_window : Option Nat) (v_thm : Thermal) (v_peffWas : Nat × Nat) (v_calVref : Nat) (v_flatPend : List (Nat × Nat × List (BitVec 16))) (v : Table Codeword)
    (hv : Table.wf wordDefault x.mem = true → Table.wf wordDefault v = true) (h : Ok a x) :
    Ok a ⟨x.pending, x.part, x.ref10M, x.serial, x.now, x.epoch, v_epochOn, v_freeCtr, x.regs, v_lastRead, v_readShadow, v_writeShadow, v_rsetSel, x.mode, v_transition, v_powerGoodAt, x.calRaw, v_calAcc, v_disciplineAt, v_angle, v_alarmAt, v_alarmLate, v_alarmFired, v_snapArmed, v_relocking, v_lossAt, v_sqs, v_cqs, v_nextUid, v_busMaster, v_perst, v_posted, v_holding, v_holdHits, v_dmaStopped, v_gang, v_shots, v_works, v_wins, v_streams, v_engines, x.micro, x.nano, v_nanoRes, x.cache, v_commanded, v_ports, v_slots, v_slotWrites, v_frames, v_mrk, v_mrkMute, v_lines, v_interp, v_interpPend, v_flat, v_synth, v_ffx, v_bia, v_clrNext, v_acqs, v_tones, v_feeds, v_rwins, v_traces, v_results, v_frameStamps, v_rsets, v, v_scrubPos, v_scrubPass, v_corrected, v_passCe, v_txQueue, v_rxHeld, v_routeSends, v_losses, v_lanes, v_lossNotices, v_dldSent, v_edgeAcceptedAt, v_epochOld, v_tdcs, v_snss, v_heaters, v_mon, v_curveShadow, v_curves, v_mbx, v_server, v_training, v_fwBank, v_fwBody, v_calBank, v_calBody, v_curveBank, v_curveBody, v_tripLog, v_tripOwed, v_routine, v_dip, v_trippedAt, v_window, v_thm, v_peffWas, v_calVref, v_flatPend⟩ :=
  Ok.stores (x := x) rfl rfl rfl rfl rfl rfl rfl rfl id hv id id id h

theorem Ok.record_micro {a x : State} (v_epochOn : Bool) (v_freeCtr : Nat) (v_lastRead : BitVec 64) (v_readShadow : Table (Option Shadow)) (v_writeShadow : Table (Option Shadow)) (v_rsetSel : Table Nat) (v_transition : Option Mode) (v_powerGoodAt : Option Nat) (v_calAcc : Int) (v_disciplineAt : Nat) (v_angle : Angle) (v_alarmAt : Table Nat) (v_alarmLate : Table Bool) (v_alarmFired : Table (Option Nat)) (v_snapArmed : Bool) (v_relocking : Bool) (v_lossAt : Option (Nat × Nat)) (v_sqs : Table Sq) (v_cqs : Table Cq) (v_nextUid : Nat) (v_busMaster : Bool) (v_perst : Bool) (v_posted : List Posted) (v_holding : List Held) (v_holdHits : List Nat) (v_dmaStopped : Bool) (v_gang : Option Gang) (v_shots : List Shot) (v_works : List Work) (v_wins : List StreamWin) (v_streams : Table Stream) (v_engines : Table Engine) (v_nanoRes : Table Bool) (v_commanded : List (Nat × Nat × Nat)) (v_ports : Table Port) (v_slots : Table Slot) (v_slotWrites : List SlotWrite) (v_frames : List FrameEntry) (v_mrk : Table (List MrkEdge)) (v_mrkMute : Table MrkMute) (v_lines : Table Line) (v_interp : Table Bool) (v_interpPend : List (Nat × Nat × Bool)) (v_flat : Table (BitVec 16)) (v_synth : Table (List SynTick)) (v_ffx : Table Ffx) (v_bia : Table Bia) (v_clrNext : Bool) (v_acqs : List AcqCmd) (v_tones : Table Tone) (v_feeds : Table Feed) (v_rwins : Table RWin) (v_traces : Table TraceUnit) (v_results : List Res) (v_frameStamps : List (Nat × Nat)) (v_rsets : Table RSet) (v_scrubPos : Nat) (v_scrubPass : Nat) (v_corrected : Table (Option Nat)) (v_passCe : Table Nat) (v_txQueue : List TxVerdict) (v_rxHeld : List RxVerdict) (v_routeSends : List RouteSend) (v_losses : List (Nat × Nat)) (v_lanes : Table DLane) (v_lossNotices : List (Nat × Nat)) (v_dldSent : List TxBlock) (v_edgeAcceptedAt : Option Nat) (v_epochOld : Nat) (v_tdcs : Table Tdc) (v_snss : Table Sns) (v_heaters : Table Heater) (v_mon : Monitor) (v_curveShadow : Table (Nat × Nat)) (v_curves : Table (List (Nat × Nat))) (v_mbx : Table Mailbox) (v_server : Nat) (v_training : Option (Nat × Nat)) (v_fwBank : Table FlashBank) (v_fwBody : Table (Option (BitVec 8))) (v_calBank : Table FlashBank) (v_calBody : Table CalBody) (v_curveBank : Table FlashBank) (v_curveBody : Table (Table (List (Nat × Nat)))) (v_tripLog : List (BitVec 512)) (v_tripOwed : Bool) (v_routine : Option Routine) (v_dip : Option Dip) (v_trippedAt : Option Nat) (v_window : Option Nat) (v_thm : Thermal) (v_peffWas : Nat × Nat) (v_calVref : Nat) (v_flatPend : List (Nat × Nat × List (BitVec 16))) (v : Table (Cell 32))
    (hv : Table.wf microDefault x.micro = true → Table.wf microDefault v = true) (h : Ok a x) :
    Ok a ⟨x.pending, x.part, x.ref10M, x.serial, x.now, x.epoch, v_epochOn, v_freeCtr, x.regs, v_lastRead, v_readShadow, v_writeShadow, v_rsetSel, x.mode, v_transition, v_powerGoodAt, x.calRaw, v_calAcc, v_disciplineAt, v_angle, v_alarmAt, v_alarmLate, v_alarmFired, v_snapArmed, v_relocking, v_lossAt, v_sqs, v_cqs, v_nextUid, v_busMaster, v_perst, v_posted, v_holding, v_holdHits, v_dmaStopped, v_gang, v_shots, v_works, v_wins, v_streams, v_engines, v, x.nano, v_nanoRes, x.cache, v_commanded, v_ports, v_slots, v_slotWrites, v_frames, v_mrk, v_mrkMute, v_lines, v_interp, v_interpPend, v_flat, v_synth, v_ffx, v_bia, v_clrNext, v_acqs, v_tones, v_feeds, v_rwins, v_traces, v_results, v_frameStamps, v_rsets, x.mem, v_scrubPos, v_scrubPass, v_corrected, v_passCe, v_txQueue, v_rxHeld, v_routeSends, v_losses, v_lanes, v_lossNotices, v_dldSent, v_edgeAcceptedAt, v_epochOld, v_tdcs, v_snss, v_heaters, v_mon, v_curveShadow, v_curves, v_mbx, v_server, v_training, v_fwBank, v_fwBody, v_calBank, v_calBody, v_curveBank, v_curveBody, v_tripLog, v_tripOwed, v_routine, v_dip, v_trippedAt, v_window, v_thm, v_peffWas, v_calVref, v_flatPend⟩ :=
  Ok.stores (x := x) rfl rfl rfl rfl rfl rfl rfl rfl id id hv id id h

theorem Ok.record_nano {a x : State} (v_epochOn : Bool) (v_freeCtr : Nat) (v_lastRead : BitVec 64) (v_readShadow : Table (Option Shadow)) (v_writeShadow : Table (Option Shadow)) (v_rsetSel : Table Nat) (v_transition : Option Mode) (v_powerGoodAt : Option Nat) (v_calAcc : Int) (v_disciplineAt : Nat) (v_angle : Angle) (v_alarmAt : Table Nat) (v_alarmLate : Table Bool) (v_alarmFired : Table (Option Nat)) (v_snapArmed : Bool) (v_relocking : Bool) (v_lossAt : Option (Nat × Nat)) (v_sqs : Table Sq) (v_cqs : Table Cq) (v_nextUid : Nat) (v_busMaster : Bool) (v_perst : Bool) (v_posted : List Posted) (v_holding : List Held) (v_holdHits : List Nat) (v_dmaStopped : Bool) (v_gang : Option Gang) (v_shots : List Shot) (v_works : List Work) (v_wins : List StreamWin) (v_streams : Table Stream) (v_engines : Table Engine) (v_nanoRes : Table Bool) (v_commanded : List (Nat × Nat × Nat)) (v_ports : Table Port) (v_slots : Table Slot) (v_slotWrites : List SlotWrite) (v_frames : List FrameEntry) (v_mrk : Table (List MrkEdge)) (v_mrkMute : Table MrkMute) (v_lines : Table Line) (v_interp : Table Bool) (v_interpPend : List (Nat × Nat × Bool)) (v_flat : Table (BitVec 16)) (v_synth : Table (List SynTick)) (v_ffx : Table Ffx) (v_bia : Table Bia) (v_clrNext : Bool) (v_acqs : List AcqCmd) (v_tones : Table Tone) (v_feeds : Table Feed) (v_rwins : Table RWin) (v_traces : Table TraceUnit) (v_results : List Res) (v_frameStamps : List (Nat × Nat)) (v_rsets : Table RSet) (v_scrubPos : Nat) (v_scrubPass : Nat) (v_corrected : Table (Option Nat)) (v_passCe : Table Nat) (v_txQueue : List TxVerdict) (v_rxHeld : List RxVerdict) (v_routeSends : List RouteSend) (v_losses : List (Nat × Nat)) (v_lanes : Table DLane) (v_lossNotices : List (Nat × Nat)) (v_dldSent : List TxBlock) (v_edgeAcceptedAt : Option Nat) (v_epochOld : Nat) (v_tdcs : Table Tdc) (v_snss : Table Sns) (v_heaters : Table Heater) (v_mon : Monitor) (v_curveShadow : Table (Nat × Nat)) (v_curves : Table (List (Nat × Nat))) (v_mbx : Table Mailbox) (v_server : Nat) (v_training : Option (Nat × Nat)) (v_fwBank : Table FlashBank) (v_fwBody : Table (Option (BitVec 8))) (v_calBank : Table FlashBank) (v_calBody : Table CalBody) (v_curveBank : Table FlashBank) (v_curveBody : Table (Table (List (Nat × Nat)))) (v_tripLog : List (BitVec 512)) (v_tripOwed : Bool) (v_routine : Option Routine) (v_dip : Option Dip) (v_trippedAt : Option Nat) (v_window : Option Nat) (v_thm : Thermal) (v_peffWas : Nat × Nat) (v_calVref : Nat) (v_flatPend : List (Nat × Nat × List (BitVec 16))) (v : Table (Cell 256))
    (hv : Table.wf nanoDefault x.nano = true → Table.wf nanoDefault v = true) (h : Ok a x) :
    Ok a ⟨x.pending, x.part, x.ref10M, x.serial, x.now, x.epoch, v_epochOn, v_freeCtr, x.regs, v_lastRead, v_readShadow, v_writeShadow, v_rsetSel, x.mode, v_transition, v_powerGoodAt, x.calRaw, v_calAcc, v_disciplineAt, v_angle, v_alarmAt, v_alarmLate, v_alarmFired, v_snapArmed, v_relocking, v_lossAt, v_sqs, v_cqs, v_nextUid, v_busMaster, v_perst, v_posted, v_holding, v_holdHits, v_dmaStopped, v_gang, v_shots, v_works, v_wins, v_streams, v_engines, x.micro, v, v_nanoRes, x.cache, v_commanded, v_ports, v_slots, v_slotWrites, v_frames, v_mrk, v_mrkMute, v_lines, v_interp, v_interpPend, v_flat, v_synth, v_ffx, v_bia, v_clrNext, v_acqs, v_tones, v_feeds, v_rwins, v_traces, v_results, v_frameStamps, v_rsets, x.mem, v_scrubPos, v_scrubPass, v_corrected, v_passCe, v_txQueue, v_rxHeld, v_routeSends, v_losses, v_lanes, v_lossNotices, v_dldSent, v_edgeAcceptedAt, v_epochOld, v_tdcs, v_snss, v_heaters, v_mon, v_curveShadow, v_curves, v_mbx, v_server, v_training, v_fwBank, v_fwBody, v_calBank, v_calBody, v_curveBank, v_curveBody, v_tripLog, v_tripOwed, v_routine, v_dip, v_trippedAt, v_window, v_thm, v_peffWas, v_calVref, v_flatPend⟩ :=
  Ok.stores (x := x) rfl rfl rfl rfl rfl rfl rfl rfl id id id hv id h

theorem Ok.record_cache {a x : State} (v_epochOn : Bool) (v_freeCtr : Nat) (v_lastRead : BitVec 64) (v_readShadow : Table (Option Shadow)) (v_writeShadow : Table (Option Shadow)) (v_rsetSel : Table Nat) (v_transition : Option Mode) (v_powerGoodAt : Option Nat) (v_calAcc : Int) (v_disciplineAt : Nat) (v_angle : Angle) (v_alarmAt : Table Nat) (v_alarmLate : Table Bool) (v_alarmFired : Table (Option Nat)) (v_snapArmed : Bool) (v_relocking : Bool) (v_lossAt : Option (Nat × Nat)) (v_sqs : Table Sq) (v_cqs : Table Cq) (v_nextUid : Nat) (v_busMaster : Bool) (v_perst : Bool) (v_posted : List Posted) (v_holding : List Held) (v_holdHits : List Nat) (v_dmaStopped : Bool) (v_gang : Option Gang) (v_shots : List Shot) (v_works : List Work) (v_wins : List StreamWin) (v_streams : Table Stream) (v_engines : Table Engine) (v_nanoRes : Table Bool) (v_commanded : List (Nat × Nat × Nat)) (v_ports : Table Port) (v_slots : Table Slot) (v_slotWrites : List SlotWrite) (v_frames : List FrameEntry) (v_mrk : Table (List MrkEdge)) (v_mrkMute : Table MrkMute) (v_lines : Table Line) (v_interp : Table Bool) (v_interpPend : List (Nat × Nat × Bool)) (v_flat : Table (BitVec 16)) (v_synth : Table (List SynTick)) (v_ffx : Table Ffx) (v_bia : Table Bia) (v_clrNext : Bool) (v_acqs : List AcqCmd) (v_tones : Table Tone) (v_feeds : Table Feed) (v_rwins : Table RWin) (v_traces : Table TraceUnit) (v_results : List Res) (v_frameStamps : List (Nat × Nat)) (v_rsets : Table RSet) (v_scrubPos : Nat) (v_scrubPass : Nat) (v_corrected : Table (Option Nat)) (v_passCe : Table Nat) (v_txQueue : List TxVerdict) (v_rxHeld : List RxVerdict) (v_routeSends : List RouteSend) (v_losses : List (Nat × Nat)) (v_lanes : Table DLane) (v_lossNotices : List (Nat × Nat)) (v_dldSent : List TxBlock) (v_edgeAcceptedAt : Option Nat) (v_epochOld : Nat) (v_tdcs : Table Tdc) (v_snss : Table Sns) (v_heaters : Table Heater) (v_mon : Monitor) (v_curveShadow : Table (Nat × Nat)) (v_curves : Table (List (Nat × Nat))) (v_mbx : Table Mailbox) (v_server : Nat) (v_training : Option (Nat × Nat)) (v_fwBank : Table FlashBank) (v_fwBody : Table (Option (BitVec 8))) (v_calBank : Table FlashBank) (v_calBody : Table CalBody) (v_curveBank : Table FlashBank) (v_curveBody : Table (Table (List (Nat × Nat)))) (v_tripLog : List (BitVec 512)) (v_tripOwed : Bool) (v_routine : Option Routine) (v_dip : Option Dip) (v_trippedAt : Option Nat) (v_window : Option Nat) (v_thm : Thermal) (v_peffWas : Nat × Nat) (v_calVref : Nat) (v_flatPend : List (Nat × Nat × List (BitVec 16))) (v : Table (Cell 32))
    (hv : Table.wf microDefault x.cache = true → Table.wf microDefault v = true) (h : Ok a x) :
    Ok a ⟨x.pending, x.part, x.ref10M, x.serial, x.now, x.epoch, v_epochOn, v_freeCtr, x.regs, v_lastRead, v_readShadow, v_writeShadow, v_rsetSel, x.mode, v_transition, v_powerGoodAt, x.calRaw, v_calAcc, v_disciplineAt, v_angle, v_alarmAt, v_alarmLate, v_alarmFired, v_snapArmed, v_relocking, v_lossAt, v_sqs, v_cqs, v_nextUid, v_busMaster, v_perst, v_posted, v_holding, v_holdHits, v_dmaStopped, v_gang, v_shots, v_works, v_wins, v_streams, v_engines, x.micro, x.nano, v_nanoRes, v, v_commanded, v_ports, v_slots, v_slotWrites, v_frames, v_mrk, v_mrkMute, v_lines, v_interp, v_interpPend, v_flat, v_synth, v_ffx, v_bia, v_clrNext, v_acqs, v_tones, v_feeds, v_rwins, v_traces, v_results, v_frameStamps, v_rsets, x.mem, v_scrubPos, v_scrubPass, v_corrected, v_passCe, v_txQueue, v_rxHeld, v_routeSends, v_losses, v_lanes, v_lossNotices, v_dldSent, v_edgeAcceptedAt, v_epochOld, v_tdcs, v_snss, v_heaters, v_mon, v_curveShadow, v_curves, v_mbx, v_server, v_training, v_fwBank, v_fwBody, v_calBank, v_calBody, v_curveBank, v_curveBody, v_tripLog, v_tripOwed, v_routine, v_dip, v_trippedAt, v_window, v_thm, v_peffWas, v_calVref, v_flatPend⟩ :=
  Ok.stores (x := x) rfl rfl rfl rfl rfl rfl rfl rfl id id id id hv h

theorem foldl_ok {α : Type} {a : State} {f : State → α → State} {l : List α} {s : State}
    (hf : ∀ t x, Ok a t → Ok a (f t x)) (h : Ok a s) : Ok a (l.foldl f s) := by
  induction l generalizing s with
  | nil => exact h
  | cons x l ih => exact ih (hf s x h)

theorem foldl1_ok {α β : Type} {a : State} {f : State × β → α → State × β} {l : List α} {s : State × β}
    (hf : ∀ t x, Ok a t.1 → Ok a (f t x).1) (h : Ok a s.1) : Ok a (l.foldl f s).1 := by
  induction l generalizing s with
  | nil => exact h
  | cons x l ih => exact ih (hf s x h)

theorem ite1_ok {β : Type} {a : State} {x y : State × β} {c : Prop} [Decidable c] (hx : Ok a x.1) (hy : Ok a y.1) :
    Ok a (if c then x else y).1 := by
  split <;> assumption

theorem elim_ok {α : Type} {a s : State} {f : α → State} {o : Option α} (h : Ok a s) (hf : ∀ x, Ok a (f x)) :
    Ok a (o.elim s f) := by
  cases o with
  | none => exact h
  | some x => exact hf x

theorem ite_ok {a x y : State} {c : Prop} [Decidable c] (hx : Ok a x) (hy : Ok a y) : Ok a (if c then x else y) := by
  split <;> assumption

theorem ite_okh {a x y : State} {c : Prop} [Decidable c] (hx : c → Ok a x) (hy : ¬ c → Ok a y) : Ok a (if c then x else y) := by
  split
  · exact hx ‹_›
  · exact hy ‹_›

theorem ite_okW {a : State} {x y : WriteOut} {c : Prop} [Decidable c] (hx : OkW a x) (hy : OkW a y) :
    OkW a (if c then x else y) := by
  split <;> assumption

/-- A next state, if there is one, keeps what `Ok` says. -/
structure OkO (a : State) (o : Host.Outcome State Fault Refusal) : Prop where
  out : ∀ t, o = .next t → Ok a t
theorem OkO.next {a t : State} (h : Ok a t) : OkO a (.next t) := ⟨fun _ e => by cases e; exact h⟩
theorem OkO.fault {a : State} {f : Fault} : OkO a (.fault f) := ⟨fun _ e => by cases e⟩
theorem ite_okO {a : State} {x y : Host.Outcome State Fault Refusal} {c : Prop} [Decidable c] (hx : OkO a x) (hy : OkO a y) :
    OkO a (if c then x else y) := by
  split <;> assumption

/-- A mode that is not TRIPPED was not TRIPPED before. -/
theorem Ok.away {a b : State} {m : Mode} (e : b.mode = m) (h : Ok a b) (d : m ≠ .tripped) : a.mode ≠ .tripped :=
  fun i => d (e ▸ h.trip i)

theorem OkW.st {a : State} {w : WriteOut} (h : OkW a w) : Ok a w.st := h
theorem OkW.mk {a s : State} {e : Option Nat} (h : Ok a s) : OkW a ⟨s, e⟩ := h

theorem State_wr_ok {b0 : State} (s : State) (addr : Nat) (v : Word) (h_s : Ok b0 s) : Ok b0 (State.wr s addr v) := by
  exact Ok.stores (x := s) rfl rfl rfl rfl rfl rfl rfl rfl (fun h => Table.wf_set _ _ _ h) id id id id h_s

theorem State_put_ok {b0 : State} (s : State) (f : Fld) (v : Nat) (h_s : Ok b0 s) : Ok b0 (State.put s f v) := by
  unfold State.put
  try dsimp only
  repeat' first
    | with_reducible assumption | with_reducible apply State_wr_ok | with_reducible apply OkW.st | dsimp only

theorem State_bump_ok {b0 : State} (s : State) (f : Fld) (h_s : Ok b0 s) : Ok b0 (State.bump s f) := by
  unfold State.bump
  try dsimp only
  repeat' first
    | with_reducible assumption | with_reducible apply State_put_ok | with_reducible apply ite_ok | with_reducible apply ite1_ok
    | with_reducible apply ite_okW | with_reducible apply OkW.st | split | dsimp only

theorem State_bumpBy_ok {b0 : State} (s : State) (f : Fld) (n : Nat) (h_s : Ok b0 s) : Ok b0 (State.bumpBy s f n) := by
  unfold State.bumpBy
  try dsimp only
  repeat' first
    | with_reducible assumption | with_reducible apply State_put_ok | with_reducible apply OkW.st | dsimp only

theorem State_bumpWrap_ok {b0 : State} (s : State) (f : Fld) (h_s : Ok b0 s) : Ok b0 (State.bumpWrap s f) := by
  unfold State.bumpWrap
  try dsimp only
  repeat' first
    | with_reducible assumption | with_reducible apply State_put_ok | with_reducible apply OkW.st | dsimp only

theorem State_put64_ok {b0 : State} (s : State) (lo : Nat) (v : Nat) (h_s : Ok b0 s) : Ok b0 (State.put64 s lo v) := by
  unfold State.put64
  try dsimp only
  repeat' first
    | with_reducible assumption | with_reducible apply State_wr_ok | with_reducible apply OkW.st | dsimp only

theorem State_add64_ok {b0 : State} (s : State) (lo n : Nat) (h_s : Ok b0 s) : Ok b0 (State.add64 s lo n) := by
  unfold State.add64
  try dsimp only
  repeat' first
    | with_reducible assumption | with_reducible apply State_put64_ok | with_reducible apply OkW.st | dsimp only

theorem taken_ok {b0 : State} (s : State) (h_s : Ok b0 s) : OkW b0 (taken s) := by
  unfold taken
  try dsimp only
  repeat' first
    | with_reducible assumption | with_reducible apply OkW.st | with_reducible apply OkW.mk | dsimp only

theorem refusedBy_ok {b0 : State} (s : State) (cause : Nat) (h_s : Ok b0 s) : OkW b0 (refusedBy s cause) := by
  unfold refusedBy
  try dsimp only
  repeat' first
    | with_reducible assumption | with_reducible apply OkW.st | with_reducible apply OkW.mk | dsimp only

theorem typedWrite_ok {b0 : State} (s : State) (row : RegRow) (addr : Nat) (v : Word) (h_s : Ok b0 s) : OkW b0 (typedWrite s row addr v) := by
  unfold typedWrite
  dsimp only
  split
  · split
    · exact refusedBy_ok _ _ h_s
    · exact OkW.mk (State_wr_ok _ _ _ h_s)
  · exact taken_ok _ (State_wr_ok _ _ _ h_s)

theorem State_send_ok {b0 : State} (s : State) (p : Posted) (final : Bool) (due : Nat) (h_s : Ok b0 s) : Ok b0 (State.send s p final due) := by
  unfold State.send
  try dsimp only
  repeat' first
    | with_reducible assumption | with_reducible apply ite_ok | with_reducible apply ite1_ok | with_reducible apply ite_okW
    | with_reducible apply OkW.st | with_reducible apply OkW.mk | split | with_reducible apply Ok.record | dsimp only

theorem State_raiseVector_ok {b0 : State} (s : State) (v : Nat) (h_s : Ok b0 s) : Ok b0 (State.raiseVector s v) := by
  unfold State.raiseVector
  try dsimp only
  repeat' first
    | with_reducible assumption | with_reducible apply State_put_ok | with_reducible apply State_send_ok
    | with_reducible apply ite_ok | with_reducible apply ite1_ok | with_reducible apply ite_okW | with_reducible apply OkW.st
    | split | dsimp only

theorem State_event_ok {b0 : State} (s : State) (bit : Nat) (h_s : Ok b0 s) : Ok b0 (State.event s bit) := by
  unfold State.event
  try dsimp only
  repeat' first
    | with_reducible assumption | with_reducible apply State_put_ok | with_reducible apply State_raiseVector_ok
    | with_reducible apply ite_ok | with_reducible apply ite1_ok | with_reducible apply ite_okW | with_reducible apply OkW.st
    | with_reducible apply OkW.mk | split | dsimp only

theorem State_accessError_ok {b0 : State} (s : State) (rid cause offset : Nat) (h_s : Ok b0 s) : Ok b0 (State.accessError s rid cause offset) := by
  unfold State.accessError
  try dsimp only
  repeat' first
    | with_reducible assumption | with_reducible apply State_wr_ok | with_reducible apply State_put_ok
    | with_reducible apply State_bump_ok | with_reducible apply State_event_ok | with_reducible apply ite_ok
    | with_reducible apply ite1_ok | with_reducible apply ite_okW | with_reducible apply OkW.st | split | dsimp only

theorem WriteOut_finish_ok {b0 : State} (w : WriteOut) (rid offset : Nat)  (h_w : OkW b0 w) : Ok b0 (WriteOut.finish w rid offset) := by
  unfold WriteOut.finish
  try dsimp only
  repeat' first
    | with_reducible assumption | with_reducible apply State_accessError_ok | with_reducible apply OkW.st | (intro _ _ _)
    | (intro _) | split | with_reducible apply Ok.record | dsimp only

theorem State_setSq_ok {b0 : State} (s : State) (n : Nat) (q : Sq) (h_s : Ok b0 s) : Ok b0 (State.setSq s n q) := by
  unfold State.setSq
  try dsimp only
  repeat' first
    | with_reducible assumption | with_reducible apply OkW.st | with_reducible apply Ok.record | dsimp only

theorem State_setCq_ok {b0 : State} (s : State) (n : Nat) (q : Cq) (h_s : Ok b0 s) : Ok b0 (State.setCq s n q) := by
  unfold State.setCq
  try dsimp only
  repeat' first
    | with_reducible assumption | with_reducible apply OkW.st | with_reducible apply Ok.record | dsimp only

theorem State_cqRaise_ok {b0 : State} (s : State) (n : Nat) (h_s : Ok b0 s) : Ok b0 (State.cqRaise s n) := by
  unfold State.cqRaise
  try dsimp only
  repeat' first
    | with_reducible assumption | with_reducible apply State_raiseVector_ok | with_reducible apply State_setCq_ok
    | with_reducible apply OkW.st | with_reducible apply Ok.record | dsimp only

theorem State_writeEntry_ok {b0 : State} (s : State) (n kind status sq detail tag flags stamp : Nat) (irq final : Bool) (due : Nat) (h_s : Ok b0 s) : Ok b0 (State.writeEntry s n kind status sq detail tag flags stamp irq final due) := by
  unfold State.writeEntry
  try dsimp only
  repeat' first
    | with_reducible assumption | with_reducible apply State_send_ok | with_reducible apply State_setCq_ok
    | with_reducible apply State_cqRaise_ok | with_reducible apply ite_ok | with_reducible apply ite1_ok
    | with_reducible apply ite_okW | with_reducible apply OkW.st | split | with_reducible apply Ok.record | dsimp only

theorem State_payOwed_ok {b0 : State} (s : State) (n k : Nat) (h_s : Ok b0 s) : Ok b0 (State.payOwed s n k) := by
  unfold State.payOwed
  try dsimp only
  repeat' first
    | with_reducible assumption | with_reducible apply State_setCq_ok | with_reducible apply OkW.st
    | with_reducible apply Ok.record | dsimp only

theorem State_ringEvent_ok {b0 : State} (s : State) (sq status : Nat) (h_s : Ok b0 s) : Ok b0 (State.ringEvent s sq status) := by
  unfold State.ringEvent
  try dsimp only
  repeat' first
    | with_reducible assumption | with_reducible apply State_setCq_ok | with_reducible apply State_writeEntry_ok
    | with_reducible apply ite_ok | with_reducible apply ite1_ok | with_reducible apply ite_okW | with_reducible apply OkW.st
    | split | with_reducible apply Ok.record | dsimp only

theorem State_sqError_ok {b0 : State} (s : State) (sq status : Nat) (h_s : Ok b0 s) : Ok b0 (State.sqError s sq status) := by
  unfold State.sqError
  try dsimp only
  repeat' first
    | with_reducible assumption | with_reducible apply State_event_ok | with_reducible apply State_setSq_ok
    | with_reducible apply State_ringEvent_ok | with_reducible apply OkW.st | with_reducible apply Ok.record | dsimp only

theorem State_updShot_ok {b0 : State} (s : State) (uid : Nat) (f : Shot → Shot) (h_s : Ok b0 s) : Ok b0 (State.updShot s uid f) := by
  unfold State.updShot
  try dsimp only
  repeat' first
    | with_reducible assumption | with_reducible apply ite_ok | with_reducible apply ite1_ok | with_reducible apply ite_okW
    | with_reducible apply OkW.st | (intro _ _ _) | (intro _) | split | with_reducible apply Ok.record | dsimp only

theorem State_shotFlag_ok {b0 : State} (s : State) (uid bit : Nat) (h_s : Ok b0 s) : Ok b0 (State.shotFlag s uid bit) := by
  unfold State.shotFlag
  try dsimp only
  repeat' first
    | with_reducible assumption | with_reducible apply State_updShot_ok | with_reducible apply ite_ok
    | with_reducible apply ite1_ok | with_reducible apply ite_okW | with_reducible apply OkW.st | (intro _ _ _) | (intro _)
    | split | with_reducible apply Ok.record | dsimp only

theorem State_shotStatus_ok {b0 : State} (s : State) (uid code : Nat) (h_s : Ok b0 s) : Ok b0 (State.shotStatus s uid code) := by
  unfold State.shotStatus
  try dsimp only
  repeat' first
    | with_reducible assumption | with_reducible apply State_updShot_ok | with_reducible apply ite_ok
    | with_reducible apply ite1_ok | with_reducible apply ite_okW | with_reducible apply OkW.st | (intro _ _ _) | (intro _)
    | split | with_reducible apply Ok.record | dsimp only

theorem State_shotPoison_ok {b0 : State} (s : State) (uid : Nat) (memory : Bool) (h_s : Ok b0 s) : Ok b0 (State.shotPoison s uid memory) := by
  unfold State.shotPoison
  try dsimp only
  repeat' first
    | with_reducible assumption | with_reducible apply State_shotFlag_ok | with_reducible apply State_shotStatus_ok
    | with_reducible apply ite_ok | with_reducible apply ite1_ok | with_reducible apply ite_okW | with_reducible apply OkW.st
    | split | dsimp only

theorem State_touch_ok {b0 : State} (s : State) (uid : Nat) (h_s : Ok b0 s) : Ok b0 (State.touch s uid) := by
  unfold State.touch
  try dsimp only
  repeat' first
    | with_reducible assumption | with_reducible apply State_updShot_ok | with_reducible apply ite_ok
    | with_reducible apply ite1_ok | with_reducible apply ite_okW | with_reducible apply OkW.st | (intro _ _ _) | (intro _)
    | split | with_reducible apply Ok.record | dsimp only

theorem State_dropSamples_ok {b0 : State} (s : State) (uid n : Nat) (h_s : Ok b0 s) : Ok b0 (State.dropSamples s uid n) := by
  unfold State.dropSamples
  try dsimp only
  repeat' first
    | with_reducible assumption | with_reducible apply State_add64_ok | with_reducible apply State_shotFlag_ok
    | with_reducible apply ite_ok | with_reducible apply ite1_ok | with_reducible apply ite_okW | with_reducible apply OkW.st
    | split | dsimp only

theorem State_guardPort_ok {b0 : State} (s : State) (uid : Nat) (h_s : Ok b0 s) : Ok b0 (State.guardPort s uid) := by
  unfold State.guardPort
  try dsimp only
  repeat' first
    | with_reducible assumption | with_reducible apply State_bump_ok | with_reducible apply State_shotFlag_ok
    | with_reducible apply OkW.st | dsimp only

theorem State_setPort_ok {b0 : State} (s : State) (r p : Nat) (x : Port) (h_s : Ok b0 s) : Ok b0 (State.setPort s r p x) := by
  unfold State.setPort
  try dsimp only
  repeat' first
    | with_reducible assumption | with_reducible apply OkW.st | with_reducible apply Ok.record | dsimp only

theorem State_setSlot_ok {b0 : State} (s : State) (r f : Nat) (x : Slot) (h_s : Ok b0 s) : Ok b0 (State.setSlot s r f x) := by
  unfold State.setSlot
  try dsimp only
  repeat' first
    | with_reducible assumption | with_reducible apply OkW.st | with_reducible apply Ok.record | dsimp only

theorem State_setStream_ok {b0 : State} (s : State) (r n : Nat) (x : Stream) (h_s : Ok b0 s) : Ok b0 (State.setStream s r n x) := by
  unfold State.setStream
  try dsimp only
  repeat' first
    | with_reducible assumption | with_reducible apply OkW.st | with_reducible apply Ok.record | dsimp only

theorem State_setEngine_ok {b0 : State} (s : State) (r e : Nat) (x : Engine) (h_s : Ok b0 s) : Ok b0 (State.setEngine s r e x) := by
  unfold State.setEngine
  try dsimp only
  repeat' first
    | with_reducible assumption | with_reducible apply OkW.st | with_reducible apply Ok.record | dsimp only

theorem State_setLine_ok {b0 : State} (s : State) (r l : Nat) (x : Line) (h_s : Ok b0 s) : Ok b0 (State.setLine s r l x) := by
  unfold State.setLine
  try dsimp only
  repeat' first
    | with_reducible assumption | with_reducible apply OkW.st | with_reducible apply Ok.record | dsimp only

theorem State_setFfx_ok {b0 : State} (s : State) (r k : Nat) (x : Ffx) (h_s : Ok b0 s) : Ok b0 (State.setFfx s r k x) := by
  unfold State.setFfx
  try dsimp only
  repeat' first
    | with_reducible assumption | with_reducible apply OkW.st | with_reducible apply Ok.record | dsimp only

theorem State_setBia_ok {b0 : State} (s : State) (r k : Nat) (x : Bia) (h_s : Ok b0 s) : Ok b0 (State.setBia s r k x) := by
  unfold State.setBia
  try dsimp only
  repeat' first
    | with_reducible assumption | with_reducible apply OkW.st | with_reducible apply Ok.record | dsimp only

theorem happen_ok {b0 : State} (g : Bool) (s t : State) (h_s : Ok b0 s) (h_t : Ok b0 t) : OkO b0 (happen g s t) := by
  unfold happen
  try dsimp only
  repeat' first
    | with_reducible assumption | with_reducible apply ite_ok | with_reducible apply ite_okO | with_reducible apply ite1_ok
    | with_reducible apply ite_okW | with_reducible apply OkO.next | with_reducible apply OkO.fault
    | with_reducible apply OkW.st | split | dsimp only

end Sys2Proof.Machine
end

