-- ==== Sys2Proof/Laws/KeepEngines.lean ====
section
/-!
SUPPORT. What every operation of Machine/Engines.lean keeps (see KeepOps.lean).
-/
namespace Sys2Proof.Machine

theorem settleIssue_ok {b0 : State} (s : State) (r e : Nat) (w : BitVec 32) (o : Issued) (h_s : Ok b0 s) : Ok b0 (settleIssue s r e w o) := by
  unfold settleIssue
  try dsimp only
  repeat' first
    | with_reducible assumption | with_reducible apply State_add64_ok | with_reducible apply State_shotFlag_ok
    | with_reducible apply State_setEngine_ok | with_reducible apply ite_ok | with_reducible apply ite1_ok
    | with_reducible apply ite_okW | with_reducible apply OkW.st | with_reducible apply OkW.mk | (intro _ _ _) | (intro _)
    | split | with_reducible apply Ok.record | dsimp only

theorem haltAt_ok {b0 : State} (s : State) (r e ball : Nat) (h_s : Ok b0 s) : Ok b0 (haltAt s r e ball) := by
  unfold haltAt
  try dsimp only
  repeat' first
    | with_reducible assumption | with_reducible apply State_setEngine_ok | with_reducible apply ite_ok
    | with_reducible apply ite1_ok | with_reducible apply ite_okW | with_reducible apply OkW.st | with_reducible apply OkW.mk
    | split | with_reducible apply Ok.record | dsimp only

theorem issueWith_ok {b0 : State} (s : State) (r e : Nat) (f : BitVec 32 → Engine → Issued) (h_s : Ok b0 s) : Ok b0 (issueWith s r e f) := by
  unfold issueWith
  try dsimp only
  repeat' first
    | with_reducible assumption | with_reducible apply settleIssue_ok | with_reducible apply haltAt_ok
    | with_reducible apply ite_ok | with_reducible apply ite1_ok | with_reducible apply ite_okW | with_reducible apply OkW.st
    | with_reducible apply OkW.mk | split | dsimp only

theorem execNop_ok {b0 : State} (r e : Nat) (s : State) (h_s : Ok b0 s) : OkO b0 (execNop r e s) := by
  unfold execNop
  try dsimp only
  repeat' first
    | with_reducible assumption | with_reducible apply issueWith_ok | with_reducible apply happen_ok
    | with_reducible apply OkO.next | with_reducible apply OkO.fault | with_reducible apply OkW.st | (intro _ _ _) | (intro _)
    | dsimp only

theorem execJmp_ok {b0 : State} (r e : Nat) (s : State) (h_s : Ok b0 s) : OkO b0 (execJmp r e s) := by
  unfold execJmp
  try dsimp only
  repeat' first
    | with_reducible assumption | with_reducible apply issueWith_ok | with_reducible apply happen_ok
    | with_reducible apply OkO.next | with_reducible apply OkO.fault | with_reducible apply OkW.st | (intro _ _ _) | (intro _)
    | dsimp only

theorem execCall_ok {b0 : State} (r e : Nat) (s : State) (h_s : Ok b0 s) : OkO b0 (execCall r e s) := by
  unfold execCall
  try dsimp only
  repeat' first
    | with_reducible assumption | with_reducible apply issueWith_ok | with_reducible apply happen_ok
    | with_reducible apply OkO.next | with_reducible apply OkO.fault | with_reducible apply OkW.st | (intro _ _ _) | (intro _)
    | dsimp only

theorem execRet_ok {b0 : State} (r e : Nat) (s : State) (h_s : Ok b0 s) : OkO b0 (execRet r e s) := by
  unfold execRet
  try dsimp only
  repeat' first
    | with_reducible assumption | with_reducible apply issueWith_ok | with_reducible apply happen_ok
    | with_reducible apply OkO.next | with_reducible apply OkO.fault | with_reducible apply OkW.st | (intro _ _ _) | (intro _)
    | dsimp only

theorem execLdc_ok {b0 : State} (r e : Nat) (s : State) (h_s : Ok b0 s) : OkO b0 (execLdc r e s) := by
  unfold execLdc
  try dsimp only
  repeat' first
    | with_reducible assumption | with_reducible apply issueWith_ok | with_reducible apply happen_ok
    | with_reducible apply OkO.next | with_reducible apply OkO.fault | with_reducible apply OkW.st | (intro _ _ _) | (intro _)
    | dsimp only

theorem execLoop_ok {b0 : State} (r e : Nat) (s : State) (h_s : Ok b0 s) : OkO b0 (execLoop r e s) := by
  unfold execLoop
  try dsimp only
  repeat' first
    | with_reducible assumption | with_reducible apply issueWith_ok | with_reducible apply happen_ok
    | with_reducible apply OkO.next | with_reducible apply OkO.fault | with_reducible apply OkW.st | (intro _ _ _) | (intro _)
    | dsimp only

theorem execAddc_ok {b0 : State} (r e : Nat) (s : State) (h_s : Ok b0 s) : OkO b0 (execAddc r e s) := by
  unfold execAddc
  try dsimp only
  repeat' first
    | with_reducible assumption | with_reducible apply issueWith_ok | with_reducible apply happen_ok
    | with_reducible apply OkO.next | with_reducible apply OkO.fault | with_reducible apply OkW.st | (intro _ _ _) | (intro _)
    | dsimp only

theorem execTest_ok {b0 : State} (r e : Nat) (s : State) (h_s : Ok b0 s) : OkO b0 (execTest r e s) := by
  unfold execTest
  try dsimp only
  repeat' first
    | with_reducible assumption | with_reducible apply issueWith_ok | with_reducible apply happen_ok
    | with_reducible apply OkO.next | with_reducible apply OkO.fault | with_reducible apply OkW.st | (intro _ _ _) | (intro _)
    | dsimp only

theorem execBrv_ok {b0 : State} (r e : Nat) (s : State) (h_s : Ok b0 s) : OkO b0 (execBrv r e s) := by
  unfold execBrv
  try dsimp only
  repeat' first
    | with_reducible assumption | with_reducible apply issueWith_ok | with_reducible apply happen_ok
    | with_reducible apply OkO.next | with_reducible apply OkO.fault | with_reducible apply OkW.st | (intro _ _ _) | (intro _)
    | dsimp only

theorem execWaita_ok {b0 : State} (r e : Nat) (s : State) (h_s : Ok b0 s) : OkO b0 (execWaita r e s) := by
  unfold execWaita
  try dsimp only
  repeat' first
    | with_reducible assumption | with_reducible apply issueWith_ok | with_reducible apply happen_ok
    | with_reducible apply OkO.next | with_reducible apply OkO.fault | with_reducible apply OkW.st | (intro _ _ _) | (intro _)
    | dsimp only

theorem execWaitw_ok {b0 : State} (r e : Nat) (s : State) (h_s : Ok b0 s) : OkO b0 (execWaitw r e s) := by
  unfold execWaitw
  try dsimp only
  repeat' first
    | with_reducible assumption | with_reducible apply issueWith_ok | with_reducible apply happen_ok
    | with_reducible apply OkO.next | with_reducible apply OkO.fault | with_reducible apply OkW.st | (intro _ _ _) | (intro _)
    | dsimp only

theorem execQuiet_ok {b0 : State} (r e : Nat) (s : State) (h_s : Ok b0 s) : OkO b0 (execQuiet r e s) := by
  unfold execQuiet
  try dsimp only
  repeat' first
    | with_reducible assumption | with_reducible apply issueWith_ok | with_reducible apply happen_ok
    | with_reducible apply OkO.next | with_reducible apply OkO.fault | with_reducible apply OkW.st | (intro _ _ _) | (intro _)
    | dsimp only

theorem execStop_ok {b0 : State} (r e : Nat) (s : State) (h_s : Ok b0 s) : OkO b0 (execStop r e s) := by
  unfold execStop
  try dsimp only
  repeat' first
    | with_reducible assumption | with_reducible apply issueWith_ok | with_reducible apply happen_ok
    | with_reducible apply OkO.next | with_reducible apply OkO.fault | with_reducible apply OkW.st | (intro _ _ _) | (intro _)
    | dsimp only

theorem playWord_ok {b0 : State} (s : State) (r e : Nat) (h_s : Ok b0 s) : Ok b0 (playWord s r e) := by
  unfold playWord
  try dsimp only
  repeat' first
    | with_reducible assumption | with_reducible apply issueWith_ok | with_reducible apply State_guardPort_ok
    | with_reducible apply ite_ok | with_reducible apply ite1_ok | with_reducible apply ite_okW | with_reducible apply OkW.st
    | (intro _ _ _) | (intro _) | split | dsimp only

theorem execPlay_ok {b0 : State} (r e : Nat) (s : State) (h_s : Ok b0 s) : OkO b0 (execPlay r e s) := by
  unfold execPlay
  try dsimp only
  repeat' first
    | with_reducible assumption | with_reducible apply playWord_ok | with_reducible apply happen_ok
    | with_reducible apply OkO.next | with_reducible apply OkO.fault | with_reducible apply OkW.st | dsimp only

theorem endWait_ok {b0 : State} (s : State) (r e : Nat) (f : Engine → Engine) (h_s : Ok b0 s) : Ok b0 (endWait s r e f) := by
  unfold endWait
  try dsimp only
  repeat' first
    | with_reducible assumption | with_reducible apply haltAt_ok | with_reducible apply State_setEngine_ok
    | with_reducible apply ite_ok | with_reducible apply ite1_ok | with_reducible apply ite_okW | with_reducible apply OkW.st
    | (intro _ _ _) | (intro _) | split | with_reducible apply Ok.record | dsimp only

theorem pollStops_ok {b0 : State} (s : State) (h_s : Ok b0 s) : Ok b0 (pollStops s) := by
  unfold pollStops
  try dsimp only
  repeat' first
    | with_reducible assumption | with_reducible apply haltAt_ok | with_reducible apply foldl_ok | with_reducible apply ite_ok
    | with_reducible apply foldl1_ok | with_reducible apply ite1_ok | with_reducible apply ite_okW | with_reducible apply OkW.st
    | (intro _ _ _) | (intro _) | split | dsimp only

theorem execBrvEnd_ok {b0 : State} (r e : Nat) (s : State) (h_s : Ok b0 s) : OkO b0 (execBrvEnd r e s) := by
  unfold execBrvEnd
  try dsimp only
  repeat' first
    | with_reducible assumption | with_reducible apply endWait_ok | with_reducible apply happen_ok
    | with_reducible apply OkO.next | with_reducible apply OkO.fault | with_reducible apply OkW.st | (intro _ _ _) | (intro _)
    | dsimp only

theorem execBrvTimeout_ok {b0 : State} (r e : Nat) (s : State) (h_s : Ok b0 s) : OkO b0 (execBrvTimeout r e s) := by
  unfold execBrvTimeout
  try dsimp only
  repeat' first
    | with_reducible assumption | with_reducible apply endWait_ok | with_reducible apply happen_ok
    | with_reducible apply OkO.next | with_reducible apply OkO.fault | with_reducible apply OkW.st | (intro _ _ _) | (intro _)
    | split | with_reducible apply Ok.record | dsimp only

theorem execWaitEnd_ok {b0 : State} (r e : Nat) (s : State) (h_s : Ok b0 s) : OkO b0 (execWaitEnd r e s) := by
  unfold execWaitEnd
  try dsimp only
  repeat' first
    | with_reducible assumption | with_reducible apply endWait_ok | with_reducible apply happen_ok
    | with_reducible apply OkO.next | with_reducible apply OkO.fault | with_reducible apply OkW.st | (intro _ _ _) | (intro _)
    | with_reducible apply Ok.record | dsimp only

theorem execWaitTimeout_ok {b0 : State} (r e : Nat) (s : State) (h_s : Ok b0 s) : OkO b0 (execWaitTimeout r e s) := by
  unfold execWaitTimeout
  try dsimp only
  repeat' first
    | with_reducible assumption | with_reducible apply endWait_ok | with_reducible apply happen_ok
    | with_reducible apply OkO.next | with_reducible apply OkO.fault | with_reducible apply OkW.st | (intro _ _ _) | (intro _)
    | split | with_reducible apply Ok.record | dsimp only

end Sys2Proof.Machine
end

