-- ==== Sys2Proof/Laws/KeepTones.lean ====
section
/-!
SUPPORT. What every operation of Machine/Tones.lean keeps (see KeepOps.lean).
-/
namespace Sys2Proof.Machine

theorem State_setTone_ok {b0 : State} (s : State) (r k : Nat) (t : Tone) (h_s : Ok b0 s) : Ok b0 (State.setTone s r k t) := by
  unfold State.setTone
  try dsimp only
  repeat' first
    | with_reducible assumption | with_reducible apply OkW.st | with_reducible apply Ok.record | dsimp only

theorem State_setFeed_ok {b0 : State} (s : State) (r f : Nat) (x : Feed) (h_s : Ok b0 s) : Ok b0 (State.setFeed s r f x) := by
  unfold State.setFeed
  try dsimp only
  repeat' first
    | with_reducible assumption | with_reducible apply OkW.st | with_reducible apply Ok.record | dsimp only

theorem State_spoilTone_ok {b0 : State} (s : State) (r k c : Nat) (h_s : Ok b0 s) : Ok b0 (State.spoilTone s r k c) := by
  unfold State.spoilTone
  try dsimp only
  repeat' first
    | with_reducible assumption | with_reducible apply State_setTone_ok | with_reducible apply OkW.st
    | with_reducible apply Ok.record | dsimp only

theorem State_spoilOwn_ok {b0 : State} (s : State) (r k : Nat) (h_s : Ok b0 s) : Ok b0 (State.spoilOwn s r k) := by
  unfold State.spoilOwn
  try dsimp only
  repeat' first
    | with_reducible assumption | with_reducible apply State_spoilTone_ok | with_reducible apply OkW.st | dsimp only

theorem State_spoilSlot_ok {b0 : State} (s : State) (r f : Nat) (h_s : Ok b0 s) : Ok b0 (State.spoilSlot s r f) := by
  unfold State.spoilSlot
  try dsimp only
  repeat' first
    | with_reducible assumption | with_reducible apply State_spoilOwn_ok | with_reducible apply foldl_ok
    | with_reducible apply ite_ok | with_reducible apply foldl1_ok | with_reducible apply ite1_ok | with_reducible apply ite_okW
    | with_reducible apply OkW.st | (intro _ _ _) | (intro _) | split | dsimp only

theorem State_changeSlot_ok {b0 : State} (s : State) (r f : Nat) (x : Slot) (h_s : Ok b0 s) : Ok b0 (State.changeSlot s r f x) := by
  unfold State.changeSlot
  try dsimp only
  repeat' first
    | with_reducible assumption | with_reducible apply State_setSlot_ok | with_reducible apply State_spoilSlot_ok
    | with_reducible apply ite_ok | with_reducible apply ite1_ok | with_reducible apply ite_okW | with_reducible apply OkW.st
    | split | dsimp only

theorem State_spoilAll_ok {b0 : State} (s : State) (h_s : Ok b0 s) : Ok b0 (State.spoilAll s) := by
  unfold State.spoilAll
  try dsimp only
  repeat' first
    | with_reducible assumption | with_reducible apply State_setFeed_ok | with_reducible apply State_spoilTone_ok
    | with_reducible apply foldl_ok | with_reducible apply foldl1_ok | with_reducible apply OkW.st | (intro _ _ _) | (intro _)
    | with_reducible apply Ok.record | dsimp only

theorem writeFilt_ok {b0 : State} (s : State) (r k : Nat) (v : Word) (h_s : Ok b0 s) : OkW b0 (writeFilt s r k v) := by
  unfold writeFilt
  try dsimp only
  repeat' first
    | with_reducible assumption | with_reducible apply State_put_ok | with_reducible apply taken_ok
    | with_reducible apply State_setTone_ok | with_reducible apply OkW.st | with_reducible apply OkW.mk
    | with_reducible apply Ok.record | dsimp only

theorem writeGain_ok {b0 : State} (s : State) (r f : Nat) (v : Word) (h_s : Ok b0 s) : OkW b0 (writeGain s r f v) := by
  unfold writeGain
  try dsimp only
  repeat' first
    | with_reducible assumption | with_reducible apply State_put_ok | with_reducible apply taken_ok
    | with_reducible apply State_setFeed_ok | with_reducible apply OkW.st | with_reducible apply OkW.mk
    | with_reducible apply Ok.record | dsimp only

theorem filtEffect_ok {b0 : State} (s : State) (r k : Nat) (h_s : Ok b0 s) : Ok b0 (filtEffect s r k) := by
  unfold filtEffect
  try dsimp only
  repeat' first
    | with_reducible assumption | with_reducible apply State_setTone_ok | with_reducible apply State_spoilTone_ok
    | with_reducible apply ite_ok | with_reducible apply ite1_ok | with_reducible apply ite_okW | with_reducible apply OkW.st
    | (intro _ _ _) | (intro _) | split | with_reducible apply Ok.record | dsimp only

theorem execFiltEffect_ok {b0 : State} (r k : Nat) (s : State) (h_s : Ok b0 s) : OkO b0 (execFiltEffect r k s) := by
  unfold execFiltEffect
  try dsimp only
  repeat' first
    | with_reducible assumption | with_reducible apply filtEffect_ok | with_reducible apply happen_ok
    | with_reducible apply OkO.next | with_reducible apply OkO.fault | with_reducible apply OkW.st | (intro _ _ _) | (intro _)
    | split | with_reducible apply Ok.record | dsimp only

theorem gainEffect_ok {b0 : State} (s : State) (r f : Nat) (h_s : Ok b0 s) : Ok b0 (gainEffect s r f) := by
  unfold gainEffect
  try dsimp only
  repeat' first
    | with_reducible assumption | with_reducible apply State_setFeed_ok | with_reducible apply State_spoilTone_ok
    | with_reducible apply foldl_ok | with_reducible apply ite_ok | with_reducible apply foldl1_ok
    | with_reducible apply ite1_ok | with_reducible apply ite_okW | with_reducible apply OkW.st | (intro _ _ _) | (intro _)
    | split | with_reducible apply Ok.record | dsimp only

theorem execGainEffect_ok {b0 : State} (r f : Nat) (s : State) (h_s : Ok b0 s) : OkO b0 (execGainEffect r f s) := by
  unfold execGainEffect
  try dsimp only
  repeat' first
    | with_reducible assumption | with_reducible apply gainEffect_ok | with_reducible apply happen_ok
    | with_reducible apply OkO.next | with_reducible apply OkO.fault | with_reducible apply OkW.st | (intro _ _ _) | (intro _)
    | split | with_reducible apply Ok.record | dsimp only

theorem clearDmdStats_ok {b0 : State} (s : State) (r : Nat) (h_s : Ok b0 s) : Ok b0 (clearDmdStats s r) := by
  unfold clearDmdStats
  try dsimp only
  repeat' first
    | with_reducible assumption | with_reducible apply State_wr_ok | with_reducible apply State_put_ok
    | with_reducible apply foldl_ok | with_reducible apply foldl1_ok | with_reducible apply OkW.st | (intro _ _ _) | (intro _)
    | dsimp only

end Sys2Proof.Machine
end

