-- ==== Sys2Proof/Laws/KeepDrive.lean ====
section
/-!
SUPPORT. What every operation of Machine/Drive.lean keeps (see KeepOps.lean).
-/
namespace Sys2Proof.Machine

theorem State_setMrkMute_ok {b0 : State} (s : State) (r : Nat) (m : MrkMute) (h_s : Ok b0 s) : Ok b0 (State.setMrkMute s r m) := by
  unfold State.setMrkMute
  try dsimp only
  repeat' first
    | with_reducible assumption | with_reducible apply OkW.st | with_reducible apply Ok.record | dsimp only

theorem writeLineCtrl_ok {b0 : State} (s : State) (r l : Nat) (v : Word) (h_s : Ok b0 s) : OkW b0 (writeLineCtrl s r l v) := by
  unfold writeLineCtrl
  try dsimp only
  repeat' first
    | with_reducible assumption | with_reducible apply State_wr_ok | with_reducible apply taken_ok
    | with_reducible apply refusedBy_ok | with_reducible apply State_setLine_ok | with_reducible apply ite_ok
    | with_reducible apply ite1_ok | with_reducible apply ite_okW | with_reducible apply OkW.st | with_reducible apply OkW.mk
    | split | with_reducible apply Ok.record | dsimp only

theorem writeMrkCtrl_ok {b0 : State} (s : State) (r : Nat) (v : Word) (h_s : Ok b0 s) : OkW b0 (writeMrkCtrl s r v) := by
  unfold writeMrkCtrl
  try dsimp only
  repeat' first
    | with_reducible assumption | with_reducible apply State_setMrkMute_ok | with_reducible apply State_wr_ok
    | with_reducible apply taken_ok | with_reducible apply refusedBy_ok | with_reducible apply ite_ok
    | with_reducible apply ite1_ok | with_reducible apply ite_okW | with_reducible apply OkW.st | with_reducible apply OkW.mk
    | split | dsimp only

theorem lineEffect_ok {b0 : State} (s : State) (r l : Nat) (h_s : Ok b0 s) : Ok b0 (lineEffect s r l) := by
  unfold lineEffect
  try dsimp only
  repeat' first
    | with_reducible assumption | with_reducible apply State_setMrkMute_ok | with_reducible apply State_setLine_ok
    | with_reducible apply ite_ok | with_reducible apply ite1_ok | with_reducible apply ite_okW | with_reducible apply OkW.st
    | with_reducible apply OkW.mk | (intro _ _ _) | (intro _) | split | with_reducible apply Ok.record | dsimp only

theorem execLineSettingEffect_ok {b0 : State} (r line : Nat) (s : State) (h_s : Ok b0 s) : OkO b0 (execLineSettingEffect r line s) := by
  unfold execLineSettingEffect
  try dsimp only
  repeat' first
    | with_reducible assumption | with_reducible apply lineEffect_ok | with_reducible apply happen_ok
    | with_reducible apply OkO.next | with_reducible apply OkO.fault | with_reducible apply OkW.st | dsimp only

theorem execFscSettleEnd_ok {b0 : State} (r line : Nat) (s : State) (h_s : Ok b0 s) : OkO b0 (execFscSettleEnd r line s) := by
  unfold execFscSettleEnd
  try dsimp only
  repeat' first
    | with_reducible assumption | with_reducible apply State_setLine_ok | with_reducible apply happen_ok
    | with_reducible apply OkO.next | with_reducible apply OkO.fault | with_reducible apply OkW.st | (intro _ _ _) | (intro _)
    | split | with_reducible apply Ok.record | dsimp only

theorem writeSlot_ok {b0 : State} (s : State) (r f lo hi : Nat) (h_s : Ok b0 s) : OkW b0 (writeSlot s r f lo hi) := by
  unfold writeSlot
  try dsimp only
  repeat' first
    | with_reducible assumption | with_reducible apply taken_ok | with_reducible apply refusedBy_ok
    | with_reducible apply ite_ok | with_reducible apply ite1_ok | with_reducible apply ite_okW | with_reducible apply OkW.st
    | with_reducible apply OkW.mk | split | with_reducible apply Ok.record | dsimp only

theorem slotEffect_ok {b0 : State} (s : State) (r f : Nat) (h_s : Ok b0 s) : Ok b0 (slotEffect s r f) := by
  unfold slotEffect
  try dsimp only
  repeat' first
    | with_reducible assumption | with_reducible apply State_changeSlot_ok | with_reducible apply OkW.st
    | with_reducible apply OkW.mk | (intro _ _ _) | (intro _) | split | with_reducible apply Ok.record | dsimp only

theorem execSlotEffect_ok {b0 : State} (r f : Nat) (s : State) (h_s : Ok b0 s) : OkO b0 (execSlotEffect r f s) := by
  unfold execSlotEffect
  try dsimp only
  repeat' first
    | with_reducible assumption | with_reducible apply slotEffect_ok | with_reducible apply happen_ok
    | with_reducible apply OkO.next | with_reducible apply OkO.fault | with_reducible apply OkW.st | (intro _ _ _) | (intro _)
    | split | with_reducible apply Ok.record | dsimp only

theorem writeInterp_ok {b0 : State} (s : State) (r c : Nat) (v : Word) (h_s : Ok b0 s) : OkW b0 (writeInterp s r c v) := by
  unfold writeInterp
  try dsimp only
  repeat' first
    | with_reducible assumption | with_reducible apply State_put_ok | with_reducible apply taken_ok
    | with_reducible apply refusedBy_ok | with_reducible apply ite_ok | with_reducible apply ite1_ok
    | with_reducible apply ite_okW | with_reducible apply OkW.st | with_reducible apply OkW.mk | split
    | with_reducible apply Ok.record | dsimp only

theorem interpEffect_ok {b0 : State} (s : State) (r c : Nat) (h_s : Ok b0 s) : Ok b0 (interpEffect s r c) := by
  unfold interpEffect
  try dsimp only
  repeat' first
    | with_reducible assumption | with_reducible apply OkW.st | (intro _ _ _) | (intro _) | split
    | with_reducible apply Ok.record | dsimp only

theorem execInterpEffect_ok {b0 : State} (r c : Nat) (s : State) (h_s : Ok b0 s) : OkO b0 (execInterpEffect r c s) := by
  unfold execInterpEffect
  try dsimp only
  repeat' first
    | with_reducible assumption | with_reducible apply interpEffect_ok | with_reducible apply happen_ok
    | with_reducible apply OkO.next | with_reducible apply OkO.fault | with_reducible apply OkW.st | (intro _ _ _) | (intro _)
    | split | with_reducible apply Ok.record | dsimp only

theorem clearSynStats_ok {b0 : State} (s : State) (r : Nat) (h_s : Ok b0 s) : Ok b0 (clearSynStats s r) := by
  unfold clearSynStats
  try dsimp only
  repeat' first
    | with_reducible assumption | with_reducible apply State_wr_ok | with_reducible apply foldl_ok
    | with_reducible apply foldl1_ok | with_reducible apply OkW.st | (intro _ _ _) | (intro _) | dsimp only

end Sys2Proof.Machine
end

