-- ==== Sys2Proof/Laws/KeepFlux.lean ====
section
/-!
SUPPORT. What every operation of Machine/Flux.lean keeps (see KeepOps.lean).
-/
namespace Sys2Proof.Machine

theorem biasTake_ok {b0 : State} (s : State) (r k : Nat) (code : Int) (h_s : Ok b0 s) : Ok b0 (biasTake s r k code) := by
  unfold biasTake
  try dsimp only
  repeat' first
    | with_reducible assumption | with_reducible apply State_put_ok | with_reducible apply State_bump_ok
    | with_reducible apply State_put64_ok | with_reducible apply State_setBia_ok | with_reducible apply ite_ok
    | with_reducible apply ite1_ok | with_reducible apply ite_okW | with_reducible apply OkW.st | with_reducible apply OkW.mk
    | split | with_reducible apply Ok.record | dsimp only

theorem biasDrop_ok {b0 : State} (s : State) (r k uid : Nat) (h_s : Ok b0 s) : Ok b0 (biasDrop s r k uid) := by
  unfold biasDrop
  try dsimp only
  repeat' first
    | with_reducible assumption | with_reducible apply State_bump_ok | with_reducible apply State_dropSamples_ok
    | with_reducible apply OkW.st | dsimp only

theorem biasSetting_ok {b0 : State} (s : State) (r k code uid : Nat) (h_s : Ok b0 s) : Ok b0 (biasSetting s r k code uid) := by
  unfold biasSetting
  try dsimp only
  repeat' first
    | with_reducible assumption | with_reducible apply biasTake_ok | with_reducible apply biasDrop_ok
    | with_reducible apply State_shotFlag_ok | with_reducible apply State_setBia_ok | with_reducible apply ite_ok
    | with_reducible apply ite1_ok | with_reducible apply ite_okW | with_reducible apply OkW.st | split
    | with_reducible apply Ok.record | dsimp only

theorem writeFluxCtrl_ok {b0 : State} (s : State) (r : Nat) (bias : Bool) (k : Nat) (v : Word) (h_s : Ok b0 s) : OkW b0 (writeFluxCtrl s r bias k v) := by
  unfold writeFluxCtrl
  try dsimp only
  repeat' first
    | with_reducible assumption | with_reducible apply State_put_ok | with_reducible apply taken_ok
    | with_reducible apply State_setFfx_ok | with_reducible apply State_setBia_ok | with_reducible apply ite_ok
    | with_reducible apply ite1_ok | with_reducible apply ite_okW | with_reducible apply OkW.st | with_reducible apply OkW.mk
    | split | with_reducible apply Ok.record | dsimp only

theorem writeFluxVal_ok {b0 : State} (s : State) (r : Nat) (bias : Bool) (k : Nat) (v : Word) (h_s : Ok b0 s) : OkW b0 (writeFluxVal s r bias k v) := by
  unfold writeFluxVal
  try dsimp only
  repeat' first
    | with_reducible assumption | with_reducible apply taken_ok | with_reducible apply refusedBy_ok
    | with_reducible apply State_setFfx_ok | with_reducible apply State_setBia_ok | with_reducible apply ite_ok
    | with_reducible apply ite1_ok | with_reducible apply ite_okW | with_reducible apply OkW.st | with_reducible apply OkW.mk
    | split | with_reducible apply Ok.record | dsimp only

theorem writePredistortion_ok {b0 : State} (s : State) (r k : Nat) (second : Bool) (v : Word) (h_s : Ok b0 s) : OkW b0 (writePredistortion s r k second v) := by
  unfold writePredistortion
  try dsimp only
  repeat' first
    | with_reducible assumption | with_reducible apply State_wr_ok | with_reducible apply taken_ok
    | with_reducible apply refusedBy_ok | with_reducible apply State_setFfx_ok | with_reducible apply ite_ok
    | with_reducible apply ite1_ok | with_reducible apply ite_okW | with_reducible apply OkW.st | with_reducible apply OkW.mk
    | split | with_reducible apply Ok.record | dsimp only

theorem writeFluxLimit_ok {b0 : State} (s : State) (r : Nat) (bias : Bool) (k : Nat) (v : Word) (h_s : Ok b0 s) : OkW b0 (writeFluxLimit s r bias k v) := by
  unfold writeFluxLimit
  try dsimp only
  repeat' first
    | with_reducible assumption | with_reducible apply State_put_ok | with_reducible apply taken_ok
    | with_reducible apply refusedBy_ok | with_reducible apply State_setFfx_ok | with_reducible apply State_setBia_ok
    | with_reducible apply ite_ok | with_reducible apply ite1_ok | with_reducible apply ite_okW | with_reducible apply OkW.st
    | with_reducible apply OkW.mk | split | with_reducible apply Ok.record | dsimp only

theorem clearFfxStats_ok {b0 : State} (s : State) (r : Nat) (h_s : Ok b0 s) : Ok b0 (clearFfxStats s r) := by
  unfold clearFfxStats
  try dsimp only
  repeat' first
    | with_reducible assumption | with_reducible apply State_wr_ok | with_reducible apply foldl_ok
    | with_reducible apply foldl1_ok | with_reducible apply OkW.st | (intro _ _ _) | (intro _) | dsimp only

theorem clearBiaStats_ok {b0 : State} (s : State) (r : Nat) (h_s : Ok b0 s) : Ok b0 (clearBiaStats s r) := by
  unfold clearBiaStats
  try dsimp only
  repeat' first
    | with_reducible assumption | with_reducible apply State_wr_ok | with_reducible apply foldl_ok
    | with_reducible apply foldl1_ok | with_reducible apply OkW.st | (intro _ _ _) | (intro _) | dsimp only

theorem beginHold_ok {b0 : State} (s : State) (r : Nat) (bias : Bool) (k : Nat) (h_s : Ok b0 s) : Ok b0 (beginHold s r bias k) := by
  unfold beginHold
  try dsimp only
  repeat' first
    | with_reducible assumption | with_reducible apply biasTake_ok | with_reducible apply State_setFfx_ok
    | with_reducible apply State_setBia_ok | with_reducible apply ite_ok | with_reducible apply ite1_ok
    | with_reducible apply ite_okW | with_reducible apply OkW.st | (intro _ _ _) | (intro _) | split
    | with_reducible apply Ok.record | dsimp only

theorem execRangeHoldBegin_ok {b0 : State} (r : Nat) (bias : Bool) (k : Nat) (s : State) (h_s : Ok b0 s) : OkO b0 (execRangeHoldBegin r bias k s) := by
  unfold execRangeHoldBegin
  try dsimp only
  repeat' first
    | with_reducible assumption | with_reducible apply beginHold_ok | with_reducible apply happen_ok
    | with_reducible apply OkO.next | with_reducible apply OkO.fault | with_reducible apply OkW.st | dsimp only

theorem endHold_ok {b0 : State} (s : State) (r : Nat) (bias : Bool) (k : Nat) (h_s : Ok b0 s) : Ok b0 (endHold s r bias k) := by
  unfold endHold
  try dsimp only
  repeat' first
    | with_reducible assumption | with_reducible apply State_setFfx_ok | with_reducible apply State_setBia_ok
    | with_reducible apply ite_ok | with_reducible apply ite1_ok | with_reducible apply ite_okW | with_reducible apply OkW.st
    | split | with_reducible apply Ok.record | dsimp only

theorem execRangeHoldEnd_ok {b0 : State} (r : Nat) (bias : Bool) (k : Nat) (s : State) (h_s : Ok b0 s) : OkO b0 (execRangeHoldEnd r bias k s) := by
  unfold execRangeHoldEnd
  try dsimp only
  repeat' first
    | with_reducible assumption | with_reducible apply endHold_ok | with_reducible apply happen_ok | with_reducible apply ite_ok
    | with_reducible apply ite_okO | with_reducible apply ite1_ok | with_reducible apply ite_okW | with_reducible apply OkO.next
    | with_reducible apply OkO.fault | with_reducible apply OkW.st | (intro _ _ _) | (intro _) | split
    | with_reducible apply Ok.record | dsimp only

theorem execFfxValEffect_ok {b0 : State} (r k : Nat) (s : State) (h_s : Ok b0 s) : OkO b0 (execFfxValEffect r k s) := by
  unfold execFfxValEffect
  cases (s.ffxAt r k).valPend with
  | none => exact OkO.next h_s
  | some x => exact happen_ok _ _ _ h_s (State_setFfx_ok _ _ _ _ h_s)

theorem execBiaValEffect_ok {b0 : State} (r k : Nat) (s : State) (h_s : Ok b0 s) : OkO b0 (execBiaValEffect r k s) := by
  unfold execBiaValEffect
  cases (s.biaAt r k).valPend with
  | none => exact OkO.next h_s
  | some x => exact happen_ok _ _ _ h_s (biasTake_ok _ _ _ _ (State_setBia_ok _ _ _ _ h_s))

theorem limitEffect_ok {b0 : State} (s : State) (r : Nat) (bias : Bool) (k : Nat) (h_s : Ok b0 s) : Ok b0 (limitEffect s r bias k) := by
  unfold limitEffect
  try dsimp only
  repeat' first
    | with_reducible assumption | with_reducible apply biasTake_ok | with_reducible apply State_setFfx_ok
    | with_reducible apply State_setBia_ok | with_reducible apply ite_ok | with_reducible apply ite1_ok
    | with_reducible apply ite_okW | with_reducible apply OkW.st | (intro _ _ _) | (intro _) | split
    | with_reducible apply Ok.record | dsimp only

theorem execLimitEffect_ok {b0 : State} (r : Nat) (bias : Bool) (k : Nat) (s : State) (h_s : Ok b0 s) : OkO b0 (execLimitEffect r bias k s) := by
  unfold execLimitEffect
  try dsimp only
  repeat' first
    | with_reducible assumption | with_reducible apply limitEffect_ok | with_reducible apply happen_ok
    | with_reducible apply ite_ok | with_reducible apply ite_okO | with_reducible apply ite1_ok | with_reducible apply ite_okW
    | with_reducible apply OkO.next | with_reducible apply OkO.fault | with_reducible apply OkW.st | (intro _ _ _) | (intro _)
    | split | with_reducible apply Ok.record | dsimp only

theorem predistortionEffect_ok {b0 : State} (s : State) (r k : Nat) (h_s : Ok b0 s) : Ok b0 (predistortionEffect s r k) := by
  unfold predistortionEffect
  try dsimp only
  repeat' first
    | with_reducible assumption | with_reducible apply State_setFfx_ok | with_reducible apply ite_ok
    | with_reducible apply ite1_ok | with_reducible apply ite_okW | with_reducible apply OkW.st | (intro _ _ _) | (intro _)
    | split | with_reducible apply Ok.record | dsimp only

theorem execPredistortionEffect_ok {b0 : State} (r k : Nat) (s : State) (h_s : Ok b0 s) : OkO b0 (execPredistortionEffect r k s) := by
  unfold execPredistortionEffect
  try dsimp only
  repeat' first
    | with_reducible assumption | with_reducible apply predistortionEffect_ok | with_reducible apply happen_ok
    | with_reducible apply OkO.next | with_reducible apply OkO.fault | with_reducible apply OkW.st | (intro _ _ _) | (intro _)
    | split | with_reducible apply Ok.record | dsimp only

theorem clearFluxNow_ok {b0 : State} (s : State) (h_s : Ok b0 s) : Ok b0 (clearFluxNow s) := by
  unfold clearFluxNow
  try dsimp only
  repeat' first
    | with_reducible assumption | with_reducible apply State_wr_ok | with_reducible apply State_setFfx_ok
    | with_reducible apply State_setBia_ok | with_reducible apply foldl_ok | with_reducible apply foldl1_ok
    | with_reducible apply OkW.st | (intro _ _ _) | (intro _) | with_reducible apply Ok.record | dsimp only

theorem clearOutputs_ok {b0 : State} (s : State) (r k : Nat) (h_s : Ok b0 s) : Ok b0 (clearOutputs s r k) := by
  unfold clearOutputs
  try dsimp only
  repeat' first
    | with_reducible assumption | with_reducible apply biasTake_ok | with_reducible apply State_setFfx_ok
    | with_reducible apply State_setBia_ok | with_reducible apply ite_ok | with_reducible apply ite1_ok
    | with_reducible apply ite_okW | with_reducible apply OkW.st | split | with_reducible apply Ok.record | dsimp only

theorem clearFluxNext_ok {b0 : State} (s : State) (h_s : Ok b0 s) : Ok b0 (clearFluxNext s) := by
  unfold clearFluxNext
  try dsimp only
  repeat' first
    | with_reducible assumption | with_reducible apply clearOutputs_ok | with_reducible apply foldl_ok
    | with_reducible apply ite_ok | with_reducible apply foldl1_ok | with_reducible apply ite1_ok | with_reducible apply ite_okW
    | with_reducible apply OkW.st | (intro _ _ _) | (intro _) | split | with_reducible apply Ok.record | dsimp only

theorem execClrcodeApply_ok {b0 : State} (r k : Nat) (s : State) (h_s : Ok b0 s) : OkO b0 (execClrcodeApply r k s) := by
  unfold execClrcodeApply
  cases (s.biaAt r k).clrAt with
  | none => exact OkO.next h_s
  | some x => exact happen_ok _ _ _ h_s (biasTake_ok _ _ _ _ (State_setBia_ok _ _ _ _ h_s))

end Sys2Proof.Machine
end

