-- ==== Sys2Proof/Laws/KeepMemory.lean ====
section
/-!
SUPPORT. What every operation of Machine/Memory.lean keeps (see KeepOps.lean).
-/
namespace Sys2Proof.Machine

theorem State_setMem_ok {b0 : State} (s : State) (w : Nat) (c : Codeword) (h_s : Ok b0 s) : Ok b0 (State.setMem s w c) := by
  unfold State.setMem
  try dsimp only
  repeat' first
    | with_reducible assumption | with_reducible apply OkW.st | with_reducible apply Ok.record
    | with_reducible apply Ok.record_mem | with_reducible apply Table.wf_set | with_reducible apply Table.wf_nil | dsimp only

theorem State_logError_ok {b0 : State} (s : State) (kind source rank stack region rsa : Nat) (h_s : Ok b0 s) : Ok b0 (State.logError s kind source rank stack region rsa) := by
  unfold State.logError
  try dsimp only
  repeat' first
    | with_reducible assumption | with_reducible apply State_wr_ok | with_reducible apply State_put_ok
    | with_reducible apply State_bump_ok | with_reducible apply State_put64_ok | with_reducible apply State_event_ok
    | with_reducible apply ite_ok | with_reducible apply ite1_ok | with_reducible apply ite_okW | with_reducible apply OkW.st
    | split | dsimp only

theorem clearLog_ok {b0 : State} (s : State) (h_s : Ok b0 s) : Ok b0 (clearLog s) := by
  unfold clearLog
  try dsimp only
  repeat' first
    | with_reducible assumption | with_reducible apply State_wr_ok | with_reducible apply State_put_ok
    | with_reducible apply foldl_ok | with_reducible apply foldl1_ok | with_reducible apply OkW.st | (intro _ _ _) | (intro _)
    | dsimp only

theorem clearMemStats_ok {b0 : State} (s : State) (h_s : Ok b0 s) : Ok b0 (clearMemStats s) := by
  unfold clearMemStats
  try dsimp only
  repeat' first
    | with_reducible assumption | with_reducible apply State_wr_ok | with_reducible apply foldl_ok
    | with_reducible apply foldl1_ok | with_reducible apply OkW.st | (intro _ _ _) | (intro _) | dsimp only

theorem writeMemCtrl_ok {b0 : State} (s : State) (v : Word) (h_s : Ok b0 s) : OkW b0 (writeMemCtrl s v) := by
  unfold writeMemCtrl
  try dsimp only
  repeat' first
    | with_reducible assumption | with_reducible apply clearLog_ok | with_reducible apply clearMemStats_ok
    | with_reducible apply taken_ok | with_reducible apply ite_ok | with_reducible apply ite1_ok | with_reducible apply ite_okW
    | with_reducible apply OkW.st | with_reducible apply OkW.mk | split | dsimp only

theorem State_countCe_ok {b0 : State} (s : State) (stack : Nat) (h_s : Ok b0 s) : Ok b0 (State.countCe s stack) := by
  unfold State.countCe
  try dsimp only
  repeat' first
    | with_reducible assumption | with_reducible apply State_logError_ok | with_reducible apply ite_ok
    | with_reducible apply ite1_ok | with_reducible apply ite_okW | with_reducible apply OkW.st | split
    | with_reducible apply Ok.record | dsimp only

theorem State_dropResidency_ok {b0 : State} (s : State) (w : Nat) (h_s : Ok b0 s) : Ok b0 (State.dropResidency s w) := by
  unfold State.dropResidency
  try dsimp only
  repeat' first
    | with_reducible assumption | with_reducible apply State_put_ok | with_reducible apply ite_ok | with_reducible apply ite1_ok
    | with_reducible apply ite_okW | with_reducible apply OkW.st | with_reducible apply OkW.mk | (intro _ _ _) | (intro _)
    | split | with_reducible apply Ok.record | dsimp only

theorem State_readWord_ok {b0 : State} (s : State) (w source rank : Nat) (h_s : Ok b0 s) : Ok b0 (State.readWord s w source rank).1 := by
  unfold State.readWord
  try dsimp only
  repeat' first
    | with_reducible assumption | with_reducible apply State_setMem_ok | with_reducible apply State_logError_ok
    | with_reducible apply State_countCe_ok | with_reducible apply State_dropResidency_ok | with_reducible apply State_bump_ok
    | with_reducible apply ite_ok | with_reducible apply ite1_ok | with_reducible apply ite_okW | with_reducible apply OkW.st
    | with_reducible apply OkW.mk | (intro _ _ _) | (intro _) | split | with_reducible apply Ok.record | dsimp only

theorem State_readWords_ok {a : State} (s : State) (source rank : Nat) (l : List Nat) (h_s : Ok a s) :
    Ok a (State.readWords s source rank l).1 := by
  induction l generalizing s with
  | nil => exact h_s
  | cons w l ih => exact ih _ (State_readWord_ok _ _ _ _ h_s)

theorem State_writeWord_ok {b0 : State} (s : State) (w : Nat) (d : Option (BitVec 64)) (h_s : Ok b0 s) : Ok b0 (State.writeWord s w d) := by
  unfold State.writeWord
  try dsimp only
  repeat' first
    | with_reducible assumption | with_reducible apply State_setMem_ok | with_reducible apply OkW.st
    | with_reducible apply OkW.mk | (intro _ _ _) | (intro _) | split | with_reducible apply Ok.record | dsimp only

theorem scrubRead_ok {b0 : State} (s : State) (h_s : Ok b0 s) : Ok b0 (scrubRead s) := by
  unfold scrubRead
  try dsimp only
  repeat' first
    | with_reducible assumption | with_reducible apply State_readWord_ok | with_reducible apply State_put_ok
    | with_reducible apply OkW.st | with_reducible apply Ok.record | dsimp only

theorem execScrubRead_ok {b0 : State} (s : State) (h_s : Ok b0 s) : OkO b0 (execScrubRead s) := by
  unfold execScrubRead
  try dsimp only
  repeat' first
    | with_reducible assumption | with_reducible apply scrubRead_ok | with_reducible apply happen_ok
    | with_reducible apply OkO.next | with_reducible apply OkO.fault | with_reducible apply OkW.st | dsimp only

theorem scrubPassEnd_ok {b0 : State} (s : State) (h_s : Ok b0 s) : Ok b0 (scrubPassEnd s) := by
  unfold scrubPassEnd
  try dsimp only
  repeat' first
    | with_reducible assumption | with_reducible apply State_put_ok | with_reducible apply State_bump_ok
    | with_reducible apply OkW.st | with_reducible apply Ok.record | dsimp only

theorem execScrubPassEnd_ok {b0 : State} (s : State) (h_s : Ok b0 s) : OkO b0 (execScrubPassEnd s) := by
  unfold execScrubPassEnd
  try dsimp only
  repeat' first
    | with_reducible assumption | with_reducible apply scrubPassEnd_ok | with_reducible apply happen_ok
    | with_reducible apply OkO.next | with_reducible apply OkO.fault | with_reducible apply OkW.st | dsimp only

theorem strikeHolding_ok {b0 : State} (s : State) (w : Nat) (h_s : Ok b0 s) : Ok b0 (strikeHolding s w) := by
  unfold strikeHolding
  try dsimp only
  repeat' first
    | with_reducible assumption | with_reducible apply ite_ok | with_reducible apply ite1_ok | with_reducible apply ite_okW
    | with_reducible apply OkW.st | (intro _ _ _) | (intro _) | split | with_reducible apply Ok.record | dsimp only

theorem injectError_ok {b0 : State} (s : State) (h_s : Ok b0 s) : Ok b0 (injectError s) := by
  unfold injectError
  try dsimp only
  repeat' first
    | with_reducible assumption | with_reducible apply State_setMem_ok | with_reducible apply strikeHolding_ok
    | with_reducible apply ite_ok | with_reducible apply ite1_ok | with_reducible apply ite_okW | with_reducible apply OkW.st
    | split | with_reducible apply Ok.record | dsimp only

theorem writeInject_ok {b0 : State} (s : State) (v : Word) (h_s : Ok b0 s) : OkW b0 (writeInject s v) := by
  unfold writeInject
  try dsimp only
  repeat' first
    | with_reducible assumption | with_reducible apply injectError_ok | with_reducible apply State_put_ok
    | with_reducible apply taken_ok | with_reducible apply refusedBy_ok | with_reducible apply ite_ok
    | with_reducible apply ite1_ok | with_reducible apply ite_okW | with_reducible apply OkW.st | with_reducible apply OkW.mk
    | split | dsimp only

end Sys2Proof.Machine
end

