-- ==== Sys2Proof/Laws/KeepRecords.lean ====
section
/-!
SUPPORT. What every operation of Machine/Records.lean keeps (see KeepOps.lean).
-/
namespace Sys2Proof.Machine

theorem State_setRset_ok {b0 : State} (s : State) (n : Nat) (x : RSet) (h_s : Ok b0 s) : Ok b0 (State.setRset s n x) := by
  unfold State.setRset
  try dsimp only
  repeat' first
    | with_reducible assumption | with_reducible apply OkW.st | with_reducible apply Ok.record | dsimp only

theorem dropRecord_ok {b0 : State} (s : State) (d : RecData) (h_s : Ok b0 s) : Ok b0 (dropRecord s d) := by
  unfold dropRecord
  try dsimp only
  repeat' first
    | with_reducible assumption | with_reducible apply State_bump_ok | with_reducible apply State_shotFlag_ok
    | with_reducible apply OkW.st | dsimp only

theorem fillSegment_ok {b0 : State} (s : State) (n : Nat) (x : Shot) (d : RecData) (h_s : Ok b0 s) : Ok b0 (fillSegment s n x d) := by
  unfold fillSegment
  try dsimp only
  repeat' first
    | with_reducible assumption | with_reducible apply State_writeWord_ok | with_reducible apply State_updShot_ok
    | with_reducible apply State_shotFlag_ok | with_reducible apply State_setRset_ok | with_reducible apply foldl_ok
    | with_reducible apply ite_ok | with_reducible apply foldl1_ok | with_reducible apply ite1_ok | with_reducible apply ite_okW
    | with_reducible apply OkW.st | with_reducible apply OkW.mk | (intro _ _ _) | (intro _) | split
    | with_reducible apply Ok.record | dsimp only

theorem completeRecord_ok {b0 : State} (s : State) (d : RecData) (h_s : Ok b0 s) : Ok b0 (completeRecord s d) := by
  unfold completeRecord
  try dsimp only
  repeat' first
    | with_reducible assumption | with_reducible apply dropRecord_ok | with_reducible apply fillSegment_ok
    | with_reducible apply ite_ok | with_reducible apply ite1_ok | with_reducible apply ite_okW | with_reducible apply OkW.st
    | (intro _ _ _) | (intro _) | split | with_reducible apply Ok.record | dsimp only

theorem sendPayload_ok {a : State} (s : State) (addr : Nat) (l : List (BitVec 64)) (h_s : Ok a s) :
    Ok a (sendPayload s addr l) := by
  fun_induction sendPayload s addr l with
  | case1 => exact h_s
  | case2 s addr b c d e f g h i t ih => exact ih (State_send_ok _ _ _ _ h_s)
  | case3 => exact State_send_ok _ _ _ _ h_s

theorem postRecord_ok {b0 : State} (s : State) (v : RSet) (f : Filled) (head : Nat) (data : List (BitVec 64)) (h_s : Ok b0 s) : Ok b0 (postRecord s v f head data) := by
  unfold postRecord
  try dsimp only
  repeat' first
    | with_reducible assumption | with_reducible apply State_send_ok | with_reducible apply sendPayload_ok
    | with_reducible apply OkW.st | (intro _ _ _) | (intro _) | split | with_reducible apply Ok.record | dsimp only

theorem markDelivered_ok {b0 : State} (s : State) (n : Nat) (v : RSet) (f : Filled) (words : List Codeword) (h_s : Ok b0 s) : Ok b0 (markDelivered s n v f words) := by
  unfold markDelivered
  try dsimp only
  repeat' first
    | with_reducible assumption | with_reducible apply State_updShot_ok | with_reducible apply State_shotPoison_ok
    | with_reducible apply State_setRset_ok | with_reducible apply ite_ok | with_reducible apply ite1_ok
    | with_reducible apply ite_okW | with_reducible apply OkW.st | (intro _ _ _) | (intro _) | split
    | with_reducible apply Ok.record | dsimp only

theorem payloadWords_ok {b0 : State} (s : State) (v : RSet) (f : Filled) (payload : Option (List (BitVec 64))) (h_s : Ok b0 s) : Ok b0 (payloadWords s v f payload).1 := by
  unfold payloadWords
  try dsimp only
  repeat' first
    | with_reducible assumption | with_reducible apply State_readWords_ok | with_reducible apply OkW.st
    | with_reducible apply OkW.mk | (intro _ _ _) | (intro _) | split | with_reducible apply Ok.record | dsimp only

theorem deliverRecord_ok {b0 : State} (s : State) (n : Nat) (f : Filled) (payload : Option (List (BitVec 64))) (lost : Nat) (h_s : Ok b0 s) : Ok b0 (deliverRecord s n f payload lost) := by
  unfold deliverRecord
  try dsimp only
  repeat' first
    | with_reducible assumption | with_reducible apply State_readWords_ok | with_reducible apply postRecord_ok
    | with_reducible apply markDelivered_ok | with_reducible apply payloadWords_ok | with_reducible apply OkW.st | (intro _ _ _)
    | (intro _) | dsimp only

theorem recordDelivery_ok {b0 : State} (s : State) (n : Nat) (h_s : Ok b0 s) : Ok b0 (recordDelivery s n) := by
  unfold recordDelivery
  try dsimp only
  repeat' first
    | with_reducible assumption | with_reducible apply deliverRecord_ok | with_reducible apply OkW.st | (intro _ _ _)
    | (intro _) | split | with_reducible apply Ok.record | dsimp only

theorem execRecordDelivery_ok {b0 : State} (set : Nat) (s : State) (h_s : Ok b0 s) : OkO b0 (execRecordDelivery set s) := by
  unfold execRecordDelivery
  try dsimp only
  repeat' first
    | with_reducible assumption | with_reducible apply recordDelivery_ok | with_reducible apply happen_ok
    | with_reducible apply OkO.next | with_reducible apply OkO.fault | with_reducible apply OkW.st | (intro _ _ _) | (intro _)
    | split | with_reducible apply Ok.record | dsimp only

theorem drainEnd_ok {b0 : State} (s : State) (n lost : Nat) (h_s : Ok b0 s) : Ok b0 (drainEnd s n lost) := by
  unfold drainEnd
  try dsimp only
  repeat' first
    | with_reducible assumption | with_reducible apply State_shotFlag_ok | with_reducible apply deliverRecord_ok
    | with_reducible apply ite_ok | with_reducible apply ite1_ok | with_reducible apply ite_okW | with_reducible apply OkW.st
    | (intro _ _ _) | (intro _) | split | with_reducible apply Ok.record | dsimp only

theorem execStreamThroughDrainEnd_ok {b0 : State} (set lost : Nat) (s : State) (h_s : Ok b0 s) : OkO b0 (execStreamThroughDrainEnd set lost s) := by
  unfold execStreamThroughDrainEnd
  try dsimp only
  repeat' first
    | with_reducible assumption | with_reducible apply drainEnd_ok | with_reducible apply happen_ok
    | with_reducible apply OkO.next | with_reducible apply OkO.fault | with_reducible apply OkW.st | (intro _ _ _) | (intro _)
    | split | with_reducible apply Ok.record | dsimp only

end Sys2Proof.Machine
end

