-- ==== Sys2Proof/Laws/KeepVerdict.lean ====
section
/-!
SUPPORT. What every operation of Machine/Verdict.lean keeps (see KeepOps.lean).
-/
namespace Sys2Proof.Machine

theorem State_setLane_ok {b0 : State} (s : State) (l : Nat) (x : DLane) (h_s : Ok b0 s) : Ok b0 (State.setLane s l x) := by
  unfold State.setLane
  try dsimp only
  repeat' first
    | with_reducible assumption | with_reducible apply OkW.st | with_reducible apply Ok.record | dsimp only

theorem redeclare_ok {b0 : State} (s : State) (h_s : Ok b0 s) : Ok b0 (redeclare s) := by
  unfold redeclare
  try dsimp only
  repeat' first
    | with_reducible assumption | with_reducible apply State_put_ok | with_reducible apply foldl_ok
    | with_reducible apply ite_ok | with_reducible apply foldl1_ok | with_reducible apply ite1_ok | with_reducible apply ite_okW
    | with_reducible apply OkW.st | (intro _ _ _) | (intro _) | split | dsimp only

theorem writeRoute_ok {b0 : State} (s : State) (n word : Nat) (v : Word) (h_s : Ok b0 s) : OkW b0 (writeRoute s n word v) := by
  unfold writeRoute
  try dsimp only
  repeat' first
    | with_reducible assumption | with_reducible apply State_put_ok | with_reducible apply taken_ok
    | with_reducible apply refusedBy_ok | with_reducible apply redeclare_ok | with_reducible apply ite_ok
    | with_reducible apply ite1_ok | with_reducible apply ite_okW | with_reducible apply OkW.st | with_reducible apply OkW.mk
    | split | dsimp only

theorem writeSource_ok {b0 : State} (s : State) (t : Nat) (v : Word) (h_s : Ok b0 s) : OkW b0 (writeSource s t v) := by
  unfold writeSource
  try dsimp only
  repeat' first
    | with_reducible assumption | with_reducible apply State_wr_ok | with_reducible apply taken_ok
    | with_reducible apply refusedBy_ok | with_reducible apply ite_ok | with_reducible apply ite1_ok
    | with_reducible apply ite_okW | with_reducible apply OkW.st | with_reducible apply OkW.mk | (intro _ _ _) | (intro _)
    | split | dsimp only

theorem State_reachLatches_ok {b0 : State} (s : State) (accept : Nat → Bool) (v : Nat) (outside : Bool) (h_s : Ok b0 s) : Ok b0 (State.reachLatches s accept v outside) := by
  unfold State.reachLatches
  try dsimp only
  repeat' first
    | with_reducible assumption | with_reducible apply State_shotFlag_ok | with_reducible apply capture_ok
    | with_reducible apply foldl_ok | with_reducible apply ite_ok | with_reducible apply foldl1_ok
    | with_reducible apply ite1_ok | with_reducible apply ite_okW | with_reducible apply OkW.st | (intro _ _ _) | (intro _)
    | split | with_reducible apply Ok.record | dsimp only

theorem State_deliverVerdict_ok {b0 : State} (s : State) (source v : Nat) (h_s : Ok b0 s) : Ok b0 (State.deliverVerdict s source v) := by
  unfold State.deliverVerdict
  try dsimp only
  repeat' first
    | with_reducible assumption | with_reducible apply State_bump_ok | with_reducible apply State_reachLatches_ok
    | with_reducible apply ite_ok | with_reducible apply ite1_ok | with_reducible apply ite_okW | with_reducible apply OkW.st
    | (intro _ _ _) | (intro _) | split | dsimp only

theorem State_replaceRes_ok {b0 : State} (s : State) (x : Res) (f : Option Res) (h_s : Ok b0 s) : Ok b0 (State.replaceRes s x f) := by
  unfold State.replaceRes
  try dsimp only
  repeat' first
    | with_reducible assumption | with_reducible apply ite_ok | with_reducible apply ite1_ok | with_reducible apply ite_okW
    | with_reducible apply OkW.st | (intro _ _ _) | (intro _) | split | with_reducible apply Ok.record | dsimp only

theorem onFabric_ok {b0 : State} (s : State) (x : Res) (h_s : Ok b0 s) : Ok b0 (onFabric s x) := by
  unfold onFabric
  try dsimp only
  repeat' first
    | with_reducible assumption | with_reducible apply State_put_ok | with_reducible apply State_add64_ok
    | with_reducible apply completeRecord_ok | with_reducible apply State_replaceRes_ok | with_reducible apply ite_ok
    | with_reducible apply ite1_ok | with_reducible apply ite_okW | with_reducible apply OkW.st | (intro _ _ _) | (intro _)
    | split | with_reducible apply Ok.record | dsimp only

theorem execVerdictOnFabric_ok {b0 : State} (r k : Nat) (s : State) (h_s : Ok b0 s) : OkO b0 (execVerdictOnFabric r k s) := by
  unfold execVerdictOnFabric
  try dsimp only
  repeat' first
    | with_reducible assumption | with_reducible apply onFabric_ok | with_reducible apply happen_ok
    | with_reducible apply OkO.next | with_reducible apply OkO.fault | with_reducible apply OkW.st | (intro _ _ _) | (intro _)
    | split | with_reducible apply Ok.record | dsimp only

theorem placeOnPort_ok {b0 : State} (s : State) (n slot v due hop p : Nat) (h_s : Ok b0 s) : Ok b0 (placeOnPort s n slot v due hop p).1 := by
  unfold placeOnPort
  try dsimp only
  repeat' first
    | with_reducible assumption | with_reducible apply State_bump_ok | with_reducible apply ite_ok
    | with_reducible apply ite1_ok | with_reducible apply ite_okW | with_reducible apply OkW.st | with_reducible apply OkW.mk
    | (intro _ _ _) | (intro _) | split | with_reducible apply Ok.record | dsimp only

theorem placeOnRoute_ok {b0 : State} (s : State) (n slot v due hop : Nat) (h_s : Ok b0 s) : Ok b0 (placeOnRoute s n slot v due hop).1 := by
  unfold placeOnRoute
  try dsimp only
  repeat' first
    | with_reducible assumption | with_reducible apply placeOnPort_ok | with_reducible apply foldl_ok
    | with_reducible apply foldl1_ok | with_reducible apply OkW.st | (intro _ _ _) | (intro _) | dsimp only

theorem enqueueResult_ok {b0 : State} (s : State) (x : Res) (h_s : Ok b0 s) : Ok b0 (enqueueResult s x) := by
  unfold enqueueResult
  try dsimp only
  repeat' first
    | with_reducible assumption | with_reducible apply State_bump_ok | with_reducible apply State_shotFlag_ok
    | with_reducible apply State_replaceRes_ok | with_reducible apply placeOnRoute_ok | with_reducible apply ite_ok
    | with_reducible apply ite1_ok | with_reducible apply ite_okW | with_reducible apply OkW.st | (intro _ _ _) | (intro _)
    | split | with_reducible apply Ok.record | dsimp only

theorem execRouteEnqueue_ok {b0 : State} (r k : Nat) (s : State) (h_s : Ok b0 s) : OkO b0 (execRouteEnqueue r k s) := by
  unfold execRouteEnqueue
  try dsimp only
  repeat' first
    | with_reducible assumption | with_reducible apply enqueueResult_ok | with_reducible apply happen_ok
    | with_reducible apply OkO.next | with_reducible apply OkO.fault | with_reducible apply OkW.st | (intro _ _ _) | (intro _)
    | split | with_reducible apply Ok.record | dsimp only

theorem deliverResult_ok {b0 : State} (s : State) (x : Res) (h_s : Ok b0 s) : Ok b0 (deliverResult s x) := by
  unfold deliverResult
  try dsimp only
  repeat' first
    | with_reducible assumption | with_reducible apply State_put_ok | with_reducible apply State_touch_ok
    | with_reducible apply State_deliverVerdict_ok | with_reducible apply State_replaceRes_ok | with_reducible apply OkW.st
    | dsimp only

theorem execVerdictDelivery_ok {b0 : State} (r k : Nat) (s : State) (h_s : Ok b0 s) : OkO b0 (execVerdictDelivery r k s) := by
  unfold execVerdictDelivery
  try dsimp only
  repeat' first
    | with_reducible assumption | with_reducible apply deliverResult_ok | with_reducible apply OkO.next
    | with_reducible apply OkO.fault | with_reducible apply OkW.st | (intro _ _ _) | (intro _) | split
    | with_reducible apply Ok.record | dsimp only

theorem forwardRoute_ok {b0 : State} (s : State) (n : Nat) (h_s : Ok b0 s) : Ok b0 (forwardRoute s n) := by
  unfold forwardRoute
  try dsimp only
  repeat' first
    | with_reducible assumption | with_reducible apply placeOnRoute_ok | with_reducible apply foldl_ok
    | with_reducible apply ite_ok | with_reducible apply foldl1_ok | with_reducible apply ite1_ok | with_reducible apply ite_okW
    | with_reducible apply OkW.st | (intro _ _ _) | (intro _) | split | with_reducible apply Ok.record | dsimp only

theorem execRouteForward_ok {b0 : State} (n : Nat) (s : State) (h_s : Ok b0 s) : OkO b0 (execRouteForward n s) := by
  unfold execRouteForward
  try dsimp only
  repeat' first
    | with_reducible assumption | with_reducible apply forwardRoute_ok | with_reducible apply happen_ok
    | with_reducible apply OkO.next | with_reducible apply OkO.fault | with_reducible apply OkW.st | dsimp only

theorem routedDelivery_ok {b0 : State} (s : State) (n : Nat) (h_s : Ok b0 s) : Ok b0 (routedDelivery s n) := by
  unfold routedDelivery
  try dsimp only
  repeat' first
    | with_reducible assumption | with_reducible apply State_deliverVerdict_ok | with_reducible apply foldl_ok
    | with_reducible apply ite_ok | with_reducible apply foldl1_ok | with_reducible apply ite1_ok | with_reducible apply ite_okW
    | with_reducible apply OkW.st | (intro _ _ _) | (intro _) | split | with_reducible apply Ok.record | dsimp only

theorem execRoutedDelivery_ok {b0 : State} (n : Nat) (s : State) (h_s : Ok b0 s) : OkO b0 (execRoutedDelivery n s) := by
  unfold execRoutedDelivery
  try dsimp only
  repeat' first
    | with_reducible assumption | with_reducible apply routedDelivery_ok | with_reducible apply happen_ok
    | with_reducible apply OkO.next | with_reducible apply OkO.fault | with_reducible apply OkW.st | dsimp only

theorem State_loseRoute_ok {b0 : State} (s : State) (n : Nat) (h_s : Ok b0 s) : Ok b0 (State.loseRoute s n) := by
  unfold State.loseRoute
  try dsimp only
  repeat' first
    | with_reducible assumption | with_reducible apply OkW.st | with_reducible apply Ok.record | dsimp only

theorem State_losePort_ok {b0 : State} (s : State) (p : Nat) (h_s : Ok b0 s) : Ok b0 (State.losePort s p) := by
  unfold State.losePort
  try dsimp only
  repeat' first
    | with_reducible assumption | with_reducible apply State_loseRoute_ok | with_reducible apply foldl_ok
    | with_reducible apply ite_ok | with_reducible apply foldl1_ok | with_reducible apply ite1_ok | with_reducible apply ite_okW
    | with_reducible apply OkW.st | (intro _ _ _) | (intro _) | split | dsimp only

theorem lossCapture_ok {b0 : State} (s : State) (n : Nat) (h_s : Ok b0 s) : Ok b0 (lossCapture s n) := by
  unfold lossCapture
  try dsimp only
  repeat' first
    | with_reducible assumption | with_reducible apply State_bump_ok | with_reducible apply State_bumpBy_ok
    | with_reducible apply State_reachLatches_ok | with_reducible apply OkW.st | (intro _ _ _) | (intro _)
    | with_reducible apply Ok.record | dsimp only

theorem execLossCapture_ok {b0 : State} (n : Nat) (s : State) (h_s : Ok b0 s) : OkO b0 (execLossCapture n s) := by
  unfold execLossCapture
  try dsimp only
  repeat' first
    | with_reducible assumption | with_reducible apply lossCapture_ok | with_reducible apply happen_ok
    | with_reducible apply OkO.next | with_reducible apply OkO.fault | with_reducible apply OkW.st | dsimp only

theorem refreshPort_ok {b0 : State} (s : State) (p : Nat) (h_s : Ok b0 s) : Ok b0 (refreshPort s p) := by
  unfold refreshPort
  try dsimp only
  repeat' first
    | with_reducible assumption | with_reducible apply State_put_ok | with_reducible apply State_bumpBy_ok
    | with_reducible apply State_event_ok | with_reducible apply State_losePort_ok | with_reducible apply foldl_ok
    | with_reducible apply ite_ok | with_reducible apply foldl1_ok | with_reducible apply ite1_ok | with_reducible apply ite_okW
    | with_reducible apply OkW.st | (intro _ _ _) | (intro _) | split | with_reducible apply Ok.record | dsimp only

theorem clearVrdStats_ok {b0 : State} (s : State) (h_s : Ok b0 s) : Ok b0 (clearVrdStats s) := by
  unfold clearVrdStats
  try dsimp only
  repeat' first
    | with_reducible assumption | with_reducible apply State_wr_ok | with_reducible apply State_put64_ok
    | with_reducible apply OkW.st | dsimp only

theorem writeMshCtrl_ok {b0 : State} (s : State) (v : Word) (h_s : Ok b0 s) : OkW b0 (writeMshCtrl s v) := by
  unfold writeMshCtrl
  try dsimp only
  repeat' first
    | with_reducible assumption | with_reducible apply State_wr_ok | with_reducible apply State_put_ok
    | with_reducible apply taken_ok | with_reducible apply foldl_ok | with_reducible apply ite_ok
    | with_reducible apply foldl1_ok | with_reducible apply ite1_ok | with_reducible apply ite_okW | with_reducible apply OkW.st
    | with_reducible apply OkW.mk | (intro _ _ _) | (intro _) | split | dsimp only

end Sys2Proof.Machine
end

