-- ==== Sys2Proof/Laws/KeepReadout.lean ====
section
/-!
SUPPORT. What every operation of Machine/Readout.lean keeps (see KeepOps.lean).
-/
namespace Sys2Proof.Machine

theorem State_setRwin_ok {b0 : State} (s : State) (r k : Nat) (x : RWin) (h_s : Ok b0 s) : Ok b0 (State.setRwin s r k x) := by
  unfold State.setRwin
  try dsimp only
  repeat' first
    | with_reducible assumption | with_reducible apply OkW.st | with_reducible apply Ok.record | dsimp only

theorem State_setUnit_ok {b0 : State} (s : State) (r u : Nat) (x : TraceUnit) (h_s : Ok b0 s) : Ok b0 (State.setUnit s r u x) := by
  unfold State.setUnit
  try dsimp only
  repeat' first
    | with_reducible assumption | with_reducible apply OkW.st | with_reducible apply Ok.record | dsimp only

theorem missCapture_ok {b0 : State} (s : State) (r u : Nat) (h_s : Ok b0 s) : Ok b0 (missCapture s r u) := by
  unfold missCapture
  try dsimp only
  repeat' first
    | with_reducible assumption | with_reducible apply State_bump_ok | with_reducible apply State_setUnit_ok
    | with_reducible apply OkW.st | with_reducible apply Ok.record | dsimp only

theorem armUnit_ok {b0 : State} (s : State) (c : AcqCmd) (src timeout : Nat) (h_s : Ok b0 s) : Ok b0 (armUnit s c src timeout) := by
  unfold armUnit
  try dsimp only
  repeat' first
    | with_reducible assumption | with_reducible apply State_setUnit_ok | with_reducible apply OkW.st
    | with_reducible apply Ok.record | dsimp only

theorem armCapture_ok {b0 : State} (s : State) (c : AcqCmd) (h_s : Ok b0 s) : Ok b0 (armCapture s c) := by
  unfold armCapture
  try dsimp only
  repeat' first
    | with_reducible assumption | with_reducible apply State_shotFlag_ok | with_reducible apply missCapture_ok
    | with_reducible apply armUnit_ok | with_reducible apply ite_ok | with_reducible apply ite1_ok
    | with_reducible apply ite_okW | with_reducible apply OkW.st | split | dsimp only

theorem armWindow_ok {b0 : State} (s : State) (c : AcqCmd) (h_s : Ok b0 s) : Ok b0 (armWindow s c) := by
  unfold armWindow
  try dsimp only
  repeat' first
    | with_reducible assumption | with_reducible apply State_bump_ok | with_reducible apply State_shotFlag_ok
    | with_reducible apply State_setRwin_ok | with_reducible apply missCapture_ok | with_reducible apply armUnit_ok
    | with_reducible apply ite_ok | with_reducible apply ite1_ok | with_reducible apply ite_okW | with_reducible apply OkW.st
    | split | with_reducible apply Ok.record | dsimp only

theorem resultWindowArm_ok {b0 : State} (s : State) (c : AcqCmd) (h_s : Ok b0 s) : Ok b0 (resultWindowArm s c) := by
  unfold resultWindowArm
  try dsimp only
  repeat' first
    | with_reducible assumption | with_reducible apply armCapture_ok | with_reducible apply armWindow_ok
    | with_reducible apply ite_ok | with_reducible apply ite1_ok | with_reducible apply ite_okW | with_reducible apply OkW.st
    | split | with_reducible apply Ok.record | dsimp only

theorem execResultWindowArm_ok {b0 : State} (r k : Nat) (s : State) (h_s : Ok b0 s) : OkO b0 (execResultWindowArm r k s) := by
  unfold execResultWindowArm
  try dsimp only
  repeat' first
    | with_reducible assumption | with_reducible apply resultWindowArm_ok | with_reducible apply happen_ok
    | with_reducible apply OkO.next | with_reducible apply OkO.fault | with_reducible apply OkW.st | (intro _ _ _) | (intro _)
    | split | with_reducible apply Ok.record | dsimp only

theorem triggerAll_ok {b0 : State} (s : State) (n t : Nat) (h_s : Ok b0 s) : Ok b0 (triggerAll s n t) := by
  unfold triggerAll
  try dsimp only
  repeat' first
    | with_reducible assumption | with_reducible apply foldl_ok | with_reducible apply foldl1_ok | with_reducible apply OkW.st
    | (intro _ _ _) | (intro _) | with_reducible apply Ok.record | dsimp only

theorem accumulate_ok {b0 : State} (s : State) (r k : Nat) (x : FrameOut) (h_s : Ok b0 s) : Ok b0 (accumulate s r k x) := by
  unfold accumulate
  try dsimp only
  repeat' first
    | with_reducible assumption | with_reducible apply State_bump_ok | with_reducible apply State_setRwin_ok
    | with_reducible apply ite_ok | with_reducible apply ite1_ok | with_reducible apply ite_okW | with_reducible apply OkW.st
    | (intro _ _ _) | (intro _) | split | with_reducible apply Ok.record | dsimp only

theorem flagStaleLine_ok {b0 : State} (s : State) (c : AcqCmd) (h_s : Ok b0 s) : Ok b0 (flagStaleLine s c) := by
  unfold flagStaleLine
  try dsimp only
  repeat' first
    | with_reducible assumption | with_reducible apply State_shotFlag_ok | with_reducible apply ite_ok
    | with_reducible apply ite1_ok | with_reducible apply ite_okW | with_reducible apply OkW.st | split | dsimp only

theorem openUnit_ok {b0 : State} (s : State) (r u a len : Nat) (h_s : Ok b0 s) : Ok b0 (openUnit s r u a len) := by
  unfold openUnit
  try dsimp only
  repeat' first
    | with_reducible assumption | with_reducible apply State_setUnit_ok | with_reducible apply foldl_ok
    | with_reducible apply foldl1_ok | with_reducible apply OkW.st | (intro _ _ _) | (intro _) | with_reducible apply Ok.record
    | dsimp only

theorem openWindow_ok {b0 : State} (s : State) (r k : Nat) (c : AcqCmd) (a : Nat) (h_s : Ok b0 s) : Ok b0 (openWindow s r k c a) := by
  unfold openWindow
  try dsimp only
  repeat' first
    | with_reducible assumption | with_reducible apply State_setRwin_ok | with_reducible apply accumulate_ok
    | with_reducible apply flagStaleLine_ok | with_reducible apply openUnit_ok | with_reducible apply foldl_ok
    | with_reducible apply ite_ok | with_reducible apply foldl1_ok | with_reducible apply ite1_ok | with_reducible apply ite_okW
    | with_reducible apply OkW.st | (intro _ _ _) | (intro _) | split | with_reducible apply Ok.record | dsimp only

theorem execWindowOpen_ok {b0 : State} (r k : Nat) (unit : Bool) (s : State) (h_s : Ok b0 s) : OkO b0 (execWindowOpen r k unit s) := by
  unfold execWindowOpen
  try dsimp only
  repeat' first
    | with_reducible assumption | with_reducible apply flagStaleLine_ok | with_reducible apply openUnit_ok
    | with_reducible apply openWindow_ok | with_reducible apply ite_ok | with_reducible apply ite_okO
    | with_reducible apply ite1_ok | with_reducible apply ite_okW | with_reducible apply OkO.next
    | with_reducible apply OkO.fault | with_reducible apply OkW.st | (intro _ _ _) | (intro _) | split
    | with_reducible apply Ok.record | dsimp only

theorem execForcedTrigger_ok {b0 : State} (r k : Nat) (unit : Bool) (s : State) (h_s : Ok b0 s) : OkO b0 (execForcedTrigger r k unit s) := by
  unfold execForcedTrigger
  try dsimp only
  repeat' first
    | with_reducible assumption | with_reducible apply State_bump_ok | with_reducible apply State_shotFlag_ok
    | with_reducible apply State_setRwin_ok | with_reducible apply State_setUnit_ok | with_reducible apply happen_ok
    | with_reducible apply ite_ok | with_reducible apply ite_okO | with_reducible apply ite1_ok | with_reducible apply ite_okW
    | with_reducible apply OkO.next | with_reducible apply OkO.fault | with_reducible apply OkW.st | (intro _ _ _) | (intro _)
    | split | with_reducible apply Ok.record | dsimp only

theorem integrationEnd_ok {b0 : State} (s : State) (r k : Nat) (c : AcqCmd) (a : Nat) (ue : Bool) (h_s : Ok b0 s) : Ok b0 (integrationEnd s r k c a ue) := by
  unfold integrationEnd
  try dsimp only
  repeat' first
    | with_reducible assumption | with_reducible apply State_shotPoison_ok | with_reducible apply State_setRwin_ok
    | with_reducible apply State_setUnit_ok | with_reducible apply ite_ok | with_reducible apply ite1_ok
    | with_reducible apply ite_okW | with_reducible apply OkW.st | with_reducible apply OkW.mk | split
    | with_reducible apply Ok.record | dsimp only

theorem execIntegrationEnd_ok {b0 : State} (r k : Nat) (ue : Bool) (s : State) (h_s : Ok b0 s) : OkO b0 (execIntegrationEnd r k ue s) := by
  unfold execIntegrationEnd
  try dsimp only
  repeat' first
    | with_reducible assumption | with_reducible apply integrationEnd_ok | with_reducible apply happen_ok
    | with_reducible apply OkO.next | with_reducible apply OkO.fault | with_reducible apply OkW.st | (intro _ _ _) | (intro _)
    | split | with_reducible apply Ok.record | dsimp only

theorem captureEnd_ok {b0 : State} (s : State) (r u : Nat) (c : AcqCmd) (a : Nat) (h_s : Ok b0 s) : Ok b0 (captureEnd s r u c a) := by
  unfold captureEnd
  try dsimp only
  repeat' first
    | with_reducible assumption | with_reducible apply State_setUnit_ok | with_reducible apply completeRecord_ok
    | with_reducible apply ite_ok | with_reducible apply ite1_ok | with_reducible apply ite_okW | with_reducible apply OkW.st
    | with_reducible apply OkW.mk | split | with_reducible apply Ok.record | dsimp only

theorem execCaptureEnd_ok {b0 : State} (r u : Nat) (s : State) (h_s : Ok b0 s) : OkO b0 (execCaptureEnd r u s) := by
  unfold execCaptureEnd
  try dsimp only
  repeat' first
    | with_reducible assumption | with_reducible apply captureEnd_ok | with_reducible apply happen_ok
    | with_reducible apply ite_ok | with_reducible apply ite_okO | with_reducible apply ite1_ok | with_reducible apply ite_okW
    | with_reducible apply OkO.next | with_reducible apply OkO.fault | with_reducible apply OkW.st | (intro _ _ _) | (intro _)
    | split | with_reducible apply Ok.record | dsimp only

theorem execTraceRearm_ok {b0 : State} (r u : Nat) (s : State) (h_s : Ok b0 s) : OkO b0 (execTraceRearm r u s) := by
  unfold execTraceRearm
  try dsimp only
  repeat' first
    | with_reducible assumption | with_reducible apply State_put_ok | with_reducible apply State_setUnit_ok
    | with_reducible apply happen_ok | with_reducible apply OkO.next | with_reducible apply OkO.fault
    | with_reducible apply OkW.st | with_reducible apply Ok.record | dsimp only

theorem stopWindow_ok {b0 : State} (s : State) (r k v : Nat) (p : AcqCmd → Bool) (h_s : Ok b0 s) : Ok b0 (stopWindow s r k v p) := by
  unfold stopWindow
  try dsimp only
  repeat' first
    | with_reducible assumption | with_reducible apply State_setRwin_ok | with_reducible apply ite_ok
    | with_reducible apply ite1_ok | with_reducible apply ite_okW | with_reducible apply OkW.st | with_reducible apply OkW.mk
    | (intro _ _ _) | (intro _) | split | with_reducible apply Ok.record | dsimp only

theorem stopUnit_ok {b0 : State} (s : State) (r u : Nat) (p : AcqCmd → Bool) (h_s : Ok b0 s) : Ok b0 (stopUnit s r u p) := by
  unfold stopUnit
  try dsimp only
  repeat' first
    | with_reducible assumption | with_reducible apply State_setUnit_ok | with_reducible apply ite_ok
    | with_reducible apply ite1_ok | with_reducible apply ite_okW | with_reducible apply OkW.st | (intro _ _ _) | (intro _)
    | split | with_reducible apply Ok.record | dsimp only

theorem stopAcquisition_ok {b0 : State} (s : State) (r v : Nat) (p : AcqCmd → Bool) (q : Res → Bool) (h_s : Ok b0 s) : Ok b0 (stopAcquisition s r v p q) := by
  unfold stopAcquisition
  try dsimp only
  repeat' first
    | with_reducible assumption | with_reducible apply stopWindow_ok | with_reducible apply stopUnit_ok
    | with_reducible apply foldl_ok | with_reducible apply ite_ok | with_reducible apply foldl1_ok
    | with_reducible apply ite1_ok | with_reducible apply ite_okW | with_reducible apply OkW.st | (intro _ _ _) | (intro _)
    | split | with_reducible apply Ok.record | dsimp only

theorem writeSetReg_ok {b0 : State} (s : State) (r n : Nat) (region : Bool) (addr : Nat) (mask v : Word) (h_s : Ok b0 s) : OkW b0 (writeSetReg s r n region addr mask v) := by
  unfold writeSetReg
  try dsimp only
  repeat' first
    | with_reducible assumption | with_reducible apply State_wr_ok | with_reducible apply taken_ok
    | with_reducible apply refusedBy_ok | with_reducible apply ite_ok | with_reducible apply ite1_ok
    | with_reducible apply ite_okW | with_reducible apply OkW.st | with_reducible apply OkW.mk | split | dsimp only

theorem writeWindowCfg_ok {b0 : State} (s : State) (busy : Bool) (addr : Nat) (mask v : Word) (h_s : Ok b0 s) : OkW b0 (writeWindowCfg s busy addr mask v) := by
  unfold writeWindowCfg
  try dsimp only
  repeat' first
    | with_reducible assumption | with_reducible apply State_wr_ok | with_reducible apply taken_ok
    | with_reducible apply refusedBy_ok | with_reducible apply ite_ok | with_reducible apply ite1_ok
    | with_reducible apply ite_okW | with_reducible apply OkW.st | with_reducible apply OkW.mk | split | dsimp only

theorem clearAcqStats_ok {b0 : State} (s : State) (r : Nat) (h_s : Ok b0 s) : Ok b0 (clearAcqStats s r) := by
  unfold clearAcqStats
  try dsimp only
  repeat' first
    | with_reducible assumption | with_reducible apply State_wr_ok | with_reducible apply State_put_ok
    | with_reducible apply foldl_ok | with_reducible apply foldl1_ok | with_reducible apply OkW.st | (intro _ _ _) | (intro _)
    | dsimp only

end Sys2Proof.Machine
end

