-- ==== Sys2Proof/Laws/KeepPorts.lean ====
section
/-!
SUPPORT. What every operation of Machine/Ports.lean keeps (see KeepOps.lean).
-/
namespace Sys2Proof.Machine

theorem State_beginPiece_ok {b0 : State} (s : State) (r p : Nat) (pc : Piece) (eng t : Nat) (h_s : Ok b0 s) : Ok b0 (State.beginPiece s r p pc eng t) := by
  unfold State.beginPiece
  try dsimp only
  repeat' first
    | with_reducible assumption | with_reducible apply State_setPort_ok | with_reducible apply OkW.st
    | with_reducible apply Ok.record | dsimp only

theorem State_setChannel_ok {b0 : State} (s : State) (r p : Nat) (c : PortCmd) (h_s : Ok b0 s) : Ok b0 (State.setChannel s r p c) := by
  unfold State.setChannel
  try dsimp only
  repeat' first
    | with_reducible assumption | with_reducible apply State_setPort_ok | with_reducible apply State_spoilOwn_ok
    | with_reducible apply ite_ok | with_reducible apply ite1_ok | with_reducible apply ite_okW | with_reducible apply OkW.st
    | split | with_reducible apply Ok.record | dsimp only

theorem startStreamed_ok {b0 : State} (s : State) (r p : Nat) (c : PortCmd) (t : Nat) (h_s : Ok b0 s) : Ok b0 (startStreamed s r p c t) := by
  unfold startStreamed
  try dsimp only
  repeat' first
    | with_reducible assumption | with_reducible apply State_bump_ok | with_reducible apply State_shotFlag_ok
    | with_reducible apply State_setStream_ok | with_reducible apply State_beginPiece_ok
    | with_reducible apply State_setChannel_ok | with_reducible apply ite_ok | with_reducible apply ite1_ok
    | with_reducible apply ite_okW | with_reducible apply OkW.st | (intro _ _ _) | (intro _) | split
    | with_reducible apply Ok.record | dsimp only

theorem portStart_ok {b0 : State} (s : State) (r p : Nat) (c : PortCmd) (h_s : Ok b0 s) : Ok b0 (portStart s r p c) := by
  unfold portStart
  try dsimp only
  repeat' first
    | with_reducible assumption | with_reducible apply State_setPort_ok | with_reducible apply State_beginPiece_ok
    | with_reducible apply State_setChannel_ok | with_reducible apply startStreamed_ok | with_reducible apply ite_ok
    | with_reducible apply ite1_ok | with_reducible apply ite_okW | with_reducible apply OkW.st | split
    | with_reducible apply Ok.record | dsimp only

theorem portHalt_ok {b0 : State} (s : State) (r p : Nat) (c : PortCmd) (h_s : Ok b0 s) : Ok b0 (portHalt s r p c) := by
  unfold portHalt
  try dsimp only
  repeat' first
    | with_reducible assumption | with_reducible apply State_setPort_ok | with_reducible apply State_beginPiece_ok
    | with_reducible apply ite_ok | with_reducible apply ite1_ok | with_reducible apply ite_okW | with_reducible apply OkW.st
    | split | with_reducible apply Ok.record | dsimp only

theorem portJump_ok {b0 : State} (s : State) (r p : Nat) (c : PortCmd) (h_s : Ok b0 s) : Ok b0 (portJump s r p c) := by
  unfold portJump
  try dsimp only
  repeat' first
    | with_reducible assumption | with_reducible apply State_setPort_ok | with_reducible apply OkW.st
    | with_reducible apply Ok.record | dsimp only

theorem portModify_ok {b0 : State} (s : State) (r p : Nat) (c : PortCmd) (h_s : Ok b0 s) : Ok b0 (portModify s r p c) := by
  unfold portModify
  try dsimp only
  repeat' first
    | with_reducible assumption | with_reducible apply State_setChannel_ok | with_reducible apply OkW.st | dsimp only

theorem takeCmd_ok {b0 : State} (s : State) (r p : Nat) (f : State → Nat → Nat → PortCmd → State) (h_s : Ok b0 s) (h_f : ∀ x0 x1 x2 x3, Ok b0 x0 → Ok b0 (f x0 x1 x2 x3)) : Ok b0 (takeCmd s r p f) := by
  unfold takeCmd
  try dsimp only
  repeat' first
    | with_reducible assumption | with_reducible apply h_f | with_reducible apply State_setPort_ok | with_reducible apply OkW.st
    | (intro _ _ _) | (intro _) | split | with_reducible apply Ok.record | dsimp only

theorem State_crossBoundary_ok {b0 : State} (s : State) (r p : Nat) (h_s : Ok b0 s) : Ok b0 (State.crossBoundary s r p) := by
  unfold State.crossBoundary
  try dsimp only
  repeat' first
    | with_reducible assumption | with_reducible apply State_setPort_ok | with_reducible apply State_beginPiece_ok
    | with_reducible apply State_setChannel_ok | with_reducible apply startStreamed_ok | with_reducible apply ite_ok
    | with_reducible apply ite1_ok | with_reducible apply ite_okW | with_reducible apply OkW.st | (intro _ _ _) | (intro _)
    | split | with_reducible apply Ok.record | dsimp only

theorem crossBoundaries_ok {b0 : State} (s : State) (h_s : Ok b0 s) : Ok b0 (crossBoundaries s) := by
  unfold crossBoundaries
  try dsimp only
  repeat' first
    | with_reducible assumption | with_reducible apply State_crossBoundary_ok | with_reducible apply foldl_ok
    | with_reducible apply ite_ok | with_reducible apply foldl1_ok | with_reducible apply ite1_ok | with_reducible apply ite_okW
    | with_reducible apply OkW.st | (intro _ _ _) | (intro _) | split | dsimp only

theorem execPortStart_ok {b0 : State} (r p : Nat) (s : State) (h_s : Ok b0 s) : OkO b0 (execPortStart r p s) := by
  unfold execPortStart
  try dsimp only
  repeat' first
    | with_reducible assumption | with_reducible apply portStart_ok | with_reducible apply takeCmd_ok
    | with_reducible apply happen_ok | with_reducible apply OkO.next | with_reducible apply OkO.fault
    | with_reducible apply OkW.st | dsimp only

theorem execPortJump_ok {b0 : State} (r p : Nat) (s : State) (h_s : Ok b0 s) : OkO b0 (execPortJump r p s) := by
  unfold execPortJump
  try dsimp only
  repeat' first
    | with_reducible assumption | with_reducible apply portJump_ok | with_reducible apply takeCmd_ok
    | with_reducible apply happen_ok | with_reducible apply OkO.next | with_reducible apply OkO.fault
    | with_reducible apply OkW.st | dsimp only

theorem execPortHalt_ok {b0 : State} (r p : Nat) (s : State) (h_s : Ok b0 s) : OkO b0 (execPortHalt r p s) := by
  unfold execPortHalt
  try dsimp only
  repeat' first
    | with_reducible assumption | with_reducible apply portHalt_ok | with_reducible apply takeCmd_ok
    | with_reducible apply happen_ok | with_reducible apply OkO.next | with_reducible apply OkO.fault
    | with_reducible apply OkW.st | dsimp only

theorem execPortModify_ok {b0 : State} (r p : Nat) (s : State) (h_s : Ok b0 s) : OkO b0 (execPortModify r p s) := by
  unfold execPortModify
  try dsimp only
  repeat' first
    | with_reducible assumption | with_reducible apply portModify_ok | with_reducible apply takeCmd_ok
    | with_reducible apply happen_ok | with_reducible apply OkO.next | with_reducible apply OkO.fault
    | with_reducible apply OkW.st | dsimp only

theorem execSegmentCommit_ok {b0 : State} (r p : Nat) (s : State) (h_s : Ok b0 s) : OkO b0 (execSegmentCommit r p s) := by
  unfold execSegmentCommit
  try dsimp only
  repeat' first
    | with_reducible assumption | with_reducible apply State_setPort_ok | with_reducible apply happen_ok
    | with_reducible apply OkO.next | with_reducible apply OkO.fault | with_reducible apply OkW.st | dsimp only

theorem State_initChannel_ok {b0 : State} (s : State) (r p : Nat) (h_s : Ok b0 s) : Ok b0 (State.initChannel s r p) := by
  unfold State.initChannel
  try dsimp only
  repeat' first
    | with_reducible assumption | with_reducible apply State_setPort_ok | with_reducible apply State_spoilOwn_ok
    | with_reducible apply State_changeSlot_ok | with_reducible apply ite_ok | with_reducible apply ite1_ok
    | with_reducible apply ite_okW | with_reducible apply OkW.st | split | with_reducible apply Ok.record | dsimp only

theorem State_startPort_ok {b0 : State} (s : State) (r p uid : Nat) (h_s : Ok b0 s) : Ok b0 (State.startPort s r p uid) := by
  unfold State.startPort
  try dsimp only
  repeat' first
    | with_reducible assumption | with_reducible apply State_setPort_ok | with_reducible apply State_beginPiece_ok
    | with_reducible apply State_initChannel_ok | with_reducible apply ite_ok | with_reducible apply ite1_ok
    | with_reducible apply ite_okW | with_reducible apply OkW.st | split | with_reducible apply Ok.record | dsimp only

theorem initChannels_ok {b0 : State} (s : State) (h_s : Ok b0 s) : Ok b0 (initChannels s) := by
  unfold initChannels
  try dsimp only
  repeat' first
    | with_reducible assumption | with_reducible apply State_initChannel_ok | with_reducible apply foldl_ok
    | with_reducible apply ite_ok | with_reducible apply foldl1_ok | with_reducible apply ite1_ok | with_reducible apply ite_okW
    | with_reducible apply OkW.st | (intro _ _ _) | (intro _) | split | with_reducible apply Ok.record | dsimp only

theorem applyFrame_ok {b0 : State} (s : State) (f : FrameEntry) (h_s : Ok b0 s) : Ok b0 (applyFrame s f) := by
  unfold applyFrame
  try dsimp only
  repeat' first
    | with_reducible assumption | with_reducible apply State_changeSlot_ok | with_reducible apply ite_ok
    | with_reducible apply ite1_ok | with_reducible apply ite_okW | with_reducible apply OkW.st | with_reducible apply OkW.mk
    | split | with_reducible apply Ok.record | dsimp only

theorem applyFrames_ok {b0 : State} (s : State) (h_s : Ok b0 s) : Ok b0 (applyFrames s) := by
  unfold applyFrames
  try dsimp only
  repeat' first
    | with_reducible assumption | with_reducible apply applyFrame_ok | with_reducible apply foldl_ok
    | with_reducible apply foldl1_ok | with_reducible apply OkW.st | (intro _ _ _) | (intro _) | with_reducible apply Ok.record
    | dsimp only

theorem State_edge_ok {b0 : State} (s : State) (r k ball : Nat) (level : Bool) (eng : Nat) (h_s : Ok b0 s) : Ok b0 (State.edge s r k ball level eng) := by
  unfold State.edge
  try dsimp only
  repeat' first
    | with_reducible assumption | with_reducible apply OkW.st | with_reducible apply OkW.mk | with_reducible apply Ok.record
    | dsimp only

theorem State_dropMark_ok {b0 : State} (s : State) (r k : Nat) (p : Nat → Bool) (h_s : Ok b0 s) : Ok b0 (State.dropMark s r k p) := by
  unfold State.dropMark
  try dsimp only
  repeat' first
    | with_reducible assumption | with_reducible apply State_edge_ok | with_reducible apply ite_ok
    | with_reducible apply ite1_ok | with_reducible apply ite_okW | with_reducible apply OkW.st | (intro _ _ _) | (intro _)
    | split | with_reducible apply Ok.record | dsimp only

theorem writeSkew_ok {b0 : State} (s : State) (r k : Nat) (v : Word) (h_s : Ok b0 s) : OkW b0 (writeSkew s r k v) := by
  unfold writeSkew
  try dsimp only
  repeat' first
    | with_reducible assumption | with_reducible apply State_put_ok | with_reducible apply taken_ok
    | with_reducible apply refusedBy_ok | with_reducible apply ite_ok | with_reducible apply ite1_ok
    | with_reducible apply ite_okW | with_reducible apply OkW.st | with_reducible apply OkW.mk | (intro _ _ _) | (intro _)
    | split | dsimp only

theorem State_contend_ok {b0 : State} (s : State) (r e ball target : Nat) (h_s : Ok b0 s) : Ok b0 (State.contend s r e ball target).1 := by
  unfold State.contend
  try dsimp only
  repeat' first
    | with_reducible assumption | with_reducible apply State_bump_ok | with_reducible apply ite_ok
    | with_reducible apply ite1_ok | with_reducible apply ite_okW | with_reducible apply OkW.st | (intro _ _ _) | (intro _)
    | split | with_reducible apply Ok.record | dsimp only

theorem issuePort_ok {b0 : State} (q : Issuer) (base c : Nat) (s : State) (h_s : Ok b0 s) : Ok b0 (issuePort q base c s) := by
  unfold issuePort
  try dsimp only
  repeat' first
    | with_reducible assumption | with_reducible apply State_guardPort_ok | with_reducible apply State_setPort_ok
    | with_reducible apply State_contend_ok | with_reducible apply ite_ok | with_reducible apply ite1_ok
    | with_reducible apply ite_okW | with_reducible apply OkW.st | split | with_reducible apply Ok.record | dsimp only

theorem issueAcq_ok {b0 : State} (q : Issuer) (c : Nat) (s : State) (h_s : Ok b0 s) : Ok b0 (issueAcq q c s) := by
  unfold issueAcq
  try dsimp only
  repeat' first
    | with_reducible assumption | with_reducible apply State_guardPort_ok | with_reducible apply State_contend_ok
    | with_reducible apply ite_ok | with_reducible apply ite1_ok | with_reducible apply ite_okW | with_reducible apply OkW.st
    | split | with_reducible apply Ok.record | dsimp only

theorem issueBias_ok {b0 : State} (q : Issuer) (n j : Nat) (s : State) (h_s : Ok b0 s) : Ok b0 (issueBias q n j s) := by
  unfold issueBias
  try dsimp only
  repeat' first
    | with_reducible assumption | with_reducible apply biasSetting_ok | with_reducible apply State_touch_ok
    | with_reducible apply State_guardPort_ok | with_reducible apply State_contend_ok | with_reducible apply ite_ok
    | with_reducible apply ite1_ok | with_reducible apply ite_okW | with_reducible apply OkW.st | (intro _ _ _) | (intro _)
    | split | dsimp only

theorem issueFrame_ok {b0 : State} (q : Issuer) (c : Nat) (s : State) (h_s : Ok b0 s) : Ok b0 (issueFrame q c s) := by
  unfold issueFrame
  try dsimp only
  repeat' first
    | with_reducible assumption | with_reducible apply State_guardPort_ok | with_reducible apply applyFrame_ok
    | with_reducible apply State_contend_ok | with_reducible apply ite_ok | with_reducible apply ite1_ok
    | with_reducible apply ite_okW | with_reducible apply OkW.st | with_reducible apply OkW.mk | split
    | with_reducible apply Ok.record | dsimp only

theorem issueMark_ok {b0 : State} (q : Issuer) (n : Nat) (s : State) (h_s : Ok b0 s) : Ok b0 (issueMark q n s) := by
  unfold issueMark
  try dsimp only
  repeat' first
    | with_reducible assumption | with_reducible apply State_touch_ok | with_reducible apply State_guardPort_ok
    | with_reducible apply State_edge_ok | with_reducible apply State_contend_ok | with_reducible apply foldl_ok
    | with_reducible apply ite_ok | with_reducible apply foldl1_ok | with_reducible apply ite1_ok | with_reducible apply ite_okW
    | with_reducible apply OkW.st | (intro _ _ _) | (intro _) | split | dsimp only

theorem applyNano_ok {b0 : State} (q : Issuer) (n : Nat) (s : State) (h_s : Ok b0 s) : Ok b0 (applyNano q n s) := by
  unfold applyNano
  try dsimp only
  repeat' first
    | with_reducible assumption | with_reducible apply issuePort_ok | with_reducible apply issueAcq_ok
    | with_reducible apply issueBias_ok | with_reducible apply issueFrame_ok | with_reducible apply issueMark_ok
    | with_reducible apply foldl_ok | with_reducible apply ite_ok | with_reducible apply foldl1_ok
    | with_reducible apply ite1_ok | with_reducible apply ite_okW | with_reducible apply OkW.st | (intro _ _ _) | (intro _)
    | split | with_reducible apply Ok.record | dsimp only

theorem nanowordApply_ok {b0 : State} (s : State) (r e : Nat) (h_s : Ok b0 s) : Ok b0 (nanowordApply s r e) := by
  unfold nanowordApply
  try dsimp only
  repeat' first
    | with_reducible assumption | with_reducible apply State_setEngine_ok | with_reducible apply applyNano_ok
    | with_reducible apply OkW.st | with_reducible apply OkW.mk | (intro _ _ _) | (intro _) | split
    | with_reducible apply Ok.record | dsimp only

theorem execNanowordApply_ok {b0 : State} (r e : Nat) (s : State) (h_s : Ok b0 s) : OkO b0 (execNanowordApply r e s) := by
  unfold execNanowordApply
  try dsimp only
  repeat' first
    | with_reducible assumption | with_reducible apply nanowordApply_ok | with_reducible apply happen_ok
    | with_reducible apply OkO.next | with_reducible apply OkO.fault | with_reducible apply OkW.st | (intro _ _ _) | (intro _)
    | split | with_reducible apply Ok.record | dsimp only

theorem stopPort_ok {b0 : State} (s : State) (r p uid : Nat) (who : Nat → Bool) (h_s : Ok b0 s) : Ok b0 (stopPort s r p uid who) := by
  unfold stopPort
  try dsimp only
  repeat' first
    | with_reducible assumption | with_reducible apply State_dropSamples_ok | with_reducible apply State_setPort_ok
    | with_reducible apply State_beginPiece_ok | with_reducible apply ite_ok | with_reducible apply ite1_ok
    | with_reducible apply ite_okW | with_reducible apply OkW.st | (intro _ _ _) | (intro _) | split
    | with_reducible apply Ok.record | dsimp only

theorem stopEngines_ok {b0 : State} (s : State) (uid r v : Nat) (who : Nat → Bool) (h_s : Ok b0 s) : Ok b0 (stopEngines s uid r v who) := by
  unfold stopEngines
  try dsimp only
  repeat' first
    | with_reducible assumption | with_reducible apply State_setEngine_ok | with_reducible apply State_dropMark_ok
    | with_reducible apply stopPort_ok | with_reducible apply stopAcquisition_ok | with_reducible apply foldl_ok
    | with_reducible apply ite_ok | with_reducible apply foldl1_ok | with_reducible apply ite1_ok | with_reducible apply ite_okW
    | with_reducible apply OkW.st | (intro _ _ _) | (intro _) | split | with_reducible apply Ok.record | dsimp only

theorem stopShot_ok {b0 : State} (s : State) (x : Shot) (v : Nat) (h_s : Ok b0 s) : Ok b0 (stopShot s x v) := by
  unfold stopShot
  try dsimp only
  repeat' first
    | with_reducible assumption | with_reducible apply stopEngines_ok | with_reducible apply foldl_ok
    | with_reducible apply foldl1_ok | with_reducible apply OkW.st | (intro _ _ _) | (intro _) | dsimp only

theorem drainEngine_ok {b0 : State} (s : State) (r e : Nat) (h_s : Ok b0 s) : Ok b0 (drainEngine s r e) := by
  unfold drainEngine
  try dsimp only
  repeat' first
    | with_reducible assumption | with_reducible apply State_setPort_ok | with_reducible apply State_setEngine_ok
    | with_reducible apply State_dropMark_ok | with_reducible apply foldl_ok | with_reducible apply ite_ok
    | with_reducible apply foldl1_ok | with_reducible apply ite1_ok | with_reducible apply ite_okW | with_reducible apply OkW.st
    | (intro _ _ _) | (intro _) | split | with_reducible apply Ok.record | dsimp only

theorem faultEngine_ok {b0 : State} (s : State) (r e code pc : Nat) (h_s : Ok b0 s) : Ok b0 (faultEngine s r e code pc) := by
  unfold faultEngine
  try dsimp only
  repeat' first
    | with_reducible assumption | with_reducible apply State_put_ok | with_reducible apply State_shotFlag_ok
    | with_reducible apply stopEngines_ok | with_reducible apply ite_ok | with_reducible apply ite1_ok
    | with_reducible apply ite_okW | with_reducible apply OkW.st | (intro _ _ _) | (intro _) | split | dsimp only

theorem quietPoint_ok {b0 : State} (s : State) (r uid : Nat) (h_s : Ok b0 s) : Ok b0 (quietPoint s r uid) := by
  unfold quietPoint
  try dsimp only
  repeat' first
    | with_reducible assumption | with_reducible apply State_setFfx_ok | with_reducible apply State_setBia_ok
    | with_reducible apply foldl_ok | with_reducible apply ite_ok | with_reducible apply foldl1_ok
    | with_reducible apply ite1_ok | with_reducible apply ite_okW | with_reducible apply OkW.st | (intro _ _ _) | (intro _)
    | split | with_reducible apply Ok.record | dsimp only

theorem engineBall_ok {b0 : State} (s : State) (r e : Nat) (h_s : Ok b0 s) : Ok b0 (engineBall s r e) := by
  unfold engineBall
  try dsimp only
  repeat' first
    | with_reducible assumption | with_reducible apply State_setEngine_ok | with_reducible apply stopEngines_ok
    | with_reducible apply drainEngine_ok | with_reducible apply faultEngine_ok | with_reducible apply quietPoint_ok
    | with_reducible apply ite_ok | with_reducible apply ite1_ok | with_reducible apply ite_okW | with_reducible apply OkW.st
    | (intro _ _ _) | (intro _) | split | with_reducible apply Ok.record | dsimp only

theorem engineBalls_ok {b0 : State} (s : State) (h_s : Ok b0 s) : Ok b0 (engineBalls s) := by
  unfold engineBalls
  try dsimp only
  repeat' first
    | with_reducible assumption | with_reducible apply State_setEngine_ok | with_reducible apply engineBall_ok
    | with_reducible apply foldl_ok | with_reducible apply ite_ok | with_reducible apply foldl1_ok
    | with_reducible apply ite1_ok | with_reducible apply ite_okW | with_reducible apply OkW.st | (intro _ _ _) | (intro _)
    | split | dsimp only

end Sys2Proof.Machine
end

