-- ==== Sys2Proof/Laws/KeepGambit.lean ====
section
/-!
SUPPORT. What every operation of Machine/Gambit.lean keeps (see KeepOps.lean).
-/
namespace Sys2Proof.Machine

theorem notePeak_ok {b0 : State} (s : State) (r : Nat) (h_s : Ok b0 s) : Ok b0 (notePeak s r) := by
  unfold notePeak
  try dsimp only
  repeat' first
    | with_reducible assumption | with_reducible apply State_put_ok | with_reducible apply ite_ok | with_reducible apply ite1_ok
    | with_reducible apply ite_okW | with_reducible apply OkW.st | split | dsimp only

theorem armOnLost_ok {b0 : State} (s : State) (r e k : Nat) (since : Nat) (h_s : Ok b0 s) : Ok b0 (armOnLost s r e k since) := by
  unfold armOnLost
  try dsimp only
  repeat' first
    | with_reducible assumption | with_reducible apply State_bump_ok | with_reducible apply State_shotFlag_ok
    | with_reducible apply State_setEngine_ok | with_reducible apply ite_ok | with_reducible apply ite1_ok
    | with_reducible apply ite_okW | with_reducible apply OkW.st | split | with_reducible apply Ok.record | dsimp only

theorem varmWord_ok {b0 : State} (s : State) (r e : Nat) (h_s : Ok b0 s) : Ok b0 (varmWord s r e) := by
  unfold varmWord
  try dsimp only
  repeat' first
    | with_reducible assumption | with_reducible apply issueWith_ok | with_reducible apply notePeak_ok
    | with_reducible apply armOnLost_ok | with_reducible apply State_guardPort_ok | with_reducible apply ite_ok
    | with_reducible apply ite1_ok | with_reducible apply ite_okW | with_reducible apply OkW.st | (intro _ _ _) | (intro _)
    | split | dsimp only

theorem execVarm_ok {b0 : State} (r e : Nat) (s : State) (h_s : Ok b0 s) : OkO b0 (execVarm r e s) := by
  unfold execVarm
  try dsimp only
  repeat' first
    | with_reducible assumption | with_reducible apply varmWord_ok | with_reducible apply happen_ok
    | with_reducible apply OkO.next | with_reducible apply OkO.fault | with_reducible apply OkW.st | dsimp only

theorem execStagingComplete_ok {b0 : State} (r e latch : Nat) (s : State) (h_s : Ok b0 s) : OkO b0 (execStagingComplete r e latch s) := by
  unfold execStagingComplete
  try dsimp only
  repeat' first
    | with_reducible assumption | with_reducible apply State_setEngine_ok | with_reducible apply happen_ok
    | with_reducible apply OkO.next | with_reducible apply OkO.fault | with_reducible apply OkW.st
    | with_reducible apply Ok.record | dsimp only

theorem writeSave_ok {b0 : State} (s : State) (r e : Nat) (ws : List (BitVec 64)) (h_s : Ok b0 s) : Ok b0 (writeSave s r e ws) := by
  unfold writeSave
  try dsimp only
  repeat' first
    | with_reducible assumption | with_reducible apply State_writeWord_ok | with_reducible apply State_put64_ok
    | with_reducible apply foldl_ok | with_reducible apply foldl1_ok | with_reducible apply OkW.st | (intro _ _ _) | (intro _)
    | dsimp only

theorem trapEngine_ok {b0 : State} (s : State) (r e uid cause : Nat) (h_s : Ok b0 s) : Ok b0 (trapEngine s r e uid cause) := by
  unfold trapEngine
  try dsimp only
  repeat' first
    | with_reducible assumption | with_reducible apply writeSave_ok | with_reducible apply State_put_ok
    | with_reducible apply State_bump_ok | with_reducible apply State_shotFlag_ok | with_reducible apply OkW.st | dsimp only

theorem failRank_ok {b0 : State} (s : State) (uid r : Nat) (h_s : Ok b0 s) : Ok b0 (failRank s uid r) := by
  unfold failRank
  try dsimp only
  repeat' first
    | with_reducible assumption | with_reducible apply State_updShot_ok | with_reducible apply State_shotFlag_ok
    | with_reducible apply State_shotStatus_ok | with_reducible apply stopEngines_ok | with_reducible apply ite_ok
    | with_reducible apply ite1_ok | with_reducible apply ite_okW | with_reducible apply OkW.st | (intro _ _ _) | (intro _)
    | split | with_reducible apply Ok.record | dsimp only

theorem microTrap_ok {b0 : State} (s : State) (r e : Nat) (nano : Bool) (addr due : Nat) (h_s : Ok b0 s) : Ok b0 (microTrap s r e nano addr due) := by
  unfold microTrap
  try dsimp only
  repeat' first
    | with_reducible assumption | with_reducible apply trapEngine_ok | with_reducible apply State_logError_ok
    | with_reducible apply State_bump_ok | with_reducible apply State_setEngine_ok | with_reducible apply ite_ok
    | with_reducible apply ite1_ok | with_reducible apply ite_okW | with_reducible apply OkW.st | with_reducible apply OkW.mk
    | split | with_reducible apply Ok.record | with_reducible apply Ok.record_micro | with_reducible apply Ok.record_nano
    | with_reducible apply Table.wf_set | with_reducible apply Table.wf_nil | dsimp only

theorem execMicroTrap_ok {b0 : State} (r e : Nat) (nano : Bool) (addr due : Nat) (s : State) (h_s : Ok b0 s) : OkO b0 (execMicroTrap r e nano addr due s) := by
  unfold execMicroTrap
  try dsimp only
  repeat' first
    | with_reducible assumption | with_reducible apply microTrap_ok | with_reducible apply happen_ok
    | with_reducible apply ite_ok | with_reducible apply ite_okO | with_reducible apply ite1_ok | with_reducible apply ite_okW
    | with_reducible apply OkO.next | with_reducible apply OkO.fault | with_reducible apply OkW.st | split | dsimp only

theorem restoreWord_ok {b0 : State} (s : State) (r e : Nat) (t : Trap) (ws : List Codeword) (h_s : Ok b0 s) : Ok b0 (restoreWord s r e t ws) := by
  unfold restoreWord
  try dsimp only
  repeat' first
    | with_reducible assumption | with_reducible apply ite_ok | with_reducible apply ite1_ok | with_reducible apply ite_okW
    | with_reducible apply OkW.st | with_reducible apply OkW.mk | split | with_reducible apply Ok.record
    | with_reducible apply Ok.record_micro | with_reducible apply Ok.record_nano | with_reducible apply Table.wf_set
    | with_reducible apply Table.wf_nil | dsimp only

theorem trapRetryEnd_ok {b0 : State} (s : State) (r e : Nat) (t : Trap) (h_s : Ok b0 s) : Ok b0 (trapRetryEnd s r e t) := by
  unfold trapRetryEnd
  try dsimp only
  repeat' first
    | with_reducible assumption | with_reducible apply failRank_ok | with_reducible apply restoreWord_ok
    | with_reducible apply State_readWords_ok | with_reducible apply State_setEngine_ok | with_reducible apply ite_ok
    | with_reducible apply ite1_ok | with_reducible apply ite_okW | with_reducible apply OkW.st | (intro _ _ _) | (intro _)
    | split | with_reducible apply Ok.record | dsimp only

theorem execTrapRetryEnd_ok {b0 : State} (r e : Nat) (s : State) (h_s : Ok b0 s) : OkO b0 (execTrapRetryEnd r e s) := by
  unfold execTrapRetryEnd
  try dsimp only
  repeat' first
    | with_reducible assumption | with_reducible apply trapRetryEnd_ok | with_reducible apply OkO.next
    | with_reducible apply OkO.fault | with_reducible apply OkW.st | (intro _ _ _) | (intro _) | split
    | with_reducible apply Ok.record | dsimp only

theorem streamMissing_ok {b0 : State} (s : State) (r n : Nat) (w : StreamWin) (h_s : Ok b0 s) : Ok b0 (streamMissing s r n w) := by
  unfold streamMissing
  try dsimp only
  repeat' first
    | with_reducible assumption | with_reducible apply trapEngine_ok | with_reducible apply State_bump_ok
    | with_reducible apply State_setStream_ok | with_reducible apply State_setEngine_ok | with_reducible apply OkW.st
    | with_reducible apply OkW.mk | with_reducible apply Ok.record | dsimp only

theorem execStreamMissing_ok {b0 : State} (r n : Nat) (s : State) (h_s : Ok b0 s) : OkO b0 (execStreamMissing r n s) := by
  unfold execStreamMissing
  try dsimp only
  repeat' first
    | with_reducible assumption | with_reducible apply streamMissing_ok | with_reducible apply happen_ok
    | with_reducible apply OkO.next | with_reducible apply OkO.fault | with_reducible apply OkW.st | (intro _ _ _) | (intro _)
    | split | with_reducible apply Ok.record | dsimp only

theorem cacheRewrite_ok {b0 : State} (s : State) (r w : Nat) (h_s : Ok b0 s) : Ok b0 (cacheRewrite s r w) := by
  unfold cacheRewrite
  try dsimp only
  repeat' first
    | with_reducible assumption | with_reducible apply State_readWord_ok | with_reducible apply foldl_ok
    | with_reducible apply ite_ok | with_reducible apply elim_ok | with_reducible apply foldl1_ok | with_reducible apply ite1_ok
    | with_reducible apply ite_okW | with_reducible apply OkW.st | with_reducible apply OkW.mk | (intro _ _ _) | (intro _)
    | split | with_reducible apply Ok.record | with_reducible apply Ok.record_mem | with_reducible apply Ok.record_micro
    | with_reducible apply Ok.record_nano | with_reducible apply Ok.record_cache | with_reducible apply Table.wf_set
    | with_reducible apply Table.wf_nil | dsimp only

theorem execCacheRewrite_ok {b0 : State} (r word : Nat) (s : State) (h_s : Ok b0 s) : OkO b0 (execCacheRewrite r word s) := by
  unfold execCacheRewrite
  try dsimp only
  repeat' first
    | with_reducible assumption | with_reducible apply cacheRewrite_ok | with_reducible apply happen_ok
    | with_reducible apply OkO.next | with_reducible apply OkO.fault | with_reducible apply OkW.st | dsimp only

theorem writeSeCfg_ok {b0 : State} (s : State) (r e : Nat) (loading : Bool) (v : Word) (h_s : Ok b0 s) : OkW b0 (writeSeCfg s r e loading v) := by
  unfold writeSeCfg
  try dsimp only
  repeat' first
    | with_reducible assumption | with_reducible apply State_put_ok | with_reducible apply taken_ok
    | with_reducible apply refusedBy_ok | with_reducible apply ite_ok | with_reducible apply ite1_ok
    | with_reducible apply ite_okW | with_reducible apply OkW.st | with_reducible apply OkW.mk | (intro _ _ _) | (intro _)
    | split | dsimp only

theorem clearSeStats_ok {b0 : State} (s : State) (r : Nat) (h_s : Ok b0 s) : Ok b0 (clearSeStats s r) := by
  unfold clearSeStats
  try dsimp only
  repeat' first
    | with_reducible assumption | with_reducible apply State_wr_ok | with_reducible apply State_put_ok
    | with_reducible apply foldl_ok | with_reducible apply foldl1_ok | with_reducible apply OkW.st | (intro _ _ _) | (intro _)
    | dsimp only

end Sys2Proof.Machine
end

