-- ==== Sys2Proof/Laws/KeepTransitions.lean ====
section
/-!
SUPPORT. What every operation of Machine/Transitions.lean keeps (see KeepOps.lean).
-/
namespace Sys2Proof.Machine

/-- A change of the mode keeps the rest; TRIPPED is entered from any mode and left for none. -/
theorem State_enter_any {b0 : State} (s : State) (m : Mode) (row : Nat) (h_s : Ok b0 s)
    (h_b : b0.mode = .tripped → m = .tripped) : Ok b0 (State.enter s m row) := by
  unfold State.enter
  extract_lets s1 s2
  have h1 : Ok b0 s1 := State_put_ok _ _ _ (State_put_ok _ _ _ (State_put_ok _ _ _ (State_bumpWrap_ok _ _ (State_put_ok _ _ _ h_s))))
  have h2 : Ok b0 s2 := ite_ok (State_put_ok _ _ _ (State_put_ok _ _ _ h1)) h1
  refine State_event_ok _ _ ?_
  exact ⟨⟨h2.pending, h2.part, h2.ref10M, h2.serial, h2.now, fun c => let d := h2.canon c; ⟨d.regs, d.mem, d.micro, d.nano, d.cache⟩⟩,
    h2.epoch, h2.calRaw, h_b⟩

theorem State_enter_ok {b0 : State} (s : State) (m : Mode) (row : Nat) (h_s : Ok b0 s) (h_b : b0.mode ≠ .tripped) :
    Ok b0 (State.enter s m row) := State_enter_any s m row h_s fun i => absurd i h_b

theorem leaveHold_ok {b0 : State} (s : State) (row : Nat) (h_s : Ok b0 s) : Ok b0 (leaveHold s row) := by
  unfold leaveHold
  try dsimp only
  repeat' first
    | with_reducible assumption | with_reducible apply State_enter_ok | with_reducible apply ite_okh
    | with_reducible apply ite1_ok | with_reducible apply ite_okW | with_reducible apply OkW.st
    | exact Ok.away ‹State.mode _ = _› (by assumption) (by decide)
    | exact Ok.away (And.left ‹State.mode _ = _ ∧ _›) (by assumption) (by decide) | (intro _ _ _) | (intro _) | split
    | dsimp only

theorem shotBegins_ok {b0 : State} (s : State) (h_s : Ok b0 s) : Ok b0 (shotBegins s) := by
  unfold shotBegins
  try dsimp only
  repeat' first
    | with_reducible assumption | with_reducible apply State_enter_ok | with_reducible apply ite_okh
    | with_reducible apply ite1_ok | with_reducible apply ite_okW | with_reducible apply OkW.st
    | exact Ok.away ‹State.mode _ = _› (by assumption) (by decide)
    | exact Ok.away (And.left ‹State.mode _ = _ ∧ _›) (by assumption) (by decide) | (intro _ _ _) | (intro _) | split
    | dsimp only

theorem shotsEnd_ok {b0 : State} (s : State) (h_s : Ok b0 s) : Ok b0 (shotsEnd s) := by
  unfold shotsEnd
  try dsimp only
  repeat' first
    | with_reducible assumption | with_reducible apply State_enter_ok | with_reducible apply ite_okh
    | with_reducible apply ite1_ok | with_reducible apply ite_okW | with_reducible apply OkW.st
    | exact Ok.away ‹State.mode _ = _› (by assumption) (by decide)
    | exact Ok.away (And.left ‹State.mode _ = _ ∧ _›) (by assumption) (by decide) | (intro _ _ _) | (intro _) | split
    | with_reducible apply Ok.record | dsimp only

theorem freeShot_ok {b0 : State} (s : State) (x : Shot) (flow : Bool) (h_s : Ok b0 s) : Ok b0 (freeShot s x flow) := by
  unfold freeShot
  try dsimp only
  repeat' first
    | with_reducible assumption | with_reducible apply State_updShot_ok | with_reducible apply State_setPort_ok
    | with_reducible apply foldl_ok | with_reducible apply ite_ok | with_reducible apply foldl1_ok
    | with_reducible apply ite1_ok | with_reducible apply ite_okW | with_reducible apply OkW.st | (intro _ _ _) | (intro _)
    | split | with_reducible apply Ok.record | dsimp only

theorem cancelShot_ok {b0 : State} (s : State) (x : Shot) (status : Nat) (h_s : Ok b0 s) : Ok b0 (cancelShot s x status) := by
  unfold cancelShot
  try dsimp only
  repeat' first
    | with_reducible assumption | with_reducible apply State_updShot_ok | with_reducible apply State_shotStatus_ok
    | with_reducible apply State_setEngine_ok | with_reducible apply freeShot_ok | with_reducible apply foldl_ok
    | with_reducible apply ite_ok | with_reducible apply foldl1_ok | with_reducible apply ite1_ok | with_reducible apply ite_okW
    | with_reducible apply OkW.st | (intro _ _ _) | (intro _) | split | with_reducible apply Ok.record | dsimp only

theorem cancelAdmitted_ok {b0 : State} (s : State) (status : Nat) (h_s : Ok b0 s) : Ok b0 (cancelAdmitted s status) := by
  unfold cancelAdmitted
  try dsimp only
  repeat' first
    | with_reducible assumption | with_reducible apply cancelShot_ok | with_reducible apply foldl_ok
    | with_reducible apply foldl1_ok | with_reducible apply OkW.st | (intro _ _ _) | (intro _) | dsimp only

theorem abortShot_ok {b0 : State} (s : State) (x : Shot) (status : Nat) (h_s : Ok b0 s) : Ok b0 (abortShot s x status) := by
  unfold abortShot
  try dsimp only
  repeat' first
    | with_reducible assumption | with_reducible apply State_updShot_ok | with_reducible apply State_shotStatus_ok
    | with_reducible apply stopShot_ok | with_reducible apply freeShot_ok | with_reducible apply OkW.st | (intro _ _ _)
    | (intro _) | with_reducible apply Ok.record | dsimp only

theorem abortAll_ok {b0 : State} (s : State) (status : Nat) (h_s : Ok b0 s) : Ok b0 (abortAll s status) := by
  unfold abortAll
  try dsimp only
  repeat' first
    | with_reducible assumption | with_reducible apply cancelShot_ok | with_reducible apply abortShot_ok
    | with_reducible apply foldl_ok | with_reducible apply foldl1_ok | with_reducible apply OkW.st | (intro _ _ _) | (intro _)
    | split | with_reducible apply Ok.record | dsimp only

theorem refLost_ok {b0 : State} (s : State) (uid : Nat) (h_s : Ok b0 s) : Ok b0 (refLost s uid) := by
  unfold refLost
  try dsimp only
  repeat' first
    | with_reducible assumption | with_reducible apply State_shotFlag_ok | with_reducible apply State_shotStatus_ok
    | with_reducible apply OkW.st | dsimp only

theorem enterQuiesce_ok {b0 : State} (s : State) (h_s : Ok b0 s) (h_b : b0.mode ≠ .tripped) : Ok b0 (enterQuiesce s) := by
  unfold enterQuiesce
  try dsimp only
  repeat' first
    | with_reducible assumption | with_reducible apply State_enter_ok | with_reducible apply shotsEnd_ok
    | with_reducible apply cancelAdmitted_ok | with_reducible apply OkW.st | exact h_b | (intro _ _ _) | (intro _) | dsimp only

theorem enterHoldover_ok {b0 : State} (s : State) (h_s : Ok b0 s) (h_b : b0.mode ≠ .tripped) : Ok b0 (enterHoldover s) := by
  unfold enterHoldover
  try dsimp only
  repeat' first
    | with_reducible assumption | with_reducible apply State_enter_ok | with_reducible apply cancelAdmitted_ok
    | with_reducible apply refLost_ok | with_reducible apply foldl_ok | with_reducible apply foldl1_ok
    | with_reducible apply OkW.st | exact h_b | (intro _ _ _) | (intro _) | dsimp only

end Sys2Proof.Machine
end

