-- ==== Sys2Proof/Laws/KeepSamples.lean ====
section
/-!
SUPPORT. What every operation of Machine/Samples.lean keeps (see KeepOps.lean).
-/
namespace Sys2Proof.Machine

theorem playFlux_ok {b0 : State} (s : State) (r k uid : Nat) (w : BitVec 32) (h_s : Ok b0 s) : Ok b0 (playFlux s r k uid w) := by
  unfold playFlux
  try dsimp only
  repeat' first
    | with_reducible assumption | with_reducible apply State_bump_ok | with_reducible apply State_shotFlag_ok
    | with_reducible apply State_dropSamples_ok | with_reducible apply State_setFfx_ok | with_reducible apply ite_ok
    | with_reducible apply ite1_ok | with_reducible apply ite_okW | with_reducible apply OkW.st | split
    | with_reducible apply Ok.record | dsimp only

theorem playChannel_ok {b0 : State} (s : State) (r p uid : Nat) (h_s : Ok b0 s) : Ok b0 (playChannel s r p uid) := by
  unfold playChannel
  try dsimp only
  repeat' first
    | with_reducible assumption | with_reducible apply State_shotFlag_ok | with_reducible apply State_dropSamples_ok
    | with_reducible apply ite_ok | with_reducible apply ite1_ok | with_reducible apply ite_okW | with_reducible apply OkW.st
    | with_reducible apply OkW.mk | split | dsimp only

theorem playPort_ok {b0 : State} (s : State) (r p : Nat) (h_s : Ok b0 s) : Ok b0 (playPort s r p) := by
  unfold playPort
  try dsimp only
  repeat' first
    | with_reducible assumption | with_reducible apply State_shotPoison_ok | with_reducible apply State_touch_ok
    | with_reducible apply State_setPort_ok | with_reducible apply playFlux_ok | with_reducible apply playChannel_ok
    | with_reducible apply ite_ok | with_reducible apply ite1_ok | with_reducible apply ite_okW | with_reducible apply OkW.st
    | (intro _ _ _) | (intro _) | split | with_reducible apply Ok.record | dsimp only

theorem playPorts_ok {b0 : State} (s : State) (h_s : Ok b0 s) : Ok b0 (playPorts s) := by
  unfold playPorts
  try dsimp only
  repeat' first
    | with_reducible assumption | with_reducible apply playPort_ok | with_reducible apply foldl_ok
    | with_reducible apply foldl1_ok | with_reducible apply OkW.st | (intro _ _ _) | (intro _) | dsimp only

theorem countClamp_ok {b0 : State} (s : State) (r l : Nat) (sat lim : Bool) (h_s : Ok b0 s) : Ok b0 (countClamp s r l sat lim) := by
  unfold countClamp
  try dsimp only
  repeat' first
    | with_reducible assumption | with_reducible apply State_put_ok | with_reducible apply State_bump_ok
    | with_reducible apply ite_ok | with_reducible apply ite1_ok | with_reducible apply ite_okW | with_reducible apply OkW.st
    | with_reducible apply OkW.mk | split | dsimp only

theorem countTick_ok {b0 : State} (s : State) (r l : Nat) (next : Nat → Int × Int) (t : SynTick) (h_s : Ok b0 s) : Ok b0 (countTick s r l next t) := by
  unfold countTick
  try dsimp only
  repeat' first
    | with_reducible assumption | with_reducible apply countClamp_ok | with_reducible apply foldl_ok
    | with_reducible apply ite_ok | with_reducible apply foldl1_ok | with_reducible apply ite1_ok | with_reducible apply ite_okW
    | with_reducible apply OkW.st | (intro _ _ _) | (intro _) | split | dsimp only

theorem playLine_ok {b0 : State} (s : State) (r l : Nat) (h_s : Ok b0 s) : Ok b0 (playLine s r l) := by
  unfold playLine
  try dsimp only
  repeat' first
    | with_reducible assumption | with_reducible apply countTick_ok | with_reducible apply foldl_ok
    | with_reducible apply ite_ok | with_reducible apply foldl1_ok | with_reducible apply ite1_ok | with_reducible apply ite_okW
    | with_reducible apply OkW.st | with_reducible apply OkW.mk | (intro _ _ _) | (intro _) | split
    | with_reducible apply Ok.record | dsimp only

theorem playLines_ok {b0 : State} (s : State) (h_s : Ok b0 s) : Ok b0 (playLines s) := by
  unfold playLines
  try dsimp only
  repeat' first
    | with_reducible assumption | with_reducible apply playLine_ok | with_reducible apply foldl_ok
    | with_reducible apply foldl1_ok | with_reducible apply OkW.st | (intro _ _ _) | (intro _) | dsimp only

theorem playFluxPath_ok {b0 : State} (s : State) (key : Nat) (h_s : Ok b0 s) : Ok b0 (playFluxPath s key) := by
  unfold playFluxPath
  try dsimp only
  repeat' first
    | with_reducible assumption | with_reducible apply State_put_ok | with_reducible apply State_bump_ok
    | with_reducible apply State_setFfx_ok | with_reducible apply ite_ok | with_reducible apply ite1_ok
    | with_reducible apply ite_okW | with_reducible apply OkW.st | with_reducible apply OkW.mk | split
    | with_reducible apply Ok.record | dsimp only

theorem playFluxPaths_ok {b0 : State} (s : State) (h_s : Ok b0 s) : Ok b0 (playFluxPaths s) := by
  unfold playFluxPaths
  try dsimp only
  repeat' first
    | with_reducible assumption | with_reducible apply State_setBia_ok | with_reducible apply playFluxPath_ok
    | with_reducible apply foldl_ok | with_reducible apply foldl1_ok | with_reducible apply OkW.st | (intro _ _ _) | (intro _)
    | with_reducible apply Ok.record | dsimp only

theorem dropMarksOf_ok {b0 : State} (s : State) (x : Shot) (h_s : Ok b0 s) : Ok b0 (dropMarksOf s x) := by
  unfold dropMarksOf
  try dsimp only
  repeat' first
    | with_reducible assumption | with_reducible apply State_dropSamples_ok | with_reducible apply foldl_ok
    | with_reducible apply ite_ok | with_reducible apply foldl1_ok | with_reducible apply ite1_ok | with_reducible apply ite_okW
    | with_reducible apply OkW.st | (intro _ _ _) | (intro _) | split | dsimp only

theorem dropMarkers_ok {b0 : State} (s : State) (h_s : Ok b0 s) : Ok b0 (dropMarkers s) := by
  unfold dropMarkers
  try dsimp only
  repeat' first
    | with_reducible assumption | with_reducible apply dropMarksOf_ok | with_reducible apply foldl_ok
    | with_reducible apply foldl1_ok | with_reducible apply OkW.st | (intro _ _ _) | (intro _) | dsimp only

theorem receive_ok {b0 : State} (s : State) (r f : Nat) (h_s : Ok b0 s) : Ok b0 (receive s r f) := by
  unfold receive
  try dsimp only
  repeat' first
    | with_reducible assumption | with_reducible apply State_bumpBy_ok | with_reducible apply State_setFeed_ok
    | with_reducible apply OkW.st | (intro _ _ _) | (intro _) | with_reducible apply Ok.record | dsimp only

theorem meetFrame_ok {b0 : State} (s : State) (r k : Nat) (x : FrameOut) (h_s : Ok b0 s) : Ok b0 (meetFrame s r k x) := by
  unfold meetFrame
  try dsimp only
  repeat' first
    | with_reducible assumption | with_reducible apply State_setRwin_ok | with_reducible apply State_setUnit_ok
    | with_reducible apply accumulate_ok | with_reducible apply ite_ok | with_reducible apply ite1_ok
    | with_reducible apply ite_okW | with_reducible apply OkW.st | (intro _ _ _) | (intro _) | split
    | with_reducible apply Ok.record | dsimp only

theorem demodulate_ok {b0 : State} (s : State) (r k : Nat) (h_s : Ok b0 s) : Ok b0 (demodulate s r k) := by
  unfold demodulate
  try dsimp only
  repeat' first
    | with_reducible assumption | with_reducible apply meetFrame_ok | with_reducible apply State_setTone_ok
    | with_reducible apply ite_ok | with_reducible apply ite1_ok | with_reducible apply ite_okW | with_reducible apply OkW.st
    | with_reducible apply OkW.mk | split | with_reducible apply Ok.record | dsimp only

theorem endFrame_ok {b0 : State} (s : State) (r f : Nat) (h_s : Ok b0 s) : Ok b0 (endFrame s r f) := by
  unfold endFrame
  try dsimp only
  repeat' first
    | with_reducible assumption | with_reducible apply State_setUnit_ok | with_reducible apply State_setFeed_ok
    | with_reducible apply ite_ok | with_reducible apply ite1_ok | with_reducible apply ite_okW | with_reducible apply OkW.st
    | with_reducible apply OkW.mk | split | with_reducible apply Ok.record | dsimp only

theorem receiveAll_ok {b0 : State} (s : State) (h_s : Ok b0 s) : Ok b0 (receiveAll s) := by
  unfold receiveAll
  try dsimp only
  repeat' first
    | with_reducible assumption | with_reducible apply receive_ok | with_reducible apply demodulate_ok
    | with_reducible apply endFrame_ok | with_reducible apply foldl_ok | with_reducible apply foldl1_ok
    | with_reducible apply OkW.st | (intro _ _ _) | (intro _) | dsimp only

end Sys2Proof.Machine
end

