-- ==== Sys2Proof/Laws/KeepRings.lean ====
section
/-!
SUPPORT. What every operation of Machine/Rings.lean keeps (see KeepOps.lean).
-/
namespace Sys2Proof.Machine

theorem lapse_ok {b0 : State} (s : State) (sq : Nat) (p : Fetch → Bool) (h_s : Ok b0 s) : Ok b0 (lapse s sq p) := by
  unfold lapse
  try dsimp only
  repeat' first
    | with_reducible assumption | with_reducible apply State_setSq_ok | with_reducible apply State_payOwed_ok
    | with_reducible apply ite_ok | with_reducible apply ite1_ok | with_reducible apply ite_okW | with_reducible apply OkW.st
    | (intro _ _ _) | (intro _) | split | with_reducible apply Ok.record | dsimp only

theorem disableSq_ok {b0 : State} (s : State) (n : Nat) (h_s : Ok b0 s) : OkW b0 (disableSq s n) := by
  unfold disableSq
  try dsimp only
  repeat' first
    | with_reducible assumption | with_reducible apply State_put_ok | with_reducible apply taken_ok
    | with_reducible apply lapse_ok | with_reducible apply OkW.st | with_reducible apply OkW.mk | (intro _ _ _) | (intro _)
    | dsimp only

theorem disableCq_ok {b0 : State} (s : State) (n : Nat) (h_s : Ok b0 s) : OkW b0 (disableCq s n) := by
  unfold disableCq
  try dsimp only
  repeat' first
    | with_reducible assumption | with_reducible apply State_put_ok | with_reducible apply taken_ok
    | with_reducible apply refusedBy_ok | with_reducible apply ite_ok | with_reducible apply ite1_ok
    | with_reducible apply ite_okW | with_reducible apply OkW.st | with_reducible apply OkW.mk | split | dsimp only

theorem storeSqCfg_ok {b0 : State} (s : State) (n : Nat) (v : Word) (h_s : Ok b0 s) : Ok b0 (storeSqCfg s n v) := by
  unfold storeSqCfg
  try dsimp only
  repeat' first
    | with_reducible assumption | with_reducible apply State_wr_ok | with_reducible apply OkW.st | dsimp only

theorem storeCqCfg_ok {b0 : State} (s : State) (n : Nat) (v : Word) (h_s : Ok b0 s) : Ok b0 (storeCqCfg s n v) := by
  unfold storeCqCfg
  try dsimp only
  repeat' first
    | with_reducible assumption | with_reducible apply State_wr_ok | with_reducible apply OkW.st | dsimp only

theorem writeSqCfg_ok {b0 : State} (s : State) (n : Nat) (v : Word) (h_s : Ok b0 s) : OkW b0 (writeSqCfg s n v) := by
  unfold writeSqCfg
  try dsimp only
  repeat' first
    | with_reducible assumption | with_reducible apply taken_ok | with_reducible apply refusedBy_ok
    | with_reducible apply State_setSq_ok | with_reducible apply disableSq_ok | with_reducible apply storeSqCfg_ok
    | with_reducible apply ite_ok | with_reducible apply ite1_ok | with_reducible apply ite_okW | with_reducible apply OkW.st
    | with_reducible apply OkW.mk | split | with_reducible apply Ok.record | dsimp only

theorem writeCqCfg_ok {b0 : State} (s : State) (n : Nat) (v : Word) (h_s : Ok b0 s) : OkW b0 (writeCqCfg s n v) := by
  unfold writeCqCfg
  try dsimp only
  repeat' first
    | with_reducible assumption | with_reducible apply taken_ok | with_reducible apply refusedBy_ok
    | with_reducible apply State_setCq_ok | with_reducible apply disableCq_ok | with_reducible apply storeCqCfg_ok
    | with_reducible apply ite_ok | with_reducible apply ite1_ok | with_reducible apply ite_okW | with_reducible apply OkW.st
    | with_reducible apply OkW.mk | split | with_reducible apply Ok.record | dsimp only

theorem writeRingPlain_ok {b0 : State} (s : State) (en : Bool) (addr : Nat) (mask v : Word) (h_s : Ok b0 s) : OkW b0 (writeRingPlain s en addr mask v) := by
  unfold writeRingPlain
  try dsimp only
  repeat' first
    | with_reducible assumption | with_reducible apply State_wr_ok | with_reducible apply taken_ok
    | with_reducible apply refusedBy_ok | with_reducible apply ite_ok | with_reducible apply ite1_ok
    | with_reducible apply ite_okW | with_reducible apply OkW.st | with_reducible apply OkW.mk | split | dsimp only

theorem sqDoorbell_ok {b0 : State} (s : State) (rid n : Nat) (v : Word) (h_s : Ok b0 s) : Ok b0 (sqDoorbell s rid n v) := by
  unfold sqDoorbell
  try dsimp only
  repeat' first
    | with_reducible assumption | with_reducible apply State_accessError_ok | with_reducible apply State_setSq_ok
    | with_reducible apply State_sqError_ok | with_reducible apply ite_ok | with_reducible apply ite1_ok
    | with_reducible apply ite_okW | with_reducible apply OkW.st | split | with_reducible apply Ok.record | dsimp only

theorem cqDoorbell_ok {b0 : State} (s : State) (rid n : Nat) (v : Word) (h_s : Ok b0 s) : Ok b0 (cqDoorbell s rid n v) := by
  unfold cqDoorbell
  try dsimp only
  repeat' first
    | with_reducible assumption | with_reducible apply State_accessError_ok | with_reducible apply State_setCq_ok
    | with_reducible apply ite_ok | with_reducible apply ite1_ok | with_reducible apply ite_okW | with_reducible apply OkW.st
    | split | with_reducible apply Ok.record | dsimp only

theorem execSqTailDoorbell_ok {b0 : State} (rid n : Nat) (value : BitVec 32) (s : State) (h_s : Ok b0 s) : OkO b0 (execSqTailDoorbell rid n value s) := by
  unfold execSqTailDoorbell
  try dsimp only
  repeat' first
    | with_reducible assumption | with_reducible apply sqDoorbell_ok | with_reducible apply ite_ok
    | with_reducible apply ite_okO | with_reducible apply ite1_ok | with_reducible apply ite_okW | with_reducible apply OkO.next
    | with_reducible apply OkO.fault | with_reducible apply OkW.st | split | dsimp only

theorem execCqHeadDoorbell_ok {b0 : State} (rid n : Nat) (value : BitVec 32) (s : State) (h_s : Ok b0 s) : OkO b0 (execCqHeadDoorbell rid n value s) := by
  unfold execCqHeadDoorbell
  try dsimp only
  repeat' first
    | with_reducible assumption | with_reducible apply cqDoorbell_ok | with_reducible apply ite_ok
    | with_reducible apply ite_okO | with_reducible apply ite1_ok | with_reducible apply ite_okW | with_reducible apply OkO.next
    | with_reducible apply OkO.fault | with_reducible apply OkW.st | split | dsimp only

theorem issueFetch_ok {b0 : State} (s : State) (sq slots : Nat) (barrier : Bool) (h_s : Ok b0 s) : Ok b0 (issueFetch s sq slots barrier) := by
  unfold issueFetch
  try dsimp only
  repeat' first
    | with_reducible assumption | with_reducible apply State_setSq_ok | with_reducible apply State_setCq_ok
    | with_reducible apply ite_ok | with_reducible apply ite1_ok | with_reducible apply ite_okW | with_reducible apply OkW.st
    | with_reducible apply OkW.mk | split | with_reducible apply Ok.record | dsimp only

theorem execDescriptorFetch_ok {b0 : State} (sq slots : Nat) (barrier : Bool) (s : State) (h_s : Ok b0 s) : OkO b0 (execDescriptorFetch sq slots barrier s) := by
  unfold execDescriptorFetch
  try dsimp only
  repeat' first
    | with_reducible assumption | with_reducible apply issueFetch_ok | with_reducible apply happen_ok
    | with_reducible apply OkO.next | with_reducible apply OkO.fault | with_reducible apply OkW.st | dsimp only

theorem arrive_ok {b0 : State} (s : State) (sq uid : Nat) (base : BitVec 512) (ext : List (BitVec 512)) (h_s : Ok b0 s) : Ok b0 (arrive s sq uid base ext) := by
  unfold arrive
  try dsimp only
  repeat' first
    | with_reducible assumption | with_reducible apply State_setSq_ok | with_reducible apply ite_ok
    | with_reducible apply ite1_ok | with_reducible apply ite_okW | with_reducible apply OkW.st | with_reducible apply OkW.mk
    | (intro _ _ _) | (intro _) | split | with_reducible apply Ok.record | dsimp only

theorem execDescriptorArrival_ok {b0 : State} (sq uid : Nat) (base : BitVec 512) (ext : List (BitVec 512)) (s : State) (h_s : Ok b0 s) : OkO b0 (execDescriptorArrival sq uid base ext s) := by
  unfold execDescriptorArrival
  try dsimp only
  repeat' first
    | with_reducible assumption | with_reducible apply arrive_ok | with_reducible apply happen_ok
    | with_reducible apply OkO.next | with_reducible apply OkO.fault | with_reducible apply OkW.st | (intro _ _ _) | (intro _)
    | split | with_reducible apply Ok.record | dsimp only

theorem fetchError_ok {b0 : State} (s : State) (sq uid kind : Nat) (h_s : Ok b0 s) : Ok b0 (fetchError s sq uid kind) := by
  unfold fetchError
  try dsimp only
  repeat' first
    | with_reducible assumption | with_reducible apply State_put_ok | with_reducible apply State_sqError_ok
    | with_reducible apply lapse_ok | with_reducible apply OkW.st | (intro _ _ _) | (intro _) | dsimp only

theorem execFetchError_ok {b0 : State} (sq uid kind : Nat) (s : State) (h_s : Ok b0 s) : OkO b0 (execFetchError sq uid kind s) := by
  unfold execFetchError
  try dsimp only
  repeat' first
    | with_reducible assumption | with_reducible apply fetchError_ok | with_reducible apply happen_ok
    | with_reducible apply OkO.next | with_reducible apply OkO.fault | with_reducible apply OkW.st | dsimp only

theorem popFront_ok {b0 : State} (s : State) (sq : Nat) (h_s : Ok b0 s) : Ok b0 (popFront s sq) := by
  unfold popFront
  try dsimp only
  repeat' first
    | with_reducible assumption | with_reducible apply State_setSq_ok | with_reducible apply OkW.st
    | with_reducible apply Ok.record | dsimp only

theorem clearBarrier_ok {b0 : State} (s : State) (sq uid : Nat) (h_s : Ok b0 s) : Ok b0 (clearBarrier s sq uid) := by
  unfold clearBarrier
  try dsimp only
  repeat' first
    | with_reducible assumption | with_reducible apply State_setSq_ok | with_reducible apply ite_ok
    | with_reducible apply ite1_ok | with_reducible apply ite_okW | with_reducible apply OkW.st | split
    | with_reducible apply Ok.record | dsimp only

theorem noteDecision_ok {b0 : State} (s : State) (d : Desc) (h_s : Ok b0 s) : Ok b0 (noteDecision s d) := by
  unfold noteDecision
  try dsimp only
  repeat' first
    | with_reducible assumption | with_reducible apply State_put_ok | with_reducible apply ite_ok | with_reducible apply ite1_ok
    | with_reducible apply ite_okW | with_reducible apply OkW.st | split | dsimp only

theorem acceptEntry_ok {b0 : State} (s : State) (d : Desc) (h_s : Ok b0 s) : Ok b0 (acceptEntry s d) := by
  unfold acceptEntry
  try dsimp only
  repeat' first
    | with_reducible assumption | with_reducible apply State_add64_ok | with_reducible apply State_writeEntry_ok
    | with_reducible apply State_payOwed_ok | with_reducible apply popFront_ok | with_reducible apply noteDecision_ok
    | with_reducible apply OkW.st | dsimp only

theorem decline_ok {b0 : State} (s : State) (d : Desc) (code detail : Nat) (h_s : Ok b0 s) : Ok b0 (decline s d code detail) := by
  unfold decline
  try dsimp only
  repeat' first
    | with_reducible assumption | with_reducible apply State_wr_ok | with_reducible apply State_bump_ok
    | with_reducible apply State_writeEntry_ok | with_reducible apply State_payOwed_ok | with_reducible apply popFront_ok
    | with_reducible apply clearBarrier_ok | with_reducible apply noteDecision_ok | with_reducible apply OkW.st | dsimp only

theorem finalEntry_ok {b0 : State} (s : State) (d : Desc) (status detail : Nat) (flags : List Nat) (stamp endAt : Nat) (h_s : Ok b0 s) : Ok b0 (finalEntry s d status detail flags stamp endAt) := by
  unfold finalEntry
  try dsimp only
  repeat' first
    | with_reducible assumption | with_reducible apply State_writeEntry_ok | with_reducible apply State_payOwed_ok
    | with_reducible apply clearBarrier_ok | with_reducible apply ite_ok | with_reducible apply ite1_ok
    | with_reducible apply ite_okW | with_reducible apply OkW.st | split | dsimp only

theorem execCoalesceTimeout_ok {b0 : State} (n : Nat) (s : State) (h_s : Ok b0 s) : OkO b0 (execCoalesceTimeout n s) := by
  unfold execCoalesceTimeout
  try dsimp only
  repeat' first
    | with_reducible assumption | with_reducible apply State_cqRaise_ok | with_reducible apply happen_ok
    | with_reducible apply OkO.next | with_reducible apply OkO.fault | with_reducible apply OkW.st | dsimp only

theorem writeMsixCtrl_ok {b0 : State} (s : State) (v : Nat) (w : Word) (h_s : Ok b0 s) : OkW b0 (writeMsixCtrl s v w) := by
  unfold writeMsixCtrl
  try dsimp only
  repeat' first
    | with_reducible assumption | with_reducible apply State_wr_ok | with_reducible apply State_put_ok
    | with_reducible apply taken_ok | with_reducible apply State_send_ok | with_reducible apply ite_ok
    | with_reducible apply ite1_ok | with_reducible apply ite_okW | with_reducible apply OkW.st | with_reducible apply OkW.mk
    | split | dsimp only

theorem writeEvtEn_ok {b0 : State} (s : State) (v : Word) (h_s : Ok b0 s) : OkW b0 (writeEvtEn s v) := by
  unfold writeEvtEn
  try dsimp only
  repeat' first
    | with_reducible assumption | with_reducible apply State_wr_ok | with_reducible apply taken_ok
    | with_reducible apply State_raiseVector_ok | with_reducible apply ite_ok | with_reducible apply ite1_ok
    | with_reducible apply ite_okW | with_reducible apply OkW.st | with_reducible apply OkW.mk | split | dsimp only

theorem readCopy_ok {b0 : State} (s : State) (n copy : Nat) (h_s : Ok b0 s) : Ok b0 (readCopy s n copy).1 := by
  unfold readCopy
  try dsimp only
  repeat' first
    | with_reducible assumption | with_reducible apply State_readWords_ok | with_reducible apply OkW.st | (intro _ _ _)
    | (intro _) | dsimp only

theorem readHeld_ok {b0 : State} (s : State) (n : Nat) (h_s : Ok b0 s) : Ok b0 (readHeld s n).1 := by
  unfold readHeld
  try dsimp only
  repeat' first
    | with_reducible assumption | with_reducible apply State_logError_ok | with_reducible apply readCopy_ok
    | with_reducible apply ite_ok | with_reducible apply ite1_ok | with_reducible apply ite_okW | with_reducible apply OkW.st
    | split | dsimp only

theorem deliverHeld_ok {a : State} (s : State) (n : Nat) (gone : Bool) (l : List Held) (h_s : Ok a s) :
    Ok a (deliverHeld s n gone l) := by
  have out : ∀ (x : State) (v : List Posted), Ok a x → Ok a { x with posted := v } := fun x v hx => by
    with_reducible apply Ok.record
    exact hx
  induction l generalizing s n gone with
  | nil => exact h_s
  | cons h t ih =>
    unfold deliverHeld
    dsimp only
    split
    · exact ih _ _ _ (out _ _ h_s)
    · exact ite_ok (ih _ _ _ (ite_ok (readHeld_ok _ _ h_s) (out _ _ (readHeld_ok _ _ h_s))))
        (ih _ _ _ (ite_ok h_s (out _ _ h_s)))

theorem flushHolding_ok {b0 : State} (s : State) (h_s : Ok b0 s) : Ok b0 (flushHolding s) := by
  unfold flushHolding
  try dsimp only
  repeat' first
    | with_reducible assumption | with_reducible apply deliverHeld_ok | with_reducible apply ite_ok
    | with_reducible apply ite1_ok | with_reducible apply ite_okW | with_reducible apply OkW.st | (intro _ _ _) | (intro _)
    | split | with_reducible apply Ok.record | dsimp only

theorem writeBusMaster_ok {b0 : State} (s : State) (enable : Bool) (h_s : Ok b0 s) : Ok b0 (writeBusMaster s enable) := by
  unfold writeBusMaster
  try dsimp only
  repeat' first
    | with_reducible assumption | with_reducible apply State_put_ok | with_reducible apply State_event_ok
    | with_reducible apply flushHolding_ok | with_reducible apply ite_ok | with_reducible apply ite1_ok
    | with_reducible apply ite_okW | with_reducible apply OkW.st | split | with_reducible apply Ok.record | dsimp only

theorem execBusMasterEnableWrite_ok {b0 : State} (enable : Bool) (s : State) (h_s : Ok b0 s) : OkO b0 (execBusMasterEnableWrite enable s) := by
  unfold execBusMasterEnableWrite
  try dsimp only
  repeat' first
    | with_reducible assumption | with_reducible apply writeBusMaster_ok | with_reducible apply OkO.next
    | with_reducible apply OkO.fault | with_reducible apply OkW.st | dsimp only

theorem setLink_ok {b0 : State} (s : State) (rate width : Nat) (flit : Bool) (h_s : Ok b0 s) : Ok b0 (setLink s rate width flit) := by
  unfold setLink
  try dsimp only
  repeat' first
    | with_reducible assumption | with_reducible apply State_wr_ok | with_reducible apply State_put_ok
    | with_reducible apply ite_ok | with_reducible apply ite1_ok | with_reducible apply ite_okW | with_reducible apply OkW.st
    | split | dsimp only

end Sys2Proof.Machine
end

