-- ==== Sys2Proof/Laws/KeepShots.lean ====
section
/-!
SUPPORT. What every operation of Machine/Shots.lean keeps (see KeepOps.lean).
-/
namespace Sys2Proof.Machine

theorem leadEngine_ok {b0 : State} (s : State) (r e : Nat) (x : Shot) (h_s : Ok b0 s) : Ok b0 (leadEngine s r e x) := by
  unfold leadEngine
  try dsimp only
  repeat' first
    | with_reducible assumption | with_reducible apply State_setEngine_ok | with_reducible apply OkW.st | (intro _ _ _)
    | (intro _) | with_reducible apply Ok.record | dsimp only

theorem execEngineLead_ok {b0 : State} (r e : Nat) (s : State) (h_s : Ok b0 s) : OkO b0 (execEngineLead r e s) := by
  unfold execEngineLead
  try dsimp only
  repeat' first
    | with_reducible assumption | with_reducible apply leadEngine_ok | with_reducible apply happen_ok
    | with_reducible apply OkO.next | with_reducible apply OkO.fault | with_reducible apply OkW.st | (intro _ _ _) | (intro _)
    | split | with_reducible apply Ok.record | dsimp only

theorem startPorts_ok {b0 : State} (s : State) (x : Shot) (h_s : Ok b0 s) : Ok b0 (startPorts s x) := by
  unfold startPorts
  try dsimp only
  repeat' first
    | with_reducible assumption | with_reducible apply State_startPort_ok | with_reducible apply State_dropMark_ok
    | with_reducible apply foldl_ok | with_reducible apply ite_ok | with_reducible apply foldl1_ok
    | with_reducible apply ite1_ok | with_reducible apply ite_okW | with_reducible apply OkW.st | (intro _ _ _) | (intro _)
    | split | dsimp only

theorem shotStart_ok {b0 : State} (s : State) (x : Shot) (h_s : Ok b0 s) : Ok b0 (shotStart s x) := by
  unfold shotStart
  try dsimp only
  repeat' first
    | with_reducible assumption | with_reducible apply State_updShot_ok | with_reducible apply State_shotFlag_ok
    | with_reducible apply startPorts_ok | with_reducible apply shotBegins_ok | with_reducible apply ite_ok
    | with_reducible apply ite1_ok | with_reducible apply ite_okW | with_reducible apply OkW.st | (intro _ _ _) | (intro _)
    | split | with_reducible apply Ok.record | dsimp only

theorem execShotStart_ok {b0 : State} (uid : Nat) (s : State) (h_s : Ok b0 s) : OkO b0 (execShotStart uid s) := by
  unfold execShotStart
  try dsimp only
  repeat' first
    | with_reducible assumption | with_reducible apply shotStart_ok | with_reducible apply happen_ok
    | with_reducible apply OkO.next | with_reducible apply OkO.fault | with_reducible apply OkW.st | (intro _ _ _) | (intro _)
    | split | with_reducible apply Ok.record | dsimp only

theorem spanFence_ok {b0 : State} (s : State) (x : Shot) (h_s : Ok b0 s) : Ok b0 (spanFence s x) := by
  unfold spanFence
  try dsimp only
  repeat' first
    | with_reducible assumption | with_reducible apply State_bump_ok | with_reducible apply State_updShot_ok
    | with_reducible apply State_shotFlag_ok | with_reducible apply stopShot_ok | with_reducible apply ite_ok
    | with_reducible apply ite1_ok | with_reducible apply ite_okW | with_reducible apply OkW.st | (intro _ _ _) | (intro _)
    | split | with_reducible apply Ok.record | dsimp only

theorem execSpanFence_ok {b0 : State} (uid : Nat) (s : State) (h_s : Ok b0 s) : OkO b0 (execSpanFence uid s) := by
  unfold execSpanFence
  try dsimp only
  repeat' first
    | with_reducible assumption | with_reducible apply spanFence_ok | with_reducible apply happen_ok
    | with_reducible apply OkO.next | with_reducible apply OkO.fault | with_reducible apply OkW.st | (intro _ _ _) | (intro _)
    | split | with_reducible apply Ok.record | dsimp only

theorem State_updWork_ok {b0 : State} (s : State) (uid : Nat) (f : Work → Work) (h_s : Ok b0 s) : Ok b0 (State.updWork s uid f) := by
  unfold State.updWork
  try dsimp only
  repeat' first
    | with_reducible assumption | with_reducible apply ite_ok | with_reducible apply ite1_ok | with_reducible apply ite_okW
    | with_reducible apply OkW.st | (intro _ _ _) | (intro _) | split | with_reducible apply Ok.record | dsimp only

theorem State_dropWork_ok {b0 : State} (s : State) (uid : Nat) (h_s : Ok b0 s) : Ok b0 (State.dropWork s uid) := by
  unfold State.dropWork
  try dsimp only
  repeat' first
    | with_reducible assumption | with_reducible apply OkW.st | (intro _ _ _) | (intro _) | with_reducible apply Ok.record
    | dsimp only

theorem abortNow_ok {b0 : State} (s : State) (x : Shot) (h_s : Ok b0 s) : Ok b0 (abortNow s x) := by
  unfold abortNow
  try dsimp only
  repeat' first
    | with_reducible assumption | with_reducible apply trapEngine_ok | with_reducible apply stopShot_ok
    | with_reducible apply foldl_ok | with_reducible apply ite_ok | with_reducible apply foldl1_ok
    | with_reducible apply ite1_ok | with_reducible apply ite_okW | with_reducible apply OkW.st | (intro _ _ _) | (intro _)
    | split | dsimp only

theorem abortDrains_ok {b0 : State} (s : State) (x : Shot) (h_s : Ok b0 s) : Ok b0 (abortDrains s x) := by
  unfold abortDrains
  try dsimp only
  repeat' first
    | with_reducible assumption | with_reducible apply stopEngines_ok | with_reducible apply foldl_ok
    | with_reducible apply foldl1_ok | with_reducible apply OkW.st | (intro _ _ _) | (intro _) | dsimp only

theorem abortTarget_ok {b0 : State} (s : State) (w : Work) (x : Shot) (h_s : Ok b0 s) : Ok b0 (abortTarget s w x) := by
  unfold abortTarget
  try dsimp only
  repeat' first
    | with_reducible assumption | with_reducible apply State_updShot_ok | with_reducible apply State_shotStatus_ok
    | with_reducible apply abortNow_ok | with_reducible apply abortDrains_ok | with_reducible apply cancelShot_ok
    | with_reducible apply ite_ok | with_reducible apply ite1_ok | with_reducible apply ite_okW | with_reducible apply OkW.st
    | (intro _ _ _) | (intro _) | split | with_reducible apply Ok.record | dsimp only

theorem abortAtEpoch_ok {b0 : State} (s : State) (w : Work) (h_s : Ok b0 s) : Ok b0 (abortAtEpoch s w) := by
  unfold abortAtEpoch
  try dsimp only
  repeat' first
    | with_reducible assumption | with_reducible apply State_updWork_ok | with_reducible apply abortTarget_ok
    | with_reducible apply foldl_ok | with_reducible apply foldl1_ok | with_reducible apply OkW.st | (intro _ _ _) | (intro _)
    | with_reducible apply Ok.record | dsimp only

theorem execAbortEpoch_ok {b0 : State} (uid : Nat) (s : State) (h_s : Ok b0 s) : OkO b0 (execAbortEpoch uid s) := by
  unfold execAbortEpoch
  try dsimp only
  repeat' first
    | with_reducible assumption | with_reducible apply abortAtEpoch_ok | with_reducible apply happen_ok
    | with_reducible apply OkO.next | with_reducible apply OkO.fault | with_reducible apply OkW.st | (intro _ _ _) | (intro _)
    | split | with_reducible apply Ok.record | dsimp only

theorem playOut_ok {b0 : State} (s : State) (x : Shot) (h_s : Ok b0 s) : Ok b0 (playOut s x) := by
  unfold playOut
  try dsimp only
  repeat' first
    | with_reducible assumption | with_reducible apply playPort_ok | with_reducible apply dropMarksOf_ok
    | with_reducible apply foldl_ok | with_reducible apply ite_ok | with_reducible apply foldl1_ok
    | with_reducible apply ite1_ok | with_reducible apply ite_okW | with_reducible apply OkW.st | (intro _ _ _) | (intro _)
    | split | dsimp only

theorem endShot_ok {b0 : State} (s : State) (x : Shot) (h_s : Ok b0 s) : Ok b0 (endShot s x) := by
  unfold endShot
  try dsimp only
  repeat' first
    | with_reducible assumption | with_reducible apply State_updShot_ok | with_reducible apply playOut_ok
    | with_reducible apply shotsEnd_ok | with_reducible apply freeShot_ok | with_reducible apply OkW.st | (intro _ _ _)
    | (intro _) | with_reducible apply Ok.record | dsimp only

theorem execEndOfShot_ok {b0 : State} (uid : Nat) (s : State) (h_s : Ok b0 s) : OkO b0 (execEndOfShot uid s) := by
  unfold execEndOfShot
  try dsimp only
  repeat' first
    | with_reducible assumption | with_reducible apply endShot_ok | with_reducible apply happen_ok
    | with_reducible apply OkO.next | with_reducible apply OkO.fault | with_reducible apply OkW.st | (intro _ _ _) | (intro _)
    | split | with_reducible apply Ok.record | dsimp only

theorem execClaimRelease_ok {b0 : State} (uid : Nat) (s : State) (h_s : Ok b0 s) : OkO b0 (execClaimRelease uid s) := by
  unfold execClaimRelease
  try dsimp only
  repeat' first
    | with_reducible assumption | with_reducible apply State_updShot_ok | with_reducible apply happen_ok
    | with_reducible apply OkO.next | with_reducible apply OkO.fault | with_reducible apply OkW.st | (intro _ _ _) | (intro _)
    | split | with_reducible apply Ok.record | dsimp only

theorem gangStopEngine_ok {b0 : State} (s : State) (r e t : Nat) (h_s : Ok b0 s) : Ok b0 (gangStopEngine s r e t) := by
  unfold gangStopEngine
  try dsimp only
  repeat' first
    | with_reducible assumption | with_reducible apply haltAt_ok | with_reducible apply State_setEngine_ok
    | with_reducible apply ite_ok | with_reducible apply ite1_ok | with_reducible apply ite_okW | with_reducible apply OkW.st
    | (intro _ _ _) | (intro _) | split | with_reducible apply Ok.record | dsimp only

theorem gangStopAt_ok {b0 : State} (s : State) (x : Shot) (t : Nat) (h_s : Ok b0 s) : Ok b0 (gangStopAt s x t) := by
  unfold gangStopAt
  try dsimp only
  repeat' first
    | with_reducible assumption | with_reducible apply State_updShot_ok | with_reducible apply stopEngines_ok
    | with_reducible apply gangStopEngine_ok | with_reducible apply foldl_ok | with_reducible apply ite_ok
    | with_reducible apply foldl1_ok | with_reducible apply ite1_ok | with_reducible apply ite_okW | with_reducible apply OkW.st
    | (intro _ _ _) | (intro _) | split | with_reducible apply Ok.record | dsimp only

theorem execFailureNotice_ok {b0 : State} (uid r : Nat) (s : State) (h_s : Ok b0 s) : OkO b0 (execFailureNotice uid r s) := by
  unfold execFailureNotice
  try dsimp only
  repeat' first
    | with_reducible assumption | with_reducible apply gangStopAt_ok | with_reducible apply happen_ok
    | with_reducible apply OkO.next | with_reducible apply OkO.fault | with_reducible apply OkW.st | (intro _ _ _) | (intro _)
    | split | with_reducible apply Ok.record | dsimp only

theorem endWindow_ok {b0 : State} (s : State) (w : StreamWin) (h_s : Ok b0 s) : Ok b0 (endWindow s w) := by
  unfold endWindow
  try dsimp only
  repeat' first
    | with_reducible assumption | with_reducible apply ite_ok | with_reducible apply ite1_ok | with_reducible apply ite_okW
    | with_reducible apply OkW.st | (intro _ _ _) | (intro _) | split | with_reducible apply Ok.record | dsimp only

theorem execStreamWindowEnd_ok {b0 : State} (uid : Nat) (s : State) (h_s : Ok b0 s) : OkO b0 (execStreamWindowEnd uid s) := by
  unfold execStreamWindowEnd
  try dsimp only
  repeat' first
    | with_reducible assumption | with_reducible apply endWindow_ok | with_reducible apply happen_ok
    | with_reducible apply OkO.next | with_reducible apply OkO.fault | with_reducible apply OkW.st | (intro _ _ _) | (intro _)
    | split | with_reducible apply Ok.record | dsimp only

theorem streamReadFailure_ok {b0 : State} (s : State) (uid first count : Nat) (h_s : Ok b0 s) : Ok b0 (streamReadFailure s uid first count) := by
  unfold streamReadFailure
  try dsimp only
  repeat' first
    | with_reducible assumption | with_reducible apply State_put_ok | with_reducible apply ite_ok | with_reducible apply ite1_ok
    | with_reducible apply ite_okW | with_reducible apply OkW.st | (intro _ _ _) | (intro _) | split
    | with_reducible apply Ok.record | dsimp only

theorem execStreamReadFailure_ok {b0 : State} (uid first count : Nat) (s : State) (h_s : Ok b0 s) : OkO b0 (execStreamReadFailure uid first count s) := by
  unfold execStreamReadFailure
  try dsimp only
  repeat' first
    | with_reducible assumption | with_reducible apply streamReadFailure_ok | with_reducible apply happen_ok
    | with_reducible apply OkO.next | with_reducible apply OkO.fault | with_reducible apply OkW.st | (intro _ _ _) | (intro _)
    | split | with_reducible apply Ok.record | dsimp only

theorem finishShot_ok {b0 : State} (s : State) (x : Shot) (h_s : Ok b0 s) : Ok b0 (finishShot s x) := by
  unfold finishShot
  try dsimp only
  repeat' first
    | with_reducible assumption | with_reducible apply finalEntry_ok | with_reducible apply ite_ok
    | with_reducible apply ite1_ok | with_reducible apply ite_okW | with_reducible apply OkW.st | (intro _ _ _) | (intro _)
    | split | with_reducible apply Ok.record | dsimp only

theorem finishWork_ok {b0 : State} (s : State) (w : Work) (h_s : Ok b0 s) : Ok b0 (finishWork s w) := by
  unfold finishWork
  try dsimp only
  repeat' first
    | with_reducible assumption | with_reducible apply finalEntry_ok | with_reducible apply State_dropWork_ok
    | with_reducible apply OkW.st | dsimp only

theorem finishWindow_ok {b0 : State} (s : State) (w : StreamWin) (h_s : Ok b0 s) : Ok b0 (finishWindow s w) := by
  unfold finishWindow
  try dsimp only
  repeat' first
    | with_reducible assumption | with_reducible apply finalEntry_ok | with_reducible apply OkW.st | (intro _ _ _) | (intro _)
    | with_reducible apply Ok.record | dsimp only

theorem execFinalEntry_ok {b0 : State} (uid : Nat) (s : State) (h_s : Ok b0 s) : OkO b0 (execFinalEntry uid s) := by
  unfold execFinalEntry
  try dsimp only
  repeat' first
    | with_reducible assumption | with_reducible apply finishShot_ok | with_reducible apply finishWork_ok
    | with_reducible apply finishWindow_ok | with_reducible apply happen_ok | with_reducible apply OkO.next
    | with_reducible apply OkO.fault | with_reducible apply OkW.st | (intro _ _ _) | (intro _) | split
    | with_reducible apply Ok.record | dsimp only

end Sys2Proof.Machine
end

