-- ==== Sys2Proof/Laws/KeepAdmission.lean ====
section
/-!
SUPPORT. What every operation of Machine/Admission.lean keeps (see KeepOps.lean).
-/
namespace Sys2Proof.Machine

theorem settlePeff_ok {b0 : State} (s t : State) (h_s : Ok b0 s) (h_t : Ok b0 t) : Ok b0 (settlePeff s t) := by
  unfold settlePeff
  try dsimp only
  repeat' first
    | with_reducible assumption | with_reducible apply ite_ok | with_reducible apply ite1_ok | with_reducible apply ite_okW
    | with_reducible apply OkW.st | split | with_reducible apply Ok.record | dsimp only

theorem nameEngines_ok {b0 : State} (s : State) (d : Desc) (h_s : Ok b0 s) : Ok b0 (nameEngines s d) := by
  unfold nameEngines
  try dsimp only
  repeat' first
    | with_reducible assumption | with_reducible apply State_put_ok | with_reducible apply foldl_ok
    | with_reducible apply ite_ok | with_reducible apply foldl1_ok | with_reducible apply ite1_ok | with_reducible apply ite_okW
    | with_reducible apply OkW.st | (intro _ _ _) | (intro _) | split | dsimp only

theorem acceptShot_ok {b0 : State} (s : State) (d : Desc) (h_s : Ok b0 s) : Ok b0 (acceptShot s d) := by
  unfold acceptShot
  try dsimp only
  repeat' first
    | with_reducible assumption | with_reducible apply nameEngines_ok | with_reducible apply acceptEntry_ok
    | with_reducible apply OkW.st | with_reducible apply Ok.record | dsimp only

theorem decideShot_ok {b0 : State} (s : State) (d : Desc) (h_s : Ok b0 s) : Ok b0 (decideShot s d) := by
  unfold decideShot
  try dsimp only
  repeat' first
    | with_reducible assumption | with_reducible apply acceptShot_ok | with_reducible apply decline_ok
    | with_reducible apply ite_ok | with_reducible apply ite1_ok | with_reducible apply ite_okW | with_reducible apply OkW.st
    | with_reducible apply OkW.mk | (intro _ _ _) | (intro _) | split | with_reducible apply Ok.record | dsimp only

theorem execShot_ok {b0 : State} (sq : Nat) (s : State) (h_s : Ok b0 s) : OkO b0 (execShot sq s) := by
  unfold execShot
  try dsimp only
  repeat' first
    | with_reducible assumption | with_reducible apply decideShot_ok | with_reducible apply happen_ok
    | with_reducible apply OkO.next | with_reducible apply OkO.fault | with_reducible apply OkW.st | (intro _ _ _) | (intro _)
    | split | with_reducible apply Ok.record | dsimp only

theorem gangPrepare_ok {b0 : State} (s : State) (g : Gang) (r : Nat) (h_s : Ok b0 s) : Ok b0 (gangPrepare s g r) := by
  unfold gangPrepare
  try dsimp only
  repeat' first
    | with_reducible assumption | with_reducible apply OkW.st | with_reducible apply Ok.record | dsimp only

theorem execGangPrepare_ok {b0 : State} (r : Nat) (s : State) (h_s : Ok b0 s) : OkO b0 (execGangPrepare r s) := by
  unfold execGangPrepare
  try dsimp only
  repeat' first
    | with_reducible assumption | with_reducible apply gangPrepare_ok | with_reducible apply happen_ok
    | with_reducible apply OkO.next | with_reducible apply OkO.fault | with_reducible apply OkW.st | (intro _ _ _) | (intro _)
    | split | with_reducible apply Ok.record | dsimp only

theorem gangCommit_ok {b0 : State} (s : State) (g : Gang) (h_s : Ok b0 s) : Ok b0 (gangCommit s g) := by
  unfold gangCommit
  try dsimp only
  repeat' first
    | with_reducible assumption | with_reducible apply acceptShot_ok | with_reducible apply decline_ok
    | with_reducible apply OkW.st | (intro _ _ _) | (intro _) | split | with_reducible apply Ok.record | dsimp only

theorem execGangCommit_ok {b0 : State} (s : State) (h_s : Ok b0 s) : OkO b0 (execGangCommit s) := by
  unfold execGangCommit
  try dsimp only
  repeat' first
    | with_reducible assumption | with_reducible apply gangCommit_ok | with_reducible apply happen_ok
    | with_reducible apply OkO.next | with_reducible apply OkO.fault | with_reducible apply OkW.st | (intro _ _ _) | (intro _)
    | split | with_reducible apply Ok.record | dsimp only

theorem addWork_ok {b0 : State} (s : State) (w : Work) (h_s : Ok b0 s) : Ok b0 (addWork s w) := by
  unfold addWork
  try dsimp only
  repeat' first
    | with_reducible assumption | with_reducible apply OkW.st | with_reducible apply Ok.record | dsimp only

theorem decideWith_ok {b0 : State} (s : State) (d : Desc) (ans : Option (Nat × Nat)) (accept : State → Desc → State) (h_s : Ok b0 s) (h_accept : ∀ x0 x1, Ok b0 x0 → Ok b0 (accept x0 x1)) : Ok b0 (decideWith s d ans accept) := by
  unfold decideWith
  try dsimp only
  repeat' first
    | with_reducible assumption | with_reducible apply h_accept | with_reducible apply decline_ok | with_reducible apply OkW.st
    | (intro _ _ _) | (intro _) | split | with_reducible apply Ok.record | dsimp only

theorem acceptAbort_ok {b0 : State} (s : State) (d : Desc) (h_s : Ok b0 s) : Ok b0 (acceptAbort s d) := by
  unfold acceptAbort
  try dsimp only
  repeat' first
    | with_reducible assumption | with_reducible apply addWork_ok | with_reducible apply acceptEntry_ok
    | with_reducible apply finalEntry_ok | with_reducible apply ite_ok | with_reducible apply ite1_ok
    | with_reducible apply ite_okW | with_reducible apply OkW.st | split | with_reducible apply Ok.record | dsimp only

theorem execAbort_ok {b0 : State} (sq : Nat) (s : State) (h_s : Ok b0 s) : OkO b0 (execAbort sq s) := by
  unfold execAbort
  try dsimp only
  repeat' first
    | with_reducible assumption | with_reducible apply decideWith_ok | with_reducible apply acceptAbort_ok
    | with_reducible apply OkO.next | with_reducible apply OkO.fault | with_reducible apply OkW.st | (intro _ _ _) | (intro _)
    | split | with_reducible apply Ok.record | dsimp only

theorem acceptNop_ok {b0 : State} (s : State) (d : Desc) (h_s : Ok b0 s) : Ok b0 (acceptNop s d) := by
  unfold acceptNop
  try dsimp only
  repeat' first
    | with_reducible assumption | with_reducible apply acceptEntry_ok | with_reducible apply finalEntry_ok
    | with_reducible apply OkW.st | dsimp only

theorem execNopDescriptor_ok {b0 : State} (sq : Nat) (s : State) (h_s : Ok b0 s) : OkO b0 (execNopDescriptor sq s) := by
  unfold execNopDescriptor
  try dsimp only
  repeat' first
    | with_reducible assumption | with_reducible apply decideWith_ok | with_reducible apply acceptNop_ok
    | with_reducible apply OkO.next | with_reducible apply OkO.fault | with_reducible apply OkW.st | (intro _ _ _) | (intro _)
    | split | with_reducible apply Ok.record | dsimp only

end Sys2Proof.Machine
end

