-- ==== Sys2Proof/Laws/KeepUntimed.lean ====
section
/-!
SUPPORT. What every operation of Machine/Untimed.lean keeps (see KeepOps.lean).
-/
namespace Sys2Proof.Machine

theorem unresident_ok {b0 : State} (s : State) (d : Desc) (h_s : Ok b0 s) : Ok b0 (unresident s d) := by
  unfold unresident
  try dsimp only
  repeat' first
    | with_reducible assumption | with_reducible apply State_put_ok | with_reducible apply foldl_ok
    | with_reducible apply ite_ok | with_reducible apply foldl1_ok | with_reducible apply ite1_ok | with_reducible apply ite_okW
    | with_reducible apply OkW.st | with_reducible apply OkW.mk | (intro _ _ _) | (intro _) | split
    | with_reducible apply Ok.record | dsimp only

theorem acceptLoad_ok {b0 : State} (kind : WorkKind) (image : List (Option (BitVec 32))) (s : State) (d : Desc) (h_s : Ok b0 s) : Ok b0 (acceptLoad kind image s d) := by
  unfold acceptLoad
  try dsimp only
  repeat' first
    | with_reducible assumption | with_reducible apply addWork_ok | with_reducible apply acceptEntry_ok
    | with_reducible apply unresident_ok | with_reducible apply OkW.st | with_reducible apply Ok.record | dsimp only

theorem decideLoad_ok {b0 : State} (s : State) (sq t : Nat) (kind : WorkKind) (image : List (Option (BitVec 32))) (h_s : Ok b0 s) : OkO b0 (decideLoad s sq t kind image) := by
  unfold decideLoad
  try dsimp only
  repeat' first
    | with_reducible assumption | with_reducible apply decideWith_ok | with_reducible apply acceptLoad_ok
    | with_reducible apply happen_ok | with_reducible apply OkO.next | with_reducible apply OkO.fault
    | with_reducible apply OkW.st | (intro _ _ _) | (intro _) | split | with_reducible apply Ok.record | dsimp only

theorem execLoadMicro_ok {b0 : State} (sq : Nat) (image : List (Option (BitVec 32))) (s : State) (h_s : Ok b0 s) : OkO b0 (execLoadMicro sq image s) := by
  unfold execLoadMicro
  try dsimp only
  repeat' first
    | with_reducible assumption | with_reducible apply decideLoad_ok | with_reducible apply OkO.next
    | with_reducible apply OkO.fault | with_reducible apply OkW.st | dsimp only

theorem execLoadNano_ok {b0 : State} (sq : Nat) (image : List (Option (BitVec 256))) (s : State) (h_s : Ok b0 s) : OkO b0 (execLoadNano sq image s) := by
  unfold execLoadNano
  try dsimp only
  repeat' first
    | with_reducible assumption | with_reducible apply decideLoad_ok | with_reducible apply OkO.next
    | with_reducible apply OkO.fault | with_reducible apply OkW.st | dsimp only

theorem execLoadCache_ok {b0 : State} (sq : Nat) (image : List (Option (BitVec 32))) (s : State) (h_s : Ok b0 s) : OkO b0 (execLoadCache sq image s) := by
  unfold execLoadCache
  try dsimp only
  repeat' first
    | with_reducible assumption | with_reducible apply decideLoad_ok | with_reducible apply OkO.next
    | with_reducible apply OkO.fault | with_reducible apply OkW.st | dsimp only

theorem copyHalf_ok {b0 : State} (s : State) (w half : Nat) (x : Option (BitVec 32)) (h_s : Ok b0 s) : Ok b0 (copyHalf s w half x) := by
  unfold copyHalf
  try dsimp only
  repeat' first
    | with_reducible assumption | with_reducible apply State_writeWord_ok | with_reducible apply ite_ok
    | with_reducible apply ite1_ok | with_reducible apply ite_okW | with_reducible apply OkW.st | (intro _ _ _) | (intro _)
    | split | with_reducible apply Ok.record | dsimp only

theorem copyWord_ok {b0 : State} (s : State) (w : Nat) (a b : Option (BitVec 32)) (h_s : Ok b0 s) : Ok b0 (copyWord s w a b) := by
  unfold copyWord
  try dsimp only
  repeat' first
    | with_reducible assumption | with_reducible apply State_writeWord_ok | with_reducible apply OkW.st | (intro _ _ _)
    | (intro _) | split | with_reducible apply Ok.record | dsimp only

theorem storeUnit_ok {b0 : State} (s : State) (d : Desc) (im : List (Option (BitVec 32))) (r i : Nat) (h_s : Ok b0 s) : Ok b0 (storeUnit s d im r i) := by
  unfold storeUnit
  try dsimp only
  repeat' first
    | with_reducible assumption | with_reducible apply foldl_ok | with_reducible apply ite_ok | with_reducible apply foldl1_ok
    | with_reducible apply ite1_ok | with_reducible apply ite_okW | with_reducible apply OkW.st | with_reducible apply OkW.mk
    | (intro _ _ _) | (intro _) | split | with_reducible apply Ok.record | with_reducible apply Ok.record_micro
    | with_reducible apply Ok.record_nano | with_reducible apply Ok.record_cache | with_reducible apply Table.wf_set
    | with_reducible apply Table.wf_nil | dsimp only

theorem storeCopy_ok {b0 : State} (s : State) (d : Desc) (im : List (Option (BitVec 32))) (r i : Nat) (h_s : Ok b0 s) : Ok b0 (storeCopy s d im r i) := by
  unfold storeCopy
  try dsimp only
  repeat' first
    | with_reducible assumption | with_reducible apply copyHalf_ok | with_reducible apply copyWord_ok
    | with_reducible apply foldl_ok | with_reducible apply ite_ok | with_reducible apply foldl1_ok
    | with_reducible apply ite1_ok | with_reducible apply ite_okW | with_reducible apply OkW.st | (intro _ _ _) | (intro _)
    | split | dsimp only

theorem storeImage_ok {b0 : State} (s : State) (w : Work) (h_s : Ok b0 s) : Ok b0 (storeImage s w) := by
  unfold storeImage
  try dsimp only
  repeat' first
    | with_reducible assumption | with_reducible apply storeUnit_ok | with_reducible apply storeCopy_ok
    | with_reducible apply foldl_ok | with_reducible apply foldl1_ok | with_reducible apply OkW.st | (intro _ _ _) | (intro _)
    | dsimp only

theorem makeResident_ok {b0 : State} (s : State) (d : Desc) (h_s : Ok b0 s) : Ok b0 (makeResident s d) := by
  unfold makeResident
  try dsimp only
  repeat' first
    | with_reducible assumption | with_reducible apply State_put_ok | with_reducible apply foldl_ok
    | with_reducible apply ite_ok | with_reducible apply foldl1_ok | with_reducible apply ite1_ok | with_reducible apply ite_okW
    | with_reducible apply OkW.st | with_reducible apply OkW.mk | (intro _ _ _) | (intro _) | split
    | with_reducible apply Ok.record | dsimp only

theorem setPartial_ok {b0 : State} (s : State) (d : Desc) (v : Bool) (h_s : Ok b0 s) : Ok b0 (setPartial s d v) := by
  unfold setPartial
  try dsimp only
  repeat' first
    | with_reducible assumption | with_reducible apply State_setEngine_ok | with_reducible apply foldl_ok
    | with_reducible apply ite_ok | with_reducible apply foldl1_ok | with_reducible apply ite1_ok | with_reducible apply ite_okW
    | with_reducible apply OkW.st | (intro _ _ _) | (intro _) | split | with_reducible apply Ok.record | dsimp only

theorem loadComplete_ok {b0 : State} (s : State) (w : Work) (kinds : BitVec 4) (h_s : Ok b0 s) : Ok b0 (loadComplete s w kinds) := by
  unfold loadComplete
  try dsimp only
  repeat' first
    | with_reducible assumption | with_reducible apply State_put_ok | with_reducible apply finishWork_ok
    | with_reducible apply storeImage_ok | with_reducible apply makeResident_ok | with_reducible apply setPartial_ok
    | with_reducible apply foldl_ok | with_reducible apply ite_ok | with_reducible apply foldl1_ok
    | with_reducible apply ite1_ok | with_reducible apply ite_okW | with_reducible apply OkW.st | (intro _ _ _) | (intro _)
    | split | with_reducible apply Ok.record | dsimp only

theorem execLoadComplete_ok {b0 : State} (uid : Nat) (kinds : BitVec 4) (s : State) (h_s : Ok b0 s) : OkO b0 (execLoadComplete uid kinds s) := by
  unfold execLoadComplete
  try dsimp only
  repeat' first
    | with_reducible assumption | with_reducible apply loadComplete_ok | with_reducible apply happen_ok
    | with_reducible apply OkO.next | with_reducible apply OkO.fault | with_reducible apply OkW.st | (intro _ _ _) | (intro _)
    | split | with_reducible apply Ok.record | dsimp only

theorem abandonLoad_ok {b0 : State} (s : State) (w : Work) (h_s : Ok b0 s) : Ok b0 (abandonLoad s w) := by
  unfold abandonLoad
  try dsimp only
  repeat' first
    | with_reducible assumption | with_reducible apply storeUnit_ok | with_reducible apply storeCopy_ok
    | with_reducible apply setPartial_ok | with_reducible apply foldl_ok | with_reducible apply ite_ok
    | with_reducible apply foldl1_ok | with_reducible apply ite1_ok | with_reducible apply ite_okW | with_reducible apply OkW.st
    | (intro _ _ _) | (intro _) | split | with_reducible apply Ok.record | dsimp only

theorem dropFallbacks_ok {b0 : State} (s : State) (r n : Nat) (h_s : Ok b0 s) : Ok b0 (dropFallbacks s r n) := by
  unfold dropFallbacks
  try dsimp only
  repeat' first
    | with_reducible assumption | with_reducible apply State_setEngine_ok | with_reducible apply foldl_ok
    | with_reducible apply ite_ok | with_reducible apply foldl1_ok | with_reducible apply ite1_ok | with_reducible apply ite_okW
    | with_reducible apply OkW.st | (intro _ _ _) | (intro _) | split | with_reducible apply Ok.record | dsimp only

theorem acceptWindow_ok {b0 : State} (data : List (BitVec 32)) (s : State) (d : Desc) (h_s : Ok b0 s) : Ok b0 (acceptWindow data s d) := by
  unfold acceptWindow
  try dsimp only
  repeat' first
    | with_reducible assumption | with_reducible apply State_setStream_ok | with_reducible apply acceptEntry_ok
    | with_reducible apply dropFallbacks_ok | with_reducible apply ite_ok | with_reducible apply ite1_ok
    | with_reducible apply ite_okW | with_reducible apply OkW.st | with_reducible apply OkW.mk | (intro _ _ _) | (intro _)
    | split | with_reducible apply Ok.record | dsimp only

theorem execStreamWindow_ok {b0 : State} (sq : Nat) (data : List (BitVec 32)) (s : State) (h_s : Ok b0 s) : OkO b0 (execStreamWindow sq data s) := by
  unfold execStreamWindow
  try dsimp only
  repeat' first
    | with_reducible assumption | with_reducible apply decideWith_ok | with_reducible apply acceptWindow_ok
    | with_reducible apply happen_ok | with_reducible apply OkO.next | with_reducible apply OkO.fault
    | with_reducible apply OkW.st | (intro _ _ _) | (intro _) | split | with_reducible apply Ok.record | dsimp only

theorem acceptAlloc_ok {b0 : State} (s : State) (d : Desc) (h_s : Ok b0 s) : Ok b0 (acceptAlloc s d) := by
  unfold acceptAlloc
  try dsimp only
  repeat' first
    | with_reducible assumption | with_reducible apply addWork_ok | with_reducible apply State_setRset_ok
    | with_reducible apply acceptEntry_ok | with_reducible apply OkW.st | with_reducible apply Ok.record | dsimp only

theorem execRecordSetAlloc_ok {b0 : State} (sq : Nat) (s : State) (h_s : Ok b0 s) : OkO b0 (execRecordSetAlloc sq s) := by
  unfold execRecordSetAlloc
  try dsimp only
  repeat' first
    | with_reducible assumption | with_reducible apply decideWith_ok | with_reducible apply acceptAlloc_ok
    | with_reducible apply happen_ok | with_reducible apply OkO.next | with_reducible apply OkO.fault
    | with_reducible apply OkW.st | (intro _ _ _) | (intro _) | split | with_reducible apply Ok.record | dsimp only

theorem recordSetReady_ok {b0 : State} (s : State) (w : Work) (pages : List Nat) (h_s : Ok b0 s) : Ok b0 (recordSetReady s w pages) := by
  unfold recordSetReady
  try dsimp only
  repeat' first
    | with_reducible assumption | with_reducible apply State_setRset_ok | with_reducible apply finishWork_ok
    | with_reducible apply OkW.st | with_reducible apply Ok.record | dsimp only

theorem execRecordSetReady_ok {b0 : State} (uid : Nat) (pages : List Nat) (s : State) (h_s : Ok b0 s) : OkO b0 (execRecordSetReady uid pages s) := by
  unfold execRecordSetReady
  try dsimp only
  repeat' first
    | with_reducible assumption | with_reducible apply recordSetReady_ok | with_reducible apply happen_ok
    | with_reducible apply OkO.next | with_reducible apply OkO.fault | with_reducible apply OkW.st | (intro _ _ _) | (intro _)
    | split | with_reducible apply Ok.record | dsimp only

theorem acceptRecycle_ok {b0 : State} (s : State) (d : Desc) (h_s : Ok b0 s) : Ok b0 (acceptRecycle s d) := by
  unfold acceptRecycle
  try dsimp only
  repeat' first
    | with_reducible assumption | with_reducible apply addWork_ok | with_reducible apply State_setRset_ok
    | with_reducible apply acceptEntry_ok | with_reducible apply OkW.st | with_reducible apply Ok.record | dsimp only

theorem execRecordSetRecycle_ok {b0 : State} (sq : Nat) (s : State) (h_s : Ok b0 s) : OkO b0 (execRecordSetRecycle sq s) := by
  unfold execRecordSetRecycle
  try dsimp only
  repeat' first
    | with_reducible assumption | with_reducible apply decideWith_ok | with_reducible apply acceptRecycle_ok
    | with_reducible apply happen_ok | with_reducible apply OkO.next | with_reducible apply OkO.fault
    | with_reducible apply OkW.st | (intro _ _ _) | (intro _) | split | with_reducible apply Ok.record | dsimp only

theorem freeOldest_ok {b0 : State} (s : State) (d : Desc) (h_s : Ok b0 s) : Ok b0 (freeOldest s d) := by
  unfold freeOldest
  try dsimp only
  repeat' first
    | with_reducible assumption | with_reducible apply State_setRset_ok | with_reducible apply OkW.st
    | with_reducible apply Ok.record | dsimp only

theorem recycleDone_ok {b0 : State} (s : State) (w : Work) (h_s : Ok b0 s) : Ok b0 (recycleDone s w) := by
  unfold recycleDone
  try dsimp only
  repeat' first
    | with_reducible assumption | with_reducible apply finishWork_ok | with_reducible apply freeOldest_ok
    | with_reducible apply OkW.st | with_reducible apply Ok.record | dsimp only

theorem execRecycleDone_ok {b0 : State} (uid : Nat) (s : State) (h_s : Ok b0 s) : OkO b0 (execRecycleDone uid s) := by
  unfold execRecycleDone
  try dsimp only
  repeat' first
    | with_reducible assumption | with_reducible apply recycleDone_ok | with_reducible apply happen_ok
    | with_reducible apply OkO.next | with_reducible apply OkO.fault | with_reducible apply OkW.st | (intro _ _ _) | (intro _)
    | split | with_reducible apply Ok.record | dsimp only

theorem acceptRelease_ok {b0 : State} (s : State) (d : Desc) (h_s : Ok b0 s) : Ok b0 (acceptRelease s d) := by
  unfold acceptRelease
  try dsimp only
  repeat' first
    | with_reducible assumption | with_reducible apply addWork_ok | with_reducible apply State_setRset_ok
    | with_reducible apply acceptEntry_ok | with_reducible apply foldl_ok | with_reducible apply foldl1_ok
    | with_reducible apply OkW.st | (intro _ _ _) | (intro _) | with_reducible apply Ok.record | dsimp only

theorem execRelease_ok {b0 : State} (sq : Nat) (s : State) (h_s : Ok b0 s) : OkO b0 (execRelease sq s) := by
  unfold execRelease
  try dsimp only
  repeat' first
    | with_reducible assumption | with_reducible apply decideWith_ok | with_reducible apply acceptRelease_ok
    | with_reducible apply happen_ok | with_reducible apply OkO.next | with_reducible apply OkO.fault
    | with_reducible apply OkW.st | (intro _ _ _) | (intro _) | split | with_reducible apply Ok.record | dsimp only

theorem freeSets_ok {b0 : State} (s : State) (d : Desc) (h_s : Ok b0 s) : Ok b0 (freeSets s d) := by
  unfold freeSets
  try dsimp only
  repeat' first
    | with_reducible assumption | with_reducible apply State_setRset_ok | with_reducible apply foldl_ok
    | with_reducible apply foldl1_ok | with_reducible apply OkW.st | (intro _ _ _) | (intro _) | dsimp only

theorem releaseDone_ok {b0 : State} (s : State) (w : Work) (h_s : Ok b0 s) : Ok b0 (releaseDone s w) := by
  unfold releaseDone
  try dsimp only
  repeat' first
    | with_reducible assumption | with_reducible apply State_dropWork_ok | with_reducible apply finishWork_ok
    | with_reducible apply freeSets_ok | with_reducible apply ite_ok | with_reducible apply ite1_ok
    | with_reducible apply ite_okW | with_reducible apply OkW.st | split | with_reducible apply Ok.record | dsimp only

theorem execReleaseDone_ok {b0 : State} (uid : Nat) (s : State) (h_s : Ok b0 s) : OkO b0 (execReleaseDone uid s) := by
  unfold execReleaseDone
  try dsimp only
  repeat' first
    | with_reducible assumption | with_reducible apply releaseDone_ok | with_reducible apply happen_ok
    | with_reducible apply OkO.next | with_reducible apply OkO.fault | with_reducible apply OkW.st | (intro _ _ _) | (intro _)
    | split | with_reducible apply Ok.record | dsimp only

end Sys2Proof.Machine
end

