-- ==== Sys2Proof/Laws/KeepMailbox.lean ====
section
/-!
SUPPORT. What every operation of Machine/Mailbox.lean keeps (see KeepOps.lean).
-/
namespace Sys2Proof.Machine

theorem State_setMbx_ok {b0 : State} (s : State) (k : Nat) (m : Mailbox) (h_s : Ok b0 s) : Ok b0 (State.setMbx s k m) := by
  unfold State.setMbx
  try dsimp only
  repeat' first
    | with_reducible assumption | with_reducible apply OkW.st | with_reducible apply Ok.record | dsimp only

theorem State_mbxReply_ok {b0 : State} (s : State) (k wait status : Nat) (payload : List (BitVec 8)) (dataEpoch : Nat) (h_s : Ok b0 s) : Ok b0 (State.mbxReply s k wait status payload dataEpoch) := by
  unfold State.mbxReply
  try dsimp only
  repeat' first
    | with_reducible assumption | with_reducible apply State_setMbx_ok | with_reducible apply State_raiseVector_ok
    | with_reducible apply ite_ok | with_reducible apply ite1_ok | with_reducible apply ite_okW | with_reducible apply OkW.st
    | with_reducible apply OkW.mk | split | with_reducible apply Ok.record | dsimp only

theorem answerUnknown_ok {b0 : State} (s : State) (k : Nat) (h_s : Ok b0 s) : Ok b0 (answerUnknown s k) := by
  unfold answerUnknown
  try dsimp only
  repeat' first
    | with_reducible assumption | with_reducible apply State_mbxReply_ok | with_reducible apply ite_ok
    | with_reducible apply ite1_ok | with_reducible apply ite_okW | with_reducible apply OkW.st | split | dsimp only

theorem answerAll_ok {b0 : State} (s : State) (h_s : Ok b0 s) : Ok b0 (answerAll s) := by
  unfold answerAll
  try dsimp only
  repeat' first
    | with_reducible assumption | with_reducible apply answerUnknown_ok | with_reducible apply foldl_ok
    | with_reducible apply foldl1_ok | with_reducible apply OkW.st | (intro _ _ _) | (intro _) | dsimp only

theorem mbxPost_ok {b0 : State} (s : State) (k seq cmd len expire opt : Nat) (payload : List (BitVec 8)) (h_s : Ok b0 s) : Ok b0 (mbxPost s k seq cmd len expire opt payload) := by
  unfold mbxPost
  try dsimp only
  repeat' first
    | with_reducible assumption | with_reducible apply State_setMbx_ok | with_reducible apply answerUnknown_ok
    | with_reducible apply OkW.st | with_reducible apply OkW.mk | dsimp only

theorem execMailboxPost_ok {b0 : State} (k seq cmd len expire opt : Nat) (payload : List (BitVec 8)) (s : State) (h_s : Ok b0 s) : OkO b0 (execMailboxPost k seq cmd len expire opt payload s) := by
  unfold execMailboxPost
  try dsimp only
  repeat' first
    | with_reducible assumption | with_reducible apply mbxPost_ok | with_reducible apply happen_ok
    | with_reducible apply OkO.next | with_reducible apply OkO.fault | with_reducible apply OkW.st | dsimp only

theorem execMailboxCancel_ok {b0 : State} (k : Nat) (s : State) (h_s : Ok b0 s) : OkO b0 (execMailboxCancel k s) := by
  unfold execMailboxCancel
  try dsimp only
  repeat' first
    | with_reducible assumption | with_reducible apply State_mbxReply_ok | with_reducible apply happen_ok
    | with_reducible apply OkO.next | with_reducible apply OkO.fault | with_reducible apply OkW.st | dsimp only

theorem execMailboxExpire_ok {b0 : State} (k : Nat) (s : State) (h_s : Ok b0 s) : OkO b0 (execMailboxExpire k s) := by
  unfold execMailboxExpire
  try dsimp only
  repeat' first
    | with_reducible assumption | with_reducible apply State_mbxReply_ok | with_reducible apply State_bump_ok
    | with_reducible apply happen_ok | with_reducible apply OkO.next | with_reducible apply OkO.fault
    | with_reducible apply OkW.st | dsimp only

theorem servedOk_ok {b0 : State} (s : State) (payload : List (BitVec 8)) (h_s : Ok b0 s) : Ok b0 (servedOk s payload).st := by
  exact h_s

theorem servedBad_ok {b0 : State} (s : State) (status : Nat) (h_s : Ok b0 s) : Ok b0 (servedBad s status).st := by
  exact h_s

theorem serveSlot_ok {b0 : State} (s : State) (k wait : Nat) (lenOk : Mailbox → Bool) (f : Mailbox → Served) (h_s : Ok b0 s) (h_f : ∀ m, Ok b0 (f m).st) : Ok b0 (serveSlot s k wait lenOk f) := by
  unfold serveSlot
  dsimp only
  apply State_mbxReply_ok
  split
  · exact h_f _
  · exact h_s

theorem serve_ok {b0 : State} (s : State) (k cmd wait : Nat) (lenOk : Mailbox → Bool) (f : Mailbox → Served) (h_s : Ok b0 s) (h_f : ∀ m, Ok b0 (f m).st) : OkO b0 (serve s k cmd wait lenOk f) := by
  unfold serve
  try dsimp only
  repeat' first
    | with_reducible assumption | with_reducible apply h_f | with_reducible apply serveSlot_ok | with_reducible apply happen_ok
    | with_reducible apply OkO.next | with_reducible apply OkO.fault | with_reducible apply OkW.st | dsimp only

theorem execEcho_ok {b0 : State} (k wait : Nat) (s : State) (h_s : Ok b0 s) : OkO b0 (execEcho k wait s) := by
  unfold execEcho
  try dsimp only
  repeat' first
    | with_reducible assumption | with_reducible apply servedOk_ok | with_reducible apply serve_ok
    | with_reducible apply OkO.next | with_reducible apply OkO.fault | with_reducible apply OkW.st | (intro _ _ _) | (intro _)
    | dsimp only

end Sys2Proof.Machine
end

