-- ==== Sys2Proof/Laws/KeepSensors.lean ====
section
/-!
SUPPORT. What every operation of Machine/Sensors.lean keeps (see KeepOps.lean).
-/
namespace Sys2Proof.Machine

theorem State_setSns_ok {b0 : State} (s : State) (c : Nat) (x : Sns) (h_s : Ok b0 s) : Ok b0 (State.setSns s c x) := by
  unfold State.setSns
  try dsimp only
  repeat' first
    | with_reducible assumption | with_reducible apply OkW.st | with_reducible apply Ok.record | dsimp only

theorem writeSnsCfg_ok {b0 : State} (s : State) (c : Nat) (v : Word) (h_s : Ok b0 s) : OkW b0 (writeSnsCfg s c v) := by
  unfold writeSnsCfg
  try dsimp only
  repeat' first
    | with_reducible assumption | with_reducible apply State_wr_ok | with_reducible apply State_put_ok
    | with_reducible apply taken_ok | with_reducible apply OkW.st | with_reducible apply OkW.mk | dsimp only

theorem snsBoundary_ok {b0 : State} (s : State) (c : Nat) (cmClear compClear : Bool) (h_s : Ok b0 s) : Ok b0 (snsBoundary s c cmClear compClear) := by
  unfold snsBoundary
  try dsimp only
  repeat' first
    | with_reducible assumption | with_reducible apply State_setSns_ok | with_reducible apply OkW.st | (intro _ _ _) | (intro _)
    | split | with_reducible apply Ok.record | dsimp only

theorem execSensorPeriodBoundary_ok {b0 : State} (c : Nat) (cmClear compClear : Bool) (s : State) (h_s : Ok b0 s) : OkO b0 (execSensorPeriodBoundary c cmClear compClear s) := by
  unfold execSensorPeriodBoundary
  try dsimp only
  repeat' first
    | with_reducible assumption | with_reducible apply snsBoundary_ok | with_reducible apply happen_ok
    | with_reducible apply OkO.next | with_reducible apply OkO.fault | with_reducible apply OkW.st | dsimp only

theorem snsFault_ok {b0 : State} (s : State) (c : Nat) (cm : Bool) (h_s : Ok b0 s) : Ok b0 (snsFault s c cm) := by
  unfold snsFault
  try dsimp only
  repeat' first
    | with_reducible assumption | with_reducible apply State_bump_ok | with_reducible apply State_event_ok
    | with_reducible apply State_setSns_ok | with_reducible apply ite_ok | with_reducible apply ite1_ok
    | with_reducible apply ite_okW | with_reducible apply OkW.st | (intro _ _ _) | (intro _) | split
    | with_reducible apply Ok.record | dsimp only

theorem execSensorFault_ok {b0 : State} (c : Nat) (cm : Bool) (mv : Int) (s : State) (h_s : Ok b0 s) : OkO b0 (execSensorFault c cm mv s) := by
  unfold execSensorFault
  try dsimp only
  repeat' first
    | with_reducible assumption | with_reducible apply snsFault_ok | with_reducible apply happen_ok
    | with_reducible apply ite_ok | with_reducible apply ite_okO | with_reducible apply ite1_ok | with_reducible apply ite_okW
    | with_reducible apply OkO.next | with_reducible apply OkO.fault | with_reducible apply OkW.st | split | dsimp only

theorem State_setHeater_ok {b0 : State} (s : State) (k : Nat) (h : Heater) (h_s : Ok b0 s) : Ok b0 (State.setHeater s k h) := by
  unfold State.setHeater
  try dsimp only
  repeat' first
    | with_reducible assumption | with_reducible apply OkW.st | with_reducible apply Ok.record | dsimp only

theorem State_htrSchedule_ok {b0 : State} (s : State) (k out : Nat) (h_s : Ok b0 s) : Ok b0 (State.htrSchedule s k out) := by
  unfold State.htrSchedule
  try dsimp only
  repeat' first
    | with_reducible assumption | with_reducible apply State_setHeater_ok | with_reducible apply OkW.st
    | with_reducible apply Ok.record | dsimp only

theorem htrUpdate_ok {b0 : State} (s : State) (k t : Nat) (h_s : Ok b0 s) : Ok b0 (htrUpdate s k t) := by
  unfold htrUpdate
  try dsimp only
  repeat' first
    | with_reducible assumption | with_reducible apply State_put_ok | with_reducible apply State_put64_ok
    | with_reducible apply State_event_ok | with_reducible apply State_setHeater_ok | with_reducible apply State_htrSchedule_ok
    | with_reducible apply ite_ok | with_reducible apply ite1_ok | with_reducible apply ite_okW | with_reducible apply OkW.st
    | split | with_reducible apply Ok.record | dsimp only

theorem htrPosting_ok {b0 : State} (s : State) (c : Nat) (temp : Option Nat) (h_s : Ok b0 s) : Ok b0 (htrPosting s c temp) := by
  unfold htrPosting
  try dsimp only
  repeat' first
    | with_reducible assumption | with_reducible apply State_put_ok | with_reducible apply htrUpdate_ok
    | with_reducible apply foldl_ok | with_reducible apply ite_ok | with_reducible apply foldl1_ok
    | with_reducible apply ite1_ok | with_reducible apply ite_okW | with_reducible apply OkW.st | (intro _ _ _) | (intro _)
    | split | with_reducible apply Ok.record | dsimp only

theorem snsPost_ok {b0 : State} (s : State) (c : Nat) (p : SnsPeriod) (xR xX : Int) (big : Bool) (h_s : Ok b0 s) : Ok b0 (snsPost s c p xR xX big) := by
  unfold snsPost
  try dsimp only
  repeat' first
    | with_reducible assumption | with_reducible apply State_wr_ok | with_reducible apply State_put64_ok
    | with_reducible apply State_setSns_ok | with_reducible apply htrPosting_ok | with_reducible apply ite_ok
    | with_reducible apply ite1_ok | with_reducible apply ite_okW | with_reducible apply OkW.st | (intro _ _ _) | (intro _)
    | split | with_reducible apply Ok.record | dsimp only

theorem execSensorPost_ok {b0 : State} (c : Nat) (xR xX : Int) (big : Bool) (s : State) (h_s : Ok b0 s) : OkO b0 (execSensorPost c xR xX big s) := by
  unfold execSensorPost
  try dsimp only
  repeat' first
    | with_reducible assumption | with_reducible apply snsPost_ok | with_reducible apply happen_ok
    | with_reducible apply OkO.next | with_reducible apply OkO.fault | with_reducible apply OkW.st | (intro _ _ _) | (intro _)
    | split | with_reducible apply Ok.record | dsimp only

theorem clearSnsStats_ok {b0 : State} (s : State) (h_s : Ok b0 s) : Ok b0 (clearSnsStats s) := by
  unfold clearSnsStats
  try dsimp only
  repeat' first
    | with_reducible assumption | with_reducible apply State_put_ok | with_reducible apply foldl_ok
    | with_reducible apply foldl1_ok | with_reducible apply OkW.st | (intro _ _ _) | (intro _) | dsimp only

theorem State_eachSns_ok {b0 : State} (s : State) (f : Sns → Sns) (h_s : Ok b0 s) : Ok b0 (State.eachSns s f) := by
  unfold State.eachSns
  try dsimp only
  repeat' first
    | with_reducible assumption | with_reducible apply State_setSns_ok | with_reducible apply foldl_ok
    | with_reducible apply foldl1_ok | with_reducible apply OkW.st | (intro _ _ _) | (intro _) | dsimp only

theorem snsCut_ok {b0 : State} (s : State) (h_s : Ok b0 s) : Ok b0 (snsCut s) := by
  unfold snsCut
  try dsimp only
  repeat' first
    | with_reducible assumption | with_reducible apply State_eachSns_ok | with_reducible apply ite_ok
    | with_reducible apply ite1_ok | with_reducible apply ite_okW | with_reducible apply OkW.st | (intro _ _ _) | (intro _)
    | split | with_reducible apply Ok.record | dsimp only

theorem snsCalEnter_ok {b0 : State} (s : State) (h_s : Ok b0 s) : Ok b0 (snsCalEnter s) := by
  unfold snsCalEnter
  try dsimp only
  repeat' first
    | with_reducible assumption | with_reducible apply State_setSns_ok | with_reducible apply foldl_ok
    | with_reducible apply ite_ok | with_reducible apply foldl1_ok | with_reducible apply ite1_ok | with_reducible apply ite_okW
    | with_reducible apply OkW.st | (intro _ _ _) | (intro _) | split | with_reducible apply Ok.record | dsimp only

theorem snsCalLeave_ok {b0 : State} (s : State) (h_s : Ok b0 s) : Ok b0 (snsCalLeave s) := by
  unfold snsCalLeave
  try dsimp only
  repeat' first
    | with_reducible assumption | with_reducible apply restart_ok | with_reducible apply State_eachSns_ok
    | with_reducible apply ite_ok | with_reducible apply ite1_ok | with_reducible apply ite_okW | with_reducible apply OkW.st
    | (intro _ _ _) | (intro _) | split | with_reducible apply Ok.record | dsimp only

theorem snsTrip_ok {b0 : State} (s : State) (h_s : Ok b0 s) : Ok b0 (snsTrip s) := by
  unfold snsTrip
  try dsimp only
  repeat' first
    | with_reducible assumption | with_reducible apply State_eachSns_ok | with_reducible apply OkW.st | (intro _ _ _)
    | (intro _) | with_reducible apply Ok.record | dsimp only

theorem writeHtrCtrl_ok {b0 : State} (s : State) (k : Nat) (v : Word) (h_s : Ok b0 s) : OkW b0 (writeHtrCtrl s k v) := by
  unfold writeHtrCtrl
  try dsimp only
  repeat' first
    | with_reducible assumption | with_reducible apply State_put_ok | with_reducible apply taken_ok
    | with_reducible apply State_setHeater_ok | with_reducible apply ite_ok | with_reducible apply ite1_ok
    | with_reducible apply ite_okW | with_reducible apply OkW.st | with_reducible apply OkW.mk | split
    | with_reducible apply Ok.record | dsimp only

theorem writeHtrVal_ok {b0 : State} (s : State) (k : Nat) (v : Word) (h_s : Ok b0 s) : OkW b0 (writeHtrVal s k v) := by
  unfold writeHtrVal
  try dsimp only
  repeat' first
    | with_reducible assumption | with_reducible apply taken_ok | with_reducible apply refusedBy_ok
    | with_reducible apply State_setHeater_ok | with_reducible apply ite_ok | with_reducible apply ite1_ok
    | with_reducible apply ite_okW | with_reducible apply OkW.st | with_reducible apply OkW.mk | split
    | with_reducible apply Ok.record | dsimp only

theorem writeHtrLoop_ok {b0 : State} (s : State) (k : Nat) (v : Word) (h_s : Ok b0 s) : OkW b0 (writeHtrLoop s k v) := by
  unfold writeHtrLoop
  try dsimp only
  repeat' first
    | with_reducible assumption | with_reducible apply State_wr_ok | with_reducible apply taken_ok
    | with_reducible apply refusedBy_ok | with_reducible apply ite_ok | with_reducible apply ite1_ok
    | with_reducible apply ite_okW | with_reducible apply OkW.st | with_reducible apply OkW.mk | split | dsimp only

theorem execHtrValEffect_ok {b0 : State} (k : Nat) (s : State) (h_s : Ok b0 s) : OkO b0 (execHtrValEffect k s) := by
  unfold execHtrValEffect
  try dsimp only
  repeat' first
    | with_reducible assumption | with_reducible apply State_setHeater_ok | with_reducible apply happen_ok
    | with_reducible apply OkO.next | with_reducible apply OkO.fault | with_reducible apply OkW.st | (intro _ _ _) | (intro _)
    | split | with_reducible apply Ok.record | dsimp only

theorem execHeaterCodeEffect_ok {b0 : State} (k : Nat) (s : State) (h_s : Ok b0 s) : OkO b0 (execHeaterCodeEffect k s) := by
  unfold execHeaterCodeEffect
  try dsimp only
  repeat' first
    | with_reducible assumption | with_reducible apply State_setHeater_ok | with_reducible apply happen_ok
    | with_reducible apply OkO.next | with_reducible apply OkO.fault | with_reducible apply OkW.st | (intro _ _ _) | (intro _)
    | split | with_reducible apply Ok.record | dsimp only

theorem loseSensor_ok {b0 : State} (s : State) (k : Nat) (h_s : Ok b0 s) : Ok b0 (loseSensor s k) := by
  unfold loseSensor
  try dsimp only
  repeat' first
    | with_reducible assumption | with_reducible apply State_put_ok | with_reducible apply State_event_ok
    | with_reducible apply State_setHeater_ok | with_reducible apply OkW.st | with_reducible apply Ok.record | dsimp only

theorem execNoSensor_ok {b0 : State} (k : Nat) (s : State) (h_s : Ok b0 s) : OkO b0 (execNoSensor k s) := by
  unfold execNoSensor
  try dsimp only
  repeat' first
    | with_reducible assumption | with_reducible apply loseSensor_ok | with_reducible apply happen_ok
    | with_reducible apply OkO.next | with_reducible apply OkO.fault | with_reducible apply OkW.st | dsimp only

theorem htrCompliance_ok {b0 : State} (s : State) (k : Nat) (bad : Bool) (h_s : Ok b0 s) : Ok b0 (htrCompliance s k bad) := by
  unfold htrCompliance
  try dsimp only
  repeat' first
    | with_reducible assumption | with_reducible apply State_put_ok | with_reducible apply State_event_ok
    | with_reducible apply ite_ok | with_reducible apply ite1_ok | with_reducible apply ite_okW | with_reducible apply OkW.st
    | split | dsimp only

theorem execHeaterCompliance_ok {b0 : State} (k : Nat) (bad : Bool) (s : State) (h_s : Ok b0 s) : OkO b0 (execHeaterCompliance k bad s) := by
  unfold execHeaterCompliance
  try dsimp only
  repeat' first
    | with_reducible assumption | with_reducible apply htrCompliance_ok | with_reducible apply happen_ok
    | with_reducible apply OkO.next | with_reducible apply OkO.fault | with_reducible apply OkW.st | dsimp only

theorem htrStop_ok {b0 : State} (s : State) (clear : Bool) (h_s : Ok b0 s) : Ok b0 (htrStop s clear) := by
  unfold htrStop
  try dsimp only
  repeat' first
    | with_reducible assumption | with_reducible apply State_put_ok | with_reducible apply State_setHeater_ok
    | with_reducible apply foldl_ok | with_reducible apply ite_ok | with_reducible apply foldl1_ok
    | with_reducible apply ite1_ok | with_reducible apply ite_okW | with_reducible apply OkW.st | (intro _ _ _) | (intro _)
    | split | with_reducible apply Ok.record | dsimp only

end Sys2Proof.Machine
end

