-- ==== Sys2Proof/Laws/KeepFlash.lean ====
section
/-!
SUPPORT. What every operation of Machine/Flash.lean keeps (see KeepOps.lean).
-/
namespace Sys2Proof.Machine

theorem State_newWriting_ok {b0 : State} (s : State) (h_s : Ok b0 s) : Ok b0 (State.newWriting s).2 := by
  unfold State.newWriting
  try dsimp only
  repeat' first
    | with_reducible assumption | with_reducible apply OkW.st | with_reducible apply Ok.record | dsimp only

theorem execVersion_ok {b0 : State} (k wait : Nat) (s : State) (h_s : Ok b0 s) : OkO b0 (execVersion k wait s) := by
  unfold execVersion
  try dsimp only
  repeat' first
    | with_reducible assumption | with_reducible apply servedOk_ok | with_reducible apply serve_ok
    | with_reducible apply OkO.next | with_reducible apply OkO.fault | with_reducible apply OkW.st | (intro _ _ _) | (intro _)
    | dsimp only

theorem execFwInfo_ok {b0 : State} (k wait : Nat) (s : State) (h_s : Ok b0 s) : OkO b0 (execFwInfo k wait s) := by
  unfold execFwInfo
  try dsimp only
  repeat' first
    | with_reducible assumption | with_reducible apply servedOk_ok | with_reducible apply serve_ok
    | with_reducible apply OkO.next | with_reducible apply OkO.fault | with_reducible apply OkW.st | (intro _ _ _) | (intro _)
    | dsimp only

theorem fwWrite_ok {b0 : State} (s : State) (n off : Nat) (bytes : List (BitVec 8)) (h_s : Ok b0 s) : Ok b0 (fwWrite s n off bytes) := by
  unfold fwWrite
  try dsimp only
  repeat' first
    | with_reducible assumption | with_reducible apply State_newWriting_ok | with_reducible apply foldl_ok
    | with_reducible apply ite_ok | with_reducible apply foldl1_ok | with_reducible apply ite1_ok | with_reducible apply ite_okW
    | with_reducible apply OkW.st | with_reducible apply OkW.mk | (intro _ _ _) | (intro _) | split
    | with_reducible apply Ok.record | dsimp only

theorem execFwWrite_ok {b0 : State} (k wait : Nat) (ok : Bool) (s : State) (h_s : Ok b0 s) : OkO b0 (execFwWrite k wait ok s) := by
  unfold execFwWrite
  try dsimp only
  repeat' first
    | with_reducible assumption | with_reducible apply fwWrite_ok | with_reducible apply servedOk_ok
    | with_reducible apply servedBad_ok | with_reducible apply serve_ok | with_reducible apply ite_ok
    | with_reducible apply ite_okO | with_reducible apply ite1_ok | with_reducible apply ite_okW | with_reducible apply OkO.next
    | with_reducible apply OkO.fault | with_reducible apply OkW.st | (intro _ _ _) | (intro _) | split | dsimp only

theorem fwCommit_ok {b0 : State} (s : State) (n len version : Nat) (h_s : Ok b0 s) : Ok b0 (fwCommit s n len version).1 := by
  unfold fwCommit
  try dsimp only
  repeat' first
    | with_reducible assumption | with_reducible apply OkW.st | with_reducible apply OkW.mk | with_reducible apply Ok.record
    | dsimp only

theorem execFwCommit_ok {b0 : State} (k wait : Nat) (ok : Bool) (s : State) (h_s : Ok b0 s) : OkO b0 (execFwCommit k wait ok s) := by
  unfold execFwCommit
  try dsimp only
  repeat' first
    | with_reducible assumption | with_reducible apply fwCommit_ok | with_reducible apply servedOk_ok
    | with_reducible apply servedBad_ok | with_reducible apply serve_ok | with_reducible apply ite_ok
    | with_reducible apply ite_okO | with_reducible apply ite1_ok | with_reducible apply ite_okW | with_reducible apply OkO.next
    | with_reducible apply OkO.fault | with_reducible apply OkW.st | (intro _ _ _) | (intro _) | split | dsimp only

theorem execFlashRead_ok {b0 : State} (k wait : Nat) (s : State) (h_s : Ok b0 s) : OkO b0 (execFlashRead k wait s) := by
  unfold execFlashRead
  try dsimp only
  repeat' first
    | with_reducible assumption | with_reducible apply servedOk_ok | with_reducible apply serve_ok
    | with_reducible apply OkO.next | with_reducible apply OkO.fault | with_reducible apply OkW.st | (intro _ _ _) | (intro _)
    | dsimp only

theorem curveWrite_ok {b0 : State} (s : State) (m : Mailbox) (h_s : Ok b0 s) : Ok b0 (curveWrite s m) := by
  unfold curveWrite
  try dsimp only
  repeat' first
    | with_reducible assumption | with_reducible apply foldl_ok | with_reducible apply foldl1_ok | with_reducible apply OkW.st
    | (intro _ _ _) | (intro _) | with_reducible apply Ok.record | dsimp only

theorem execCurveWrite_ok {b0 : State} (k wait : Nat) (s : State) (h_s : Ok b0 s) : OkO b0 (execCurveWrite k wait s) := by
  unfold execCurveWrite
  try dsimp only
  repeat' first
    | with_reducible assumption | with_reducible apply curveWrite_ok | with_reducible apply servedOk_ok
    | with_reducible apply servedBad_ok | with_reducible apply serve_ok | with_reducible apply ite_ok
    | with_reducible apply ite_okO | with_reducible apply ite1_ok | with_reducible apply ite_okW | with_reducible apply OkO.next
    | with_reducible apply OkO.fault | with_reducible apply OkW.st | (intro _ _ _) | (intro _) | split | dsimp only

theorem State_setCurve_ok {b0 : State} (s : State) (u : Nat) (pts : List (Nat × Nat)) (h_s : Ok b0 s) : Ok b0 (State.setCurve s u pts) := by
  unfold State.setCurve
  try dsimp only
  repeat' first
    | with_reducible assumption | with_reducible apply OkW.st | with_reducible apply Ok.record | dsimp only

theorem execCurveCommit_ok {b0 : State} (k wait : Nat) (s : State) (h_s : Ok b0 s) : OkO b0 (execCurveCommit k wait s) := by
  unfold execCurveCommit
  try dsimp only
  repeat' first
    | with_reducible assumption | with_reducible apply State_setCurve_ok | with_reducible apply servedOk_ok
    | with_reducible apply servedBad_ok | with_reducible apply serve_ok | with_reducible apply ite_ok
    | with_reducible apply ite_okO | with_reducible apply ite1_ok | with_reducible apply ite_okW | with_reducible apply OkO.next
    | with_reducible apply OkO.fault | with_reducible apply OkW.st | (intro _ _ _) | (intro _) | split | dsimp only

theorem execCurveRead_ok {b0 : State} (k wait : Nat) (s : State) (h_s : Ok b0 s) : OkO b0 (execCurveRead k wait s) := by
  unfold execCurveRead
  try dsimp only
  repeat' first
    | with_reducible assumption | with_reducible apply servedOk_ok | with_reducible apply serve_ok
    | with_reducible apply OkO.next | with_reducible apply OkO.fault | with_reducible apply OkW.st | (intro _ _ _) | (intro _)
    | dsimp only

theorem curveSave_ok {b0 : State} (s : State) (ok : Bool) (h_s : Ok b0 s) : Ok b0 (curveSave s ok).st := by
  unfold curveSave
  try dsimp only
  repeat' first
    | with_reducible assumption | with_reducible apply State_newWriting_ok | with_reducible apply servedOk_ok
    | with_reducible apply servedBad_ok | with_reducible apply ite_ok | with_reducible apply ite1_ok
    | with_reducible apply ite_okW | with_reducible apply OkW.st | with_reducible apply OkW.mk | split
    | with_reducible apply Ok.record | dsimp only

theorem execCurveSave_ok {b0 : State} (k wait : Nat) (ok : Bool) (s : State) (h_s : Ok b0 s) : OkO b0 (execCurveSave k wait ok s) := by
  unfold execCurveSave
  try dsimp only
  repeat' first
    | with_reducible assumption | with_reducible apply curveSave_ok | with_reducible apply serve_ok
    | with_reducible apply OkO.next | with_reducible apply OkO.fault | with_reducible apply OkW.st | (intro _ _ _) | (intro _)
    | dsimp only

theorem execCurveClear_ok {b0 : State} (k wait : Nat) (s : State) (h_s : Ok b0 s) : OkO b0 (execCurveClear k wait s) := by
  unfold execCurveClear
  try dsimp only
  repeat' first
    | with_reducible assumption | with_reducible apply State_setCurve_ok | with_reducible apply servedOk_ok
    | with_reducible apply servedBad_ok | with_reducible apply serve_ok | with_reducible apply ite_ok
    | with_reducible apply ite_okO | with_reducible apply ite1_ok | with_reducible apply ite_okW | with_reducible apply OkO.next
    | with_reducible apply OkO.fault | with_reducible apply OkW.st | (intro _ _ _) | (intro _) | split | dsimp only

theorem loadCurves_ok {b0 : State} (s : State) (h_s : Ok b0 s) : Ok b0 (loadCurves s) := by
  unfold loadCurves
  try dsimp only
  repeat' first
    | with_reducible assumption | with_reducible apply OkW.st | (intro _ _ _) | (intro _) | split
    | with_reducible apply Ok.record | dsimp only

theorem execTripLogRead_ok {b0 : State} (k wait : Nat) (s : State) (h_s : Ok b0 s) : OkO b0 (execTripLogRead k wait s) := by
  unfold execTripLogRead
  try dsimp only
  repeat' first
    | with_reducible assumption | with_reducible apply servedOk_ok | with_reducible apply servedBad_ok
    | with_reducible apply serve_ok | with_reducible apply OkO.next | with_reducible apply OkO.fault
    | with_reducible apply OkW.st | (intro _ _ _) | (intro _) | split | with_reducible apply Ok.record | dsimp only

theorem execTripLogErase_ok {b0 : State} (k wait : Nat) (s : State) (h_s : Ok b0 s) : OkO b0 (execTripLogErase k wait s) := by
  unfold execTripLogErase
  try dsimp only
  repeat' first
    | with_reducible assumption | with_reducible apply servedOk_ok | with_reducible apply servedBad_ok
    | with_reducible apply serve_ok | with_reducible apply ite_ok | with_reducible apply ite_okO | with_reducible apply ite1_ok
    | with_reducible apply ite_okW | with_reducible apply OkO.next | with_reducible apply OkO.fault
    | with_reducible apply OkW.st | (intro _ _ _) | (intro _) | split | with_reducible apply Ok.record | dsimp only

theorem execMpLoad_ok {b0 : State} (k wait : Nat) (s : State) (h_s : Ok b0 s) : OkO b0 (execMpLoad k wait s) := by
  unfold execMpLoad
  try dsimp only
  repeat' first
    | with_reducible assumption | with_reducible apply serve_ok | with_reducible apply OkO.next | with_reducible apply OkO.fault
    | with_reducible apply OkW.st | with_reducible apply OkW.mk | (intro _ _ _) | (intro _) | dsimp only

end Sys2Proof.Machine
end

