-- ==== Sys2Proof/Laws/KeepCalib.lean ====
section
/-!
SUPPORT. What every operation of Machine/Calib.lean keeps (see KeepOps.lean).
-/
namespace Sys2Proof.Machine

theorem State_staleAll_ok {b0 : State} (s : State) (units : List Nat) (h_s : Ok b0 s) : Ok b0 (State.staleAll s units) := by
  unfold State.staleAll
  try dsimp only
  repeat' first
    | with_reducible assumption | with_reducible apply State_put_ok | with_reducible apply foldl_ok
    | with_reducible apply foldl1_ok | with_reducible apply OkW.st | (intro _ _ _) | (intro _) | dsimp only

theorem loadLimits_ok {b0 : State} (s : State) (limits : Table Word) (h_s : Ok b0 s) : Ok b0 (loadLimits s limits) := by
  unfold loadLimits
  try dsimp only
  repeat' first
    | with_reducible assumption | with_reducible apply State_wr_ok | with_reducible apply State_setFfx_ok
    | with_reducible apply State_setBia_ok | with_reducible apply foldl_ok | with_reducible apply foldl1_ok
    | with_reducible apply OkW.st | (intro _ _ _) | (intro _) | with_reducible apply Ok.record | dsimp only

theorem loadCalibration_ok {b0 : State} (s : State) (h_s : Ok b0 s) : Ok b0 (loadCalibration s) := by
  unfold loadCalibration
  try dsimp only
  repeat' first
    | with_reducible assumption | with_reducible apply State_staleAll_ok | with_reducible apply loadLimits_ok
    | with_reducible apply State_put_ok | with_reducible apply foldl_ok | with_reducible apply ite_ok
    | with_reducible apply foldl1_ok | with_reducible apply ite1_ok | with_reducible apply ite_okW | with_reducible apply OkW.st
    | (intro _ _ _) | (intro _) | split | with_reducible apply Ok.record | dsimp only

theorem execCalInfo_ok {b0 : State} (k wait : Nat) (s : State) (h_s : Ok b0 s) : OkO b0 (execCalInfo k wait s) := by
  unfold execCalInfo
  try dsimp only
  repeat' first
    | with_reducible assumption | with_reducible apply servedOk_ok | with_reducible apply serve_ok
    | with_reducible apply OkO.next | with_reducible apply OkO.fault | with_reducible apply OkW.st | (intro _ _ _) | (intro _)
    | dsimp only

theorem calCommit_ok {b0 : State} (s : State) (ok : Bool) (h_s : Ok b0 s) : Ok b0 (calCommit s ok).st := by
  unfold calCommit
  try dsimp only
  repeat' first
    | with_reducible assumption | with_reducible apply State_newWriting_ok | with_reducible apply servedOk_ok
    | with_reducible apply servedBad_ok | with_reducible apply State_put_ok | with_reducible apply ite_ok
    | with_reducible apply ite1_ok | with_reducible apply ite_okW | with_reducible apply OkW.st | with_reducible apply OkW.mk
    | split | with_reducible apply Ok.record | dsimp only

theorem execCalCommit_ok {b0 : State} (k wait : Nat) (ok : Bool) (s : State) (h_s : Ok b0 s) : OkO b0 (execCalCommit k wait ok s) := by
  unfold execCalCommit
  try dsimp only
  repeat' first
    | with_reducible assumption | with_reducible apply calCommit_ok | with_reducible apply serve_ok
    | with_reducible apply OkO.next | with_reducible apply OkO.fault | with_reducible apply OkW.st | (intro _ _ _) | (intro _)
    | dsimp only

theorem State_setFlatTable_ok {b0 : State} (s : State) (key : Nat) (t : List (BitVec 16)) (h_s : Ok b0 s) : Ok b0 (State.setFlatTable s key t) := by
  unfold State.setFlatTable
  try dsimp only
  repeat' first
    | with_reducible assumption | with_reducible apply foldl_ok | with_reducible apply foldl1_ok | with_reducible apply OkW.st
    | (intro _ _ _) | (intro _) | with_reducible apply Ok.record | dsimp only

theorem execCalTableRead_ok {b0 : State} (k wait : Nat) (s : State) (h_s : Ok b0 s) : OkO b0 (execCalTableRead k wait s) := by
  unfold execCalTableRead
  try dsimp only
  repeat' first
    | with_reducible assumption | with_reducible apply servedOk_ok | with_reducible apply servedBad_ok
    | with_reducible apply serve_ok | with_reducible apply ite_ok | with_reducible apply ite_okO | with_reducible apply ite1_ok
    | with_reducible apply ite_okW | with_reducible apply OkO.next | with_reducible apply OkO.fault
    | with_reducible apply OkW.st | (intro _ _ _) | (intro _) | split | dsimp only

theorem calTableWrite_ok {b0 : State} (s : State) (m : Mailbox) (h_s : Ok b0 s) : Ok b0 (calTableWrite s m).st := by
  unfold calTableWrite
  try dsimp only
  repeat' first
    | with_reducible assumption | with_reducible apply servedOk_ok | with_reducible apply servedBad_ok
    | with_reducible apply State_put_ok | with_reducible apply ite_ok | with_reducible apply ite1_ok
    | with_reducible apply ite_okW | with_reducible apply OkW.st | (intro _ _ _) | (intro _) | split
    | with_reducible apply Ok.record | dsimp only

theorem execCalTableWrite_ok {b0 : State} (k wait : Nat) (s : State) (h_s : Ok b0 s) : OkO b0 (execCalTableWrite k wait s) := by
  unfold execCalTableWrite
  try dsimp only
  repeat' first
    | with_reducible assumption | with_reducible apply calTableWrite_ok | with_reducible apply serve_ok
    | with_reducible apply foldl_ok | with_reducible apply ite_ok | with_reducible apply elim_ok
    | with_reducible apply foldl1_ok | with_reducible apply ite_okO | with_reducible apply ite1_ok
    | with_reducible apply ite_okW | with_reducible apply OkO.next | with_reducible apply OkO.fault
    | with_reducible apply OkW.st | with_reducible apply OkW.mk | (intro _ _ _) | (intro _) | split
    | with_reducible apply Ok.record | with_reducible apply Ok.record_mem | with_reducible apply Ok.record_micro
    | with_reducible apply Ok.record_nano | with_reducible apply Ok.record_cache | with_reducible apply Table.wf_set
    | with_reducible apply Table.wf_nil | dsimp only

theorem applyFlat_ok {b0 : State} (s : State) (h_s : Ok b0 s) : Ok b0 (applyFlat s) := by
  unfold applyFlat
  try dsimp only
  repeat' first
    | with_reducible assumption | with_reducible apply State_setFlatTable_ok | with_reducible apply foldl_ok
    | with_reducible apply ite_ok | with_reducible apply foldl1_ok | with_reducible apply ite1_ok | with_reducible apply ite_okW
    | with_reducible apply OkW.st | (intro _ _ _) | (intro _) | split | with_reducible apply Ok.record | dsimp only

theorem writeCalReg_ok {b0 : State} (s : State) (addr : Nat) (mask v : Word) (h_s : Ok b0 s) : OkW b0 (writeCalReg s addr mask v) := by
  unfold writeCalReg
  try dsimp only
  repeat' first
    | with_reducible assumption | with_reducible apply State_wr_ok | with_reducible apply taken_ok
    | with_reducible apply refusedBy_ok | with_reducible apply ite_ok | with_reducible apply ite1_ok
    | with_reducible apply ite_okW | with_reducible apply OkW.st | with_reducible apply OkW.mk | split | dsimp only

theorem writeVref_ok {b0 : State} (s : State) (v : Word) (h_s : Ok b0 s) : OkW b0 (writeVref s v) := by
  unfold writeVref
  try dsimp only
  repeat' first
    | with_reducible assumption | with_reducible apply State_wr_ok | with_reducible apply taken_ok
    | with_reducible apply refusedBy_ok | with_reducible apply ite_ok | with_reducible apply ite1_ok
    | with_reducible apply ite_okW | with_reducible apply OkW.st | with_reducible apply OkW.mk | split | dsimp only

theorem calBegin_ok {b0 : State} (s : State) (h_s : Ok b0 s) : Ok b0 (calBegin s) := by
  unfold calBegin
  try dsimp only
  repeat' first
    | with_reducible assumption | with_reducible apply State_put_ok | with_reducible apply snsCalEnter_ok
    | with_reducible apply OkW.st | with_reducible apply OkW.mk | with_reducible apply Ok.record | dsimp only

theorem applyResult_ok {b0 : State} (s : State) (e : Nat × Nat × Nat × List (BitVec 16)) (h_s : Ok b0 s) : Ok b0 (applyResult s e) := by
  unfold applyResult
  try dsimp only
  repeat' first
    | with_reducible assumption | with_reducible apply State_setFlatTable_ok | with_reducible apply State_put_ok
    | with_reducible apply ite_ok | with_reducible apply elim_ok | with_reducible apply ite1_ok | with_reducible apply ite_okW
    | with_reducible apply OkW.st | with_reducible apply OkW.mk | (intro _ _ _) | (intro _) | split
    | with_reducible apply Ok.record | dsimp only

theorem calApply_ok {b0 : State} (s : State) (q : Routine) (h_s : Ok b0 s) : Ok b0 (calApply s q) := by
  unfold calApply
  try dsimp only
  repeat' first
    | with_reducible assumption | with_reducible apply applyResult_ok | with_reducible apply State_put_ok
    | with_reducible apply foldl_ok | with_reducible apply ite_ok | with_reducible apply foldl1_ok
    | with_reducible apply ite1_ok | with_reducible apply ite_okW | with_reducible apply OkW.st | (intro _ _ _) | (intro _)
    | split | with_reducible apply Ok.record | dsimp only

theorem calAbandon_ok {b0 : State} (s : State) (cause : Nat) (h_s : Ok b0 s) : Ok b0 (calAbandon s cause) := by
  unfold calAbandon
  try dsimp only
  repeat' first
    | with_reducible assumption | with_reducible apply State_put_ok | with_reducible apply foldl_ok
    | with_reducible apply foldl1_ok | with_reducible apply OkW.st | (intro _ _ _) | (intro _) | split
    | with_reducible apply Ok.record | dsimp only

theorem calFailRef_ok {b0 : State} (s : State) (h_s : Ok b0 s) : Ok b0 (calFailRef s) := by
  unfold calFailRef
  try dsimp only
  repeat' first
    | with_reducible assumption | with_reducible apply State_put_ok | with_reducible apply OkW.st
    | with_reducible apply Ok.record | dsimp only

end Sys2Proof.Machine
end

