-- ==== Sys2Proof/Laws/KeepMonitor.lean ====
section
/-!
SUPPORT. What every operation of Machine/Monitor.lean keeps (see KeepOps.lean).
-/
namespace Sys2Proof.Machine

theorem monPost_ok {b0 : State} (s : State) (v : MonVisit) (absent : Bool) (h_s : Ok b0 s) : Ok b0 (monPost s v absent) := by
  unfold monPost
  try dsimp only
  repeat' first
    | with_reducible assumption | with_reducible apply State_wr_ok | with_reducible apply State_put_ok
    | with_reducible apply State_put64_ok | with_reducible apply ite_ok | with_reducible apply ite1_ok
    | with_reducible apply ite_okW | with_reducible apply OkW.st | split | dsimp only

theorem monNext_ok {b0 : State} (s : State) (e : Nat) (h_s : Ok b0 s) : Ok b0 (monNext s e) := by
  unfold monNext
  try dsimp only
  repeat' first
    | with_reducible assumption | with_reducible apply State_bumpWrap_ok | with_reducible apply ite_ok
    | with_reducible apply ite1_ok | with_reducible apply ite_okW | with_reducible apply OkW.st | split
    | with_reducible apply Ok.record | dsimp only

theorem monEnd_ok {b0 : State} (s : State) (v : MonVisit) (h_s : Ok b0 s) : Ok b0 (monEnd s v) := by
  unfold monEnd
  try dsimp only
  repeat' first
    | with_reducible assumption | with_reducible apply monNext_ok | with_reducible apply ite_ok | with_reducible apply ite1_ok
    | with_reducible apply ite_okW | with_reducible apply OkW.st | split | with_reducible apply Ok.record | dsimp only

theorem monSlot_ok {b0 : State} (s : State) (v : MonVisit) (sample : Int) (clip : Bool) (h_s : Ok b0 s) : Ok b0 (monSlot s v sample clip) := by
  unfold monSlot
  try dsimp only
  repeat' first
    | with_reducible assumption | with_reducible apply monPost_ok | with_reducible apply monEnd_ok
    | with_reducible apply step_ok | with_reducible apply ite_ok | with_reducible apply ite1_ok | with_reducible apply ite_okW
    | with_reducible apply OkW.st | (intro _ _ _) | (intro _) | split | with_reducible apply Ok.record | dsimp only

theorem monStart_ok {b0 : State} (s : State) (v : MonVisit) (h_s : Ok b0 s) : Ok b0 (monStart s v).1 := by
  unfold monStart
  try dsimp only
  repeat' first
    | with_reducible assumption | with_reducible apply monPost_ok | with_reducible apply monEnd_ok | with_reducible apply ite_ok
    | with_reducible apply ite1_ok | with_reducible apply ite_okW | with_reducible apply OkW.st | split
    | with_reducible apply Ok.record | dsimp only

theorem monSuspend_ok {b0 : State} (s : State) (h_s : Ok b0 s) : Ok b0 (monSuspend s) := by
  unfold monSuspend
  try dsimp only
  repeat' first
    | with_reducible assumption | with_reducible apply restart_ok | with_reducible apply ite_ok | with_reducible apply ite1_ok
    | with_reducible apply ite_okW | with_reducible apply OkW.st | (intro _ _ _) | (intro _) | split
    | with_reducible apply Ok.record | dsimp only

theorem monChoose_ok {a : State} (n : Nat) (s : State) (h_s : Ok a s) : Ok a (monChoose n s) := by
  induction n generalizing s with
  | zero => exact h_s
  | succ n ih =>
    unfold monChoose
    try dsimp only
    repeat' first
      | with_reducible assumption
      | with_reducible apply ih
      | with_reducible apply monSuspend_ok
      | with_reducible apply monStart_ok
      | with_reducible apply ite_ok
      | split
      | with_reducible apply Ok.record
      | dsimp only

theorem monSettings_ok {b0 : State} (s : State) (h_s : Ok b0 s) : Ok b0 (monSettings s) := by
  unfold monSettings
  try dsimp only
  repeat' first
    | with_reducible assumption | with_reducible apply restart_ok | with_reducible apply ite_ok | with_reducible apply ite1_ok
    | with_reducible apply ite_okW | with_reducible apply OkW.st | (intro _ _ _) | (intro _) | split
    | with_reducible apply Ok.record | dsimp only

theorem monBoundary_ok {b0 : State} (s : State) (h_s : Ok b0 s) : Ok b0 (monBoundary s) := by
  unfold monBoundary
  try dsimp only
  repeat' first
    | with_reducible assumption | with_reducible apply monSuspend_ok | with_reducible apply monChoose_ok
    | with_reducible apply monSettings_ok | with_reducible apply ite_ok | with_reducible apply ite1_ok
    | with_reducible apply ite_okW | with_reducible apply OkW.st | split | with_reducible apply Ok.record | dsimp only

theorem monSlotEnd_ok {b0 : State} (s : State) (sample : Int) (clip : Bool) (mp : List (Nat × Nat × Nat × Nat)) (h_s : Ok b0 s) : Ok b0 (monSlotEnd s sample clip mp) := by
  unfold monSlotEnd
  try dsimp only
  repeat' first
    | with_reducible assumption | with_reducible apply monSlot_ok | with_reducible apply monBoundary_ok
    | with_reducible apply OkW.st | with_reducible apply OkW.mk | (intro _ _ _) | (intro _) | split
    | with_reducible apply Ok.record | dsimp only

theorem execMonitorSlotEnd_ok {b0 : State} (sample : Int) (clip : Bool) (mp : List (Nat × Nat × Nat × Nat)) (s : State) (h_s : Ok b0 s) : OkO b0 (execMonitorSlotEnd sample clip mp s) := by
  unfold execMonitorSlotEnd
  try dsimp only
  repeat' first
    | with_reducible assumption | with_reducible apply monSlotEnd_ok | with_reducible apply happen_ok
    | with_reducible apply OkO.next | with_reducible apply OkO.fault | with_reducible apply OkW.st | dsimp only

theorem monPowerUp_ok {b0 : State} (s : State) (h_s : Ok b0 s) : Ok b0 (monPowerUp s) := by
  unfold monPowerUp
  try dsimp only
  repeat' first
    | with_reducible assumption | with_reducible apply OkW.st | with_reducible apply Ok.record | dsimp only

theorem writeMonCtrl_ok {b0 : State} (s : State) (v : Word) (h_s : Ok b0 s) : OkW b0 (writeMonCtrl s v) := by
  unfold writeMonCtrl
  try dsimp only
  repeat' first
    | with_reducible assumption | with_reducible apply State_wr_ok | with_reducible apply taken_ok | with_reducible apply ite_ok
    | with_reducible apply ite1_ok | with_reducible apply ite_okW | with_reducible apply OkW.st | with_reducible apply OkW.mk
    | split | with_reducible apply Ok.record | dsimp only

theorem writeMonUrg_ok {b0 : State} (s : State) (v : Word) (h_s : Ok b0 s) : OkW b0 (writeMonUrg s v) := by
  unfold writeMonUrg
  try dsimp only
  repeat' first
    | with_reducible assumption | with_reducible apply State_put_ok | with_reducible apply taken_ok
    | with_reducible apply refusedBy_ok | with_reducible apply ite_ok | with_reducible apply ite1_ok
    | with_reducible apply ite_okW | with_reducible apply OkW.st | with_reducible apply OkW.mk | split
    | with_reducible apply Ok.record | dsimp only

end Sys2Proof.Machine
end

