-- ==== Sys2Proof/Laws/KeepTdc.lean ====
section
/-!
SUPPORT. What every operation of Machine/Tdc.lean keeps (see KeepOps.lean).
-/
namespace Sys2Proof.Machine

theorem State_setTdc_ok {b0 : State} (s : State) (c : Nat) (x : Tdc) (h_s : Ok b0 s) : Ok b0 (State.setTdc s c x) := by
  unfold State.setTdc
  try dsimp only
  repeat' first
    | with_reducible assumption | with_reducible apply OkW.st | with_reducible apply Ok.record | dsimp only

theorem triggerEdge_ok {b0 : State} (s : State) (i : Nat) (rising : Bool) (h_s : Ok b0 s) : Ok b0 (triggerEdge s i rising) := by
  unfold triggerEdge
  try dsimp only
  repeat' first
    | with_reducible assumption | with_reducible apply State_put_ok | with_reducible apply State_bump_ok
    | with_reducible apply triggerAll_ok | with_reducible apply ite_ok | with_reducible apply ite1_ok
    | with_reducible apply ite_okW | with_reducible apply OkW.st | with_reducible apply OkW.mk | split | dsimp only

theorem execTriggerEdge_ok {b0 : State} (n : Nat) (rising : Bool) (s : State) (h_s : Ok b0 s) : OkO b0 (execTriggerEdge n rising s) := by
  unfold execTriggerEdge
  try dsimp only
  repeat' first
    | with_reducible assumption | with_reducible apply triggerEdge_ok | with_reducible apply happen_ok
    | with_reducible apply OkO.next | with_reducible apply OkO.fault | with_reducible apply OkW.st | dsimp only

theorem writeTdcCfg_ok {b0 : State} (s : State) (c : Nat) (v : Word) (h_s : Ok b0 s) : OkW b0 (writeTdcCfg s c v) := by
  unfold writeTdcCfg
  try dsimp only
  repeat' first
    | with_reducible assumption | with_reducible apply State_wr_ok | with_reducible apply State_put_ok
    | with_reducible apply taken_ok | with_reducible apply refusedBy_ok | with_reducible apply ite_ok
    | with_reducible apply ite1_ok | with_reducible apply ite_okW | with_reducible apply OkW.st | with_reducible apply OkW.mk
    | split | dsimp only

theorem writeTdcWin_ok {b0 : State} (s : State) (c : Nat) (v : Word) (h_s : Ok b0 s) : OkW b0 (writeTdcWin s c v) := by
  unfold writeTdcWin
  try dsimp only
  repeat' first
    | with_reducible assumption | with_reducible apply State_wr_ok | with_reducible apply taken_ok
    | with_reducible apply refusedBy_ok | with_reducible apply ite_ok | with_reducible apply ite1_ok
    | with_reducible apply ite_okW | with_reducible apply OkW.st | with_reducible apply OkW.mk | split | dsimp only

theorem State_enterTdc_ok {b0 : State} (s : State) (c : Nat) (x : Tdc) (h_s : Ok b0 s) : Ok b0 (State.enterTdc s c x) := by
  unfold State.enterTdc
  try dsimp only
  repeat' first
    | with_reducible assumption | with_reducible apply State_put_ok | with_reducible apply State_setTdc_ok
    | with_reducible apply OkW.st | dsimp only

theorem tdcDisarm_ok {b0 : State} (s : State) (c : Nat) (h_s : Ok b0 s) : Ok b0 (tdcDisarm s c) := by
  unfold tdcDisarm
  try dsimp only
  repeat' first
    | with_reducible assumption | with_reducible apply State_enterTdc_ok | with_reducible apply OkW.st | dsimp only

theorem tdcArm_ok {b0 : State} (s : State) (c : Nat) (h_s : Ok b0 s) : OkW b0 (tdcArm s c) := by
  unfold tdcArm
  try dsimp only
  repeat' first
    | with_reducible assumption | with_reducible apply taken_ok | with_reducible apply refusedBy_ok
    | with_reducible apply State_enterTdc_ok | with_reducible apply ite_ok | with_reducible apply ite1_ok
    | with_reducible apply ite_okW | with_reducible apply OkW.st | with_reducible apply OkW.mk | split
    | with_reducible apply Ok.record | dsimp only

theorem writeTdcCtrl_ok {b0 : State} (s : State) (c : Nat) (v : Word) (h_s : Ok b0 s) : OkW b0 (writeTdcCtrl s c v) := by
  unfold writeTdcCtrl
  try dsimp only
  repeat' first
    | with_reducible assumption | with_reducible apply taken_ok | with_reducible apply tdcDisarm_ok
    | with_reducible apply tdcArm_ok | with_reducible apply ite_ok | with_reducible apply ite1_ok | with_reducible apply ite_okW
    | with_reducible apply OkW.st | with_reducible apply OkW.mk | split | dsimp only

theorem clearTdcStats_ok {b0 : State} (s : State) (h_s : Ok b0 s) : Ok b0 (clearTdcStats s) := by
  unfold clearTdcStats
  try dsimp only
  repeat' first
    | with_reducible assumption | with_reducible apply State_wr_ok | with_reducible apply foldl_ok
    | with_reducible apply foldl1_ok | with_reducible apply OkW.st | (intro _ _ _) | (intro _) | dsimp only

theorem tdcStart_ok {b0 : State} (s : State) (c f : Nat) (h_s : Ok b0 s) : Ok b0 (tdcStart s c f) := by
  unfold tdcStart
  try dsimp only
  repeat' first
    | with_reducible assumption | with_reducible apply State_bump_ok | with_reducible apply State_enterTdc_ok
    | with_reducible apply ite_ok | with_reducible apply ite1_ok | with_reducible apply ite_okW | with_reducible apply OkW.st
    | with_reducible apply OkW.mk | (intro _ _ _) | (intro _) | split | with_reducible apply Ok.record | dsimp only

theorem execTdcStart_ok {b0 : State} (c f : Nat) (s : State) (h_s : Ok b0 s) : OkO b0 (execTdcStart c f s) := by
  unfold execTdcStart
  try dsimp only
  repeat' first
    | with_reducible assumption | with_reducible apply tdcStart_ok | with_reducible apply happen_ok
    | with_reducible apply OkO.next | with_reducible apply OkO.fault | with_reducible apply OkW.st | dsimp only

theorem reportStop_ok {b0 : State} (s : State) (c : Nat) (x : Tdc) (d : Int) (h_s : Ok b0 s) : Ok b0 (reportStop s c x d) := by
  unfold reportStop
  try dsimp only
  repeat' first
    | with_reducible assumption | with_reducible apply State_bump_ok | with_reducible apply State_setTdc_ok
    | with_reducible apply ite_ok | with_reducible apply ite1_ok | with_reducible apply ite_okW | with_reducible apply OkW.st
    | split | with_reducible apply Ok.record | dsimp only

theorem tdcStop_ok {b0 : State} (s : State) (c f : Nat) (h_s : Ok b0 s) : Ok b0 (tdcStop s c f) := by
  unfold tdcStop
  try dsimp only
  repeat' first
    | with_reducible assumption | with_reducible apply State_bump_ok | with_reducible apply reportStop_ok
    | with_reducible apply ite_ok | with_reducible apply ite1_ok | with_reducible apply ite_okW | with_reducible apply OkW.st
    | (intro _ _ _) | (intro _) | split | with_reducible apply Ok.record | dsimp only

theorem execTdcStop_ok {b0 : State} (c f : Nat) (s : State) (h_s : Ok b0 s) : OkO b0 (execTdcStop c f s) := by
  unfold execTdcStop
  try dsimp only
  repeat' first
    | with_reducible assumption | with_reducible apply tdcStop_ok | with_reducible apply happen_ok
    | with_reducible apply OkO.next | with_reducible apply OkO.fault | with_reducible apply OkW.st | dsimp only

theorem execTdcWindowClose_ok {b0 : State} (c : Nat) (s : State) (h_s : Ok b0 s) : OkO b0 (execTdcWindowClose c s) := by
  unfold execTdcWindowClose
  try dsimp only
  repeat' first
    | with_reducible assumption | with_reducible apply State_enterTdc_ok | with_reducible apply happen_ok
    | with_reducible apply OkO.next | with_reducible apply OkO.fault | with_reducible apply OkW.st
    | with_reducible apply Ok.record | dsimp only

theorem writeTdcEntry_ok {b0 : State} (s : State) (c : Nat) (x : Tdc) (j : Nat) (h_s : Ok b0 s) : Ok b0 (writeTdcEntry s c x j) := by
  unfold writeTdcEntry
  try dsimp only
  repeat' first
    | with_reducible assumption | with_reducible apply State_wr_ok | with_reducible apply State_put_ok
    | with_reducible apply ite_ok | with_reducible apply ite1_ok | with_reducible apply ite_okW | with_reducible apply OkW.st
    | (intro _ _ _) | (intro _) | split | with_reducible apply Ok.record | dsimp only

theorem tdcPost_ok {b0 : State} (s : State) (c : Nat) (h_s : Ok b0 s) : Ok b0 (tdcPost s c) := by
  unfold tdcPost
  try dsimp only
  repeat' first
    | with_reducible assumption | with_reducible apply State_put_ok | with_reducible apply State_bumpWrap_ok
    | with_reducible apply State_put64_ok | with_reducible apply State_event_ok | with_reducible apply State_enterTdc_ok
    | with_reducible apply writeTdcEntry_ok | with_reducible apply foldl_ok | with_reducible apply ite_ok
    | with_reducible apply foldl1_ok | with_reducible apply ite1_ok | with_reducible apply ite_okW | with_reducible apply OkW.st
    | (intro _ _ _) | (intro _) | split | with_reducible apply Ok.record | dsimp only

theorem execTdcPost_ok {b0 : State} (c : Nat) (s : State) (h_s : Ok b0 s) : OkO b0 (execTdcPost c s) := by
  unfold execTdcPost
  try dsimp only
  repeat' first
    | with_reducible assumption | with_reducible apply tdcPost_ok | with_reducible apply happen_ok
    | with_reducible apply OkO.next | with_reducible apply OkO.fault | with_reducible apply OkW.st | dsimp only

theorem idleTdcs_ok {b0 : State} (s : State) (h_s : Ok b0 s) : Ok b0 (idleTdcs s) := by
  unfold idleTdcs
  try dsimp only
  repeat' first
    | with_reducible assumption | with_reducible apply tdcDisarm_ok | with_reducible apply foldl_ok
    | with_reducible apply foldl1_ok | with_reducible apply OkW.st | (intro _ _ _) | (intro _) | dsimp only

end Sys2Proof.Machine
end

