-- ==== Sys2Proof/Laws/KeepDalid.lean ====
section
/-!
SUPPORT. What every operation of Machine/Dalid.lean keeps (see KeepOps.lean).
-/
namespace Sys2Proof.Machine

theorem State_enterLane_ok {b0 : State} (s : State) (l : Nat) (st : LaneState) (h_s : Ok b0 s) : Ok b0 (State.enterLane s l st) := by
  unfold State.enterLane
  try dsimp only
  repeat' first
    | with_reducible assumption | with_reducible apply State_put_ok | with_reducible apply State_setLane_ok
    | with_reducible apply refreshPort_ok | with_reducible apply OkW.st | with_reducible apply Ok.record | dsimp only

theorem State_seeBlock_ok {b0 : State} (s : State) (l : Nat) (valid comma : Bool) (h_s : Ok b0 s) : Ok b0 (State.seeBlock s l valid comma) := by
  unfold State.seeBlock
  try dsimp only
  repeat' first
    | with_reducible assumption | with_reducible apply State_setLane_ok | with_reducible apply OkW.st | dsimp only

theorem restartLane_ok {b0 : State} (s : State) (l : Nat) (h_s : Ok b0 s) : Ok b0 (restartLane s l) := by
  unfold restartLane
  try dsimp only
  repeat' first
    | with_reducible assumption | with_reducible apply State_enterLane_ok | with_reducible apply State_setLane_ok
    | with_reducible apply OkW.st | with_reducible apply Ok.record | dsimp only

theorem execClockRecovered_ok {b0 : State} (l : Nat) (s : State) (h_s : Ok b0 s) : OkO b0 (execClockRecovered l s) := by
  unfold execClockRecovered
  try dsimp only
  repeat' first
    | with_reducible assumption | with_reducible apply State_enterLane_ok | with_reducible apply State_setLane_ok
    | with_reducible apply happen_ok | with_reducible apply OkO.next | with_reducible apply OkO.fault
    | with_reducible apply OkW.st | with_reducible apply Ok.record | dsimp only

theorem execBlockLock_ok {b0 : State} (l : Nat) (s : State) (h_s : Ok b0 s) : OkO b0 (execBlockLock l s) := by
  unfold execBlockLock
  try dsimp only
  repeat' first
    | with_reducible assumption | with_reducible apply State_enterLane_ok | with_reducible apply State_setLane_ok
    | with_reducible apply happen_ok | with_reducible apply OkO.next | with_reducible apply OkO.fault
    | with_reducible apply OkW.st | with_reducible apply Ok.record | dsimp only

theorem execFrameLock_ok {b0 : State} (l : Nat) (s : State) (h_s : Ok b0 s) : OkO b0 (execFrameLock l s) := by
  unfold execFrameLock
  try dsimp only
  repeat' first
    | with_reducible assumption | with_reducible apply State_enterLane_ok | with_reducible apply State_setLane_ok
    | with_reducible apply happen_ok | with_reducible apply ite_ok | with_reducible apply ite_okO | with_reducible apply ite1_ok
    | with_reducible apply ite_okW | with_reducible apply OkO.next | with_reducible apply OkO.fault
    | with_reducible apply OkW.st | split | with_reducible apply Ok.record | dsimp only

theorem execLockLoss_ok {b0 : State} (l : Nat) (s : State) (h_s : Ok b0 s) : OkO b0 (execLockLoss l s) := by
  unfold execLockLoss
  try dsimp only
  repeat' first
    | with_reducible assumption | with_reducible apply State_enterLane_ok | with_reducible apply State_bump_ok
    | with_reducible apply State_setLane_ok | with_reducible apply happen_ok | with_reducible apply OkO.next
    | with_reducible apply OkO.fault | with_reducible apply OkW.st | with_reducible apply Ok.record | dsimp only

theorem execFaultRetry_ok {b0 : State} (l : Nat) (s : State) (h_s : Ok b0 s) : OkO b0 (execFaultRetry l s) := by
  unfold execFaultRetry
  try dsimp only
  repeat' first
    | with_reducible assumption | with_reducible apply restartLane_ok | with_reducible apply happen_ok
    | with_reducible apply OkO.next | with_reducible apply OkO.fault | with_reducible apply OkW.st | dsimp only

theorem State_bumpErr0_ok {b0 : State} (s : State) (f : Fld) (h_s : Ok b0 s) : Ok b0 (State.bumpErr0 s f) := by
  unfold State.bumpErr0
  try dsimp only
  repeat' first
    | with_reducible assumption | with_reducible apply State_bump_ok | with_reducible apply State_event_ok
    | with_reducible apply ite_ok | with_reducible apply ite1_ok | with_reducible apply ite_okW | with_reducible apply OkW.st
    | split | dsimp only

theorem discardBlock_ok {b0 : State} (s : State) (l : Nat) (h_s : Ok b0 s) : Ok b0 (discardBlock s l) := by
  unfold discardBlock
  try dsimp only
  repeat' first
    | with_reducible assumption | with_reducible apply State_losePort_ok | with_reducible apply ite_ok
    | with_reducible apply ite1_ok | with_reducible apply ite_okW | with_reducible apply OkW.st | split | dsimp only

theorem acceptBlock_ok {b0 : State} (s : State) (l p : Nat) (h_s : Ok b0 s) : Ok b0 (acceptBlock s l p) := by
  unfold acceptBlock
  try dsimp only
  repeat' first
    | with_reducible assumption | with_reducible apply discardBlock_ok | with_reducible apply State_bump_ok
    | with_reducible apply State_bumpBy_ok | with_reducible apply ite_ok | with_reducible apply ite1_ok
    | with_reducible apply ite_okW | with_reducible apply OkW.st | with_reducible apply OkW.mk | (intro _ _ _) | (intro _)
    | split | with_reducible apply Ok.record | dsimp only

theorem receiveVerdictBlock_ok {b0 : State} (s : State) (l : Nat) (block : BitVec 64) (h_s : Ok b0 s) : Ok b0 (receiveVerdictBlock s l block) := by
  unfold receiveVerdictBlock
  try dsimp only
  repeat' first
    | with_reducible assumption | with_reducible apply State_seeBlock_ok | with_reducible apply State_bumpErr0_ok
    | with_reducible apply discardBlock_ok | with_reducible apply acceptBlock_ok | with_reducible apply ite_ok
    | with_reducible apply ite1_ok | with_reducible apply ite_okW | with_reducible apply OkW.st | split | dsimp only

theorem execVerdictBlockReceived_ok {b0 : State} (l : Nat) (block : BitVec 64) (s : State) (h_s : Ok b0 s) : OkO b0 (execVerdictBlockReceived l block s) := by
  unfold execVerdictBlockReceived
  try dsimp only
  repeat' first
    | with_reducible assumption | with_reducible apply receiveVerdictBlock_ok | with_reducible apply happen_ok
    | with_reducible apply OkO.next | with_reducible apply OkO.fault | with_reducible apply OkW.st | dsimp only

theorem execBadSyncHeader_ok {b0 : State} (l : Nat) (s : State) (h_s : Ok b0 s) : OkO b0 (execBadSyncHeader l s) := by
  unfold execBadSyncHeader
  try dsimp only
  repeat' first
    | with_reducible assumption | with_reducible apply State_seeBlock_ok | with_reducible apply State_bumpErr0_ok
    | with_reducible apply discardBlock_ok | with_reducible apply happen_ok | with_reducible apply OkO.next
    | with_reducible apply OkO.fault | with_reducible apply OkW.st | dsimp only

theorem execUnknownControlBlock_ok {b0 : State} (l : Nat) (s : State) (h_s : Ok b0 s) : OkO b0 (execUnknownControlBlock l s) := by
  unfold execUnknownControlBlock
  try dsimp only
  repeat' first
    | with_reducible assumption | with_reducible apply State_seeBlock_ok | with_reducible apply State_bump_ok
    | with_reducible apply happen_ok | with_reducible apply OkO.next | with_reducible apply OkO.fault
    | with_reducible apply OkW.st | dsimp only

theorem execComma_ok {b0 : State} (l : Nat) (body : BitVec 56) (s : State) (h_s : Ok b0 s) : OkO b0 (execComma l body s) := by
  unfold execComma
  try dsimp only
  repeat' first
    | with_reducible assumption | with_reducible apply State_seeBlock_ok | with_reducible apply State_bump_ok
    | with_reducible apply happen_ok | with_reducible apply ite_ok | with_reducible apply ite_okO | with_reducible apply ite1_ok
    | with_reducible apply ite_okW | with_reducible apply OkO.next | with_reducible apply OkO.fault
    | with_reducible apply OkW.st | split | dsimp only

theorem receiveIdle_ok {b0 : State} (s : State) (l fill : Nat) (h_s : Ok b0 s) : Ok b0 (receiveIdle s l fill) := by
  unfold receiveIdle
  try dsimp only
  repeat' first
    | with_reducible assumption | with_reducible apply State_seeBlock_ok | with_reducible apply State_put_ok
    | with_reducible apply State_bumpWrap_ok | with_reducible apply ite_ok | with_reducible apply ite1_ok
    | with_reducible apply ite_okW | with_reducible apply OkW.st | split | dsimp only

theorem execIdle_ok {b0 : State} (l fill : Nat) (s : State) (h_s : Ok b0 s) : OkO b0 (execIdle l fill s) := by
  unfold execIdle
  try dsimp only
  repeat' first
    | with_reducible assumption | with_reducible apply receiveIdle_ok | with_reducible apply happen_ok
    | with_reducible apply OkO.next | with_reducible apply OkO.fault | with_reducible apply OkW.st | dsimp only

theorem receiveEpochCheck_ok {b0 : State} (s : State) (l data : Nat) (h_s : Ok b0 s) : Ok b0 (receiveEpochCheck s l data) := by
  unfold receiveEpochCheck
  try dsimp only
  repeat' first
    | with_reducible assumption | with_reducible apply State_enterLane_ok | with_reducible apply State_seeBlock_ok
    | with_reducible apply State_put_ok | with_reducible apply State_bump_ok | with_reducible apply State_setLane_ok
    | with_reducible apply ite_ok | with_reducible apply ite1_ok | with_reducible apply ite_okW | with_reducible apply OkW.st
    | split | with_reducible apply Ok.record | dsimp only

theorem execEpochCheck_ok {b0 : State} (l : Nat) (data : BitVec 48) (s : State) (h_s : Ok b0 s) : OkO b0 (execEpochCheck l data s) := by
  unfold execEpochCheck
  try dsimp only
  repeat' first
    | with_reducible assumption | with_reducible apply receiveEpochCheck_ok | with_reducible apply happen_ok
    | with_reducible apply OkO.next | with_reducible apply OkO.fault | with_reducible apply OkW.st | dsimp only

theorem mgmtOn_ok {b0 : State} (s : State) (l : Nat) (f : State → State) (h_s : Ok b0 s) (h_f : ∀ x0, Ok b0 x0 → Ok b0 (f x0)) : Ok b0 (mgmtOn s l f) := by
  unfold mgmtOn
  try dsimp only
  repeat' first
    | with_reducible assumption | with_reducible apply h_f | with_reducible apply State_seeBlock_ok
    | with_reducible apply ite_ok | with_reducible apply ite1_ok | with_reducible apply ite_okW | with_reducible apply OkW.st
    | split | dsimp only

theorem execPortId_ok {b0 : State} (l : Nat) (data : BitVec 48) (s : State) (h_s : Ok b0 s) : OkO b0 (execPortId l data s) := by
  unfold execPortId
  try dsimp only
  repeat' first
    | with_reducible assumption | with_reducible apply mgmtOn_ok | with_reducible apply State_wr_ok
    | with_reducible apply State_put_ok | with_reducible apply happen_ok | with_reducible apply OkO.next
    | with_reducible apply OkO.fault | with_reducible apply OkW.st | (intro _ _ _) | (intro _) | dsimp only

theorem storeTaps_ok {b0 : State} (s : State) (l pre post : Nat) (h_s : Ok b0 s) : Ok b0 (storeTaps s l pre post) := by
  unfold storeTaps
  try dsimp only
  repeat' first
    | with_reducible assumption | with_reducible apply State_put_ok | with_reducible apply ite_ok | with_reducible apply ite1_ok
    | with_reducible apply ite_okW | with_reducible apply OkW.st | split | dsimp only

theorem State_queueMgmt_ok {b0 : State} (s : State) (l : Nat) (b : BitVec 64) (h_s : Ok b0 s) : Ok b0 (State.queueMgmt s l b) := by
  unfold State.queueMgmt
  try dsimp only
  repeat' first
    | with_reducible assumption | with_reducible apply State_setLane_ok | with_reducible apply OkW.st
    | with_reducible apply Ok.record | dsimp only

theorem receiveEqReq_ok {b0 : State} (s : State) (l d : Nat) (h_s : Ok b0 s) : Ok b0 (receiveEqReq s l d) := by
  unfold receiveEqReq
  try dsimp only
  repeat' first
    | with_reducible assumption | with_reducible apply storeTaps_ok | with_reducible apply State_queueMgmt_ok
    | with_reducible apply ite_ok | with_reducible apply ite1_ok | with_reducible apply ite_okW | with_reducible apply OkW.st
    | split | dsimp only

theorem execEqReq_ok {b0 : State} (l : Nat) (data : BitVec 48) (s : State) (h_s : Ok b0 s) : OkO b0 (execEqReq l data s) := by
  unfold execEqReq
  try dsimp only
  repeat' first
    | with_reducible assumption | with_reducible apply mgmtOn_ok | with_reducible apply receiveEqReq_ok
    | with_reducible apply happen_ok | with_reducible apply OkO.next | with_reducible apply OkO.fault
    | with_reducible apply OkW.st | (intro _ _ _) | (intro _) | dsimp only

theorem execEqAck_ok {b0 : State} (l : Nat) (data : BitVec 48) (s : State) (h_s : Ok b0 s) : OkO b0 (execEqAck l data s) := by
  unfold execEqAck
  try dsimp only
  repeat' first
    | with_reducible assumption | with_reducible apply mgmtOn_ok | with_reducible apply State_setLane_ok
    | with_reducible apply happen_ok | with_reducible apply OkO.next | with_reducible apply OkO.fault
    | with_reducible apply OkW.st | (intro _ _ _) | (intro _) | with_reducible apply Ok.record | dsimp only

theorem receiveLoss_ok {b0 : State} (s : State) (l first count mask : Nat) (h_s : Ok b0 s) : Ok b0 (receiveLoss s l first count mask) := by
  unfold receiveLoss
  try dsimp only
  repeat' first
    | with_reducible assumption | with_reducible apply State_loseRoute_ok | with_reducible apply foldl_ok
    | with_reducible apply ite_ok | with_reducible apply foldl1_ok | with_reducible apply ite1_ok | with_reducible apply ite_okW
    | with_reducible apply OkW.st | (intro _ _ _) | (intro _) | split | dsimp only

theorem execLossLo_ok {b0 : State} (l : Nat) (data : BitVec 48) (s : State) (h_s : Ok b0 s) : OkO b0 (execLossLo l data s) := by
  unfold execLossLo
  try dsimp only
  repeat' first
    | with_reducible assumption | with_reducible apply mgmtOn_ok | with_reducible apply receiveLoss_ok
    | with_reducible apply happen_ok | with_reducible apply OkO.next | with_reducible apply OkO.fault
    | with_reducible apply OkW.st | (intro _ _ _) | (intro _) | dsimp only

theorem execLossHi_ok {b0 : State} (l : Nat) (data : BitVec 48) (s : State) (h_s : Ok b0 s) : OkO b0 (execLossHi l data s) := by
  unfold execLossHi
  try dsimp only
  repeat' first
    | with_reducible assumption | with_reducible apply mgmtOn_ok | with_reducible apply receiveLoss_ok
    | with_reducible apply happen_ok | with_reducible apply OkO.next | with_reducible apply OkO.fault
    | with_reducible apply OkW.st | (intro _ _ _) | (intro _) | dsimp only

theorem State_sendBlock_ok {b0 : State} (s : State) (l : Nat) (data : Bool) (b : BitVec 64) (h_s : Ok b0 s) : Ok b0 (State.sendBlock s l data b) := by
  unfold State.sendBlock
  try dsimp only
  repeat' first
    | with_reducible assumption | with_reducible apply State_setLane_ok | with_reducible apply OkW.st
    | with_reducible apply OkW.mk | with_reducible apply Ok.record | dsimp only

theorem State_sendBlocks_ok {b0 : State} (s : State) (l : Nat) (bs : List (BitVec 64)) (h_s : Ok b0 s) : Ok b0 (State.sendBlocks s l bs) := by
  unfold State.sendBlocks
  try dsimp only
  repeat' first
    | with_reducible assumption | with_reducible apply State_sendBlock_ok | with_reducible apply foldl_ok
    | with_reducible apply foldl1_ok | with_reducible apply OkW.st | (intro _ _ _) | (intro _) | dsimp only

theorem sendLosses_ok {b0 : State} (s : State) (l : Nat) (h_s : Ok b0 s) : Ok b0 (sendLosses s l) := by
  unfold sendLosses
  try dsimp only
  repeat' first
    | with_reducible assumption | with_reducible apply State_sendBlocks_ok | with_reducible apply OkW.st | (intro _ _ _)
    | (intro _) | with_reducible apply Ok.record | dsimp only

theorem beginFrame_ok {b0 : State} (s : State) (l : Nat) (h_s : Ok b0 s) : Ok b0 (beginFrame s l) := by
  unfold beginFrame
  try dsimp only
  repeat' first
    | with_reducible assumption | with_reducible apply State_sendBlock_ok | with_reducible apply State_sendBlocks_ok
    | with_reducible apply sendLosses_ok | with_reducible apply State_setLane_ok | with_reducible apply ite_ok
    | with_reducible apply ite1_ok | with_reducible apply ite_okW | with_reducible apply OkW.st | split
    | with_reducible apply Ok.record | dsimp only

theorem execFrameTransmit_ok {b0 : State} (l : Nat) (s : State) (h_s : Ok b0 s) : OkO b0 (execFrameTransmit l s) := by
  unfold execFrameTransmit
  try dsimp only
  repeat' first
    | with_reducible assumption | with_reducible apply beginFrame_ok | with_reducible apply happen_ok
    | with_reducible apply OkO.next | with_reducible apply OkO.fault | with_reducible apply OkW.st | dsimp only

theorem transmitBlock_ok {b0 : State} (s : State) (l : Nat) (h_s : Ok b0 s) : Ok b0 (transmitBlock s l) := by
  unfold transmitBlock
  try dsimp only
  repeat' first
    | with_reducible assumption | with_reducible apply State_sendBlock_ok | with_reducible apply sendLosses_ok
    | with_reducible apply ite_ok | with_reducible apply ite1_ok | with_reducible apply ite_okW | with_reducible apply OkW.st
    | (intro _ _ _) | (intro _) | split | with_reducible apply Ok.record | dsimp only

theorem execBlockTransmit_ok {b0 : State} (l : Nat) (s : State) (h_s : Ok b0 s) : OkO b0 (execBlockTransmit l s) := by
  unfold execBlockTransmit
  try dsimp only
  repeat' first
    | with_reducible assumption | with_reducible apply transmitBlock_ok | with_reducible apply happen_ok
    | with_reducible apply OkO.next | with_reducible apply OkO.fault | with_reducible apply OkW.st | dsimp only

theorem execEpochCheckSend_ok {b0 : State} (l : Nat) (s : State) (h_s : Ok b0 s) : OkO b0 (execEpochCheckSend l s) := by
  unfold execEpochCheckSend
  try dsimp only
  repeat' first
    | with_reducible assumption | with_reducible apply State_sendBlock_ok | with_reducible apply State_setLane_ok
    | with_reducible apply happen_ok | with_reducible apply OkO.next | with_reducible apply OkO.fault
    | with_reducible apply OkW.st | with_reducible apply Ok.record | dsimp only

theorem execPortIdSend_ok {b0 : State} (l : Nat) (s : State) (h_s : Ok b0 s) : OkO b0 (execPortIdSend l s) := by
  unfold execPortIdSend
  try dsimp only
  repeat' first
    | with_reducible assumption | with_reducible apply State_sendBlock_ok | with_reducible apply State_setLane_ok
    | with_reducible apply happen_ok | with_reducible apply OkO.next | with_reducible apply OkO.fault
    | with_reducible apply OkW.st | with_reducible apply Ok.record | dsimp only

theorem settleLane_ok {b0 : State} (s : State) (l : Nat) (en : Bool) (h_s : Ok b0 s) : Ok b0 (settleLane s l en) := by
  unfold settleLane
  try dsimp only
  repeat' first
    | with_reducible assumption | with_reducible apply State_enterLane_ok | with_reducible apply restartLane_ok
    | with_reducible apply State_setLane_ok | with_reducible apply ite_ok | with_reducible apply ite1_ok
    | with_reducible apply ite_okW | with_reducible apply OkW.st | split | with_reducible apply Ok.record | dsimp only

theorem writePortCfg_ok {b0 : State} (s : State) (p : Nat) (v : Word) (h_s : Ok b0 s) : OkW b0 (writePortCfg s p v) := by
  unfold writePortCfg
  try dsimp only
  repeat' first
    | with_reducible assumption | with_reducible apply settleLane_ok | with_reducible apply State_wr_ok
    | with_reducible apply taken_ok | with_reducible apply refusedBy_ok | with_reducible apply redeclare_ok
    | with_reducible apply refreshPort_ok | with_reducible apply foldl_ok | with_reducible apply ite_ok
    | with_reducible apply foldl1_ok | with_reducible apply ite1_ok | with_reducible apply ite_okW | with_reducible apply OkW.st
    | with_reducible apply OkW.mk | (intro _ _ _) | (intro _) | split | dsimp only

theorem writeTxeq_ok {b0 : State} (s : State) (l : Nat) (v : Word) (h_s : Ok b0 s) : OkW b0 (writeTxeq s l v) := by
  unfold writeTxeq
  try dsimp only
  repeat' first
    | with_reducible assumption | with_reducible apply storeTaps_ok | with_reducible apply State_put_ok
    | with_reducible apply taken_ok | with_reducible apply OkW.st | with_reducible apply OkW.mk | dsimp only

theorem execTxeqEffect_ok {b0 : State} (l : Nat) (s : State) (h_s : Ok b0 s) : OkO b0 (execTxeqEffect l s) := by
  unfold execTxeqEffect
  try dsimp only
  repeat' first
    | with_reducible assumption | with_reducible apply State_setLane_ok | with_reducible apply happen_ok
    | with_reducible apply OkO.next | with_reducible apply OkO.fault | with_reducible apply OkW.st
    | with_reducible apply Ok.record | dsimp only

theorem clearDldStats_ok {b0 : State} (s : State) (h_s : Ok b0 s) : Ok b0 (clearDldStats s) := by
  unfold clearDldStats
  try dsimp only
  repeat' first
    | with_reducible assumption | with_reducible apply State_wr_ok | with_reducible apply State_put_ok
    | with_reducible apply foldl_ok | with_reducible apply foldl1_ok | with_reducible apply OkW.st | (intro _ _ _) | (intro _)
    | dsimp only

theorem resetPort_ok {b0 : State} (s : State) (p : Nat) (h_s : Ok b0 s) : Ok b0 (resetPort s p) := by
  unfold resetPort
  try dsimp only
  repeat' first
    | with_reducible assumption | with_reducible apply restartLane_ok | with_reducible apply foldl_ok
    | with_reducible apply foldl1_ok | with_reducible apply OkW.st | (intro _ _ _) | (intro _) | dsimp only

theorem refreshPorts_ok {b0 : State} (s : State) (h_s : Ok b0 s) : Ok b0 (refreshPorts s) := by
  unfold refreshPorts
  try dsimp only
  repeat' first
    | with_reducible assumption | with_reducible apply refreshPort_ok | with_reducible apply foldl_ok
    | with_reducible apply foldl1_ok | with_reducible apply OkW.st | (intro _ _ _) | (intro _) | dsimp only

end Sys2Proof.Machine
end

