-- ==== Sys2Proof/Laws/KeepModes.lean ====
section
/-!
SUPPORT. What every operation of Machine/Modes.lean keeps (see KeepOps.lean).
-/
namespace Sys2Proof.Machine

theorem State_answer_ok {b0 : State} (s : State) (code : Nat) (h_s : Ok b0 s) : Ok b0 (State.answer s code) := by
  unfold State.answer
  try dsimp only
  repeat' first
    | with_reducible assumption | with_reducible apply State_put_ok | with_reducible apply OkW.st | dsimp only

theorem request_ok {b0 : State} (s : State) (f : State → State) (h_s : Ok b0 s) (h_f : ∀ x0, Ok b0 x0 → Ok b0 (f x0)) : Ok b0 (request s f) := by
  unfold request
  try dsimp only
  repeat' first
    | with_reducible assumption | with_reducible apply h_f | with_reducible apply State_answer_ok | with_reducible apply ite_ok
    | with_reducible apply ite1_ok | with_reducible apply ite_okW | with_reducible apply OkW.st | split | dsimp only

theorem carryOut_ok {b0 : State} (s : State) (m : Mode) (row : Nat) (h_s : Ok b0 s) (h_b : b0.mode ≠ .tripped) : Ok b0 (carryOut s m row) := by
  unfold carryOut
  try dsimp only
  repeat' first
    | with_reducible assumption | with_reducible apply State_answer_ok | with_reducible apply State_enter_ok
    | with_reducible apply OkW.st | exact h_b | (intro _ _ _) | (intro _) | dsimp only

theorem leaveCalibrate_ok {b0 : State} (s : State) (row : Nat) (h_s : Ok b0 s) : Ok b0 (leaveCalibrate s row) := by
  unfold leaveCalibrate
  try dsimp only
  repeat' first
    | with_reducible assumption | with_reducible apply snsCalLeave_ok | with_reducible apply State_spoilAll_ok
    | with_reducible apply State_enter_ok | with_reducible apply ite_okh | with_reducible apply ite1_ok
    | with_reducible apply ite_okW | with_reducible apply OkW.st | exact Ok.away ‹State.mode _ = _› (by assumption) (by decide)
    | exact Ok.away (And.left ‹State.mode _ = _ ∧ _›) (by assumption) (by decide) | (intro _ _ _) | (intro _) | split
    | dsimp only

theorem dropRoutine_ok {b0 : State} (s : State) (h_s : Ok b0 s) : Ok b0 (dropRoutine s) := by
  unfold dropRoutine
  try dsimp only
  repeat' first
    | with_reducible assumption | with_reducible apply calAbandon_ok | with_reducible apply snsCalLeave_ok
    | with_reducible apply ite_ok | with_reducible apply ite1_ok | with_reducible apply ite_okW | with_reducible apply OkW.st
    | split | dsimp only

theorem dropTransition_ok {b0 : State} (s : State) (h_s : Ok b0 s) : Ok b0 (dropTransition s) := by
  unfold dropTransition
  try dsimp only
  repeat' first
    | with_reducible assumption | with_reducible apply State_put_ok | with_reducible apply OkW.st
    | with_reducible apply Ok.record | dsimp only

theorem requestSetup_ok {b0 : State} (s : State) (h_s : Ok b0 s) : Ok b0 (requestSetup s) := by
  unfold requestSetup
  try dsimp only
  repeat' first
    | with_reducible assumption | with_reducible apply calAbandon_ok | with_reducible apply State_answer_ok
    | with_reducible apply carryOut_ok | with_reducible apply leaveCalibrate_ok | with_reducible apply State_put_ok
    | with_reducible apply ite_okh | with_reducible apply ite1_ok | with_reducible apply ite_okW | with_reducible apply OkW.st
    | exact Ok.away ‹State.mode _ = _› (by assumption) (by decide)
    | exact Ok.away (And.left ‹State.mode _ = _ ∧ _›) (by assumption) (by decide) | (intro _ _ _) | (intro _) | split
    | with_reducible apply Ok.record | dsimp only

theorem execRequestSetup_ok {b0 : State} (s : State) (h_s : Ok b0 s) : OkO b0 (execRequestSetup s) := by
  unfold execRequestSetup
  try dsimp only
  repeat' first
    | with_reducible assumption | with_reducible apply request_ok | with_reducible apply requestSetup_ok
    | with_reducible apply OkO.next | with_reducible apply OkO.fault | with_reducible apply OkW.st | dsimp only

theorem transitionComplete_ok {b0 : State} (s : State) (m : Mode) (h_s : Ok b0 s) : Ok b0 (transitionComplete s m) := by
  unfold transitionComplete
  try dsimp only
  repeat' first
    | with_reducible assumption | with_reducible apply dropTransition_ok | with_reducible apply State_setFfx_ok
    | with_reducible apply State_spoilAll_ok | with_reducible apply State_enter_ok | with_reducible apply foldl_ok
    | with_reducible apply ite_okh | with_reducible apply foldl1_ok | with_reducible apply ite1_ok
    | with_reducible apply ite_okW | with_reducible apply OkW.st | exact Ok.away ‹State.mode _ = _› (by assumption) (by decide)
    | exact Ok.away (And.left ‹State.mode _ = _ ∧ _›) (by assumption) (by decide) | (intro _ _ _) | (intro _) | split
    | with_reducible apply Ok.record | dsimp only

theorem execTransitionComplete_ok {b0 : State} (s : State) (h_s : Ok b0 s) : OkO b0 (execTransitionComplete s) := by
  unfold execTransitionComplete
  try dsimp only
  repeat' first
    | with_reducible assumption | with_reducible apply transitionComplete_ok | with_reducible apply OkO.next
    | with_reducible apply OkO.fault | with_reducible apply OkW.st | (intro _ _ _) | (intro _) | split
    | with_reducible apply Ok.record | dsimp only

theorem requestStandby_ok {b0 : State} (s : State) (h_s : Ok b0 s) : Ok b0 (requestStandby s) := by
  unfold requestStandby
  try dsimp only
  repeat' first
    | with_reducible assumption | with_reducible apply State_answer_ok | with_reducible apply carryOut_ok
    | with_reducible apply State_setFfx_ok | with_reducible apply foldl_ok | with_reducible apply foldl1_ok
    | with_reducible apply OkW.st | exact Ok.away ‹State.mode _ = _› (by assumption) (by decide)
    | exact Ok.away (And.left ‹State.mode _ = _ ∧ _›) (by assumption) (by decide) | (intro _ _ _) | (intro _) | split
    | with_reducible apply Ok.record | dsimp only

theorem execRequestStandby_ok {b0 : State} (s : State) (h_s : Ok b0 s) : OkO b0 (execRequestStandby s) := by
  unfold execRequestStandby
  try dsimp only
  repeat' first
    | with_reducible assumption | with_reducible apply request_ok | with_reducible apply requestStandby_ok
    | with_reducible apply OkO.next | with_reducible apply OkO.fault | with_reducible apply OkW.st | dsimp only

theorem acknowledgeDip_ok {b0 : State} (s : State) (hystOk : Bool) (h_s : Ok b0 s) : Ok b0 (acknowledgeDip s hystOk) := by
  unfold acknowledgeDip
  try dsimp only
  repeat' first
    | with_reducible assumption | with_reducible apply State_put_ok | with_reducible apply ite_ok | with_reducible apply ite1_ok
    | with_reducible apply ite_okW | with_reducible apply OkW.st | split | dsimp only

theorem armFromHold_ok {b0 : State} (s : State) (hystOk : Bool) (h_s : Ok b0 s) : Ok b0 (armFromHold s hystOk) := by
  unfold armFromHold
  try dsimp only
  repeat' first
    | with_reducible assumption | with_reducible apply State_answer_ok | with_reducible apply acknowledgeDip_ok
    | with_reducible apply State_put_ok | with_reducible apply leaveHold_ok | with_reducible apply ite_ok
    | with_reducible apply ite1_ok | with_reducible apply ite_okW | with_reducible apply OkW.st | split | dsimp only

theorem requestArmed_ok {b0 : State} (s : State) (warnOk hystOk : Bool) (h_s : Ok b0 s) : Ok b0 (requestArmed s warnOk hystOk) := by
  unfold requestArmed
  try dsimp only
  repeat' first
    | with_reducible assumption | with_reducible apply State_answer_ok | with_reducible apply carryOut_ok
    | with_reducible apply acknowledgeDip_ok | with_reducible apply armFromHold_ok | with_reducible apply OkW.st
    | exact Ok.away ‹State.mode _ = _› (by assumption) (by decide)
    | exact Ok.away (And.left ‹State.mode _ = _ ∧ _›) (by assumption) (by decide) | (intro _ _ _) | (intro _) | split
    | with_reducible apply Ok.record | dsimp only

theorem execRequestArmed_ok {b0 : State} (warnOk hystOk : Bool) (s : State) (h_s : Ok b0 s) : OkO b0 (execRequestArmed warnOk hystOk s) := by
  unfold execRequestArmed
  try dsimp only
  repeat' first
    | with_reducible assumption | with_reducible apply request_ok | with_reducible apply requestArmed_ok
    | with_reducible apply OkO.next | with_reducible apply OkO.fault | with_reducible apply OkW.st | (intro _ _ _) | (intro _)
    | dsimp only

theorem requestHold_ok {b0 : State} (s : State) (h_s : Ok b0 s) : Ok b0 (requestHold s) := by
  unfold requestHold
  try dsimp only
  repeat' first
    | with_reducible assumption | with_reducible apply State_answer_ok | with_reducible apply carryOut_ok
    | with_reducible apply State_put_ok | with_reducible apply OkW.st
    | exact Ok.away ‹State.mode _ = _› (by assumption) (by decide)
    | exact Ok.away (And.left ‹State.mode _ = _ ∧ _›) (by assumption) (by decide) | (intro _ _ _) | (intro _) | split
    | with_reducible apply Ok.record | dsimp only

theorem execRequestHold_ok {b0 : State} (s : State) (h_s : Ok b0 s) : OkO b0 (execRequestHold s) := by
  unfold execRequestHold
  try dsimp only
  repeat' first
    | with_reducible assumption | with_reducible apply request_ok | with_reducible apply requestHold_ok
    | with_reducible apply OkO.next | with_reducible apply OkO.fault | with_reducible apply OkW.st | dsimp only

theorem requestQuiesce_ok {b0 : State} (s : State) (h_s : Ok b0 s) : Ok b0 (requestQuiesce s) := by
  unfold requestQuiesce
  try dsimp only
  repeat' first
    | with_reducible assumption | with_reducible apply State_answer_ok | with_reducible apply enterQuiesce_ok
    | with_reducible apply OkW.st | exact Ok.away ‹State.mode _ = _› (by assumption) (by decide)
    | exact Ok.away (And.left ‹State.mode _ = _ ∧ _›) (by assumption) (by decide) | (intro _ _ _) | (intro _) | split
    | with_reducible apply Ok.record | dsimp only

theorem execRequestQuiesce_ok {b0 : State} (s : State) (h_s : Ok b0 s) : OkO b0 (execRequestQuiesce s) := by
  unfold execRequestQuiesce
  try dsimp only
  repeat' first
    | with_reducible assumption | with_reducible apply request_ok | with_reducible apply requestQuiesce_ok
    | with_reducible apply OkO.next | with_reducible apply OkO.fault | with_reducible apply OkW.st | dsimp only

theorem demandSweep_ok {b0 : State} (s : State) (h_s : Ok b0 s) : Ok b0 (demandSweep s) := by
  unfold demandSweep
  try dsimp only
  repeat' first
    | with_reducible assumption | with_reducible apply State_put_ok | with_reducible apply OkW.st | (intro _ _ _) | (intro _)
    | split | with_reducible apply Ok.record | dsimp only

theorem requestCalibrate_ok {b0 : State} (s : State) (warnOk : Bool) (h_s : Ok b0 s) : Ok b0 (requestCalibrate s warnOk) := by
  unfold requestCalibrate
  try dsimp only
  repeat' first
    | with_reducible assumption | with_reducible apply calBegin_ok | with_reducible apply State_answer_ok
    | with_reducible apply carryOut_ok | with_reducible apply demandSweep_ok | with_reducible apply ite_okh
    | with_reducible apply ite1_ok | with_reducible apply ite_okW | with_reducible apply OkW.st
    | exact Ok.away ‹State.mode _ = _› (by assumption) (by decide)
    | exact Ok.away (And.left ‹State.mode _ = _ ∧ _›) (by assumption) (by decide) | (intro _ _ _) | (intro _) | split
    | with_reducible apply Ok.record | dsimp only

theorem execRequestCalibrate_ok {b0 : State} (warnOk : Bool) (s : State) (h_s : Ok b0 s) : OkO b0 (execRequestCalibrate warnOk s) := by
  unfold execRequestCalibrate
  try dsimp only
  repeat' first
    | with_reducible assumption | with_reducible apply request_ok | with_reducible apply requestCalibrate_ok
    | with_reducible apply OkO.next | with_reducible apply OkO.fault | with_reducible apply OkW.st | (intro _ _ _) | (intro _)
    | dsimp only

theorem requestTest_ok {b0 : State} (s : State) (h_s : Ok b0 s) : Ok b0 (requestTest s) := by
  unfold requestTest
  try dsimp only
  repeat' first
    | with_reducible assumption | with_reducible apply State_answer_ok | with_reducible apply carryOut_ok
    | with_reducible apply OkW.st | exact Ok.away ‹State.mode _ = _› (by assumption) (by decide)
    | exact Ok.away (And.left ‹State.mode _ = _ ∧ _›) (by assumption) (by decide) | (intro _ _ _) | (intro _) | split
    | with_reducible apply Ok.record | dsimp only

theorem execRequestTest_ok {b0 : State} (s : State) (h_s : Ok b0 s) : OkO b0 (execRequestTest s) := by
  unfold execRequestTest
  try dsimp only
  repeat' first
    | with_reducible assumption | with_reducible apply request_ok | with_reducible apply requestTest_ok
    | with_reducible apply OkO.next | with_reducible apply OkO.fault | with_reducible apply OkW.st | dsimp only

theorem requestSealed_ok {b0 : State} (s : State) (h_s : Ok b0 s) : Ok b0 (requestSealed s) := by
  unfold requestSealed
  try dsimp only
  repeat' first
    | with_reducible assumption | with_reducible apply State_answer_ok | with_reducible apply carryOut_ok
    | with_reducible apply ite_okh | with_reducible apply ite1_ok | with_reducible apply ite_okW | with_reducible apply OkW.st
    | exact Ok.away ‹State.mode _ = _› (by assumption) (by decide)
    | exact Ok.away (And.left ‹State.mode _ = _ ∧ _›) (by assumption) (by decide) | (intro _ _ _) | (intro _) | split
    | with_reducible apply Ok.record | dsimp only

theorem execRequestSealed_ok {b0 : State} (s : State) (h_s : Ok b0 s) : OkO b0 (execRequestSealed s) := by
  unfold execRequestSealed
  try dsimp only
  repeat' first
    | with_reducible assumption | with_reducible apply request_ok | with_reducible apply requestSealed_ok
    | with_reducible apply OkO.next | with_reducible apply OkO.fault | with_reducible apply OkW.st | dsimp only

theorem requestEntered_ok {b0 : State} (m : Mode) (s : State) (h_s : Ok b0 s) : Ok b0 (requestEntered m s) := by
  unfold requestEntered
  try dsimp only
  repeat' first
    | with_reducible assumption | with_reducible apply State_answer_ok | with_reducible apply ite_ok
    | with_reducible apply ite1_ok | with_reducible apply ite_okW | with_reducible apply OkW.st | split | dsimp only

theorem execRequestClear_ok {b0 : State} (s : State) (h_s : Ok b0 s) : OkO b0 (execRequestClear s) := by
  unfold execRequestClear
  try dsimp only
  repeat' first
    | with_reducible assumption | with_reducible apply request_ok | with_reducible apply requestEntered_ok
    | with_reducible apply OkO.next | with_reducible apply OkO.fault | with_reducible apply OkW.st | dsimp only

theorem execRequestHoldover_ok {b0 : State} (s : State) (h_s : Ok b0 s) : OkO b0 (execRequestHoldover s) := by
  unfold execRequestHoldover
  try dsimp only
  repeat' first
    | with_reducible assumption | with_reducible apply request_ok | with_reducible apply requestEntered_ok
    | with_reducible apply OkO.next | with_reducible apply OkO.fault | with_reducible apply OkW.st | dsimp only

theorem execRequestTripped_ok {b0 : State} (s : State) (h_s : Ok b0 s) : OkO b0 (execRequestTripped s) := by
  unfold execRequestTripped
  try dsimp only
  repeat' first
    | with_reducible assumption | with_reducible apply request_ok | with_reducible apply requestEntered_ok
    | with_reducible apply OkO.next | with_reducible apply OkO.fault | with_reducible apply OkW.st | dsimp only

theorem execRequestUndefinedMode_ok {b0 : State} (code : Nat) (s : State) (h_s : Ok b0 s) : OkO b0 (execRequestUndefinedMode code s) := by
  unfold execRequestUndefinedMode
  try dsimp only
  repeat' first
    | with_reducible assumption | with_reducible apply State_answer_ok | with_reducible apply request_ok
    | with_reducible apply happen_ok | with_reducible apply OkO.next | with_reducible apply OkO.fault
    | with_reducible apply OkW.st | (intro _ _ _) | (intro _) | dsimp only

theorem requestCode_ok {b0 : State} (s : State) (code : Nat) (h_s : Ok b0 s) : Ok b0 (requestCode s code) := by
  unfold requestCode
  try dsimp only
  repeat' first
    | with_reducible assumption | with_reducible apply State_answer_ok | with_reducible apply request_ok
    | with_reducible apply requestSetup_ok | with_reducible apply requestStandby_ok | with_reducible apply requestArmed_ok
    | with_reducible apply requestHold_ok | with_reducible apply requestQuiesce_ok | with_reducible apply requestCalibrate_ok
    | with_reducible apply requestTest_ok | with_reducible apply requestSealed_ok | with_reducible apply requestEntered_ok
    | with_reducible apply ite_ok | with_reducible apply ite1_ok | with_reducible apply ite_okW | with_reducible apply OkW.st
    | (intro _ _ _) | (intro _) | split | with_reducible apply Ok.record | dsimp only

theorem calibrationStageEnd_ok {b0 : State} (s : State) (q : Routine) (six : Bool) (meas : Int) (results : List (Nat × Nat × Nat × List (BitVec 16))) (h_s : Ok b0 s) : Ok b0 (calibrationStageEnd s q six meas results) := by
  unfold calibrationStageEnd
  try dsimp only
  repeat' first
    | with_reducible assumption | with_reducible apply calFailRef_ok | with_reducible apply leaveCalibrate_ok
    | with_reducible apply State_wr_ok | with_reducible apply ite_ok | with_reducible apply ite1_ok
    | with_reducible apply ite_okW | with_reducible apply OkW.st | split | with_reducible apply Ok.record | dsimp only

theorem execCalibrationStageEnd_ok {b0 : State} (six : Bool) (meas : Int) (results : List (Nat × Nat × Nat × List (BitVec 16))) (s : State) (h_s : Ok b0 s) : OkO b0 (execCalibrationStageEnd six meas results s) := by
  unfold execCalibrationStageEnd
  try dsimp only
  repeat' first
    | with_reducible assumption | with_reducible apply calibrationStageEnd_ok | with_reducible apply happen_ok
    | with_reducible apply OkO.next | with_reducible apply OkO.fault | with_reducible apply OkW.st | (intro _ _ _) | (intro _)
    | split | with_reducible apply Ok.record | dsimp only

theorem execCalibrationEnd_ok {b0 : State} (s : State) (h_s : Ok b0 s) : OkO b0 (execCalibrationEnd s) := by
  unfold execCalibrationEnd
  try dsimp only
  repeat' first
    | with_reducible assumption | with_reducible apply calApply_ok | with_reducible apply leaveCalibrate_ok
    | with_reducible apply happen_ok | with_reducible apply OkO.next | with_reducible apply OkO.fault
    | with_reducible apply OkW.st | (intro _ _ _) | (intro _) | split | with_reducible apply Ok.record | dsimp only

theorem clearLines_ok {b0 : State} (s : State) (h_s : Ok b0 s) : Ok b0 (clearLines s) := by
  unfold clearLines
  try dsimp only
  repeat' first
    | with_reducible assumption | with_reducible apply State_setMrkMute_ok | with_reducible apply State_wr_ok
    | with_reducible apply State_setLine_ok | with_reducible apply foldl_ok | with_reducible apply foldl1_ok
    | with_reducible apply OkW.st | (intro _ _ _) | (intro _) | with_reducible apply Ok.record | dsimp only

theorem clearOutputsNow_ok {b0 : State} (s : State) (h_s : Ok b0 s) : Ok b0 (clearOutputsNow s) := by
  unfold clearOutputsNow
  try dsimp only
  repeat' first
    | with_reducible assumption | with_reducible apply clearFluxNow_ok | with_reducible apply clearLines_ok
    | with_reducible apply htrStop_ok | with_reducible apply OkW.st | dsimp only

theorem clrFall_ok {b0 : State} (s : State) (h_s : Ok b0 s) : Ok b0 (clrFall s) := by
  unfold clrFall
  split
  · exact h_s
  · exact clearOutputsNow_ok _ h_s
  · rename_i n _
    exact State_enter_ok _ _ _ (clearOutputsNow_ok _ (dropTransition_ok _ (dropRoutine_ok _ h_s))) fun i => n (h_s.trip i)

theorem execClrNFall_ok {b0 : State} (s : State) (h_s : Ok b0 s) : OkO b0 (execClrNFall s) := by
  unfold execClrNFall
  try dsimp only
  repeat' first
    | with_reducible assumption | with_reducible apply clrFall_ok | with_reducible apply OkO.next
    | with_reducible apply OkO.fault | with_reducible apply OkW.st | dsimp only

theorem dropSilent_ok {b0 : State} (s : State) (h_s : Ok b0 s) : Ok b0 (dropSilent s) := by
  unfold dropSilent
  try dsimp only
  repeat' first
    | with_reducible assumption | with_reducible apply OkW.st | (intro _ _ _) | (intro _) | with_reducible apply Ok.record
    | dsimp only

theorem clearNext_ok {b0 : State} (s : State) (h_s : Ok b0 s) : Ok b0 (clearNext s) := by
  unfold clearNext
  try dsimp only
  repeat' first
    | with_reducible assumption | with_reducible apply clearFluxNext_ok | with_reducible apply dropSilent_ok
    | with_reducible apply abortAll_ok | with_reducible apply ite_ok | with_reducible apply ite1_ok
    | with_reducible apply ite_okW | with_reducible apply OkW.st | split | with_reducible apply Ok.record | dsimp only

theorem abandonWork_ok {b0 : State} (s : State) (w : Work) (h_s : Ok b0 s) : Ok b0 (abandonWork s w) := by
  unfold abandonWork
  try dsimp only
  repeat' first
    | with_reducible assumption | with_reducible apply State_setRset_ok | with_reducible apply State_updWork_ok
    | with_reducible apply State_dropWork_ok | with_reducible apply abandonLoad_ok | with_reducible apply freeOldest_ok
    | with_reducible apply OkW.st | (intro _ _ _) | (intro _) | split | with_reducible apply Ok.record | dsimp only

theorem clearClock_ok {b0 : State} (s : State) (h_s : Ok b0 s) : Ok b0 (clearClock s) := by
  unfold clearClock
  try dsimp only
  repeat' first
    | with_reducible assumption | with_reducible apply abandonWork_ok | with_reducible apply abortAll_ok
    | with_reducible apply foldl_ok | with_reducible apply ite_ok | with_reducible apply foldl1_ok
    | with_reducible apply ite1_ok | with_reducible apply ite_okW | with_reducible apply OkW.st | (intro _ _ _) | (intro _)
    | split | with_reducible apply Ok.record | dsimp only

theorem clearRings_ok {b0 : State} (s : State) (h_s : Ok b0 s) : Ok b0 (clearRings s) := by
  unfold clearRings
  try dsimp only
  repeat' first
    | with_reducible assumption | with_reducible apply State_put_ok | with_reducible apply foldl_ok
    | with_reducible apply foldl1_ok | with_reducible apply OkW.st | (intro _ _ _) | (intro _) | with_reducible apply Ok.record
    | dsimp only

theorem stopMaster_ok {b0 : State} (s : State) (h_s : Ok b0 s) : Ok b0 (stopMaster s) := by
  unfold stopMaster
  try dsimp only
  repeat' first
    | with_reducible assumption | with_reducible apply OkW.st | with_reducible apply Ok.record | dsimp only

theorem functionReset_ok {b0 : State} (s : State) (cause : Nat) (h_s : Ok b0 s) : Ok b0 (functionReset s cause) := by
  unfold functionReset
  extract_lets s1 s2
  have h1 : Ok b0 s1 := stopMaster_ok _ (State_put_ok _ _ _ (clearRings_ok _ (clearClock_ok _ h_s)))
  have h2 : Ok b0 s2 := idleTdcs_ok _ (State_put_ok _ _ _ h1)
  split
  · exact h2
  · exact clearOutputsNow_ok _ h2
  · rename_i n _
    exact State_enter_ok _ _ _ (clearOutputsNow_ok _ (dropTransition_ok _ (dropRoutine_ok _ h2))) fun i => n (h2.trip i)

theorem execHotReset_ok {b0 : State} (s : State) (h_s : Ok b0 s) : OkO b0 (execHotReset s) := by
  unfold execHotReset
  try dsimp only
  repeat' first
    | with_reducible assumption | with_reducible apply functionReset_ok | with_reducible apply OkO.next
    | with_reducible apply OkO.fault | with_reducible apply OkW.st | (intro _ _ _) | (intro _) | dsimp only

theorem execFunctionLevelReset_ok {b0 : State} (s : State) (h_s : Ok b0 s) : OkO b0 (execFunctionLevelReset s) := by
  unfold execFunctionLevelReset
  try dsimp only
  repeat' first
    | with_reducible assumption | with_reducible apply functionReset_ok | with_reducible apply OkO.next
    | with_reducible apply OkO.fault | with_reducible apply OkW.st | (intro _ _ _) | (intro _) | dsimp only

theorem perstAssert_ok {b0 : State} (s : State) (h_s : Ok b0 s) : Ok b0 (perstAssert s) := by
  unfold perstAssert
  try dsimp only
  repeat' first
    | with_reducible assumption | with_reducible apply functionReset_ok | with_reducible apply State_wr_ok
    | with_reducible apply OkW.st | (intro _ _ _) | (intro _) | with_reducible apply Ok.record | dsimp only

theorem execPerstNAssert_ok {b0 : State} (s : State) (h_s : Ok b0 s) : OkO b0 (execPerstNAssert s) := by
  unfold execPerstNAssert
  try dsimp only
  repeat' first
    | with_reducible assumption | with_reducible apply perstAssert_ok | with_reducible apply OkO.next
    | with_reducible apply OkO.fault | with_reducible apply OkW.st | dsimp only

theorem execPerstNRelease_ok {b0 : State} (s : State) (h_s : Ok b0 s) : OkO b0 (execPerstNRelease s) := by
  unfold execPerstNRelease
  try dsimp only
  repeat' first
    | with_reducible assumption | with_reducible apply happen_ok | with_reducible apply OkO.next
    | with_reducible apply OkO.fault | with_reducible apply OkW.st | with_reducible apply Ok.record | dsimp only

theorem linkRecovery_ok {b0 : State} (s : State) (rate width : Nat) (flit : Bool) (h_s : Ok b0 s) : Ok b0 (linkRecovery s rate width flit) := by
  unfold linkRecovery
  try dsimp only
  repeat' first
    | with_reducible assumption | with_reducible apply State_put_ok | with_reducible apply State_bump_ok
    | with_reducible apply State_event_ok | with_reducible apply setLink_ok | with_reducible apply ite_ok
    | with_reducible apply ite1_ok | with_reducible apply ite_okW | with_reducible apply OkW.st | split | dsimp only

theorem execLinkRecovery_ok {b0 : State} (rate width : Nat) (flit : Bool) (s : State) (h_s : Ok b0 s) : OkO b0 (execLinkRecovery rate width flit s) := by
  unfold execLinkRecovery
  try dsimp only
  repeat' first
    | with_reducible assumption | with_reducible apply linkRecovery_ok | with_reducible apply happen_ok
    | with_reducible apply OkO.next | with_reducible apply OkO.fault | with_reducible apply OkW.st | dsimp only

end Sys2Proof.Machine
end

