-- ==== Sys2Proof/Laws/KeepTimebase.lean ====
section
/-!
SUPPORT. What every operation of Machine/Timebase.lean keeps (see KeepOps.lean).
-/
namespace Sys2Proof.Machine

theorem writeAlarmCtrl_ok {b0 : State} (s : State) (n : Nat) (v : Word) (h_s : Ok b0 s) : OkW b0 (writeAlarmCtrl s n v) := by
  unfold writeAlarmCtrl
  try dsimp only
  repeat' first
    | with_reducible assumption | with_reducible apply State_wr_ok | with_reducible apply taken_ok | with_reducible apply ite_ok
    | with_reducible apply ite1_ok | with_reducible apply ite_okW | with_reducible apply OkW.st | with_reducible apply OkW.mk
    | split | with_reducible apply Ok.record | dsimp only

theorem fireAlarm_ok {b0 : State} (s : State) (n : Nat) (h_s : Ok b0 s) : Ok b0 (fireAlarm s n) := by
  unfold fireAlarm
  try dsimp only
  repeat' first
    | with_reducible assumption | with_reducible apply State_put_ok | with_reducible apply State_put64_ok
    | with_reducible apply State_event_ok | with_reducible apply ite_ok | with_reducible apply ite1_ok
    | with_reducible apply ite_okW | with_reducible apply OkW.st | split | with_reducible apply Ok.record | dsimp only

theorem execAlarmFire_ok {b0 : State} (n : Nat) (s : State) (h_s : Ok b0 s) : OkO b0 (execAlarmFire n s) := by
  unfold execAlarmFire
  try dsimp only
  repeat' first
    | with_reducible assumption | with_reducible apply fireAlarm_ok | with_reducible apply happen_ok
    | with_reducible apply OkO.next | with_reducible apply OkO.fault | with_reducible apply OkW.st | dsimp only

theorem writeEpoTrim_ok {b0 : State} (s : State) (v : Word) (h_s : Ok b0 s) : OkW b0 (writeEpoTrim s v) := by
  unfold writeEpoTrim
  try dsimp only
  repeat' first
    | with_reducible assumption | with_reducible apply State_wr_ok | with_reducible apply taken_ok
    | with_reducible apply refusedBy_ok | with_reducible apply ite_ok | with_reducible apply ite1_ok
    | with_reducible apply ite_okW | with_reducible apply OkW.st | with_reducible apply OkW.mk | split | dsimp only

theorem loseAlarms_ok {b0 : State} (s : State) (h_s : Ok b0 s) : Ok b0 (loseAlarms s) := by
  unfold loseAlarms
  try dsimp only
  repeat' first
    | with_reducible assumption | with_reducible apply State_put_ok | with_reducible apply foldl_ok
    | with_reducible apply ite_ok | with_reducible apply foldl1_ok | with_reducible apply ite1_ok | with_reducible apply ite_okW
    | with_reducible apply OkW.st | (intro _ _ _) | (intro _) | split | dsimp only

theorem ignoreEpoch_ok {b0 : State} (s : State) (h_s : Ok b0 s) : Ok b0 (ignoreEpoch s) := by
  unfold ignoreEpoch
  try dsimp only
  repeat' first
    | with_reducible assumption | with_reducible apply State_put_ok | with_reducible apply State_bump_ok
    | with_reducible apply State_put64_ok | with_reducible apply State_event_ok | with_reducible apply ite_ok
    | with_reducible apply ite1_ok | with_reducible apply ite_okW | with_reducible apply OkW.st | split | dsimp only

theorem loseLock_ok {b0 : State} (s : State) (stall : Bool) (h_s : Ok b0 s) : Ok b0 (loseLock s stall) := by
  unfold loseLock
  try dsimp only
  repeat' first
    | with_reducible assumption | with_reducible apply State_put_ok | with_reducible apply State_event_ok
    | with_reducible apply State_shotFlag_ok | with_reducible apply foldl_ok | with_reducible apply ite_ok
    | with_reducible apply foldl1_ok | with_reducible apply ite1_ok | with_reducible apply ite_okW | with_reducible apply OkW.st
    | (intro _ _ _) | (intro _) | split | dsimp only

theorem showAngle_ok {b0 : State} (s : State) (h_s : Ok b0 s) : Ok b0 (showAngle s) := by
  unfold showAngle
  try dsimp only
  repeat' first
    | with_reducible assumption | with_reducible apply ite_ok | with_reducible apply ite1_ok | with_reducible apply ite_okW
    | with_reducible apply OkW.st | split | with_reducible apply Ok.record | dsimp only

theorem angleReference_ok {b0 : State} (s : State) (h_s : Ok b0 s) : Ok b0 (angleReference s) := by
  unfold angleReference
  try dsimp only
  repeat' first
    | with_reducible assumption | with_reducible apply State_wr_ok | with_reducible apply State_put_ok
    | with_reducible apply State_put64_ok | with_reducible apply State_event_ok | with_reducible apply loseLock_ok
    | with_reducible apply foldl_ok | with_reducible apply ite_ok | with_reducible apply foldl1_ok
    | with_reducible apply ite1_ok | with_reducible apply ite_okW | with_reducible apply OkW.st | (intro _ _ _) | (intro _)
    | split | with_reducible apply Ok.record | dsimp only

theorem execAngleReferenceEdge_ok {b0 : State} (s : State) (h_s : Ok b0 s) : OkO b0 (execAngleReferenceEdge s) := by
  unfold execAngleReferenceEdge
  try dsimp only
  repeat' first
    | with_reducible assumption | with_reducible apply showAngle_ok | with_reducible apply angleReference_ok
    | with_reducible apply happen_ok | with_reducible apply OkO.next | with_reducible apply OkO.fault
    | with_reducible apply OkW.st | dsimp only

theorem angleIncrement_ok {b0 : State} (s : State) (h_s : Ok b0 s) : Ok b0 (angleIncrement s) := by
  unfold angleIncrement
  try dsimp only
  repeat' first
    | with_reducible assumption | with_reducible apply State_put_ok | with_reducible apply OkW.st
    | with_reducible apply Ok.record | dsimp only

theorem execAngleIncrementEdge_ok {b0 : State} (s : State) (h_s : Ok b0 s) : OkO b0 (execAngleIncrementEdge s) := by
  unfold execAngleIncrementEdge
  try dsimp only
  repeat' first
    | with_reducible assumption | with_reducible apply showAngle_ok | with_reducible apply angleIncrement_ok
    | with_reducible apply happen_ok | with_reducible apply OkO.next | with_reducible apply OkO.fault
    | with_reducible apply OkW.st | dsimp only

theorem execAngleStall_ok {b0 : State} (s : State) (h_s : Ok b0 s) : OkO b0 (execAngleStall s) := by
  unfold execAngleStall
  try dsimp only
  repeat' first
    | with_reducible assumption | with_reducible apply loseLock_ok | with_reducible apply happen_ok
    | with_reducible apply OkO.next | with_reducible apply OkO.fault | with_reducible apply OkW.st | dsimp only

theorem restartAngle_ok {b0 : State} (s : State) (h_s : Ok b0 s) : Ok b0 (restartAngle s) := by
  unfold restartAngle
  try dsimp only
  repeat' first
    | with_reducible assumption | with_reducible apply State_put_ok | with_reducible apply OkW.st
    | with_reducible apply Ok.record | dsimp only

theorem writeAngleCfg_ok {b0 : State} (s : State) (enc : Bool) (v : Word) (h_s : Ok b0 s) : OkW b0 (writeAngleCfg s enc v) := by
  unfold writeAngleCfg
  try dsimp only
  repeat' first
    | with_reducible assumption | with_reducible apply State_wr_ok | with_reducible apply taken_ok
    | with_reducible apply refusedBy_ok | with_reducible apply restartAngle_ok | with_reducible apply ite_ok
    | with_reducible apply ite1_ok | with_reducible apply ite_okW | with_reducible apply OkW.st | with_reducible apply OkW.mk
    | (intro _ _ _) | (intro _) | split | dsimp only

theorem writeAngleLim_ok {b0 : State} (s : State) (v : Word) (h_s : Ok b0 s) : OkW b0 (writeAngleLim s v) := by
  unfold writeAngleLim
  try dsimp only
  repeat' first
    | with_reducible assumption | with_reducible apply State_wr_ok | with_reducible apply taken_ok
    | with_reducible apply refusedBy_ok | with_reducible apply ite_ok | with_reducible apply ite1_ok
    | with_reducible apply ite_okW | with_reducible apply OkW.st | with_reducible apply OkW.mk | (intro _ _ _) | (intro _)
    | split | dsimp only

theorem writeAngleWindow_ok {b0 : State} (s : State) (n : Nat) (v : Word) (h_s : Ok b0 s) : OkW b0 (writeAngleWindow s n v) := by
  unfold writeAngleWindow
  try dsimp only
  repeat' first
    | with_reducible assumption | with_reducible apply State_wr_ok | with_reducible apply taken_ok
    | with_reducible apply refusedBy_ok | with_reducible apply ite_ok | with_reducible apply ite1_ok
    | with_reducible apply ite_okW | with_reducible apply OkW.st | with_reducible apply OkW.mk | (intro _ _ _) | (intro _)
    | split | dsimp only

theorem angleWindowEdge_ok {b0 : State} (s : State) (n : Nat) (h_s : Ok b0 s) : Ok b0 (angleWindowEdge s n) := by
  unfold angleWindowEdge
  try dsimp only
  repeat' first
    | with_reducible assumption | with_reducible apply ite_ok | with_reducible apply ite1_ok | with_reducible apply ite_okW
    | with_reducible apply OkW.st | (intro _ _ _) | (intro _) | split | with_reducible apply Ok.record | dsimp only

theorem execAngleWindowEdge_ok {b0 : State} (n : Nat) (s : State) (h_s : Ok b0 s) : OkO b0 (execAngleWindowEdge n s) := by
  unfold execAngleWindowEdge
  try dsimp only
  repeat' first
    | with_reducible assumption | with_reducible apply angleWindowEdge_ok | with_reducible apply happen_ok
    | with_reducible apply OkO.next | with_reducible apply OkO.fault | with_reducible apply OkW.st | (intro _ _ _) | (intro _)
    | split | with_reducible apply Ok.record | dsimp only

theorem tickAngle_ok {b0 : State} (s : State) (h_s : Ok b0 s) : Ok b0 (tickAngle s) := by
  unfold tickAngle
  try dsimp only
  repeat' first
    | with_reducible assumption | with_reducible apply showAngle_ok | with_reducible apply OkW.st
    | with_reducible apply Ok.record | dsimp only

theorem noteWindows_ok {b0 : State} (s : State) (h_s : Ok b0 s) : Ok b0 (noteWindows s) := by
  unfold noteWindows
  try dsimp only
  repeat' first
    | with_reducible assumption | with_reducible apply OkW.st | (intro _ _ _) | (intro _) | with_reducible apply Ok.record
    | dsimp only

theorem calendarStep_ok {b0 : State} (s : State) (v : Nat) (h_s : Ok b0 s) : Ok b0 (calendarStep s v) := by
  unfold calendarStep
  try dsimp only
  repeat' first
    | with_reducible assumption | with_reducible apply State_bumpWrap_ok | with_reducible apply State_put64_ok
    | with_reducible apply ite_ok | with_reducible apply ite1_ok | with_reducible apply ite_okW | with_reducible apply OkW.st
    | split | with_reducible apply Ok.record | dsimp only

theorem calendarRate_ok {b0 : State} (s : State) (v : Word) (h_s : Ok b0 s) : Ok b0 (calendarRate s v) := by
  unfold calendarRate
  try dsimp only
  repeat' first
    | with_reducible assumption | with_reducible apply State_wr_ok | with_reducible apply State_put_ok
    | with_reducible apply State_event_ok | with_reducible apply ite_ok | with_reducible apply ite1_ok
    | with_reducible apply ite_okW | with_reducible apply OkW.st | split | with_reducible apply Ok.record | dsimp only

theorem writeCalCtrl_ok {b0 : State} (s : State) (v : Word) (h_s : Ok b0 s) : OkW b0 (writeCalCtrl s v) := by
  unfold writeCalCtrl
  try dsimp only
  repeat' first
    | with_reducible assumption | with_reducible apply State_wr_ok | with_reducible apply taken_ok | with_reducible apply ite_ok
    | with_reducible apply ite1_ok | with_reducible apply ite_okW | with_reducible apply OkW.st | with_reducible apply OkW.mk
    | split | with_reducible apply Ok.record | dsimp only

theorem execDisciplineWatchExpiry_ok {b0 : State} (s : State) (h_s : Ok b0 s) : OkO b0 (execDisciplineWatchExpiry s) := by
  unfold execDisciplineWatchExpiry
  try dsimp only
  repeat' first
    | with_reducible assumption | with_reducible apply State_put_ok | with_reducible apply State_event_ok
    | with_reducible apply happen_ok | with_reducible apply OkO.next | with_reducible apply OkO.fault
    | with_reducible apply OkW.st | dsimp only

theorem capture_ok {b0 : State} (s : State) (h_s : Ok b0 s) : Ok b0 (capture s) := by
  unfold capture
  try dsimp only
  repeat' first
    | with_reducible assumption | with_reducible apply State_wr_ok | with_reducible apply State_put_ok
    | with_reducible apply State_put64_ok | with_reducible apply OkW.st | with_reducible apply Ok.record | dsimp only

theorem writeSnapCtrl_ok {b0 : State} (s : State) (v : Word) (h_s : Ok b0 s) : OkW b0 (writeSnapCtrl s v) := by
  unfold writeSnapCtrl
  try dsimp only
  repeat' first
    | with_reducible assumption | with_reducible apply State_put_ok | with_reducible apply taken_ok
    | with_reducible apply capture_ok | with_reducible apply ite_ok | with_reducible apply ite1_ok
    | with_reducible apply ite_okW | with_reducible apply OkW.st | with_reducible apply OkW.mk | split
    | with_reducible apply Ok.record | dsimp only

theorem execSnapshotCapture_ok {b0 : State} (s : State) (h_s : Ok b0 s) : OkO b0 (execSnapshotCapture s) := by
  unfold execSnapshotCapture
  try dsimp only
  repeat' first
    | with_reducible assumption | with_reducible apply capture_ok | with_reducible apply happen_ok
    | with_reducible apply OkO.next | with_reducible apply OkO.fault | with_reducible apply OkW.st | dsimp only

end Sys2Proof.Machine
end

