-- ==== Sys2Proof/Laws/KeepPower.lean ====
section
/-!
SUPPORT. What every operation of Machine/Power.lean keeps (see KeepOps.lean).
-/
namespace Sys2Proof.Machine

theorem State_enterStage_ok {b0 : State} (s : State) (n : Nat) (h_s : Ok b0 s) : Ok b0 (State.enterStage s n) := by
  unfold State.enterStage
  try dsimp only
  repeat' first
    | with_reducible assumption | with_reducible apply State_put_ok | with_reducible apply OkW.st | dsimp only

theorem powerGood_ok {b0 : State} (s : State) (h_s : Ok b0 s) : Ok b0 (powerGood s) := by
  unfold powerGood
  try dsimp only
  repeat' first
    | with_reducible assumption | with_reducible apply State_enterStage_ok | with_reducible apply OkW.st
    | with_reducible apply Ok.record | dsimp only

theorem execInternalPowerGood_ok {b0 : State} (s : State) (h_s : Ok b0 s) : OkO b0 (execInternalPowerGood s) := by
  unfold execInternalPowerGood
  try dsimp only
  repeat' first
    | with_reducible assumption | with_reducible apply powerGood_ok | with_reducible apply happen_ok
    | with_reducible apply OkO.next | with_reducible apply OkO.fault | with_reducible apply OkW.st | dsimp only

theorem stageFault_ok {b0 : State} (s : State) (code : Nat) (h_s : Ok b0 s) : Ok b0 (stageFault s code) := by
  unfold stageFault
  try dsimp only
  repeat' first
    | with_reducible assumption | with_reducible apply State_put_ok | with_reducible apply OkW.st | dsimp only

theorem firmwareStage_ok {b0 : State} (s : State) (h_s : Ok b0 s) : Ok b0 (firmwareStage s) := by
  unfold firmwareStage
  try dsimp only
  repeat' first
    | with_reducible assumption | with_reducible apply answerAll_ok | with_reducible apply State_put_ok
    | with_reducible apply State_enterStage_ok | with_reducible apply stageFault_ok | with_reducible apply OkW.st
    | (intro _ _ _) | (intro _) | split | with_reducible apply Ok.record | dsimp only

theorem memoryStage_ok {b0 : State} (s : State) (fault : Bool) (mask : Nat) (h_s : Ok b0 s) : Ok b0 (memoryStage s fault mask) := by
  unfold memoryStage
  try dsimp only
  repeat' first
    | with_reducible assumption | with_reducible apply State_put_ok | with_reducible apply State_enterStage_ok
    | with_reducible apply stageFault_ok | with_reducible apply foldl_ok | with_reducible apply ite_ok
    | with_reducible apply elim_ok | with_reducible apply foldl1_ok | with_reducible apply ite1_ok
    | with_reducible apply ite_okW | with_reducible apply OkW.st | with_reducible apply OkW.mk | (intro _ _ _) | (intro _)
    | split | with_reducible apply Ok.record | with_reducible apply Ok.record_mem | with_reducible apply Ok.record_micro
    | with_reducible apply Ok.record_nano | with_reducible apply Ok.record_cache | with_reducible apply Table.wf_set
    | with_reducible apply Table.wf_nil | dsimp only

theorem rankStage_ok {b0 : State} (s : State) (fault : Bool) (mask : Nat) (h_s : Ok b0 s) : Ok b0 (rankStage s fault mask) := by
  unfold rankStage
  dsimp only
  split
  · exact stageFault_ok _ _ (State_put_ok _ _ _ h_s)
  · exact Ok.stores (x := State.enterStage (s.put Reg.BRD_BOOT_RANK_READY (2 ^ s.part.ranks - 1)) 7) rfl rfl rfl rfl rfl rfl rfl rfl id id
      (fun _ => rfl) (fun _ => rfl) (fun _ => rfl) (State_enterStage_ok _ _ (State_put_ok _ _ _ h_s))

theorem stageEndsNow_ok {b0 : State} (s : State) (fault : Bool) (mask : Nat) (h_s : Ok b0 s) : Ok b0 (stageEndsNow s fault mask) := by
  unfold stageEndsNow
  try dsimp only
  repeat' first
    | with_reducible assumption | with_reducible apply loadCalibration_ok | with_reducible apply loadCurves_ok
    | with_reducible apply answerAll_ok | with_reducible apply monPowerUp_ok | with_reducible apply State_enterStage_ok
    | with_reducible apply stageFault_ok | with_reducible apply firmwareStage_ok | with_reducible apply memoryStage_ok
    | with_reducible apply rankStage_ok | with_reducible apply ite_ok | with_reducible apply ite1_ok
    | with_reducible apply ite_okW | with_reducible apply OkW.st | (intro _ _ _) | (intro _) | split
    | with_reducible apply Ok.record | dsimp only

theorem execPowerUpStageEnd_ok {b0 : State} (fault : Bool) (mask : Nat) (s : State) (h_s : Ok b0 s) : OkO b0 (execPowerUpStageEnd fault mask s) := by
  unfold execPowerUpStageEnd
  try dsimp only
  repeat' first
    | with_reducible assumption | with_reducible apply stageEndsNow_ok | with_reducible apply happen_ok
    | with_reducible apply OkO.next | with_reducible apply OkO.fault | with_reducible apply OkW.st | dsimp only

theorem shiftEpochs_ok {b0 : State} (s : State) (old new : Nat) (h_s : Ok b0 s) : Ok b0 (shiftEpochs s old new) := by
  unfold shiftEpochs
  try dsimp only
  repeat' first
    | with_reducible assumption | with_reducible apply OkW.st | (intro _ _ _) | (intro _) | with_reducible apply Ok.record
    | dsimp only

theorem markStamps_ok {b0 : State} (s : State) (loss : Nat) (h_s : Ok b0 s) : Ok b0 (markStamps s loss) := by
  unfold markStamps
  try dsimp only
  repeat' first
    | with_reducible assumption | with_reducible apply OkW.st | (intro _ _ _) | (intro _) | with_reducible apply Ok.record
    | dsimp only

theorem refinRow_ok {b0 : State} (s : State) (h_s : Ok b0 s) : Ok b0 (refinRow s) := by
  unfold refinRow
  try dsimp only
  repeat' first
    | with_reducible assumption | with_reducible apply calAbandon_ok | with_reducible apply leaveCalibrate_ok
    | with_reducible apply enterHoldover_ok | with_reducible apply OkW.st
    | exact Ok.away ‹State.mode _ = _› (by assumption) (by decide)
    | exact Ok.away (And.left ‹State.mode _ = _ ∧ _›) (by assumption) (by decide) | (intro _ _ _) | (intro _) | split
    | with_reducible apply Ok.record | dsimp only

theorem refinLoss_ok {b0 : State} (s : State) (h_s : Ok b0 s) : Ok b0 (refinLoss s) := by
  unfold refinLoss
  try dsimp only
  repeat' first
    | with_reducible assumption | with_reducible apply State_put_ok | with_reducible apply State_bump_ok
    | with_reducible apply markStamps_ok | with_reducible apply refinRow_ok | with_reducible apply refLost_ok
    | with_reducible apply foldl_ok | with_reducible apply foldl1_ok | with_reducible apply OkW.st | (intro _ _ _) | (intro _)
    | with_reducible apply Ok.record | dsimp only

theorem execRefinLoss_ok {b0 : State} (s : State) (h_s : Ok b0 s) : OkO b0 (execRefinLoss s) := by
  unfold execRefinLoss
  try dsimp only
  repeat' first
    | with_reducible assumption | with_reducible apply refinLoss_ok | with_reducible apply happen_ok
    | with_reducible apply OkO.next | with_reducible apply OkO.fault | with_reducible apply OkW.st | dsimp only

theorem execRefinRestored_ok {b0 : State} (s : State) (h_s : Ok b0 s) : OkO b0 (execRefinRestored s) := by
  unfold execRefinRestored
  try dsimp only
  repeat' first
    | with_reducible assumption | with_reducible apply happen_ok | with_reducible apply OkO.next
    | with_reducible apply OkO.fault | with_reducible apply OkW.st | with_reducible apply Ok.record | dsimp only

theorem pllLocked_ok {b0 : State} (s : State) (h_s : Ok b0 s) : Ok b0 (pllLocked s) := by
  unfold pllLocked
  try dsimp only
  repeat' first
    | with_reducible assumption | with_reducible apply State_put_ok | with_reducible apply State_enter_ok
    | with_reducible apply ite_okh | with_reducible apply ite1_ok | with_reducible apply ite_okW | with_reducible apply OkW.st
    | exact Ok.away ‹State.mode _ = _› (by assumption) (by decide)
    | exact Ok.away (And.left ‹State.mode _ = _ ∧ _›) (by assumption) (by decide) | (intro _ _ _) | (intro _) | split
    | with_reducible apply Ok.record | dsimp only

theorem execPllLocked_ok {b0 : State} (s : State) (h_s : Ok b0 s) : OkO b0 (execPllLocked s) := by
  unfold execPllLocked
  try dsimp only
  repeat' first
    | with_reducible assumption | with_reducible apply pllLocked_ok | with_reducible apply happen_ok
    | with_reducible apply OkO.next | with_reducible apply OkO.fault | with_reducible apply OkW.st | dsimp only

theorem noteRail_ok {b0 : State} (s : State) (rail : Nat) (h_s : Ok b0 s) : Ok b0 (noteRail s rail) := by
  unfold noteRail
  try dsimp only
  repeat' first
    | with_reducible assumption | with_reducible apply State_put_ok | with_reducible apply OkW.st | dsimp only

theorem supplyRow_ok {b0 : State} (s : State) (h_s : Ok b0 s) : Ok b0 (supplyRow s) := by
  unfold supplyRow
  try dsimp only
  repeat' first
    | with_reducible assumption | with_reducible apply calAbandon_ok | with_reducible apply leaveCalibrate_ok
    | with_reducible apply State_put_ok | with_reducible apply State_enter_ok | with_reducible apply OkW.st
    | exact Ok.away ‹State.mode _ = _› (by assumption) (by decide)
    | exact Ok.away (And.left ‹State.mode _ = _ ∧ _›) (by assumption) (by decide) | (intro _ _ _) | (intro _) | split
    | with_reducible apply Ok.record | dsimp only

theorem flagDip_ok {b0 : State} (s : State) (h_s : Ok b0 s) : Ok b0 (flagDip s) := by
  unfold flagDip
  try dsimp only
  repeat' first
    | with_reducible assumption | with_reducible apply State_shotFlag_ok | with_reducible apply foldl_ok
    | with_reducible apply foldl1_ok | with_reducible apply OkW.st | (intro _ _ _) | (intro _) | dsimp only

theorem supplyWarning_ok {b0 : State} (s : State) (rail : Nat) (h_s : Ok b0 s) : Ok b0 (supplyWarning s rail) := by
  unfold supplyWarning
  try dsimp only
  repeat' first
    | with_reducible assumption | with_reducible apply State_wr_ok | with_reducible apply State_put_ok
    | with_reducible apply State_put64_ok | with_reducible apply State_event_ok | with_reducible apply noteRail_ok
    | with_reducible apply supplyRow_ok | with_reducible apply flagDip_ok | with_reducible apply OkW.st
    | with_reducible apply OkW.mk | (intro _ _ _) | (intro _) | split | with_reducible apply Ok.record | dsimp only

theorem execSupplyWarning_ok {b0 : State} (rail : Nat) (s : State) (h_s : Ok b0 s) : OkO b0 (execSupplyWarning rail s) := by
  unfold execSupplyWarning
  try dsimp only
  repeat' first
    | with_reducible assumption | with_reducible apply supplyWarning_ok | with_reducible apply happen_ok
    | with_reducible apply OkO.next | with_reducible apply OkO.fault | with_reducible apply OkW.st | dsimp only

theorem dipEnds_ok {b0 : State} (s : State) (h_s : Ok b0 s) : Ok b0 (dipEnds s) := by
  unfold dipEnds
  try dsimp only
  repeat' first
    | with_reducible assumption | with_reducible apply State_put_ok | with_reducible apply leaveHold_ok
    | with_reducible apply ite_ok | with_reducible apply ite1_ok | with_reducible apply ite_okW | with_reducible apply OkW.st
    | split | dsimp only

theorem supplyRecovery_ok {b0 : State} (s : State) (d : Dip) (h_s : Ok b0 s) : Ok b0 (supplyRecovery s d) := by
  unfold supplyRecovery
  try dsimp only
  repeat' first
    | with_reducible assumption | with_reducible apply State_wr_ok | with_reducible apply State_put_ok
    | with_reducible apply State_bump_ok | with_reducible apply State_event_ok | with_reducible apply dipEnds_ok
    | with_reducible apply ite_ok | with_reducible apply ite1_ok | with_reducible apply ite_okW | with_reducible apply OkW.st
    | split | with_reducible apply Ok.record | dsimp only

theorem execSupplyRecovery_ok {b0 : State} (s : State) (h_s : Ok b0 s) : OkO b0 (execSupplyRecovery s) := by
  unfold execSupplyRecovery
  try dsimp only
  repeat' first
    | with_reducible assumption | with_reducible apply supplyRecovery_ok | with_reducible apply happen_ok
    | with_reducible apply OkO.next | with_reducible apply OkO.fault | with_reducible apply OkW.st | (intro _ _ _) | (intro _)
    | split | with_reducible apply Ok.record | dsimp only

theorem leaveSealed_ok {b0 : State} (s : State) (h_s : Ok b0 s) : Ok b0 (leaveSealed s) := by
  unfold leaveSealed
  try dsimp only
  repeat' first
    | with_reducible assumption | with_reducible apply State_enter_ok | with_reducible apply ite_okh
    | with_reducible apply ite1_ok | with_reducible apply ite_okW | with_reducible apply OkW.st
    | exact Ok.away ‹State.mode _ = _› (by assumption) (by decide)
    | exact Ok.away (And.left ‹State.mode _ = _ ∧ _›) (by assumption) (by decide) | (intro _ _ _) | (intro _) | split
    | dsimp only

theorem execSealFitted_ok {b0 : State} (s : State) (h_s : Ok b0 s) : OkO b0 (execSealFitted s) := by
  unfold execSealFitted
  try dsimp only
  repeat' first
    | with_reducible assumption | with_reducible apply State_put_ok | with_reducible apply OkO.next
    | with_reducible apply OkO.fault | with_reducible apply OkW.st | dsimp only

theorem execSealRemoved_ok {b0 : State} (s : State) (h_s : Ok b0 s) : OkO b0 (execSealRemoved s) := by
  unfold execSealRemoved
  try dsimp only
  repeat' first
    | with_reducible assumption | with_reducible apply State_put_ok | with_reducible apply leaveSealed_ok
    | with_reducible apply OkO.next | with_reducible apply OkO.fault | with_reducible apply OkW.st | dsimp only

theorem execPresencePress_ok {b0 : State} (s : State) (h_s : Ok b0 s) : OkO b0 (execPresencePress s) := by
  unfold execPresencePress
  try dsimp only
  repeat' first
    | with_reducible assumption | with_reducible apply State_bumpWrap_ok | with_reducible apply OkO.next
    | with_reducible apply OkO.fault | with_reducible apply OkW.st | with_reducible apply Ok.record | dsimp only

theorem execPresenceWindowExpiry_ok {b0 : State} (s : State) (h_s : Ok b0 s) : OkO b0 (execPresenceWindowExpiry s) := by
  unfold execPresenceWindowExpiry
  try dsimp only
  repeat' first
    | with_reducible assumption | with_reducible apply leaveSealed_ok | with_reducible apply happen_ok
    | with_reducible apply OkO.next | with_reducible apply OkO.fault | with_reducible apply OkW.st | (intro _ _ _) | (intro _)
    | split | with_reducible apply Ok.record | dsimp only

end Sys2Proof.Machine
end

