-- ==== Sys2Proof/Laws/KeepThermal.lean ====
section
/-!
SUPPORT. What every operation of Machine/Thermal.lean keeps (see KeepOps.lean).
-/
namespace Sys2Proof.Machine

theorem writeThmCtrl_ok {b0 : State} (s : State) (v : Word) (h_s : Ok b0 s) : OkW b0 (writeThmCtrl s v) := by
  unfold writeThmCtrl
  try dsimp only
  repeat' first
    | with_reducible assumption | with_reducible apply demandSweep_ok | with_reducible apply taken_ok
    | with_reducible apply ite_ok | with_reducible apply ite1_ok | with_reducible apply ite_okW | with_reducible apply OkW.st
    | with_reducible apply OkW.mk | split | dsimp only

theorem scheduledSweep_ok {b0 : State} (s : State) (h_s : Ok b0 s) : Ok b0 (scheduledSweep s) := by
  unfold scheduledSweep
  try dsimp only
  repeat' first
    | with_reducible assumption | with_reducible apply demandSweep_ok | with_reducible apply State_bump_ok
    | with_reducible apply ite_ok | with_reducible apply ite1_ok | with_reducible apply ite_okW | with_reducible apply OkW.st
    | split | with_reducible apply Ok.record | dsimp only

theorem execScheduledSweep_ok {b0 : State} (s : State) (h_s : Ok b0 s) : OkO b0 (execScheduledSweep s) := by
  unfold execScheduledSweep
  try dsimp only
  repeat' first
    | with_reducible assumption | with_reducible apply scheduledSweep_ok | with_reducible apply happen_ok
    | with_reducible apply OkO.next | with_reducible apply OkO.fault | with_reducible apply OkW.st | dsimp only

theorem sweepBackstop_ok {b0 : State} (s : State) (h_s : Ok b0 s) : Ok b0 (sweepBackstop s) := by
  unfold sweepBackstop
  try dsimp only
  repeat' first
    | with_reducible assumption | with_reducible apply demandSweep_ok | with_reducible apply State_bump_ok
    | with_reducible apply ite_ok | with_reducible apply ite1_ok | with_reducible apply ite_okW | with_reducible apply OkW.st
    | split | with_reducible apply Ok.record | dsimp only

theorem execSweepBackstop_ok {b0 : State} (s : State) (h_s : Ok b0 s) : OkO b0 (execSweepBackstop s) := by
  unfold execSweepBackstop
  try dsimp only
  repeat' first
    | with_reducible assumption | with_reducible apply sweepBackstop_ok | with_reducible apply happen_ok
    | with_reducible apply OkO.next | with_reducible apply OkO.fault | with_reducible apply OkW.st | dsimp only

theorem setLevel_ok {b0 : State} (s : State) (h_s : Ok b0 s) : Ok b0 (setLevel s) := by
  unfold setLevel
  try dsimp only
  repeat' first
    | with_reducible assumption | with_reducible apply settlePeff_ok | with_reducible apply State_put_ok
    | with_reducible apply State_event_ok | with_reducible apply ite_ok | with_reducible apply ite1_ok
    | with_reducible apply ite_okW | with_reducible apply OkW.st | split | with_reducible apply Ok.record | dsimp only

theorem writeFloor_ok {b0 : State} (s : State) (v : Word) (h_s : Ok b0 s) : OkW b0 (writeFloor s v) := by
  unfold writeFloor
  try dsimp only
  repeat' first
    | with_reducible assumption | with_reducible apply State_wr_ok | with_reducible apply taken_ok
    | with_reducible apply setLevel_ok | with_reducible apply OkW.st | with_reducible apply OkW.mk | dsimp only

theorem throttleReaches7_ok {b0 : State} (s : State) (h_s : Ok b0 s) : Ok b0 (throttleReaches7 s) := by
  unfold throttleReaches7
  try dsimp only
  repeat' first
    | with_reducible assumption | with_reducible apply State_put_ok | with_reducible apply State_enter_ok
    | with_reducible apply OkW.st | exact Ok.away ‹State.mode _ = _› (by assumption) (by decide)
    | exact Ok.away (And.left ‹State.mode _ = _ ∧ _›) (by assumption) (by decide) | (intro _ _ _) | (intro _) | split
    | with_reducible apply Ok.record | dsimp only

theorem execThrottleReaches7_ok {b0 : State} (s : State) (h_s : Ok b0 s) : OkO b0 (execThrottleReaches7 s) := by
  unfold execThrottleReaches7
  try dsimp only
  repeat' first
    | with_reducible assumption | with_reducible apply throttleReaches7_ok | with_reducible apply happen_ok
    | with_reducible apply OkO.next | with_reducible apply OkO.fault | with_reducible apply OkW.st | dsimp only

theorem throttleFallsBelow7_ok {b0 : State} (s : State) (h_s : Ok b0 s) : Ok b0 (throttleFallsBelow7 s) := by
  unfold throttleFallsBelow7
  try dsimp only
  repeat' first
    | with_reducible assumption | with_reducible apply State_put_ok | with_reducible apply leaveHold_ok
    | with_reducible apply OkW.st | with_reducible apply Ok.record | dsimp only

theorem execThrottleFallsBelow7_ok {b0 : State} (s : State) (h_s : Ok b0 s) : OkO b0 (execThrottleFallsBelow7 s) := by
  unfold execThrottleFallsBelow7
  try dsimp only
  repeat' first
    | with_reducible assumption | with_reducible apply throttleFallsBelow7_ok | with_reducible apply happen_ok
    | with_reducible apply OkO.next | with_reducible apply OkO.fault | with_reducible apply OkW.st | dsimp only

theorem showTrip_ok {b0 : State} (s : State) (w : BitVec 512) (h_s : Ok b0 s) : Ok b0 (showTrip s w) := by
  unfold showTrip
  try dsimp only
  repeat' first
    | with_reducible assumption | with_reducible apply State_wr_ok | with_reducible apply foldl_ok
    | with_reducible apply foldl1_ok | with_reducible apply OkW.st | (intro _ _ _) | (intro _) | dsimp only

theorem declineQueue_ok {b0 : State} (s : State) (sq : Nat) (h_s : Ok b0 s) : Ok b0 (declineQueue s sq) := by
  unfold declineQueue
  try dsimp only
  repeat' first
    | with_reducible assumption | with_reducible apply lapse_ok | with_reducible apply decline_ok
    | with_reducible apply foldl_ok | with_reducible apply foldl1_ok | with_reducible apply OkW.st | (intro _ _ _) | (intro _)
    | dsimp only

theorem tripWork_ok {b0 : State} (s : State) (w : Work) (h_s : Ok b0 s) : Ok b0 (tripWork s w) := by
  unfold tripWork
  try dsimp only
  repeat' first
    | with_reducible assumption | with_reducible apply abandonWork_ok | with_reducible apply finalEntry_ok
    | with_reducible apply State_dropWork_ok | with_reducible apply ite_ok | with_reducible apply ite1_ok
    | with_reducible apply ite_okW | with_reducible apply OkW.st | split | dsimp only

theorem tripShots_ok {b0 : State} (s : State) (h_s : Ok b0 s) : Ok b0 (tripShots s) := by
  unfold tripShots
  try dsimp only
  repeat' first
    | with_reducible assumption | with_reducible apply State_shotFlag_ok | with_reducible apply State_shotStatus_ok
    | with_reducible apply abortAll_ok | with_reducible apply foldl_ok | with_reducible apply foldl1_ok
    | with_reducible apply OkW.st | (intro _ _ _) | (intro _) | with_reducible apply Ok.record | dsimp only

theorem tripClock_ok {b0 : State} (s : State) (h_s : Ok b0 s) : Ok b0 (tripClock s) := by
  unfold tripClock
  try dsimp only
  repeat' first
    | with_reducible assumption | with_reducible apply endWindow_ok | with_reducible apply declineQueue_ok
    | with_reducible apply tripWork_ok | with_reducible apply tripShots_ok | with_reducible apply foldl_ok
    | with_reducible apply foldl1_ok | with_reducible apply OkW.st | (intro _ _ _) | (intro _) | with_reducible apply Ok.record
    | dsimp only

theorem tripUnits_ok {b0 : State} (s : State) (h_s : Ok b0 s) : Ok b0 (tripUnits s) := by
  unfold tripUnits
  try dsimp only
  repeat' first
    | with_reducible assumption | with_reducible apply refreshPorts_ok | with_reducible apply clearFluxNow_ok
    | with_reducible apply snsTrip_ok | with_reducible apply htrStop_ok | with_reducible apply idleTdcs_ok
    | with_reducible apply OkW.st | dsimp only

theorem noteTrip_ok {b0 : State} (s : State) (h_s : Ok b0 s) : Ok b0 (noteTrip s) := by
  unfold noteTrip
  try dsimp only
  repeat' first
    | with_reducible assumption | with_reducible apply OkW.st | with_reducible apply Ok.record | dsimp only

theorem trip_ok {b0 : State} (s : State) (code : Nat) (h_s : Ok b0 s) : Ok b0 (trip s code) := by
  unfold trip
  extract_lets w s1
  have h1 : Ok b0 s1 := State_enter_any _ _ _ (tripClock_ok _ (dropTransition_ok _ (dropRoutine_ok _ h_s))) fun _ => rfl
  exact tripUnits_ok _ (noteTrip_ok _ (showTrip_ok _ _ h1))

theorem tripLogAppend_ok {b0 : State} (s : State) (h_s : Ok b0 s) : Ok b0 (tripLogAppend s) := by
  unfold tripLogAppend
  try dsimp only
  repeat' first
    | with_reducible assumption | with_reducible apply ite_ok | with_reducible apply ite1_ok | with_reducible apply ite_okW
    | with_reducible apply OkW.st | split | with_reducible apply Ok.record | dsimp only

theorem execTripLogAppend_ok {b0 : State} (s : State) (h_s : Ok b0 s) : OkO b0 (execTripLogAppend s) := by
  unfold execTripLogAppend
  try dsimp only
  repeat' first
    | with_reducible assumption | with_reducible apply tripLogAppend_ok | with_reducible apply happen_ok
    | with_reducible apply OkO.next | with_reducible apply OkO.fault | with_reducible apply OkW.st | dsimp only

theorem execDmaStop_ok {b0 : State} (s : State) (h_s : Ok b0 s) : OkO b0 (execDmaStop s) := by
  unfold execDmaStop
  try dsimp only
  repeat' first
    | with_reducible assumption | with_reducible apply happen_ok | with_reducible apply OkO.next
    | with_reducible apply OkO.fault | with_reducible apply OkW.st | (intro _ _ _) | (intro _) | split
    | with_reducible apply Ok.record | dsimp only

theorem storeTemp_ok {b0 : State} (temps : List (Option Int)) (s : State) (code : Nat) (h_s : Ok b0 s) : Ok b0 (storeTemp temps s code) := by
  unfold storeTemp
  try dsimp only
  repeat' first
    | with_reducible assumption | with_reducible apply State_put_ok | with_reducible apply OkW.st | (intro _ _ _) | (intro _)
    | split | with_reducible apply Ok.record | dsimp only

theorem sweepLevel_ok {b0 : State} (s : State) (h_s : Ok b0 s) : Ok b0 (sweepLevel s) := by
  unfold sweepLevel
  try dsimp only
  repeat' first
    | with_reducible assumption | with_reducible apply State_put_ok | with_reducible apply setLevel_ok
    | with_reducible apply OkW.st | (intro _ _ _) | (intro _) | split | with_reducible apply Ok.record | dsimp only

theorem staleCheck_ok {b0 : State} (s : State) (h_s : Ok b0 s) : Ok b0 (staleCheck s) := by
  unfold staleCheck
  try dsimp only
  repeat' first
    | with_reducible assumption | with_reducible apply State_staleAll_ok | with_reducible apply State_put_ok
    | with_reducible apply foldl_ok | with_reducible apply ite_ok | with_reducible apply foldl1_ok
    | with_reducible apply ite1_ok | with_reducible apply ite_okW | with_reducible apply OkW.st | (intro _ _ _) | (intro _)
    | split | dsimp only

theorem openingSweep_ok {b0 : State} (s : State) (t0 : Nat) (h_s : Ok b0 s) : Ok b0 (openingSweep s t0) := by
  unfold openingSweep
  try dsimp only
  repeat' first
    | with_reducible assumption | with_reducible apply ite_ok | with_reducible apply ite1_ok | with_reducible apply ite_okW
    | with_reducible apply OkW.st | (intro _ _ _) | (intro _) | split | with_reducible apply Ok.record | dsimp only

theorem sweepEnd_ok {b0 : State} (s : State) (t0 : Nat) (temps : List (Option Int)) (h_s : Ok b0 s) : Ok b0 (sweepEnd s t0 temps) := by
  unfold sweepEnd
  try dsimp only
  repeat' first
    | with_reducible assumption | with_reducible apply demandSweep_ok | with_reducible apply State_put_ok
    | with_reducible apply State_bumpWrap_ok | with_reducible apply State_put64_ok | with_reducible apply State_event_ok
    | with_reducible apply trip_ok | with_reducible apply storeTemp_ok | with_reducible apply sweepLevel_ok
    | with_reducible apply staleCheck_ok | with_reducible apply openingSweep_ok | with_reducible apply foldl_ok
    | with_reducible apply ite_ok | with_reducible apply foldl1_ok | with_reducible apply ite1_ok | with_reducible apply ite_okW
    | with_reducible apply OkW.st | (intro _ _ _) | (intro _) | split | with_reducible apply Ok.record | dsimp only

theorem execSweepEnd_ok {b0 : State} (temps : List (Option Int)) (s : State) (h_s : Ok b0 s) : OkO b0 (execSweepEnd temps s) := by
  unfold execSweepEnd
  try dsimp only
  repeat' first
    | with_reducible assumption | with_reducible apply sweepEnd_ok | with_reducible apply happen_ok
    | with_reducible apply OkO.next | with_reducible apply OkO.fault | with_reducible apply OkW.st | (intro _ _ _) | (intro _)
    | split | with_reducible apply Ok.record | dsimp only

theorem writeTrip_ok {b0 : State} (s : State) (v : Word) (h_s : Ok b0 s) : OkW b0 (writeTrip s v) := by
  unfold writeTrip
  try dsimp only
  repeat' first
    | with_reducible assumption | with_reducible apply State_wr_ok | with_reducible apply taken_ok
    | with_reducible apply refusedBy_ok | with_reducible apply ite_ok | with_reducible apply ite1_ok
    | with_reducible apply ite_okW | with_reducible apply OkW.st | with_reducible apply OkW.mk | split | dsimp only

theorem writeSched_ok {b0 : State} (s : State) (v : Word) (h_s : Ok b0 s) : OkW b0 (writeSched s v) := by
  unfold writeSched
  try dsimp only
  repeat' first
    | with_reducible assumption | with_reducible apply State_wr_ok | with_reducible apply taken_ok | with_reducible apply OkW.st
    | with_reducible apply OkW.mk | with_reducible apply Ok.record | dsimp only

theorem writeCeil_ok {b0 : State} (s : State) (v : Word) (h_s : Ok b0 s) : OkW b0 (writeCeil s v) := by
  unfold writeCeil
  try dsimp only
  repeat' first
    | with_reducible assumption | with_reducible apply settlePeff_ok | with_reducible apply State_wr_ok
    | with_reducible apply taken_ok | with_reducible apply OkW.st | with_reducible apply OkW.mk | dsimp only

theorem sendEqReqs_ok {b0 : State} (s : State) (p : Nat) (reqs : List (Nat × Nat × Nat)) (h_s : Ok b0 s) : Ok b0 (sendEqReqs s p reqs) := by
  unfold sendEqReqs
  try dsimp only
  repeat' first
    | with_reducible assumption | with_reducible apply State_queueMgmt_ok | with_reducible apply foldl_ok
    | with_reducible apply foldl1_ok | with_reducible apply OkW.st | (intro _ _ _) | (intro _) | dsimp only

theorem trainStart_ok {b0 : State} (s : State) (k p : Nat) (adapt : Bool) (reqs : List (Nat × Nat × Nat)) (h_s : Ok b0 s) : Ok b0 (trainStart s k p adapt reqs) := by
  unfold trainStart
  try dsimp only
  repeat' first
    | with_reducible assumption | with_reducible apply restartLane_ok | with_reducible apply sendEqReqs_ok
    | with_reducible apply foldl_ok | with_reducible apply ite_ok | with_reducible apply foldl1_ok
    | with_reducible apply ite1_ok | with_reducible apply ite_okW | with_reducible apply OkW.st | (intro _ _ _) | (intro _)
    | split | with_reducible apply Ok.record | dsimp only

theorem trainGoOn_ok {b0 : State} (s : State) (k wait t p : Nat) (adapt : Bool) (reqs : List (Nat × Nat × Nat)) (h_s : Ok b0 s) : Ok b0 (trainGoOn s k wait t p adapt reqs) := by
  unfold trainGoOn
  try dsimp only
  repeat' first
    | with_reducible assumption | with_reducible apply State_mbxReply_ok | with_reducible apply sendEqReqs_ok
    | with_reducible apply ite_ok | with_reducible apply ite1_ok | with_reducible apply ite_okW | with_reducible apply OkW.st
    | split | with_reducible apply Ok.record | dsimp only

theorem trainPort_ok {b0 : State} (s : State) (k wait : Nat) (reqs : List (Nat × Nat × Nat)) (h_s : Ok b0 s) : Ok b0 (trainPort s k wait reqs) := by
  unfold trainPort
  try dsimp only
  repeat' first
    | with_reducible assumption | with_reducible apply State_mbxReply_ok | with_reducible apply trainStart_ok
    | with_reducible apply trainGoOn_ok | with_reducible apply ite_ok | with_reducible apply ite1_ok
    | with_reducible apply ite_okW | with_reducible apply OkW.st | (intro _ _ _) | (intro _) | split
    | with_reducible apply Ok.record | dsimp only

theorem execTrainPort_ok {b0 : State} (k wait : Nat) (reqs : List (Nat × Nat × Nat)) (s : State) (h_s : Ok b0 s) : OkO b0 (execTrainPort k wait reqs s) := by
  unfold execTrainPort
  try dsimp only
  repeat' first
    | with_reducible assumption | with_reducible apply trainPort_ok | with_reducible apply happen_ok
    | with_reducible apply OkO.next | with_reducible apply OkO.fault | with_reducible apply OkW.st | dsimp only

theorem execEyeScan_ok {b0 : State} (k wait h v : Nat) (s : State) (h_s : Ok b0 s) : OkO b0 (execEyeScan k wait h v s) := by
  unfold execEyeScan
  try dsimp only
  repeat' first
    | with_reducible assumption | with_reducible apply servedOk_ok | with_reducible apply servedBad_ok
    | with_reducible apply serve_ok | with_reducible apply ite_ok | with_reducible apply ite_okO | with_reducible apply ite1_ok
    | with_reducible apply ite_okW | with_reducible apply OkO.next | with_reducible apply OkO.fault
    | with_reducible apply OkW.st | (intro _ _ _) | (intro _) | split | dsimp only

theorem execResetPort_ok {b0 : State} (k wait : Nat) (s : State) (h_s : Ok b0 s) : OkO b0 (execResetPort k wait s) := by
  unfold execResetPort
  try dsimp only
  repeat' first
    | with_reducible assumption | with_reducible apply resetPort_ok | with_reducible apply servedOk_ok
    | with_reducible apply servedBad_ok | with_reducible apply serve_ok | with_reducible apply ite_ok
    | with_reducible apply ite_okO | with_reducible apply ite1_ok | with_reducible apply ite_okW | with_reducible apply OkO.next
    | with_reducible apply OkO.fault | with_reducible apply OkW.st | (intro _ _ _) | (intro _) | split | dsimp only

end Sys2Proof.Machine
end

