-- ==== Sys2Proof/Laws/KeepBar0.lean ====
section
/-!
SUPPORT. What every operation of Machine/Bar0.lean keeps (see KeepOps.lean).
-/
namespace Sys2Proof.Machine

theorem State_setReadShadow_ok {b0 : State} (s : State) (rid : Nat) (x : Option Shadow) (h_s : Ok b0 s) : Ok b0 (State.setReadShadow s rid x) := by
  unfold State.setReadShadow
  try dsimp only
  repeat' first
    | with_reducible assumption | with_reducible apply OkW.st | with_reducible apply Ok.record | dsimp only

theorem State_setWriteShadow_ok {b0 : State} (s : State) (rid : Nat) (x : Option Shadow) (h_s : Ok b0 s) : Ok b0 (State.setWriteShadow s rid x) := by
  unfold State.setWriteShadow
  try dsimp only
  repeat' first
    | with_reducible assumption | with_reducible apply OkW.st | with_reducible apply Ok.record | dsimp only

theorem hostRead_ok {b0 : State} (s : State) (rid addr : Nat) (h_s : Ok b0 s) : Ok b0 (hostRead s rid addr).1 := by
  unfold hostRead
  try dsimp only
  repeat' first
    | with_reducible assumption | with_reducible apply State_setReadShadow_ok | with_reducible apply ite_ok
    | with_reducible apply ite1_ok | with_reducible apply ite_okW | with_reducible apply OkW.st | with_reducible apply OkW.mk
    | (intro _ _ _) | (intro _) | split | with_reducible apply Ok.record | dsimp only

theorem writeClkCtrl_ok {b0 : State} (s : State) (v : Word) (h_s : Ok b0 s) : OkW b0 (writeClkCtrl s v) := by
  unfold writeClkCtrl
  try dsimp only
  repeat' first
    | with_reducible assumption | with_reducible apply State_wr_ok | with_reducible apply State_put_ok
    | with_reducible apply State_put64_ok | with_reducible apply taken_ok | with_reducible apply refusedBy_ok
    | with_reducible apply foldl_ok | with_reducible apply ite_ok | with_reducible apply foldl1_ok
    | with_reducible apply ite1_ok | with_reducible apply ite_okW | with_reducible apply OkW.st | with_reducible apply OkW.mk
    | (intro _ _ _) | (intro _) | split | dsimp only

theorem writeAccErr_ok {b0 : State} (s : State) (v : Word) (h_s : Ok b0 s) : OkW b0 (writeAccErr s v) := by
  unfold writeAccErr
  try dsimp only
  repeat' first
    | with_reducible assumption | with_reducible apply State_put_ok | with_reducible apply taken_ok
    | with_reducible apply ite_ok | with_reducible apply ite1_ok | with_reducible apply ite_okW | with_reducible apply OkW.st
    | with_reducible apply OkW.mk | split | dsimp only

theorem ifClr_ok {b0 : State} (s : State) (v : Word) (f : State → State) (h_s : Ok b0 s) (h_f : ∀ x0, Ok b0 x0 → Ok b0 (f x0)) : OkW b0 (ifClr s v f) := by
  unfold ifClr
  try dsimp only
  repeat' first
    | with_reducible assumption | with_reducible apply h_f | with_reducible apply taken_ok | with_reducible apply ite_ok
    | with_reducible apply ite1_ok | with_reducible apply ite_okW | with_reducible apply OkW.st | with_reducible apply OkW.mk
    | split | dsimp only

theorem writeBoard_ok {b0 : State} (s : State) (rid : Nat) (row : RegRow) (i addr : Nat) (v : Word) (h_s : Ok b0 s) : OkW b0 (writeBoard s rid row i addr v) := by
  unfold writeBoard
  try dsimp only
  repeat' first
    | with_reducible assumption | with_reducible apply writeClkCtrl_ok | with_reducible apply writeAccErr_ok
    | with_reducible apply ifClr_ok | with_reducible apply writeCalReg_ok | with_reducible apply writeVref_ok
    | with_reducible apply writePortCfg_ok | with_reducible apply writeTxeq_ok | with_reducible apply clearDldStats_ok
    | with_reducible apply writeMemCtrl_ok | with_reducible apply writeInject_ok | with_reducible apply requestCode_ok
    | with_reducible apply writeMonCtrl_ok | with_reducible apply writeMonUrg_ok | with_reducible apply taken_ok
    | with_reducible apply refusedBy_ok | with_reducible apply typedWrite_ok | with_reducible apply writeSqCfg_ok
    | with_reducible apply writeCqCfg_ok | with_reducible apply writeRingPlain_ok | with_reducible apply writeMsixCtrl_ok
    | with_reducible apply writeEvtEn_ok | with_reducible apply writeSnsCfg_ok | with_reducible apply clearSnsStats_ok
    | with_reducible apply writeHtrCtrl_ok | with_reducible apply writeHtrVal_ok | with_reducible apply writeHtrLoop_ok
    | with_reducible apply writeTdcCfg_ok | with_reducible apply writeTdcWin_ok | with_reducible apply writeTdcCtrl_ok
    | with_reducible apply clearTdcStats_ok | with_reducible apply writeThmCtrl_ok | with_reducible apply writeFloor_ok
    | with_reducible apply writeTrip_ok | with_reducible apply writeSched_ok | with_reducible apply writeCeil_ok
    | with_reducible apply writeAlarmCtrl_ok | with_reducible apply writeEpoTrim_ok | with_reducible apply writeAngleCfg_ok
    | with_reducible apply writeAngleLim_ok | with_reducible apply writeAngleWindow_ok | with_reducible apply calendarRate_ok
    | with_reducible apply writeCalCtrl_ok | with_reducible apply writeSnapCtrl_ok | with_reducible apply writeRoute_ok
    | with_reducible apply writeSource_ok | with_reducible apply clearVrdStats_ok | with_reducible apply writeMshCtrl_ok
    | with_reducible apply ite_ok | with_reducible apply ite1_ok | with_reducible apply ite_okW | with_reducible apply OkW.st
    | with_reducible apply OkW.mk | split | with_reducible apply Ok.record | dsimp only

theorem clearStrmStats_ok {b0 : State} (s : State) (r : Nat) (h_s : Ok b0 s) : Ok b0 (clearStrmStats s r) := by
  unfold clearStrmStats
  try dsimp only
  repeat' first
    | with_reducible assumption | with_reducible apply State_wr_ok | with_reducible apply OkW.st | dsimp only

theorem writeRank_ok {b0 : State} (s : State) (r : Nat) (row : RegRow) (i addr : Nat) (v : Word) (h_s : Ok b0 s) : OkW b0 (writeRank s r row i addr v) := by
  unfold writeRank
  try dsimp only
  repeat' first
    | with_reducible assumption | with_reducible apply ifClr_ok | with_reducible apply clearStrmStats_ok
    | with_reducible apply writeLineCtrl_ok | with_reducible apply writeMrkCtrl_ok | with_reducible apply writeInterp_ok
    | with_reducible apply clearSynStats_ok | with_reducible apply writeFluxCtrl_ok | with_reducible apply writeFluxVal_ok
    | with_reducible apply writePredistortion_ok | with_reducible apply writeFluxLimit_ok
    | with_reducible apply clearFfxStats_ok | with_reducible apply clearBiaStats_ok | with_reducible apply writeSeCfg_ok
    | with_reducible apply clearSeStats_ok | with_reducible apply typedWrite_ok | with_reducible apply writeSkew_ok
    | with_reducible apply writeSetReg_ok | with_reducible apply writeWindowCfg_ok | with_reducible apply clearAcqStats_ok
    | with_reducible apply writeFilt_ok | with_reducible apply writeGain_ok | with_reducible apply clearDmdStats_ok
    | with_reducible apply ite_ok | with_reducible apply ite1_ok | with_reducible apply ite_okW | with_reducible apply OkW.st
    | with_reducible apply OkW.mk | (intro _ _ _) | (intro _) | split | dsimp only

theorem commitPair_ok {b0 : State} (s : State) (row : RegRow) (i lo : Nat) (low high : Word) (h_s : Ok b0 s) : OkW b0 (commitPair s row i lo low high) := by
  unfold commitPair
  refine ite_okW (taken_ok _ (calendarStep_ok _ _ h_s)) (ite_okW ?_ (ite_okW ?_ (ite_okW ?_ (ite_okW ?_ ?_))))
  · exact ite_okW (refusedBy_ok _ _ h_s) (taken_ok _ (State_wr_ok _ _ _ (State_wr_ok _ _ _ h_s)))
  · exact ite_okW (refusedBy_ok _ _ h_s) (taken_ok _ (State_wr_ok _ _ _ (State_wr_ok _ _ _ h_s)))
  · exact ite_okW (refusedBy_ok _ _ h_s) (taken_ok _ (State_wr_ok _ _ _ (State_wr_ok _ _ _ h_s)))
  · cases rankOf? lo with
    | none => exact taken_ok _ h_s
    | some x => exact writeSlot_ok _ _ _ _ _ h_s
  · cases regRow? (lo + 4) with
    | none => exact taken_ok _ (typedWrite_ok _ _ _ _ h_s)
    | some x => exact taken_ok _ (typedWrite_ok _ _ _ _ (typedWrite_ok _ _ _ _ h_s))

theorem commitAt_ok {b0 : State} (s : State) (lo : Nat) (low high : Word) (h_s : Ok b0 s) : OkW b0 (commitAt s lo low high) := by
  unfold commitAt
  cases regRow? lo with
  | none => exact taken_ok _ h_s
  | some x => exact ite_okW (commitPair_ok _ _ _ _ _ _ h_s) (taken_ok _ h_s)

theorem writeTaken_ok {b0 : State} (s : State) (rid addr : Nat) (low : Word) (v : Word) (h_s : Ok b0 s) : OkW b0 (writeTaken s rid addr low v) := by
  unfold writeTaken
  cases regRow? addr with
  | none => exact taken_ok _ h_s
  | some x =>
    cases pairLow? addr with
    | some lo => exact commitAt_ok _ _ _ _ h_s
    | none =>
      cases rankOf? addr with
      | none => exact writeBoard_ok _ _ _ _ _ _ h_s
      | some y => exact writeRank_ok _ _ _ _ _ _ h_s

theorem writeGated_ok {b0 : State} (s : State) (rid addr : Nat) (low v : Word) (h_s : Ok b0 s) : OkW b0 (writeGated s rid addr low v) := by
  unfold writeGated
  try dsimp only
  repeat' first
    | with_reducible assumption | with_reducible apply writeTaken_ok | with_reducible apply taken_ok
    | with_reducible apply refusedBy_ok | with_reducible apply ite_ok | with_reducible apply ite1_ok
    | with_reducible apply ite_okW | with_reducible apply OkW.st | with_reducible apply OkW.mk | split | dsimp only

theorem State_emptyShadow_ok {b0 : State} (s : State) (rid lo : Nat) (h_s : Ok b0 s) : Ok b0 (State.emptyShadow s rid lo) := by
  unfold State.emptyShadow
  try dsimp only
  repeat' first
    | with_reducible assumption | with_reducible apply OkW.st | with_reducible apply Ok.record | dsimp only

theorem writeHalf_ok {b0 : State} (s : State) (rid addr : Nat) (v : Word) (h_s : Ok b0 s) : OkW b0 (writeHalf s rid addr v).1 := by
  unfold writeHalf
  cases pairLow? addr with
  | none => exact writeGated_ok _ _ _ _ _ h_s
  | some lo =>
    cases regRow? addr with
    | none => exact writeGated_ok _ _ _ _ _ h_s
    | some x =>
      dsimp only
      by_cases h1 : pairWritable x.1 = true
      · rw [if_neg (by simp [h1])]
        by_cases h2 : addr = lo
        · rw [if_pos h2]; exact taken_ok _ (State_setWriteShadow_ok _ _ _ h_s)
        · rw [if_neg h2]; exact writeGated_ok _ _ _ _ _ (State_emptyShadow_ok _ _ _ h_s)
      · rw [if_pos (by simp [h1])]; exact writeGated_ok _ _ _ _ _ h_s

theorem hostWrite_ok {b0 : State} (s : State) (rid addr : Nat) (v : Word) (h_s : Ok b0 s) : Ok b0 (hostWrite s rid addr v) := by
  unfold hostWrite
  try dsimp only
  repeat' first
    | with_reducible assumption | with_reducible apply writeHalf_ok | with_reducible apply WriteOut_finish_ok
    | with_reducible apply OkW.st | dsimp only

theorem hostWrite8_ok {b0 : State} (s : State) (rid addr : Nat) (v : BitVec 64) (h_s : Ok b0 s) : Ok b0 (hostWrite8 s rid addr v) := by
  unfold hostWrite8
  try dsimp only
  repeat' first
    | with_reducible assumption | with_reducible apply writeHalf_ok | with_reducible apply State_accessError_ok
    | with_reducible apply OkW.st | (intro _ _ _) | (intro _) | split | with_reducible apply Ok.record | dsimp only

theorem hostRead8_ok {b0 : State} (s : State) (rid addr : Nat) (h_s : Ok b0 s) : Ok b0 (hostRead8 s rid addr) := by
  unfold hostRead8
  try dsimp only
  repeat' first
    | with_reducible assumption | with_reducible apply hostRead_ok | with_reducible apply OkW.st
    | with_reducible apply Ok.record | dsimp only

theorem hostRead4_ok {b0 : State} (s : State) (rid addr : Nat) (h_s : Ok b0 s) : Ok b0 (hostRead4 s rid addr) := by
  unfold hostRead4
  try dsimp only
  repeat' first
    | with_reducible assumption | with_reducible apply hostRead_ok | with_reducible apply OkW.st
    | with_reducible apply Ok.record | dsimp only

theorem badWidth_ok {b0 : State} (s : State) (rid addr : Nat) (write : Bool) (h_s : Ok b0 s) : Ok b0 (badWidth s rid addr write) := by
  unfold badWidth
  try dsimp only
  repeat' first
    | with_reducible assumption | with_reducible apply State_accessError_ok | with_reducible apply ite_ok
    | with_reducible apply ite1_ok | with_reducible apply ite_okW | with_reducible apply OkW.st | split
    | with_reducible apply Ok.record | dsimp only

theorem inBar0_ok {b0 : State} (addr : Nat) (t : State) (h_t : Ok b0 t) : OkO b0 (inBar0 addr t) := by
  unfold inBar0
  try dsimp only
  repeat' first
    | with_reducible assumption | with_reducible apply ite_ok | with_reducible apply ite_okO | with_reducible apply ite1_ok
    | with_reducible apply ite_okW | with_reducible apply OkO.next | with_reducible apply OkO.fault
    | with_reducible apply OkW.st | split | dsimp only

theorem execRegisterWrite_ok {b0 : State} (rid addr : Nat) (value : BitVec 32) (s : State) (h_s : Ok b0 s) : OkO b0 (execRegisterWrite rid addr value s) := by
  unfold execRegisterWrite
  try dsimp only
  repeat' first
    | with_reducible assumption | with_reducible apply hostWrite_ok | with_reducible apply badWidth_ok
    | with_reducible apply inBar0_ok | with_reducible apply ite_ok | with_reducible apply ite_okO | with_reducible apply ite1_ok
    | with_reducible apply ite_okW | with_reducible apply OkO.next | with_reducible apply OkO.fault
    | with_reducible apply OkW.st | split | dsimp only

theorem execBar08ByteAccess_ok {b0 : State} (rid addr : Nat) (write : Bool) (value : BitVec 64) (s : State) (h_s : Ok b0 s) : OkO b0 (execBar08ByteAccess rid addr write value s) := by
  unfold execBar08ByteAccess
  try dsimp only
  repeat' first
    | with_reducible assumption | with_reducible apply hostWrite8_ok | with_reducible apply hostRead8_ok
    | with_reducible apply badWidth_ok | with_reducible apply inBar0_ok | with_reducible apply ite_ok
    | with_reducible apply ite_okO | with_reducible apply ite1_ok | with_reducible apply ite_okW | with_reducible apply OkO.next
    | with_reducible apply OkO.fault | with_reducible apply OkW.st | split | dsimp only

theorem execBar0BadWidthAccess_ok {b0 : State} (rid addr : Nat) (write : Bool) (s : State) (h_s : Ok b0 s) : OkO b0 (execBar0BadWidthAccess rid addr write s) := by
  unfold execBar0BadWidthAccess
  try dsimp only
  repeat' first
    | with_reducible assumption | with_reducible apply badWidth_ok | with_reducible apply inBar0_ok
    | with_reducible apply OkO.next | with_reducible apply OkO.fault | with_reducible apply OkW.st | dsimp only

theorem execPairLowRead_ok {b0 : State} (rid addr : Nat) (s : State) (h_s : Ok b0 s) : OkO b0 (execPairLowRead rid addr s) := by
  unfold execPairLowRead
  try dsimp only
  repeat' first
    | with_reducible assumption | with_reducible apply hostRead4_ok | with_reducible apply badWidth_ok
    | with_reducible apply inBar0_ok | with_reducible apply ite_ok | with_reducible apply ite_okO | with_reducible apply ite1_ok
    | with_reducible apply ite_okW | with_reducible apply OkO.next | with_reducible apply OkO.fault
    | with_reducible apply OkW.st | split | dsimp only

theorem execPairHighRead_ok {b0 : State} (rid addr : Nat) (s : State) (h_s : Ok b0 s) : OkO b0 (execPairHighRead rid addr s) := by
  unfold execPairHighRead
  try dsimp only
  repeat' first
    | with_reducible assumption | with_reducible apply hostRead4_ok | with_reducible apply badWidth_ok
    | with_reducible apply inBar0_ok | with_reducible apply ite_ok | with_reducible apply ite_okO | with_reducible apply ite1_ok
    | with_reducible apply ite_okW | with_reducible apply OkO.next | with_reducible apply OkO.fault
    | with_reducible apply OkW.st | split | dsimp only

theorem execPairLowWrite_ok {b0 : State} (rid addr : Nat) (value : BitVec 32) (s : State) (h_s : Ok b0 s) : OkO b0 (execPairLowWrite rid addr value s) := by
  unfold execPairLowWrite
  try dsimp only
  repeat' first
    | with_reducible assumption | with_reducible apply hostWrite_ok | with_reducible apply badWidth_ok
    | with_reducible apply inBar0_ok | with_reducible apply ite_ok | with_reducible apply ite_okO | with_reducible apply ite1_ok
    | with_reducible apply ite_okW | with_reducible apply OkO.next | with_reducible apply OkO.fault
    | with_reducible apply OkW.st | split | dsimp only

theorem execPairHighWrite_ok {b0 : State} (rid addr : Nat) (value : BitVec 32) (s : State) (h_s : Ok b0 s) : OkO b0 (execPairHighWrite rid addr value s) := by
  unfold execPairHighWrite
  try dsimp only
  repeat' first
    | with_reducible assumption | with_reducible apply hostWrite_ok | with_reducible apply badWidth_ok
    | with_reducible apply inBar0_ok | with_reducible apply ite_ok | with_reducible apply ite_okO | with_reducible apply ite1_ok
    | with_reducible apply ite_okW | with_reducible apply OkO.next | with_reducible apply OkO.fault
    | with_reducible apply OkW.st | split | dsimp only

theorem execEpoTrimWrite_ok {b0 : State} (rid : Nat) (value : BitVec 32) (s : State) (h_s : Ok b0 s) : OkO b0 (execEpoTrimWrite rid value s) := by
  unfold execEpoTrimWrite
  try dsimp only
  repeat' first
    | with_reducible assumption | with_reducible apply hostWrite_ok | with_reducible apply OkO.next
    | with_reducible apply OkO.fault | with_reducible apply OkW.st | dsimp only

theorem execAlarmEnable_ok {b0 : State} (rid n : Nat) (value : BitVec 32) (s : State) (h_s : Ok b0 s) : OkO b0 (execAlarmEnable rid n value s) := by
  unfold execAlarmEnable
  try dsimp only
  repeat' first
    | with_reducible assumption | with_reducible apply hostWrite_ok | with_reducible apply happen_ok
    | with_reducible apply OkO.next | with_reducible apply OkO.fault | with_reducible apply OkW.st | dsimp only

theorem execBrdEvtEnWrite_ok {b0 : State} (rid : Nat) (value : BitVec 32) (s : State) (h_s : Ok b0 s) : OkO b0 (execBrdEvtEnWrite rid value s) := by
  unfold execBrdEvtEnWrite
  try dsimp only
  repeat' first
    | with_reducible assumption | with_reducible apply hostWrite_ok | with_reducible apply OkO.next
    | with_reducible apply OkO.fault | with_reducible apply OkW.st | dsimp only

theorem execAngleCfgWrite_ok {b0 : State} (rid : Nat) (enc : Bool) (value : BitVec 32) (s : State) (h_s : Ok b0 s) : OkO b0 (execAngleCfgWrite rid enc value s) := by
  unfold execAngleCfgWrite
  try dsimp only
  repeat' first
    | with_reducible assumption | with_reducible apply hostWrite_ok | with_reducible apply ite_ok | with_reducible apply ite_okO
    | with_reducible apply ite1_ok | with_reducible apply ite_okW | with_reducible apply OkO.next
    | with_reducible apply OkO.fault | with_reducible apply OkW.st | split | dsimp only

theorem execEpoCalStep_ok {b0 : State} (rid : Nat) (high : BitVec 32) (s : State) (h_s : Ok b0 s) : OkO b0 (execEpoCalStep rid high s) := by
  unfold execEpoCalStep
  try dsimp only
  repeat' first
    | with_reducible assumption | with_reducible apply hostWrite_ok | with_reducible apply OkO.next
    | with_reducible apply OkO.fault | with_reducible apply OkW.st | dsimp only

theorem execEpoCalRateAdj_ok {b0 : State} (rid : Nat) (value : BitVec 32) (s : State) (h_s : Ok b0 s) : OkO b0 (execEpoCalRateAdj rid value s) := by
  unfold execEpoCalRateAdj
  try dsimp only
  repeat' first
    | with_reducible assumption | with_reducible apply hostWrite_ok | with_reducible apply OkO.next
    | with_reducible apply OkO.fault | with_reducible apply OkW.st | dsimp only

theorem execSnapshotGo_ok {b0 : State} (rid : Nat) (value : BitVec 32) (s : State) (h_s : Ok b0 s) : OkO b0 (execSnapshotGo rid value s) := by
  unfold execSnapshotGo
  try dsimp only
  repeat' first
    | with_reducible assumption | with_reducible apply hostWrite_ok | with_reducible apply OkO.next
    | with_reducible apply OkO.fault | with_reducible apply OkW.st | dsimp only

theorem execSqEnable_ok {b0 : State} (rid n : Nat) (value : BitVec 32) (s : State) (h_s : Ok b0 s) : OkO b0 (execSqEnable rid n value s) := by
  unfold execSqEnable
  try dsimp only
  repeat' first
    | with_reducible assumption | with_reducible apply hostWrite_ok | with_reducible apply happen_ok
    | with_reducible apply OkO.next | with_reducible apply OkO.fault | with_reducible apply OkW.st | dsimp only

theorem execSqDisable_ok {b0 : State} (rid n : Nat) (s : State) (h_s : Ok b0 s) : OkO b0 (execSqDisable rid n s) := by
  unfold execSqDisable
  try dsimp only
  repeat' first
    | with_reducible assumption | with_reducible apply hostWrite_ok | with_reducible apply happen_ok
    | with_reducible apply OkO.next | with_reducible apply OkO.fault | with_reducible apply OkW.st | dsimp only

theorem execCqEnable_ok {b0 : State} (rid n : Nat) (value : BitVec 32) (s : State) (h_s : Ok b0 s) : OkO b0 (execCqEnable rid n value s) := by
  unfold execCqEnable
  try dsimp only
  repeat' first
    | with_reducible assumption | with_reducible apply hostWrite_ok | with_reducible apply happen_ok
    | with_reducible apply OkO.next | with_reducible apply OkO.fault | with_reducible apply OkW.st | dsimp only

theorem execCqDisable_ok {b0 : State} (rid n : Nat) (s : State) (h_s : Ok b0 s) : OkO b0 (execCqDisable rid n s) := by
  unfold execCqDisable
  try dsimp only
  repeat' first
    | with_reducible assumption | with_reducible apply hostWrite_ok | with_reducible apply happen_ok
    | with_reducible apply OkO.next | with_reducible apply OkO.fault | with_reducible apply OkW.st | dsimp only

theorem execRingCfgWrite_ok {b0 : State} (rid addr : Nat) (value : BitVec 32) (s : State) (h_s : Ok b0 s) : OkO b0 (execRingCfgWrite rid addr value s) := by
  unfold execRingCfgWrite
  try dsimp only
  repeat' first
    | with_reducible assumption | with_reducible apply hostWrite_ok | with_reducible apply happen_ok
    | with_reducible apply OkO.next | with_reducible apply OkO.fault | with_reducible apply OkW.st | dsimp only

theorem execMsixUnmask_ok {b0 : State} (rid v : Nat) (s : State) (h_s : Ok b0 s) : OkO b0 (execMsixUnmask rid v s) := by
  unfold execMsixUnmask
  try dsimp only
  repeat' first
    | with_reducible assumption | with_reducible apply hostWrite_ok | with_reducible apply happen_ok
    | with_reducible apply OkO.next | with_reducible apply OkO.fault | with_reducible apply OkW.st | dsimp only

theorem execClkStatsClr_ok {b0 : State} (rid : Nat) (value : BitVec 32) (s : State) (h_s : Ok b0 s) : OkO b0 (execClkStatsClr rid value s) := by
  unfold execClkStatsClr
  try dsimp only
  repeat' first
    | with_reducible assumption | with_reducible apply hostWrite_ok | with_reducible apply OkO.next
    | with_reducible apply OkO.fault | with_reducible apply OkW.st | dsimp only

theorem execSeStatsClr_ok {b0 : State} (rid r : Nat) (s : State) (h_s : Ok b0 s) : OkO b0 (execSeStatsClr rid r s) := by
  unfold execSeStatsClr
  try dsimp only
  repeat' first
    | with_reducible assumption | with_reducible apply hostWrite_ok | with_reducible apply happen_ok
    | with_reducible apply OkO.next | with_reducible apply OkO.fault | with_reducible apply OkW.st | dsimp only

theorem execRnkStrmClr_ok {b0 : State} (rid r : Nat) (s : State) (h_s : Ok b0 s) : OkO b0 (execRnkStrmClr rid r s) := by
  unfold execRnkStrmClr
  try dsimp only
  repeat' first
    | with_reducible assumption | with_reducible apply hostWrite_ok | with_reducible apply happen_ok
    | with_reducible apply OkO.next | with_reducible apply OkO.fault | with_reducible apply OkW.st | dsimp only

theorem execDrvCtrlWrite_ok {b0 : State} (rid r line : Nat) (value : BitVec 32) (s : State) (h_s : Ok b0 s) : OkO b0 (execDrvCtrlWrite rid r line value s) := by
  unfold execDrvCtrlWrite
  try dsimp only
  repeat' first
    | with_reducible assumption | with_reducible apply hostWrite_ok | with_reducible apply happen_ok
    | with_reducible apply OkO.next | with_reducible apply OkO.fault | with_reducible apply OkW.st | dsimp only

theorem execSynStatsClr_ok {b0 : State} (rid r : Nat) (s : State) (h_s : Ok b0 s) : OkO b0 (execSynStatsClr rid r s) := by
  unfold execSynStatsClr
  try dsimp only
  repeat' first
    | with_reducible assumption | with_reducible apply hostWrite_ok | with_reducible apply happen_ok
    | with_reducible apply OkO.next | with_reducible apply OkO.fault | with_reducible apply OkW.st | dsimp only

theorem execRangeChangeRequest_ok {b0 : State} (rid r : Nat) (bias : Bool) (k : Nat) (value : BitVec 32) (s : State) (h_s : Ok b0 s) : OkO b0 (execRangeChangeRequest rid r bias k value s) := by
  unfold execRangeChangeRequest
  try dsimp only
  repeat' first
    | with_reducible assumption | with_reducible apply hostWrite_ok | with_reducible apply happen_ok
    | with_reducible apply ite_ok | with_reducible apply ite_okO | with_reducible apply ite1_ok | with_reducible apply ite_okW
    | with_reducible apply OkO.next | with_reducible apply OkO.fault | with_reducible apply OkW.st | split | dsimp only

theorem execFfxStatsClr_ok {b0 : State} (rid r : Nat) (s : State) (h_s : Ok b0 s) : OkO b0 (execFfxStatsClr rid r s) := by
  unfold execFfxStatsClr
  try dsimp only
  repeat' first
    | with_reducible assumption | with_reducible apply hostWrite_ok | with_reducible apply happen_ok
    | with_reducible apply OkO.next | with_reducible apply OkO.fault | with_reducible apply OkW.st | dsimp only

theorem execBiaStatsClr_ok {b0 : State} (rid r : Nat) (s : State) (h_s : Ok b0 s) : OkO b0 (execBiaStatsClr rid r s) := by
  unfold execBiaStatsClr
  try dsimp only
  repeat' first
    | with_reducible assumption | with_reducible apply hostWrite_ok | with_reducible apply happen_ok
    | with_reducible apply OkO.next | with_reducible apply OkO.fault | with_reducible apply OkW.st | dsimp only

theorem execDmdStatsClr_ok {b0 : State} (rid r : Nat) (s : State) (h_s : Ok b0 s) : OkO b0 (execDmdStatsClr rid r s) := by
  unfold execDmdStatsClr
  try dsimp only
  repeat' first
    | with_reducible assumption | with_reducible apply hostWrite_ok | with_reducible apply happen_ok
    | with_reducible apply OkO.next | with_reducible apply OkO.fault | with_reducible apply OkW.st | dsimp only

theorem execAcqStatsClr_ok {b0 : State} (rid r : Nat) (s : State) (h_s : Ok b0 s) : OkO b0 (execAcqStatsClr rid r s) := by
  unfold execAcqStatsClr
  try dsimp only
  repeat' first
    | with_reducible assumption | with_reducible apply hostWrite_ok | with_reducible apply happen_ok
    | with_reducible apply OkO.next | with_reducible apply OkO.fault | with_reducible apply OkW.st | dsimp only

theorem execMshRteWrite_ok {b0 : State} (rid n word : Nat) (value : BitVec 32) (s : State) (h_s : Ok b0 s) : OkO b0 (execMshRteWrite rid n word value s) := by
  unfold execMshRteWrite
  try dsimp only
  repeat' first
    | with_reducible assumption | with_reducible apply hostWrite_ok | with_reducible apply happen_ok
    | with_reducible apply ite_ok | with_reducible apply ite_okO | with_reducible apply ite1_ok | with_reducible apply ite_okW
    | with_reducible apply OkO.next | with_reducible apply OkO.fault | with_reducible apply OkW.st | split | dsimp only

theorem execLaneEnable_ok {b0 : State} (rid p : Nat) (value : BitVec 32) (s : State) (h_s : Ok b0 s) : OkO b0 (execLaneEnable rid p value s) := by
  unfold execLaneEnable
  try dsimp only
  repeat' first
    | with_reducible assumption | with_reducible apply hostWrite_ok | with_reducible apply happen_ok
    | with_reducible apply OkO.next | with_reducible apply OkO.fault | with_reducible apply OkW.st | dsimp only

theorem execLoopSelect_ok {b0 : State} (rid p : Nat) (value : BitVec 32) (s : State) (h_s : Ok b0 s) : OkO b0 (execLoopSelect rid p value s) := by
  unfold execLoopSelect
  try dsimp only
  repeat' first
    | with_reducible assumption | with_reducible apply hostWrite_ok | with_reducible apply happen_ok
    | with_reducible apply OkO.next | with_reducible apply OkO.fault | with_reducible apply OkW.st | dsimp only

theorem execVrdStatsClr_ok {b0 : State} (rid : Nat) (s : State) (h_s : Ok b0 s) : OkO b0 (execVrdStatsClr rid s) := by
  unfold execVrdStatsClr
  try dsimp only
  repeat' first
    | with_reducible assumption | with_reducible apply hostWrite_ok | with_reducible apply OkO.next
    | with_reducible apply OkO.fault | with_reducible apply OkW.st | dsimp only

theorem execMshStatsClr_ok {b0 : State} (rid : Nat) (value : BitVec 32) (s : State) (h_s : Ok b0 s) : OkO b0 (execMshStatsClr rid value s) := by
  unfold execMshStatsClr
  try dsimp only
  repeat' first
    | with_reducible assumption | with_reducible apply hostWrite_ok | with_reducible apply OkO.next
    | with_reducible apply OkO.fault | with_reducible apply OkW.st | dsimp only

theorem execDldStatsClr_ok {b0 : State} (rid : Nat) (s : State) (h_s : Ok b0 s) : OkO b0 (execDldStatsClr rid s) := by
  unfold execDldStatsClr
  try dsimp only
  repeat' first
    | with_reducible assumption | with_reducible apply hostWrite_ok | with_reducible apply OkO.next
    | with_reducible apply OkO.fault | with_reducible apply OkW.st | dsimp only

theorem execErrorInject_ok {b0 : State} (rid : Nat) (value : BitVec 32) (s : State) (h_s : Ok b0 s) : OkO b0 (execErrorInject rid value s) := by
  unfold execErrorInject
  try dsimp only
  repeat' first
    | with_reducible assumption | with_reducible apply hostWrite_ok | with_reducible apply OkO.next
    | with_reducible apply OkO.fault | with_reducible apply OkW.st | dsimp only

theorem execLogClr_ok {b0 : State} (rid : Nat) (s : State) (h_s : Ok b0 s) : OkO b0 (execLogClr rid s) := by
  unfold execLogClr
  try dsimp only
  repeat' first
    | with_reducible assumption | with_reducible apply hostWrite_ok | with_reducible apply OkO.next
    | with_reducible apply OkO.fault | with_reducible apply OkW.st | dsimp only

theorem execMemStatsClr_ok {b0 : State} (rid : Nat) (s : State) (h_s : Ok b0 s) : OkO b0 (execMemStatsClr rid s) := by
  unfold execMemStatsClr
  try dsimp only
  repeat' first
    | with_reducible assumption | with_reducible apply hostWrite_ok | with_reducible apply OkO.next
    | with_reducible apply OkO.fault | with_reducible apply OkW.st | dsimp only

theorem execTdcArm_ok {b0 : State} (rid c : Nat) (s : State) (h_s : Ok b0 s) : OkO b0 (execTdcArm rid c s) := by
  unfold execTdcArm
  try dsimp only
  repeat' first
    | with_reducible assumption | with_reducible apply hostWrite_ok | with_reducible apply happen_ok
    | with_reducible apply OkO.next | with_reducible apply OkO.fault | with_reducible apply OkW.st | dsimp only

theorem execTdcDisarm_ok {b0 : State} (rid c : Nat) (s : State) (h_s : Ok b0 s) : OkO b0 (execTdcDisarm rid c s) := by
  unfold execTdcDisarm
  try dsimp only
  repeat' first
    | with_reducible assumption | with_reducible apply hostWrite_ok | with_reducible apply happen_ok
    | with_reducible apply OkO.next | with_reducible apply OkO.fault | with_reducible apply OkW.st | dsimp only

theorem execTdcStatsClr_ok {b0 : State} (rid : Nat) (s : State) (h_s : Ok b0 s) : OkO b0 (execTdcStatsClr rid s) := by
  unfold execTdcStatsClr
  try dsimp only
  repeat' first
    | with_reducible assumption | with_reducible apply hostWrite_ok | with_reducible apply OkO.next
    | with_reducible apply OkO.fault | with_reducible apply OkW.st | dsimp only

theorem execLoopEnable_ok {b0 : State} (rid k : Nat) (value : BitVec 32) (s : State) (h_s : Ok b0 s) : OkO b0 (execLoopEnable rid k value s) := by
  unfold execLoopEnable
  try dsimp only
  repeat' first
    | with_reducible assumption | with_reducible apply hostWrite_ok | with_reducible apply happen_ok
    | with_reducible apply OkO.next | with_reducible apply OkO.fault | with_reducible apply OkW.st | dsimp only

theorem execLoopDisable_ok {b0 : State} (rid k : Nat) (value : BitVec 32) (s : State) (h_s : Ok b0 s) : OkO b0 (execLoopDisable rid k value s) := by
  unfold execLoopDisable
  try dsimp only
  repeat' first
    | with_reducible assumption | with_reducible apply hostWrite_ok | with_reducible apply happen_ok
    | with_reducible apply OkO.next | with_reducible apply OkO.fault | with_reducible apply OkW.st | dsimp only

theorem execSnsStatsClr_ok {b0 : State} (rid : Nat) (s : State) (h_s : Ok b0 s) : OkO b0 (execSnsStatsClr rid s) := by
  unfold execSnsStatsClr
  try dsimp only
  repeat' first
    | with_reducible assumption | with_reducible apply hostWrite_ok | with_reducible apply OkO.next
    | with_reducible apply OkO.fault | with_reducible apply OkW.st | dsimp only

theorem execUrgentGo_ok {b0 : State} (rid : Nat) (value : BitVec 32) (s : State) (h_s : Ok b0 s) : OkO b0 (execUrgentGo rid value s) := by
  unfold execUrgentGo
  try dsimp only
  repeat' first
    | with_reducible assumption | with_reducible apply hostWrite_ok | with_reducible apply OkO.next
    | with_reducible apply OkO.fault | with_reducible apply OkW.st | dsimp only

theorem execTableRun_ok {b0 : State} (rid : Nat) (value : BitVec 32) (s : State) (h_s : Ok b0 s) : OkO b0 (execTableRun rid value s) := by
  unfold execTableRun
  try dsimp only
  repeat' first
    | with_reducible assumption | with_reducible apply hostWrite_ok | with_reducible apply OkO.next
    | with_reducible apply OkO.fault | with_reducible apply OkW.st | dsimp only

theorem execTableStop_ok {b0 : State} (rid : Nat) (value : BitVec 32) (s : State) (h_s : Ok b0 s) : OkO b0 (execTableStop rid value s) := by
  unfold execTableStop
  try dsimp only
  repeat' first
    | with_reducible assumption | with_reducible apply hostWrite_ok | with_reducible apply OkO.next
    | with_reducible apply OkO.fault | with_reducible apply OkW.st | dsimp only

theorem execSweepDemand_ok {b0 : State} (rid : Nat) (s : State) (h_s : Ok b0 s) : OkO b0 (execSweepDemand rid s) := by
  unfold execSweepDemand
  try dsimp only
  repeat' first
    | with_reducible assumption | with_reducible apply hostWrite_ok | with_reducible apply OkO.next
    | with_reducible apply OkO.fault | with_reducible apply OkW.st | dsimp only

theorem execFloorWrite_ok {b0 : State} (rid : Nat) (value : BitVec 32) (s : State) (h_s : Ok b0 s) : OkO b0 (execFloorWrite rid value s) := by
  unfold execFloorWrite
  try dsimp only
  repeat' first
    | with_reducible assumption | with_reducible apply hostWrite_ok | with_reducible apply OkO.next
    | with_reducible apply OkO.fault | with_reducible apply OkW.st | dsimp only

end Sys2Proof.Machine
end

