-- ==== Sys2Proof/Laws/KeepTick.lean ====
section
/-!
SUPPORT. What every operation of Machine/Tick.lean keeps (see KeepOps.lean).
-/
namespace Sys2Proof.Machine

theorem playTick_ok {b0 : State} (s : State) (h_s : Ok b0 s) : Ok b0 (playTick s) := by
  unfold playTick
  try dsimp only
  repeat' first
    | with_reducible assumption | with_reducible apply playPorts_ok | with_reducible apply playLines_ok
    | with_reducible apply playFluxPaths_ok | with_reducible apply dropMarkers_ok | with_reducible apply receiveAll_ok
    | with_reducible apply noteWindows_ok | with_reducible apply OkW.st | dsimp only

theorem noteFrame_ok {b0 : State} (s : State) (h_s : Ok b0 s) : Ok b0 (noteFrame s) := by
  unfold noteFrame
  try dsimp only
  repeat' first
    | with_reducible assumption | with_reducible apply ite_ok | with_reducible apply ite1_ok | with_reducible apply ite_okW
    | with_reducible apply OkW.st | split | with_reducible apply Ok.record | dsimp only

end Sys2Proof.Machine
end

