-- ==== Sys2Proof/Laws/State.lean ====
section
/-!
SUPPORT. What each update of the state leaves alone: one lemma for each field and each update, true by definition; and that what a
setter has stored is what is read.
-/
namespace Sys2Proof.Machine

variable (s : State)

/-! ### wr -/

@[simp] theorem State.wr_pending (a : Nat) (v : Word) : (s.wr a v).pending = s.pending := rfl
@[simp] theorem State.wr_part (a : Nat) (v : Word) : (s.wr a v).part = s.part := rfl
@[simp] theorem State.wr_ref10M (a : Nat) (v : Word) : (s.wr a v).ref10M = s.ref10M := rfl
@[simp] theorem State.wr_serial (a : Nat) (v : Word) : (s.wr a v).serial = s.serial := rfl
@[simp] theorem State.wr_now (a : Nat) (v : Word) : (s.wr a v).now = s.now := rfl
@[simp] theorem State.wr_epoch (a : Nat) (v : Word) : (s.wr a v).epoch = s.epoch := rfl
@[simp] theorem State.wr_epochOn (a : Nat) (v : Word) : (s.wr a v).epochOn = s.epochOn := rfl
@[simp] theorem State.wr_freeCtr (a : Nat) (v : Word) : (s.wr a v).freeCtr = s.freeCtr := rfl
@[simp] theorem State.wr_lastRead (a : Nat) (v : Word) : (s.wr a v).lastRead = s.lastRead := rfl
@[simp] theorem State.wr_readShadow (a : Nat) (v : Word) : (s.wr a v).readShadow = s.readShadow := rfl
@[simp] theorem State.wr_writeShadow (a : Nat) (v : Word) : (s.wr a v).writeShadow = s.writeShadow := rfl
@[simp] theorem State.wr_rsetSel (a : Nat) (v : Word) : (s.wr a v).rsetSel = s.rsetSel := rfl
@[simp] theorem State.wr_mode (a : Nat) (v : Word) : (s.wr a v).mode = s.mode := rfl
@[simp] theorem State.wr_transition (a : Nat) (v : Word) : (s.wr a v).transition = s.transition := rfl
@[simp] theorem State.wr_powerGoodAt (a : Nat) (v : Word) : (s.wr a v).powerGoodAt = s.powerGoodAt := rfl
@[simp] theorem State.wr_calRaw (a : Nat) (v : Word) : (s.wr a v).calRaw = s.calRaw := rfl
@[simp] theorem State.wr_calAcc (a : Nat) (v : Word) : (s.wr a v).calAcc = s.calAcc := rfl
@[simp] theorem State.wr_disciplineAt (a : Nat) (v : Word) : (s.wr a v).disciplineAt = s.disciplineAt := rfl
@[simp] theorem State.wr_angle (a : Nat) (v : Word) : (s.wr a v).angle = s.angle := rfl
@[simp] theorem State.wr_alarmAt (a : Nat) (v : Word) : (s.wr a v).alarmAt = s.alarmAt := rfl
@[simp] theorem State.wr_alarmLate (a : Nat) (v : Word) : (s.wr a v).alarmLate = s.alarmLate := rfl
@[simp] theorem State.wr_alarmFired (a : Nat) (v : Word) : (s.wr a v).alarmFired = s.alarmFired := rfl
@[simp] theorem State.wr_snapArmed (a : Nat) (v : Word) : (s.wr a v).snapArmed = s.snapArmed := rfl
@[simp] theorem State.wr_relocking (a : Nat) (v : Word) : (s.wr a v).relocking = s.relocking := rfl
@[simp] theorem State.wr_lossAt (a : Nat) (v : Word) : (s.wr a v).lossAt = s.lossAt := rfl
@[simp] theorem State.wr_sqs (a : Nat) (v : Word) : (s.wr a v).sqs = s.sqs := rfl
@[simp] theorem State.wr_cqs (a : Nat) (v : Word) : (s.wr a v).cqs = s.cqs := rfl
@[simp] theorem State.wr_nextUid (a : Nat) (v : Word) : (s.wr a v).nextUid = s.nextUid := rfl
@[simp] theorem State.wr_busMaster (a : Nat) (v : Word) : (s.wr a v).busMaster = s.busMaster := rfl
@[simp] theorem State.wr_perst (a : Nat) (v : Word) : (s.wr a v).perst = s.perst := rfl
@[simp] theorem State.wr_posted (a : Nat) (v : Word) : (s.wr a v).posted = s.posted := rfl
@[simp] theorem State.wr_holding (a : Nat) (v : Word) : (s.wr a v).holding = s.holding := rfl
@[simp] theorem State.wr_holdHits (a : Nat) (v : Word) : (s.wr a v).holdHits = s.holdHits := rfl
@[simp] theorem State.wr_dmaStopped (a : Nat) (v : Word) : (s.wr a v).dmaStopped = s.dmaStopped := rfl
@[simp] theorem State.wr_gang (a : Nat) (v : Word) : (s.wr a v).gang = s.gang := rfl
@[simp] theorem State.wr_shots (a : Nat) (v : Word) : (s.wr a v).shots = s.shots := rfl
@[simp] theorem State.wr_works (a : Nat) (v : Word) : (s.wr a v).works = s.works := rfl
@[simp] theorem State.wr_wins (a : Nat) (v : Word) : (s.wr a v).wins = s.wins := rfl
@[simp] theorem State.wr_streams (a : Nat) (v : Word) : (s.wr a v).streams = s.streams := rfl
@[simp] theorem State.wr_engines (a : Nat) (v : Word) : (s.wr a v).engines = s.engines := rfl
@[simp] theorem State.wr_micro (a : Nat) (v : Word) : (s.wr a v).micro = s.micro := rfl
@[simp] theorem State.wr_nano (a : Nat) (v : Word) : (s.wr a v).nano = s.nano := rfl
@[simp] theorem State.wr_nanoRes (a : Nat) (v : Word) : (s.wr a v).nanoRes = s.nanoRes := rfl
@[simp] theorem State.wr_cache (a : Nat) (v : Word) : (s.wr a v).cache = s.cache := rfl
@[simp] theorem State.wr_commanded (a : Nat) (v : Word) : (s.wr a v).commanded = s.commanded := rfl
@[simp] theorem State.wr_ports (a : Nat) (v : Word) : (s.wr a v).ports = s.ports := rfl
@[simp] theorem State.wr_slots (a : Nat) (v : Word) : (s.wr a v).slots = s.slots := rfl
@[simp] theorem State.wr_slotWrites (a : Nat) (v : Word) : (s.wr a v).slotWrites = s.slotWrites := rfl
@[simp] theorem State.wr_frames (a : Nat) (v : Word) : (s.wr a v).frames = s.frames := rfl
@[simp] theorem State.wr_mrk (a : Nat) (v : Word) : (s.wr a v).mrk = s.mrk := rfl
@[simp] theorem State.wr_mrkMute (a : Nat) (v : Word) : (s.wr a v).mrkMute = s.mrkMute := rfl
@[simp] theorem State.wr_lines (a : Nat) (v : Word) : (s.wr a v).lines = s.lines := rfl
@[simp] theorem State.wr_interp (a : Nat) (v : Word) : (s.wr a v).interp = s.interp := rfl
@[simp] theorem State.wr_interpPend (a : Nat) (v : Word) : (s.wr a v).interpPend = s.interpPend := rfl
@[simp] theorem State.wr_flat (a : Nat) (v : Word) : (s.wr a v).flat = s.flat := rfl
@[simp] theorem State.wr_synth (a : Nat) (v : Word) : (s.wr a v).synth = s.synth := rfl
@[simp] theorem State.wr_ffx (a : Nat) (v : Word) : (s.wr a v).ffx = s.ffx := rfl
@[simp] theorem State.wr_bia (a : Nat) (v : Word) : (s.wr a v).bia = s.bia := rfl
@[simp] theorem State.wr_clrNext (a : Nat) (v : Word) : (s.wr a v).clrNext = s.clrNext := rfl
@[simp] theorem State.wr_acqs (a : Nat) (v : Word) : (s.wr a v).acqs = s.acqs := rfl
@[simp] theorem State.wr_tones (a : Nat) (v : Word) : (s.wr a v).tones = s.tones := rfl
@[simp] theorem State.wr_feeds (a : Nat) (v : Word) : (s.wr a v).feeds = s.feeds := rfl
@[simp] theorem State.wr_rwins (a : Nat) (v : Word) : (s.wr a v).rwins = s.rwins := rfl
@[simp] theorem State.wr_traces (a : Nat) (v : Word) : (s.wr a v).traces = s.traces := rfl
@[simp] theorem State.wr_results (a : Nat) (v : Word) : (s.wr a v).results = s.results := rfl
@[simp] theorem State.wr_frameStamps (a : Nat) (v : Word) : (s.wr a v).frameStamps = s.frameStamps := rfl
@[simp] theorem State.wr_rsets (a : Nat) (v : Word) : (s.wr a v).rsets = s.rsets := rfl
@[simp] theorem State.wr_mem (a : Nat) (v : Word) : (s.wr a v).mem = s.mem := rfl
@[simp] theorem State.wr_scrubPos (a : Nat) (v : Word) : (s.wr a v).scrubPos = s.scrubPos := rfl
@[simp] theorem State.wr_scrubPass (a : Nat) (v : Word) : (s.wr a v).scrubPass = s.scrubPass := rfl
@[simp] theorem State.wr_corrected (a : Nat) (v : Word) : (s.wr a v).corrected = s.corrected := rfl
@[simp] theorem State.wr_passCe (a : Nat) (v : Word) : (s.wr a v).passCe = s.passCe := rfl
@[simp] theorem State.wr_txQueue (a : Nat) (v : Word) : (s.wr a v).txQueue = s.txQueue := rfl
@[simp] theorem State.wr_rxHeld (a : Nat) (v : Word) : (s.wr a v).rxHeld = s.rxHeld := rfl
@[simp] theorem State.wr_routeSends (a : Nat) (v : Word) : (s.wr a v).routeSends = s.routeSends := rfl
@[simp] theorem State.wr_losses (a : Nat) (v : Word) : (s.wr a v).losses = s.losses := rfl
@[simp] theorem State.wr_lanes (a : Nat) (v : Word) : (s.wr a v).lanes = s.lanes := rfl
@[simp] theorem State.wr_lossNotices (a : Nat) (v : Word) : (s.wr a v).lossNotices = s.lossNotices := rfl
@[simp] theorem State.wr_dldSent (a : Nat) (v : Word) : (s.wr a v).dldSent = s.dldSent := rfl
@[simp] theorem State.wr_edgeAcceptedAt (a : Nat) (v : Word) : (s.wr a v).edgeAcceptedAt = s.edgeAcceptedAt := rfl
@[simp] theorem State.wr_epochOld (a : Nat) (v : Word) : (s.wr a v).epochOld = s.epochOld := rfl
@[simp] theorem State.wr_tdcs (a : Nat) (v : Word) : (s.wr a v).tdcs = s.tdcs := rfl
@[simp] theorem State.wr_snss (a : Nat) (v : Word) : (s.wr a v).snss = s.snss := rfl
@[simp] theorem State.wr_heaters (a : Nat) (v : Word) : (s.wr a v).heaters = s.heaters := rfl
@[simp] theorem State.wr_mon (a : Nat) (v : Word) : (s.wr a v).mon = s.mon := rfl
@[simp] theorem State.wr_curveShadow (a : Nat) (v : Word) : (s.wr a v).curveShadow = s.curveShadow := rfl
@[simp] theorem State.wr_curves (a : Nat) (v : Word) : (s.wr a v).curves = s.curves := rfl
@[simp] theorem State.wr_mbx (a : Nat) (v : Word) : (s.wr a v).mbx = s.mbx := rfl
@[simp] theorem State.wr_server (a : Nat) (v : Word) : (s.wr a v).server = s.server := rfl
@[simp] theorem State.wr_training (a : Nat) (v : Word) : (s.wr a v).training = s.training := rfl
@[simp] theorem State.wr_fwBank (a : Nat) (v : Word) : (s.wr a v).fwBank = s.fwBank := rfl
@[simp] theorem State.wr_fwBody (a : Nat) (v : Word) : (s.wr a v).fwBody = s.fwBody := rfl
@[simp] theorem State.wr_calBank (a : Nat) (v : Word) : (s.wr a v).calBank = s.calBank := rfl
@[simp] theorem State.wr_calBody (a : Nat) (v : Word) : (s.wr a v).calBody = s.calBody := rfl
@[simp] theorem State.wr_curveBank (a : Nat) (v : Word) : (s.wr a v).curveBank = s.curveBank := rfl
@[simp] theorem State.wr_curveBody (a : Nat) (v : Word) : (s.wr a v).curveBody = s.curveBody := rfl
@[simp] theorem State.wr_tripLog (a : Nat) (v : Word) : (s.wr a v).tripLog = s.tripLog := rfl
@[simp] theorem State.wr_tripOwed (a : Nat) (v : Word) : (s.wr a v).tripOwed = s.tripOwed := rfl
@[simp] theorem State.wr_routine (a : Nat) (v : Word) : (s.wr a v).routine = s.routine := rfl
@[simp] theorem State.wr_dip (a : Nat) (v : Word) : (s.wr a v).dip = s.dip := rfl
@[simp] theorem State.wr_trippedAt (a : Nat) (v : Word) : (s.wr a v).trippedAt = s.trippedAt := rfl
@[simp] theorem State.wr_window (a : Nat) (v : Word) : (s.wr a v).window = s.window := rfl
@[simp] theorem State.wr_thm (a : Nat) (v : Word) : (s.wr a v).thm = s.thm := rfl
@[simp] theorem State.wr_peffWas (a : Nat) (v : Word) : (s.wr a v).peffWas = s.peffWas := rfl
@[simp] theorem State.wr_calVref (a : Nat) (v : Word) : (s.wr a v).calVref = s.calVref := rfl
@[simp] theorem State.wr_flatPend (a : Nat) (v : Word) : (s.wr a v).flatPend = s.flatPend := rfl

/-! ### put -/

@[simp] theorem State.put_pending (f : Fld) (v : Nat) : (s.put f v).pending = s.pending := rfl
@[simp] theorem State.put_part (f : Fld) (v : Nat) : (s.put f v).part = s.part := rfl
@[simp] theorem State.put_ref10M (f : Fld) (v : Nat) : (s.put f v).ref10M = s.ref10M := rfl
@[simp] theorem State.put_serial (f : Fld) (v : Nat) : (s.put f v).serial = s.serial := rfl
@[simp] theorem State.put_now (f : Fld) (v : Nat) : (s.put f v).now = s.now := rfl
@[simp] theorem State.put_epoch (f : Fld) (v : Nat) : (s.put f v).epoch = s.epoch := rfl
@[simp] theorem State.put_epochOn (f : Fld) (v : Nat) : (s.put f v).epochOn = s.epochOn := rfl
@[simp] theorem State.put_freeCtr (f : Fld) (v : Nat) : (s.put f v).freeCtr = s.freeCtr := rfl
@[simp] theorem State.put_lastRead (f : Fld) (v : Nat) : (s.put f v).lastRead = s.lastRead := rfl
@[simp] theorem State.put_readShadow (f : Fld) (v : Nat) : (s.put f v).readShadow = s.readShadow := rfl
@[simp] theorem State.put_writeShadow (f : Fld) (v : Nat) : (s.put f v).writeShadow = s.writeShadow := rfl
@[simp] theorem State.put_rsetSel (f : Fld) (v : Nat) : (s.put f v).rsetSel = s.rsetSel := rfl
@[simp] theorem State.put_mode (f : Fld) (v : Nat) : (s.put f v).mode = s.mode := rfl
@[simp] theorem State.put_transition (f : Fld) (v : Nat) : (s.put f v).transition = s.transition := rfl
@[simp] theorem State.put_powerGoodAt (f : Fld) (v : Nat) : (s.put f v).powerGoodAt = s.powerGoodAt := rfl
@[simp] theorem State.put_calRaw (f : Fld) (v : Nat) : (s.put f v).calRaw = s.calRaw := rfl
@[simp] theorem State.put_calAcc (f : Fld) (v : Nat) : (s.put f v).calAcc = s.calAcc := rfl
@[simp] theorem State.put_disciplineAt (f : Fld) (v : Nat) : (s.put f v).disciplineAt = s.disciplineAt := rfl
@[simp] theorem State.put_angle (f : Fld) (v : Nat) : (s.put f v).angle = s.angle := rfl
@[simp] theorem State.put_alarmAt (f : Fld) (v : Nat) : (s.put f v).alarmAt = s.alarmAt := rfl
@[simp] theorem State.put_alarmLate (f : Fld) (v : Nat) : (s.put f v).alarmLate = s.alarmLate := rfl
@[simp] theorem State.put_alarmFired (f : Fld) (v : Nat) : (s.put f v).alarmFired = s.alarmFired := rfl
@[simp] theorem State.put_snapArmed (f : Fld) (v : Nat) : (s.put f v).snapArmed = s.snapArmed := rfl
@[simp] theorem State.put_relocking (f : Fld) (v : Nat) : (s.put f v).relocking = s.relocking := rfl
@[simp] theorem State.put_lossAt (f : Fld) (v : Nat) : (s.put f v).lossAt = s.lossAt := rfl
@[simp] theorem State.put_sqs (f : Fld) (v : Nat) : (s.put f v).sqs = s.sqs := rfl
@[simp] theorem State.put_cqs (f : Fld) (v : Nat) : (s.put f v).cqs = s.cqs := rfl
@[simp] theorem State.put_nextUid (f : Fld) (v : Nat) : (s.put f v).nextUid = s.nextUid := rfl
@[simp] theorem State.put_busMaster (f : Fld) (v : Nat) : (s.put f v).busMaster = s.busMaster := rfl
@[simp] theorem State.put_perst (f : Fld) (v : Nat) : (s.put f v).perst = s.perst := rfl
@[simp] theorem State.put_posted (f : Fld) (v : Nat) : (s.put f v).posted = s.posted := rfl
@[simp] theorem State.put_holding (f : Fld) (v : Nat) : (s.put f v).holding = s.holding := rfl
@[simp] theorem State.put_holdHits (f : Fld) (v : Nat) : (s.put f v).holdHits = s.holdHits := rfl
@[simp] theorem State.put_dmaStopped (f : Fld) (v : Nat) : (s.put f v).dmaStopped = s.dmaStopped := rfl
@[simp] theorem State.put_gang (f : Fld) (v : Nat) : (s.put f v).gang = s.gang := rfl
@[simp] theorem State.put_shots (f : Fld) (v : Nat) : (s.put f v).shots = s.shots := rfl
@[simp] theorem State.put_works (f : Fld) (v : Nat) : (s.put f v).works = s.works := rfl
@[simp] theorem State.put_wins (f : Fld) (v : Nat) : (s.put f v).wins = s.wins := rfl
@[simp] theorem State.put_streams (f : Fld) (v : Nat) : (s.put f v).streams = s.streams := rfl
@[simp] theorem State.put_engines (f : Fld) (v : Nat) : (s.put f v).engines = s.engines := rfl
@[simp] theorem State.put_micro (f : Fld) (v : Nat) : (s.put f v).micro = s.micro := rfl
@[simp] theorem State.put_nano (f : Fld) (v : Nat) : (s.put f v).nano = s.nano := rfl
@[simp] theorem State.put_nanoRes (f : Fld) (v : Nat) : (s.put f v).nanoRes = s.nanoRes := rfl
@[simp] theorem State.put_cache (f : Fld) (v : Nat) : (s.put f v).cache = s.cache := rfl
@[simp] theorem State.put_commanded (f : Fld) (v : Nat) : (s.put f v).commanded = s.commanded := rfl
@[simp] theorem State.put_ports (f : Fld) (v : Nat) : (s.put f v).ports = s.ports := rfl
@[simp] theorem State.put_slots (f : Fld) (v : Nat) : (s.put f v).slots = s.slots := rfl
@[simp] theorem State.put_slotWrites (f : Fld) (v : Nat) : (s.put f v).slotWrites = s.slotWrites := rfl
@[simp] theorem State.put_frames (f : Fld) (v : Nat) : (s.put f v).frames = s.frames := rfl
@[simp] theorem State.put_mrk (f : Fld) (v : Nat) : (s.put f v).mrk = s.mrk := rfl
@[simp] theorem State.put_mrkMute (f : Fld) (v : Nat) : (s.put f v).mrkMute = s.mrkMute := rfl
@[simp] theorem State.put_lines (f : Fld) (v : Nat) : (s.put f v).lines = s.lines := rfl
@[simp] theorem State.put_interp (f : Fld) (v : Nat) : (s.put f v).interp = s.interp := rfl
@[simp] theorem State.put_interpPend (f : Fld) (v : Nat) : (s.put f v).interpPend = s.interpPend := rfl
@[simp] theorem State.put_flat (f : Fld) (v : Nat) : (s.put f v).flat = s.flat := rfl
@[simp] theorem State.put_synth (f : Fld) (v : Nat) : (s.put f v).synth = s.synth := rfl
@[simp] theorem State.put_ffx (f : Fld) (v : Nat) : (s.put f v).ffx = s.ffx := rfl
@[simp] theorem State.put_bia (f : Fld) (v : Nat) : (s.put f v).bia = s.bia := rfl
@[simp] theorem State.put_clrNext (f : Fld) (v : Nat) : (s.put f v).clrNext = s.clrNext := rfl
@[simp] theorem State.put_acqs (f : Fld) (v : Nat) : (s.put f v).acqs = s.acqs := rfl
@[simp] theorem State.put_tones (f : Fld) (v : Nat) : (s.put f v).tones = s.tones := rfl
@[simp] theorem State.put_feeds (f : Fld) (v : Nat) : (s.put f v).feeds = s.feeds := rfl
@[simp] theorem State.put_rwins (f : Fld) (v : Nat) : (s.put f v).rwins = s.rwins := rfl
@[simp] theorem State.put_traces (f : Fld) (v : Nat) : (s.put f v).traces = s.traces := rfl
@[simp] theorem State.put_results (f : Fld) (v : Nat) : (s.put f v).results = s.results := rfl
@[simp] theorem State.put_frameStamps (f : Fld) (v : Nat) : (s.put f v).frameStamps = s.frameStamps := rfl
@[simp] theorem State.put_rsets (f : Fld) (v : Nat) : (s.put f v).rsets = s.rsets := rfl
@[simp] theorem State.put_mem (f : Fld) (v : Nat) : (s.put f v).mem = s.mem := rfl
@[simp] theorem State.put_scrubPos (f : Fld) (v : Nat) : (s.put f v).scrubPos = s.scrubPos := rfl
@[simp] theorem State.put_scrubPass (f : Fld) (v : Nat) : (s.put f v).scrubPass = s.scrubPass := rfl
@[simp] theorem State.put_corrected (f : Fld) (v : Nat) : (s.put f v).corrected = s.corrected := rfl
@[simp] theorem State.put_passCe (f : Fld) (v : Nat) : (s.put f v).passCe = s.passCe := rfl
@[simp] theorem State.put_txQueue (f : Fld) (v : Nat) : (s.put f v).txQueue = s.txQueue := rfl
@[simp] theorem State.put_rxHeld (f : Fld) (v : Nat) : (s.put f v).rxHeld = s.rxHeld := rfl
@[simp] theorem State.put_routeSends (f : Fld) (v : Nat) : (s.put f v).routeSends = s.routeSends := rfl
@[simp] theorem State.put_losses (f : Fld) (v : Nat) : (s.put f v).losses = s.losses := rfl
@[simp] theorem State.put_lanes (f : Fld) (v : Nat) : (s.put f v).lanes = s.lanes := rfl
@[simp] theorem State.put_lossNotices (f : Fld) (v : Nat) : (s.put f v).lossNotices = s.lossNotices := rfl
@[simp] theorem State.put_dldSent (f : Fld) (v : Nat) : (s.put f v).dldSent = s.dldSent := rfl
@[simp] theorem State.put_edgeAcceptedAt (f : Fld) (v : Nat) : (s.put f v).edgeAcceptedAt = s.edgeAcceptedAt := rfl
@[simp] theorem State.put_epochOld (f : Fld) (v : Nat) : (s.put f v).epochOld = s.epochOld := rfl
@[simp] theorem State.put_tdcs (f : Fld) (v : Nat) : (s.put f v).tdcs = s.tdcs := rfl
@[simp] theorem State.put_snss (f : Fld) (v : Nat) : (s.put f v).snss = s.snss := rfl
@[simp] theorem State.put_heaters (f : Fld) (v : Nat) : (s.put f v).heaters = s.heaters := rfl
@[simp] theorem State.put_mon (f : Fld) (v : Nat) : (s.put f v).mon = s.mon := rfl
@[simp] theorem State.put_curveShadow (f : Fld) (v : Nat) : (s.put f v).curveShadow = s.curveShadow := rfl
@[simp] theorem State.put_curves (f : Fld) (v : Nat) : (s.put f v).curves = s.curves := rfl
@[simp] theorem State.put_mbx (f : Fld) (v : Nat) : (s.put f v).mbx = s.mbx := rfl
@[simp] theorem State.put_server (f : Fld) (v : Nat) : (s.put f v).server = s.server := rfl
@[simp] theorem State.put_training (f : Fld) (v : Nat) : (s.put f v).training = s.training := rfl
@[simp] theorem State.put_fwBank (f : Fld) (v : Nat) : (s.put f v).fwBank = s.fwBank := rfl
@[simp] theorem State.put_fwBody (f : Fld) (v : Nat) : (s.put f v).fwBody = s.fwBody := rfl
@[simp] theorem State.put_calBank (f : Fld) (v : Nat) : (s.put f v).calBank = s.calBank := rfl
@[simp] theorem State.put_calBody (f : Fld) (v : Nat) : (s.put f v).calBody = s.calBody := rfl
@[simp] theorem State.put_curveBank (f : Fld) (v : Nat) : (s.put f v).curveBank = s.curveBank := rfl
@[simp] theorem State.put_curveBody (f : Fld) (v : Nat) : (s.put f v).curveBody = s.curveBody := rfl
@[simp] theorem State.put_tripLog (f : Fld) (v : Nat) : (s.put f v).tripLog = s.tripLog := rfl
@[simp] theorem State.put_tripOwed (f : Fld) (v : Nat) : (s.put f v).tripOwed = s.tripOwed := rfl
@[simp] theorem State.put_routine (f : Fld) (v : Nat) : (s.put f v).routine = s.routine := rfl
@[simp] theorem State.put_dip (f : Fld) (v : Nat) : (s.put f v).dip = s.dip := rfl
@[simp] theorem State.put_trippedAt (f : Fld) (v : Nat) : (s.put f v).trippedAt = s.trippedAt := rfl
@[simp] theorem State.put_window (f : Fld) (v : Nat) : (s.put f v).window = s.window := rfl
@[simp] theorem State.put_thm (f : Fld) (v : Nat) : (s.put f v).thm = s.thm := rfl
@[simp] theorem State.put_peffWas (f : Fld) (v : Nat) : (s.put f v).peffWas = s.peffWas := rfl
@[simp] theorem State.put_calVref (f : Fld) (v : Nat) : (s.put f v).calVref = s.calVref := rfl
@[simp] theorem State.put_flatPend (f : Fld) (v : Nat) : (s.put f v).flatPend = s.flatPend := rfl

/-! ### put64 -/

@[simp] theorem State.put64_pending (a v : Nat) : (s.put64 a v).pending = s.pending := rfl
@[simp] theorem State.put64_part (a v : Nat) : (s.put64 a v).part = s.part := rfl
@[simp] theorem State.put64_ref10M (a v : Nat) : (s.put64 a v).ref10M = s.ref10M := rfl
@[simp] theorem State.put64_serial (a v : Nat) : (s.put64 a v).serial = s.serial := rfl
@[simp] theorem State.put64_now (a v : Nat) : (s.put64 a v).now = s.now := rfl
@[simp] theorem State.put64_epoch (a v : Nat) : (s.put64 a v).epoch = s.epoch := rfl
@[simp] theorem State.put64_epochOn (a v : Nat) : (s.put64 a v).epochOn = s.epochOn := rfl
@[simp] theorem State.put64_freeCtr (a v : Nat) : (s.put64 a v).freeCtr = s.freeCtr := rfl
@[simp] theorem State.put64_lastRead (a v : Nat) : (s.put64 a v).lastRead = s.lastRead := rfl
@[simp] theorem State.put64_readShadow (a v : Nat) : (s.put64 a v).readShadow = s.readShadow := rfl
@[simp] theorem State.put64_writeShadow (a v : Nat) : (s.put64 a v).writeShadow = s.writeShadow := rfl
@[simp] theorem State.put64_rsetSel (a v : Nat) : (s.put64 a v).rsetSel = s.rsetSel := rfl
@[simp] theorem State.put64_mode (a v : Nat) : (s.put64 a v).mode = s.mode := rfl
@[simp] theorem State.put64_transition (a v : Nat) : (s.put64 a v).transition = s.transition := rfl
@[simp] theorem State.put64_powerGoodAt (a v : Nat) : (s.put64 a v).powerGoodAt = s.powerGoodAt := rfl
@[simp] theorem State.put64_calRaw (a v : Nat) : (s.put64 a v).calRaw = s.calRaw := rfl
@[simp] theorem State.put64_calAcc (a v : Nat) : (s.put64 a v).calAcc = s.calAcc := rfl
@[simp] theorem State.put64_disciplineAt (a v : Nat) : (s.put64 a v).disciplineAt = s.disciplineAt := rfl
@[simp] theorem State.put64_angle (a v : Nat) : (s.put64 a v).angle = s.angle := rfl
@[simp] theorem State.put64_alarmAt (a v : Nat) : (s.put64 a v).alarmAt = s.alarmAt := rfl
@[simp] theorem State.put64_alarmLate (a v : Nat) : (s.put64 a v).alarmLate = s.alarmLate := rfl
@[simp] theorem State.put64_alarmFired (a v : Nat) : (s.put64 a v).alarmFired = s.alarmFired := rfl
@[simp] theorem State.put64_snapArmed (a v : Nat) : (s.put64 a v).snapArmed = s.snapArmed := rfl
@[simp] theorem State.put64_relocking (a v : Nat) : (s.put64 a v).relocking = s.relocking := rfl
@[simp] theorem State.put64_lossAt (a v : Nat) : (s.put64 a v).lossAt = s.lossAt := rfl
@[simp] theorem State.put64_sqs (a v : Nat) : (s.put64 a v).sqs = s.sqs := rfl
@[simp] theorem State.put64_cqs (a v : Nat) : (s.put64 a v).cqs = s.cqs := rfl
@[simp] theorem State.put64_nextUid (a v : Nat) : (s.put64 a v).nextUid = s.nextUid := rfl
@[simp] theorem State.put64_busMaster (a v : Nat) : (s.put64 a v).busMaster = s.busMaster := rfl
@[simp] theorem State.put64_perst (a v : Nat) : (s.put64 a v).perst = s.perst := rfl
@[simp] theorem State.put64_posted (a v : Nat) : (s.put64 a v).posted = s.posted := rfl
@[simp] theorem State.put64_holding (a v : Nat) : (s.put64 a v).holding = s.holding := rfl
@[simp] theorem State.put64_holdHits (a v : Nat) : (s.put64 a v).holdHits = s.holdHits := rfl
@[simp] theorem State.put64_dmaStopped (a v : Nat) : (s.put64 a v).dmaStopped = s.dmaStopped := rfl
@[simp] theorem State.put64_gang (a v : Nat) : (s.put64 a v).gang = s.gang := rfl
@[simp] theorem State.put64_shots (a v : Nat) : (s.put64 a v).shots = s.shots := rfl
@[simp] theorem State.put64_works (a v : Nat) : (s.put64 a v).works = s.works := rfl
@[simp] theorem State.put64_wins (a v : Nat) : (s.put64 a v).wins = s.wins := rfl
@[simp] theorem State.put64_streams (a v : Nat) : (s.put64 a v).streams = s.streams := rfl
@[simp] theorem State.put64_engines (a v : Nat) : (s.put64 a v).engines = s.engines := rfl
@[simp] theorem State.put64_micro (a v : Nat) : (s.put64 a v).micro = s.micro := rfl
@[simp] theorem State.put64_nano (a v : Nat) : (s.put64 a v).nano = s.nano := rfl
@[simp] theorem State.put64_nanoRes (a v : Nat) : (s.put64 a v).nanoRes = s.nanoRes := rfl
@[simp] theorem State.put64_cache (a v : Nat) : (s.put64 a v).cache = s.cache := rfl
@[simp] theorem State.put64_commanded (a v : Nat) : (s.put64 a v).commanded = s.commanded := rfl
@[simp] theorem State.put64_ports (a v : Nat) : (s.put64 a v).ports = s.ports := rfl
@[simp] theorem State.put64_slots (a v : Nat) : (s.put64 a v).slots = s.slots := rfl
@[simp] theorem State.put64_slotWrites (a v : Nat) : (s.put64 a v).slotWrites = s.slotWrites := rfl
@[simp] theorem State.put64_frames (a v : Nat) : (s.put64 a v).frames = s.frames := rfl
@[simp] theorem State.put64_mrk (a v : Nat) : (s.put64 a v).mrk = s.mrk := rfl
@[simp] theorem State.put64_mrkMute (a v : Nat) : (s.put64 a v).mrkMute = s.mrkMute := rfl
@[simp] theorem State.put64_lines (a v : Nat) : (s.put64 a v).lines = s.lines := rfl
@[simp] theorem State.put64_interp (a v : Nat) : (s.put64 a v).interp = s.interp := rfl
@[simp] theorem State.put64_interpPend (a v : Nat) : (s.put64 a v).interpPend = s.interpPend := rfl
@[simp] theorem State.put64_flat (a v : Nat) : (s.put64 a v).flat = s.flat := rfl
@[simp] theorem State.put64_synth (a v : Nat) : (s.put64 a v).synth = s.synth := rfl
@[simp] theorem State.put64_ffx (a v : Nat) : (s.put64 a v).ffx = s.ffx := rfl
@[simp] theorem State.put64_bia (a v : Nat) : (s.put64 a v).bia = s.bia := rfl
@[simp] theorem State.put64_clrNext (a v : Nat) : (s.put64 a v).clrNext = s.clrNext := rfl
@[simp] theorem State.put64_acqs (a v : Nat) : (s.put64 a v).acqs = s.acqs := rfl
@[simp] theorem State.put64_tones (a v : Nat) : (s.put64 a v).tones = s.tones := rfl
@[simp] theorem State.put64_feeds (a v : Nat) : (s.put64 a v).feeds = s.feeds := rfl
@[simp] theorem State.put64_rwins (a v : Nat) : (s.put64 a v).rwins = s.rwins := rfl
@[simp] theorem State.put64_traces (a v : Nat) : (s.put64 a v).traces = s.traces := rfl
@[simp] theorem State.put64_results (a v : Nat) : (s.put64 a v).results = s.results := rfl
@[simp] theorem State.put64_frameStamps (a v : Nat) : (s.put64 a v).frameStamps = s.frameStamps := rfl
@[simp] theorem State.put64_rsets (a v : Nat) : (s.put64 a v).rsets = s.rsets := rfl
@[simp] theorem State.put64_mem (a v : Nat) : (s.put64 a v).mem = s.mem := rfl
@[simp] theorem State.put64_scrubPos (a v : Nat) : (s.put64 a v).scrubPos = s.scrubPos := rfl
@[simp] theorem State.put64_scrubPass (a v : Nat) : (s.put64 a v).scrubPass = s.scrubPass := rfl
@[simp] theorem State.put64_corrected (a v : Nat) : (s.put64 a v).corrected = s.corrected := rfl
@[simp] theorem State.put64_passCe (a v : Nat) : (s.put64 a v).passCe = s.passCe := rfl
@[simp] theorem State.put64_txQueue (a v : Nat) : (s.put64 a v).txQueue = s.txQueue := rfl
@[simp] theorem State.put64_rxHeld (a v : Nat) : (s.put64 a v).rxHeld = s.rxHeld := rfl
@[simp] theorem State.put64_routeSends (a v : Nat) : (s.put64 a v).routeSends = s.routeSends := rfl
@[simp] theorem State.put64_losses (a v : Nat) : (s.put64 a v).losses = s.losses := rfl
@[simp] theorem State.put64_lanes (a v : Nat) : (s.put64 a v).lanes = s.lanes := rfl
@[simp] theorem State.put64_lossNotices (a v : Nat) : (s.put64 a v).lossNotices = s.lossNotices := rfl
@[simp] theorem State.put64_dldSent (a v : Nat) : (s.put64 a v).dldSent = s.dldSent := rfl
@[simp] theorem State.put64_edgeAcceptedAt (a v : Nat) : (s.put64 a v).edgeAcceptedAt = s.edgeAcceptedAt := rfl
@[simp] theorem State.put64_epochOld (a v : Nat) : (s.put64 a v).epochOld = s.epochOld := rfl
@[simp] theorem State.put64_tdcs (a v : Nat) : (s.put64 a v).tdcs = s.tdcs := rfl
@[simp] theorem State.put64_snss (a v : Nat) : (s.put64 a v).snss = s.snss := rfl
@[simp] theorem State.put64_heaters (a v : Nat) : (s.put64 a v).heaters = s.heaters := rfl
@[simp] theorem State.put64_mon (a v : Nat) : (s.put64 a v).mon = s.mon := rfl
@[simp] theorem State.put64_curveShadow (a v : Nat) : (s.put64 a v).curveShadow = s.curveShadow := rfl
@[simp] theorem State.put64_curves (a v : Nat) : (s.put64 a v).curves = s.curves := rfl
@[simp] theorem State.put64_mbx (a v : Nat) : (s.put64 a v).mbx = s.mbx := rfl
@[simp] theorem State.put64_server (a v : Nat) : (s.put64 a v).server = s.server := rfl
@[simp] theorem State.put64_training (a v : Nat) : (s.put64 a v).training = s.training := rfl
@[simp] theorem State.put64_fwBank (a v : Nat) : (s.put64 a v).fwBank = s.fwBank := rfl
@[simp] theorem State.put64_fwBody (a v : Nat) : (s.put64 a v).fwBody = s.fwBody := rfl
@[simp] theorem State.put64_calBank (a v : Nat) : (s.put64 a v).calBank = s.calBank := rfl
@[simp] theorem State.put64_calBody (a v : Nat) : (s.put64 a v).calBody = s.calBody := rfl
@[simp] theorem State.put64_curveBank (a v : Nat) : (s.put64 a v).curveBank = s.curveBank := rfl
@[simp] theorem State.put64_curveBody (a v : Nat) : (s.put64 a v).curveBody = s.curveBody := rfl
@[simp] theorem State.put64_tripLog (a v : Nat) : (s.put64 a v).tripLog = s.tripLog := rfl
@[simp] theorem State.put64_tripOwed (a v : Nat) : (s.put64 a v).tripOwed = s.tripOwed := rfl
@[simp] theorem State.put64_routine (a v : Nat) : (s.put64 a v).routine = s.routine := rfl
@[simp] theorem State.put64_dip (a v : Nat) : (s.put64 a v).dip = s.dip := rfl
@[simp] theorem State.put64_trippedAt (a v : Nat) : (s.put64 a v).trippedAt = s.trippedAt := rfl
@[simp] theorem State.put64_window (a v : Nat) : (s.put64 a v).window = s.window := rfl
@[simp] theorem State.put64_thm (a v : Nat) : (s.put64 a v).thm = s.thm := rfl
@[simp] theorem State.put64_peffWas (a v : Nat) : (s.put64 a v).peffWas = s.peffWas := rfl
@[simp] theorem State.put64_calVref (a v : Nat) : (s.put64 a v).calVref = s.calVref := rfl
@[simp] theorem State.put64_flatPend (a v : Nat) : (s.put64 a v).flatPend = s.flatPend := rfl

/-! ### add64 -/

@[simp] theorem State.add64_pending (a v : Nat) : (s.add64 a v).pending = s.pending := rfl
@[simp] theorem State.add64_part (a v : Nat) : (s.add64 a v).part = s.part := rfl
@[simp] theorem State.add64_ref10M (a v : Nat) : (s.add64 a v).ref10M = s.ref10M := rfl
@[simp] theorem State.add64_serial (a v : Nat) : (s.add64 a v).serial = s.serial := rfl
@[simp] theorem State.add64_now (a v : Nat) : (s.add64 a v).now = s.now := rfl
@[simp] theorem State.add64_epoch (a v : Nat) : (s.add64 a v).epoch = s.epoch := rfl
@[simp] theorem State.add64_epochOn (a v : Nat) : (s.add64 a v).epochOn = s.epochOn := rfl
@[simp] theorem State.add64_freeCtr (a v : Nat) : (s.add64 a v).freeCtr = s.freeCtr := rfl
@[simp] theorem State.add64_lastRead (a v : Nat) : (s.add64 a v).lastRead = s.lastRead := rfl
@[simp] theorem State.add64_readShadow (a v : Nat) : (s.add64 a v).readShadow = s.readShadow := rfl
@[simp] theorem State.add64_writeShadow (a v : Nat) : (s.add64 a v).writeShadow = s.writeShadow := rfl
@[simp] theorem State.add64_rsetSel (a v : Nat) : (s.add64 a v).rsetSel = s.rsetSel := rfl
@[simp] theorem State.add64_mode (a v : Nat) : (s.add64 a v).mode = s.mode := rfl
@[simp] theorem State.add64_transition (a v : Nat) : (s.add64 a v).transition = s.transition := rfl
@[simp] theorem State.add64_powerGoodAt (a v : Nat) : (s.add64 a v).powerGoodAt = s.powerGoodAt := rfl
@[simp] theorem State.add64_calRaw (a v : Nat) : (s.add64 a v).calRaw = s.calRaw := rfl
@[simp] theorem State.add64_calAcc (a v : Nat) : (s.add64 a v).calAcc = s.calAcc := rfl
@[simp] theorem State.add64_disciplineAt (a v : Nat) : (s.add64 a v).disciplineAt = s.disciplineAt := rfl
@[simp] theorem State.add64_angle (a v : Nat) : (s.add64 a v).angle = s.angle := rfl
@[simp] theorem State.add64_alarmAt (a v : Nat) : (s.add64 a v).alarmAt = s.alarmAt := rfl
@[simp] theorem State.add64_alarmLate (a v : Nat) : (s.add64 a v).alarmLate = s.alarmLate := rfl
@[simp] theorem State.add64_alarmFired (a v : Nat) : (s.add64 a v).alarmFired = s.alarmFired := rfl
@[simp] theorem State.add64_snapArmed (a v : Nat) : (s.add64 a v).snapArmed = s.snapArmed := rfl
@[simp] theorem State.add64_relocking (a v : Nat) : (s.add64 a v).relocking = s.relocking := rfl
@[simp] theorem State.add64_lossAt (a v : Nat) : (s.add64 a v).lossAt = s.lossAt := rfl
@[simp] theorem State.add64_sqs (a v : Nat) : (s.add64 a v).sqs = s.sqs := rfl
@[simp] theorem State.add64_cqs (a v : Nat) : (s.add64 a v).cqs = s.cqs := rfl
@[simp] theorem State.add64_nextUid (a v : Nat) : (s.add64 a v).nextUid = s.nextUid := rfl
@[simp] theorem State.add64_busMaster (a v : Nat) : (s.add64 a v).busMaster = s.busMaster := rfl
@[simp] theorem State.add64_perst (a v : Nat) : (s.add64 a v).perst = s.perst := rfl
@[simp] theorem State.add64_posted (a v : Nat) : (s.add64 a v).posted = s.posted := rfl
@[simp] theorem State.add64_holding (a v : Nat) : (s.add64 a v).holding = s.holding := rfl
@[simp] theorem State.add64_holdHits (a v : Nat) : (s.add64 a v).holdHits = s.holdHits := rfl
@[simp] theorem State.add64_dmaStopped (a v : Nat) : (s.add64 a v).dmaStopped = s.dmaStopped := rfl
@[simp] theorem State.add64_gang (a v : Nat) : (s.add64 a v).gang = s.gang := rfl
@[simp] theorem State.add64_shots (a v : Nat) : (s.add64 a v).shots = s.shots := rfl
@[simp] theorem State.add64_works (a v : Nat) : (s.add64 a v).works = s.works := rfl
@[simp] theorem State.add64_wins (a v : Nat) : (s.add64 a v).wins = s.wins := rfl
@[simp] theorem State.add64_streams (a v : Nat) : (s.add64 a v).streams = s.streams := rfl
@[simp] theorem State.add64_engines (a v : Nat) : (s.add64 a v).engines = s.engines := rfl
@[simp] theorem State.add64_micro (a v : Nat) : (s.add64 a v).micro = s.micro := rfl
@[simp] theorem State.add64_nano (a v : Nat) : (s.add64 a v).nano = s.nano := rfl
@[simp] theorem State.add64_nanoRes (a v : Nat) : (s.add64 a v).nanoRes = s.nanoRes := rfl
@[simp] theorem State.add64_cache (a v : Nat) : (s.add64 a v).cache = s.cache := rfl
@[simp] theorem State.add64_commanded (a v : Nat) : (s.add64 a v).commanded = s.commanded := rfl
@[simp] theorem State.add64_ports (a v : Nat) : (s.add64 a v).ports = s.ports := rfl
@[simp] theorem State.add64_slots (a v : Nat) : (s.add64 a v).slots = s.slots := rfl
@[simp] theorem State.add64_slotWrites (a v : Nat) : (s.add64 a v).slotWrites = s.slotWrites := rfl
@[simp] theorem State.add64_frames (a v : Nat) : (s.add64 a v).frames = s.frames := rfl
@[simp] theorem State.add64_mrk (a v : Nat) : (s.add64 a v).mrk = s.mrk := rfl
@[simp] theorem State.add64_mrkMute (a v : Nat) : (s.add64 a v).mrkMute = s.mrkMute := rfl
@[simp] theorem State.add64_lines (a v : Nat) : (s.add64 a v).lines = s.lines := rfl
@[simp] theorem State.add64_interp (a v : Nat) : (s.add64 a v).interp = s.interp := rfl
@[simp] theorem State.add64_interpPend (a v : Nat) : (s.add64 a v).interpPend = s.interpPend := rfl
@[simp] theorem State.add64_flat (a v : Nat) : (s.add64 a v).flat = s.flat := rfl
@[simp] theorem State.add64_synth (a v : Nat) : (s.add64 a v).synth = s.synth := rfl
@[simp] theorem State.add64_ffx (a v : Nat) : (s.add64 a v).ffx = s.ffx := rfl
@[simp] theorem State.add64_bia (a v : Nat) : (s.add64 a v).bia = s.bia := rfl
@[simp] theorem State.add64_clrNext (a v : Nat) : (s.add64 a v).clrNext = s.clrNext := rfl
@[simp] theorem State.add64_acqs (a v : Nat) : (s.add64 a v).acqs = s.acqs := rfl
@[simp] theorem State.add64_tones (a v : Nat) : (s.add64 a v).tones = s.tones := rfl
@[simp] theorem State.add64_feeds (a v : Nat) : (s.add64 a v).feeds = s.feeds := rfl
@[simp] theorem State.add64_rwins (a v : Nat) : (s.add64 a v).rwins = s.rwins := rfl
@[simp] theorem State.add64_traces (a v : Nat) : (s.add64 a v).traces = s.traces := rfl
@[simp] theorem State.add64_results (a v : Nat) : (s.add64 a v).results = s.results := rfl
@[simp] theorem State.add64_frameStamps (a v : Nat) : (s.add64 a v).frameStamps = s.frameStamps := rfl
@[simp] theorem State.add64_rsets (a v : Nat) : (s.add64 a v).rsets = s.rsets := rfl
@[simp] theorem State.add64_mem (a v : Nat) : (s.add64 a v).mem = s.mem := rfl
@[simp] theorem State.add64_scrubPos (a v : Nat) : (s.add64 a v).scrubPos = s.scrubPos := rfl
@[simp] theorem State.add64_scrubPass (a v : Nat) : (s.add64 a v).scrubPass = s.scrubPass := rfl
@[simp] theorem State.add64_corrected (a v : Nat) : (s.add64 a v).corrected = s.corrected := rfl
@[simp] theorem State.add64_passCe (a v : Nat) : (s.add64 a v).passCe = s.passCe := rfl
@[simp] theorem State.add64_txQueue (a v : Nat) : (s.add64 a v).txQueue = s.txQueue := rfl
@[simp] theorem State.add64_rxHeld (a v : Nat) : (s.add64 a v).rxHeld = s.rxHeld := rfl
@[simp] theorem State.add64_routeSends (a v : Nat) : (s.add64 a v).routeSends = s.routeSends := rfl
@[simp] theorem State.add64_losses (a v : Nat) : (s.add64 a v).losses = s.losses := rfl
@[simp] theorem State.add64_lanes (a v : Nat) : (s.add64 a v).lanes = s.lanes := rfl
@[simp] theorem State.add64_lossNotices (a v : Nat) : (s.add64 a v).lossNotices = s.lossNotices := rfl
@[simp] theorem State.add64_dldSent (a v : Nat) : (s.add64 a v).dldSent = s.dldSent := rfl
@[simp] theorem State.add64_edgeAcceptedAt (a v : Nat) : (s.add64 a v).edgeAcceptedAt = s.edgeAcceptedAt := rfl
@[simp] theorem State.add64_epochOld (a v : Nat) : (s.add64 a v).epochOld = s.epochOld := rfl
@[simp] theorem State.add64_tdcs (a v : Nat) : (s.add64 a v).tdcs = s.tdcs := rfl
@[simp] theorem State.add64_snss (a v : Nat) : (s.add64 a v).snss = s.snss := rfl
@[simp] theorem State.add64_heaters (a v : Nat) : (s.add64 a v).heaters = s.heaters := rfl
@[simp] theorem State.add64_mon (a v : Nat) : (s.add64 a v).mon = s.mon := rfl
@[simp] theorem State.add64_curveShadow (a v : Nat) : (s.add64 a v).curveShadow = s.curveShadow := rfl
@[simp] theorem State.add64_curves (a v : Nat) : (s.add64 a v).curves = s.curves := rfl
@[simp] theorem State.add64_mbx (a v : Nat) : (s.add64 a v).mbx = s.mbx := rfl
@[simp] theorem State.add64_server (a v : Nat) : (s.add64 a v).server = s.server := rfl
@[simp] theorem State.add64_training (a v : Nat) : (s.add64 a v).training = s.training := rfl
@[simp] theorem State.add64_fwBank (a v : Nat) : (s.add64 a v).fwBank = s.fwBank := rfl
@[simp] theorem State.add64_fwBody (a v : Nat) : (s.add64 a v).fwBody = s.fwBody := rfl
@[simp] theorem State.add64_calBank (a v : Nat) : (s.add64 a v).calBank = s.calBank := rfl
@[simp] theorem State.add64_calBody (a v : Nat) : (s.add64 a v).calBody = s.calBody := rfl
@[simp] theorem State.add64_curveBank (a v : Nat) : (s.add64 a v).curveBank = s.curveBank := rfl
@[simp] theorem State.add64_curveBody (a v : Nat) : (s.add64 a v).curveBody = s.curveBody := rfl
@[simp] theorem State.add64_tripLog (a v : Nat) : (s.add64 a v).tripLog = s.tripLog := rfl
@[simp] theorem State.add64_tripOwed (a v : Nat) : (s.add64 a v).tripOwed = s.tripOwed := rfl
@[simp] theorem State.add64_routine (a v : Nat) : (s.add64 a v).routine = s.routine := rfl
@[simp] theorem State.add64_dip (a v : Nat) : (s.add64 a v).dip = s.dip := rfl
@[simp] theorem State.add64_trippedAt (a v : Nat) : (s.add64 a v).trippedAt = s.trippedAt := rfl
@[simp] theorem State.add64_window (a v : Nat) : (s.add64 a v).window = s.window := rfl
@[simp] theorem State.add64_thm (a v : Nat) : (s.add64 a v).thm = s.thm := rfl
@[simp] theorem State.add64_peffWas (a v : Nat) : (s.add64 a v).peffWas = s.peffWas := rfl
@[simp] theorem State.add64_calVref (a v : Nat) : (s.add64 a v).calVref = s.calVref := rfl
@[simp] theorem State.add64_flatPend (a v : Nat) : (s.add64 a v).flatPend = s.flatPend := rfl

/-! ### setSq -/

@[simp] theorem State.setSq_pending (n : Nat) (q : Sq) : (s.setSq n q).pending = s.pending := rfl
@[simp] theorem State.setSq_part (n : Nat) (q : Sq) : (s.setSq n q).part = s.part := rfl
@[simp] theorem State.setSq_ref10M (n : Nat) (q : Sq) : (s.setSq n q).ref10M = s.ref10M := rfl
@[simp] theorem State.setSq_serial (n : Nat) (q : Sq) : (s.setSq n q).serial = s.serial := rfl
@[simp] theorem State.setSq_now (n : Nat) (q : Sq) : (s.setSq n q).now = s.now := rfl
@[simp] theorem State.setSq_epoch (n : Nat) (q : Sq) : (s.setSq n q).epoch = s.epoch := rfl
@[simp] theorem State.setSq_epochOn (n : Nat) (q : Sq) : (s.setSq n q).epochOn = s.epochOn := rfl
@[simp] theorem State.setSq_freeCtr (n : Nat) (q : Sq) : (s.setSq n q).freeCtr = s.freeCtr := rfl
@[simp] theorem State.setSq_regs (n : Nat) (q : Sq) : (s.setSq n q).regs = s.regs := rfl
@[simp] theorem State.setSq_lastRead (n : Nat) (q : Sq) : (s.setSq n q).lastRead = s.lastRead := rfl
@[simp] theorem State.setSq_readShadow (n : Nat) (q : Sq) : (s.setSq n q).readShadow = s.readShadow := rfl
@[simp] theorem State.setSq_writeShadow (n : Nat) (q : Sq) : (s.setSq n q).writeShadow = s.writeShadow := rfl
@[simp] theorem State.setSq_rsetSel (n : Nat) (q : Sq) : (s.setSq n q).rsetSel = s.rsetSel := rfl
@[simp] theorem State.setSq_mode (n : Nat) (q : Sq) : (s.setSq n q).mode = s.mode := rfl
@[simp] theorem State.setSq_transition (n : Nat) (q : Sq) : (s.setSq n q).transition = s.transition := rfl
@[simp] theorem State.setSq_powerGoodAt (n : Nat) (q : Sq) : (s.setSq n q).powerGoodAt = s.powerGoodAt := rfl
@[simp] theorem State.setSq_calRaw (n : Nat) (q : Sq) : (s.setSq n q).calRaw = s.calRaw := rfl
@[simp] theorem State.setSq_calAcc (n : Nat) (q : Sq) : (s.setSq n q).calAcc = s.calAcc := rfl
@[simp] theorem State.setSq_disciplineAt (n : Nat) (q : Sq) : (s.setSq n q).disciplineAt = s.disciplineAt := rfl
@[simp] theorem State.setSq_angle (n : Nat) (q : Sq) : (s.setSq n q).angle = s.angle := rfl
@[simp] theorem State.setSq_alarmAt (n : Nat) (q : Sq) : (s.setSq n q).alarmAt = s.alarmAt := rfl
@[simp] theorem State.setSq_alarmLate (n : Nat) (q : Sq) : (s.setSq n q).alarmLate = s.alarmLate := rfl
@[simp] theorem State.setSq_alarmFired (n : Nat) (q : Sq) : (s.setSq n q).alarmFired = s.alarmFired := rfl
@[simp] theorem State.setSq_snapArmed (n : Nat) (q : Sq) : (s.setSq n q).snapArmed = s.snapArmed := rfl
@[simp] theorem State.setSq_relocking (n : Nat) (q : Sq) : (s.setSq n q).relocking = s.relocking := rfl
@[simp] theorem State.setSq_lossAt (n : Nat) (q : Sq) : (s.setSq n q).lossAt = s.lossAt := rfl
@[simp] theorem State.setSq_cqs (n : Nat) (q : Sq) : (s.setSq n q).cqs = s.cqs := rfl
@[simp] theorem State.setSq_nextUid (n : Nat) (q : Sq) : (s.setSq n q).nextUid = s.nextUid := rfl
@[simp] theorem State.setSq_busMaster (n : Nat) (q : Sq) : (s.setSq n q).busMaster = s.busMaster := rfl
@[simp] theorem State.setSq_perst (n : Nat) (q : Sq) : (s.setSq n q).perst = s.perst := rfl
@[simp] theorem State.setSq_posted (n : Nat) (q : Sq) : (s.setSq n q).posted = s.posted := rfl
@[simp] theorem State.setSq_holding (n : Nat) (q : Sq) : (s.setSq n q).holding = s.holding := rfl
@[simp] theorem State.setSq_holdHits (n : Nat) (q : Sq) : (s.setSq n q).holdHits = s.holdHits := rfl
@[simp] theorem State.setSq_dmaStopped (n : Nat) (q : Sq) : (s.setSq n q).dmaStopped = s.dmaStopped := rfl
@[simp] theorem State.setSq_gang (n : Nat) (q : Sq) : (s.setSq n q).gang = s.gang := rfl
@[simp] theorem State.setSq_shots (n : Nat) (q : Sq) : (s.setSq n q).shots = s.shots := rfl
@[simp] theorem State.setSq_works (n : Nat) (q : Sq) : (s.setSq n q).works = s.works := rfl
@[simp] theorem State.setSq_wins (n : Nat) (q : Sq) : (s.setSq n q).wins = s.wins := rfl
@[simp] theorem State.setSq_streams (n : Nat) (q : Sq) : (s.setSq n q).streams = s.streams := rfl
@[simp] theorem State.setSq_engines (n : Nat) (q : Sq) : (s.setSq n q).engines = s.engines := rfl
@[simp] theorem State.setSq_micro (n : Nat) (q : Sq) : (s.setSq n q).micro = s.micro := rfl
@[simp] theorem State.setSq_nano (n : Nat) (q : Sq) : (s.setSq n q).nano = s.nano := rfl
@[simp] theorem State.setSq_nanoRes (n : Nat) (q : Sq) : (s.setSq n q).nanoRes = s.nanoRes := rfl
@[simp] theorem State.setSq_cache (n : Nat) (q : Sq) : (s.setSq n q).cache = s.cache := rfl
@[simp] theorem State.setSq_commanded (n : Nat) (q : Sq) : (s.setSq n q).commanded = s.commanded := rfl
@[simp] theorem State.setSq_ports (n : Nat) (q : Sq) : (s.setSq n q).ports = s.ports := rfl
@[simp] theorem State.setSq_slots (n : Nat) (q : Sq) : (s.setSq n q).slots = s.slots := rfl
@[simp] theorem State.setSq_slotWrites (n : Nat) (q : Sq) : (s.setSq n q).slotWrites = s.slotWrites := rfl
@[simp] theorem State.setSq_frames (n : Nat) (q : Sq) : (s.setSq n q).frames = s.frames := rfl
@[simp] theorem State.setSq_mrk (n : Nat) (q : Sq) : (s.setSq n q).mrk = s.mrk := rfl
@[simp] theorem State.setSq_mrkMute (n : Nat) (q : Sq) : (s.setSq n q).mrkMute = s.mrkMute := rfl
@[simp] theorem State.setSq_lines (n : Nat) (q : Sq) : (s.setSq n q).lines = s.lines := rfl
@[simp] theorem State.setSq_interp (n : Nat) (q : Sq) : (s.setSq n q).interp = s.interp := rfl
@[simp] theorem State.setSq_interpPend (n : Nat) (q : Sq) : (s.setSq n q).interpPend = s.interpPend := rfl
@[simp] theorem State.setSq_flat (n : Nat) (q : Sq) : (s.setSq n q).flat = s.flat := rfl
@[simp] theorem State.setSq_synth (n : Nat) (q : Sq) : (s.setSq n q).synth = s.synth := rfl
@[simp] theorem State.setSq_ffx (n : Nat) (q : Sq) : (s.setSq n q).ffx = s.ffx := rfl
@[simp] theorem State.setSq_bia (n : Nat) (q : Sq) : (s.setSq n q).bia = s.bia := rfl
@[simp] theorem State.setSq_clrNext (n : Nat) (q : Sq) : (s.setSq n q).clrNext = s.clrNext := rfl
@[simp] theorem State.setSq_acqs (n : Nat) (q : Sq) : (s.setSq n q).acqs = s.acqs := rfl
@[simp] theorem State.setSq_tones (n : Nat) (q : Sq) : (s.setSq n q).tones = s.tones := rfl
@[simp] theorem State.setSq_feeds (n : Nat) (q : Sq) : (s.setSq n q).feeds = s.feeds := rfl
@[simp] theorem State.setSq_rwins (n : Nat) (q : Sq) : (s.setSq n q).rwins = s.rwins := rfl
@[simp] theorem State.setSq_traces (n : Nat) (q : Sq) : (s.setSq n q).traces = s.traces := rfl
@[simp] theorem State.setSq_results (n : Nat) (q : Sq) : (s.setSq n q).results = s.results := rfl
@[simp] theorem State.setSq_frameStamps (n : Nat) (q : Sq) : (s.setSq n q).frameStamps = s.frameStamps := rfl
@[simp] theorem State.setSq_rsets (n : Nat) (q : Sq) : (s.setSq n q).rsets = s.rsets := rfl
@[simp] theorem State.setSq_mem (n : Nat) (q : Sq) : (s.setSq n q).mem = s.mem := rfl
@[simp] theorem State.setSq_scrubPos (n : Nat) (q : Sq) : (s.setSq n q).scrubPos = s.scrubPos := rfl
@[simp] theorem State.setSq_scrubPass (n : Nat) (q : Sq) : (s.setSq n q).scrubPass = s.scrubPass := rfl
@[simp] theorem State.setSq_corrected (n : Nat) (q : Sq) : (s.setSq n q).corrected = s.corrected := rfl
@[simp] theorem State.setSq_passCe (n : Nat) (q : Sq) : (s.setSq n q).passCe = s.passCe := rfl
@[simp] theorem State.setSq_txQueue (n : Nat) (q : Sq) : (s.setSq n q).txQueue = s.txQueue := rfl
@[simp] theorem State.setSq_rxHeld (n : Nat) (q : Sq) : (s.setSq n q).rxHeld = s.rxHeld := rfl
@[simp] theorem State.setSq_routeSends (n : Nat) (q : Sq) : (s.setSq n q).routeSends = s.routeSends := rfl
@[simp] theorem State.setSq_losses (n : Nat) (q : Sq) : (s.setSq n q).losses = s.losses := rfl
@[simp] theorem State.setSq_lanes (n : Nat) (q : Sq) : (s.setSq n q).lanes = s.lanes := rfl
@[simp] theorem State.setSq_lossNotices (n : Nat) (q : Sq) : (s.setSq n q).lossNotices = s.lossNotices := rfl
@[simp] theorem State.setSq_dldSent (n : Nat) (q : Sq) : (s.setSq n q).dldSent = s.dldSent := rfl
@[simp] theorem State.setSq_edgeAcceptedAt (n : Nat) (q : Sq) : (s.setSq n q).edgeAcceptedAt = s.edgeAcceptedAt := rfl
@[simp] theorem State.setSq_epochOld (n : Nat) (q : Sq) : (s.setSq n q).epochOld = s.epochOld := rfl
@[simp] theorem State.setSq_tdcs (n : Nat) (q : Sq) : (s.setSq n q).tdcs = s.tdcs := rfl
@[simp] theorem State.setSq_snss (n : Nat) (q : Sq) : (s.setSq n q).snss = s.snss := rfl
@[simp] theorem State.setSq_heaters (n : Nat) (q : Sq) : (s.setSq n q).heaters = s.heaters := rfl
@[simp] theorem State.setSq_mon (n : Nat) (q : Sq) : (s.setSq n q).mon = s.mon := rfl
@[simp] theorem State.setSq_curveShadow (n : Nat) (q : Sq) : (s.setSq n q).curveShadow = s.curveShadow := rfl
@[simp] theorem State.setSq_curves (n : Nat) (q : Sq) : (s.setSq n q).curves = s.curves := rfl
@[simp] theorem State.setSq_mbx (n : Nat) (q : Sq) : (s.setSq n q).mbx = s.mbx := rfl
@[simp] theorem State.setSq_server (n : Nat) (q : Sq) : (s.setSq n q).server = s.server := rfl
@[simp] theorem State.setSq_training (n : Nat) (q : Sq) : (s.setSq n q).training = s.training := rfl
@[simp] theorem State.setSq_fwBank (n : Nat) (q : Sq) : (s.setSq n q).fwBank = s.fwBank := rfl
@[simp] theorem State.setSq_fwBody (n : Nat) (q : Sq) : (s.setSq n q).fwBody = s.fwBody := rfl
@[simp] theorem State.setSq_calBank (n : Nat) (q : Sq) : (s.setSq n q).calBank = s.calBank := rfl
@[simp] theorem State.setSq_calBody (n : Nat) (q : Sq) : (s.setSq n q).calBody = s.calBody := rfl
@[simp] theorem State.setSq_curveBank (n : Nat) (q : Sq) : (s.setSq n q).curveBank = s.curveBank := rfl
@[simp] theorem State.setSq_curveBody (n : Nat) (q : Sq) : (s.setSq n q).curveBody = s.curveBody := rfl
@[simp] theorem State.setSq_tripLog (n : Nat) (q : Sq) : (s.setSq n q).tripLog = s.tripLog := rfl
@[simp] theorem State.setSq_tripOwed (n : Nat) (q : Sq) : (s.setSq n q).tripOwed = s.tripOwed := rfl
@[simp] theorem State.setSq_routine (n : Nat) (q : Sq) : (s.setSq n q).routine = s.routine := rfl
@[simp] theorem State.setSq_dip (n : Nat) (q : Sq) : (s.setSq n q).dip = s.dip := rfl
@[simp] theorem State.setSq_trippedAt (n : Nat) (q : Sq) : (s.setSq n q).trippedAt = s.trippedAt := rfl
@[simp] theorem State.setSq_window (n : Nat) (q : Sq) : (s.setSq n q).window = s.window := rfl
@[simp] theorem State.setSq_thm (n : Nat) (q : Sq) : (s.setSq n q).thm = s.thm := rfl
@[simp] theorem State.setSq_peffWas (n : Nat) (q : Sq) : (s.setSq n q).peffWas = s.peffWas := rfl
@[simp] theorem State.setSq_calVref (n : Nat) (q : Sq) : (s.setSq n q).calVref = s.calVref := rfl
@[simp] theorem State.setSq_flatPend (n : Nat) (q : Sq) : (s.setSq n q).flatPend = s.flatPend := rfl
@[simp] theorem State.rd_setSq (n : Nat) (q : Sq) (i : Nat) : (s.setSq n q).rd i = s.rd i := rfl
@[simp] theorem State.get_setSq (n : Nat) (q : Sq) (g : Fld) : (s.setSq n q).get g = s.get g := rfl
@[simp] theorem State.get64_setSq (n : Nat) (q : Sq) (i : Nat) : (s.setSq n q).get64 i = s.get64 i := rfl
@[simp] theorem State.sq_setSq (n : Nat) (q : Sq) : (s.setSq n q).sq n = q := Table.get_set_same ..

/-! ### setCq -/

@[simp] theorem State.setCq_pending (n : Nat) (q : Cq) : (s.setCq n q).pending = s.pending := rfl
@[simp] theorem State.setCq_part (n : Nat) (q : Cq) : (s.setCq n q).part = s.part := rfl
@[simp] theorem State.setCq_ref10M (n : Nat) (q : Cq) : (s.setCq n q).ref10M = s.ref10M := rfl
@[simp] theorem State.setCq_serial (n : Nat) (q : Cq) : (s.setCq n q).serial = s.serial := rfl
@[simp] theorem State.setCq_now (n : Nat) (q : Cq) : (s.setCq n q).now = s.now := rfl
@[simp] theorem State.setCq_epoch (n : Nat) (q : Cq) : (s.setCq n q).epoch = s.epoch := rfl
@[simp] theorem State.setCq_epochOn (n : Nat) (q : Cq) : (s.setCq n q).epochOn = s.epochOn := rfl
@[simp] theorem State.setCq_freeCtr (n : Nat) (q : Cq) : (s.setCq n q).freeCtr = s.freeCtr := rfl
@[simp] theorem State.setCq_regs (n : Nat) (q : Cq) : (s.setCq n q).regs = s.regs := rfl
@[simp] theorem State.setCq_lastRead (n : Nat) (q : Cq) : (s.setCq n q).lastRead = s.lastRead := rfl
@[simp] theorem State.setCq_readShadow (n : Nat) (q : Cq) : (s.setCq n q).readShadow = s.readShadow := rfl
@[simp] theorem State.setCq_writeShadow (n : Nat) (q : Cq) : (s.setCq n q).writeShadow = s.writeShadow := rfl
@[simp] theorem State.setCq_rsetSel (n : Nat) (q : Cq) : (s.setCq n q).rsetSel = s.rsetSel := rfl
@[simp] theorem State.setCq_mode (n : Nat) (q : Cq) : (s.setCq n q).mode = s.mode := rfl
@[simp] theorem State.setCq_transition (n : Nat) (q : Cq) : (s.setCq n q).transition = s.transition := rfl
@[simp] theorem State.setCq_powerGoodAt (n : Nat) (q : Cq) : (s.setCq n q).powerGoodAt = s.powerGoodAt := rfl
@[simp] theorem State.setCq_calRaw (n : Nat) (q : Cq) : (s.setCq n q).calRaw = s.calRaw := rfl
@[simp] theorem State.setCq_calAcc (n : Nat) (q : Cq) : (s.setCq n q).calAcc = s.calAcc := rfl
@[simp] theorem State.setCq_disciplineAt (n : Nat) (q : Cq) : (s.setCq n q).disciplineAt = s.disciplineAt := rfl
@[simp] theorem State.setCq_angle (n : Nat) (q : Cq) : (s.setCq n q).angle = s.angle := rfl
@[simp] theorem State.setCq_alarmAt (n : Nat) (q : Cq) : (s.setCq n q).alarmAt = s.alarmAt := rfl
@[simp] theorem State.setCq_alarmLate (n : Nat) (q : Cq) : (s.setCq n q).alarmLate = s.alarmLate := rfl
@[simp] theorem State.setCq_alarmFired (n : Nat) (q : Cq) : (s.setCq n q).alarmFired = s.alarmFired := rfl
@[simp] theorem State.setCq_snapArmed (n : Nat) (q : Cq) : (s.setCq n q).snapArmed = s.snapArmed := rfl
@[simp] theorem State.setCq_relocking (n : Nat) (q : Cq) : (s.setCq n q).relocking = s.relocking := rfl
@[simp] theorem State.setCq_lossAt (n : Nat) (q : Cq) : (s.setCq n q).lossAt = s.lossAt := rfl
@[simp] theorem State.setCq_sqs (n : Nat) (q : Cq) : (s.setCq n q).sqs = s.sqs := rfl
@[simp] theorem State.setCq_nextUid (n : Nat) (q : Cq) : (s.setCq n q).nextUid = s.nextUid := rfl
@[simp] theorem State.setCq_busMaster (n : Nat) (q : Cq) : (s.setCq n q).busMaster = s.busMaster := rfl
@[simp] theorem State.setCq_perst (n : Nat) (q : Cq) : (s.setCq n q).perst = s.perst := rfl
@[simp] theorem State.setCq_posted (n : Nat) (q : Cq) : (s.setCq n q).posted = s.posted := rfl
@[simp] theorem State.setCq_holding (n : Nat) (q : Cq) : (s.setCq n q).holding = s.holding := rfl
@[simp] theorem State.setCq_holdHits (n : Nat) (q : Cq) : (s.setCq n q).holdHits = s.holdHits := rfl
@[simp] theorem State.setCq_dmaStopped (n : Nat) (q : Cq) : (s.setCq n q).dmaStopped = s.dmaStopped := rfl
@[simp] theorem State.setCq_gang (n : Nat) (q : Cq) : (s.setCq n q).gang = s.gang := rfl
@[simp] theorem State.setCq_shots (n : Nat) (q : Cq) : (s.setCq n q).shots = s.shots := rfl
@[simp] theorem State.setCq_works (n : Nat) (q : Cq) : (s.setCq n q).works = s.works := rfl
@[simp] theorem State.setCq_wins (n : Nat) (q : Cq) : (s.setCq n q).wins = s.wins := rfl
@[simp] theorem State.setCq_streams (n : Nat) (q : Cq) : (s.setCq n q).streams = s.streams := rfl
@[simp] theorem State.setCq_engines (n : Nat) (q : Cq) : (s.setCq n q).engines = s.engines := rfl
@[simp] theorem State.setCq_micro (n : Nat) (q : Cq) : (s.setCq n q).micro = s.micro := rfl
@[simp] theorem State.setCq_nano (n : Nat) (q : Cq) : (s.setCq n q).nano = s.nano := rfl
@[simp] theorem State.setCq_nanoRes (n : Nat) (q : Cq) : (s.setCq n q).nanoRes = s.nanoRes := rfl
@[simp] theorem State.setCq_cache (n : Nat) (q : Cq) : (s.setCq n q).cache = s.cache := rfl
@[simp] theorem State.setCq_commanded (n : Nat) (q : Cq) : (s.setCq n q).commanded = s.commanded := rfl
@[simp] theorem State.setCq_ports (n : Nat) (q : Cq) : (s.setCq n q).ports = s.ports := rfl
@[simp] theorem State.setCq_slots (n : Nat) (q : Cq) : (s.setCq n q).slots = s.slots := rfl
@[simp] theorem State.setCq_slotWrites (n : Nat) (q : Cq) : (s.setCq n q).slotWrites = s.slotWrites := rfl
@[simp] theorem State.setCq_frames (n : Nat) (q : Cq) : (s.setCq n q).frames = s.frames := rfl
@[simp] theorem State.setCq_mrk (n : Nat) (q : Cq) : (s.setCq n q).mrk = s.mrk := rfl
@[simp] theorem State.setCq_mrkMute (n : Nat) (q : Cq) : (s.setCq n q).mrkMute = s.mrkMute := rfl
@[simp] theorem State.setCq_lines (n : Nat) (q : Cq) : (s.setCq n q).lines = s.lines := rfl
@[simp] theorem State.setCq_interp (n : Nat) (q : Cq) : (s.setCq n q).interp = s.interp := rfl
@[simp] theorem State.setCq_interpPend (n : Nat) (q : Cq) : (s.setCq n q).interpPend = s.interpPend := rfl
@[simp] theorem State.setCq_flat (n : Nat) (q : Cq) : (s.setCq n q).flat = s.flat := rfl
@[simp] theorem State.setCq_synth (n : Nat) (q : Cq) : (s.setCq n q).synth = s.synth := rfl
@[simp] theorem State.setCq_ffx (n : Nat) (q : Cq) : (s.setCq n q).ffx = s.ffx := rfl
@[simp] theorem State.setCq_bia (n : Nat) (q : Cq) : (s.setCq n q).bia = s.bia := rfl
@[simp] theorem State.setCq_clrNext (n : Nat) (q : Cq) : (s.setCq n q).clrNext = s.clrNext := rfl
@[simp] theorem State.setCq_acqs (n : Nat) (q : Cq) : (s.setCq n q).acqs = s.acqs := rfl
@[simp] theorem State.setCq_tones (n : Nat) (q : Cq) : (s.setCq n q).tones = s.tones := rfl
@[simp] theorem State.setCq_feeds (n : Nat) (q : Cq) : (s.setCq n q).feeds = s.feeds := rfl
@[simp] theorem State.setCq_rwins (n : Nat) (q : Cq) : (s.setCq n q).rwins = s.rwins := rfl
@[simp] theorem State.setCq_traces (n : Nat) (q : Cq) : (s.setCq n q).traces = s.traces := rfl
@[simp] theorem State.setCq_results (n : Nat) (q : Cq) : (s.setCq n q).results = s.results := rfl
@[simp] theorem State.setCq_frameStamps (n : Nat) (q : Cq) : (s.setCq n q).frameStamps = s.frameStamps := rfl
@[simp] theorem State.setCq_rsets (n : Nat) (q : Cq) : (s.setCq n q).rsets = s.rsets := rfl
@[simp] theorem State.setCq_mem (n : Nat) (q : Cq) : (s.setCq n q).mem = s.mem := rfl
@[simp] theorem State.setCq_scrubPos (n : Nat) (q : Cq) : (s.setCq n q).scrubPos = s.scrubPos := rfl
@[simp] theorem State.setCq_scrubPass (n : Nat) (q : Cq) : (s.setCq n q).scrubPass = s.scrubPass := rfl
@[simp] theorem State.setCq_corrected (n : Nat) (q : Cq) : (s.setCq n q).corrected = s.corrected := rfl
@[simp] theorem State.setCq_passCe (n : Nat) (q : Cq) : (s.setCq n q).passCe = s.passCe := rfl
@[simp] theorem State.setCq_txQueue (n : Nat) (q : Cq) : (s.setCq n q).txQueue = s.txQueue := rfl
@[simp] theorem State.setCq_rxHeld (n : Nat) (q : Cq) : (s.setCq n q).rxHeld = s.rxHeld := rfl
@[simp] theorem State.setCq_routeSends (n : Nat) (q : Cq) : (s.setCq n q).routeSends = s.routeSends := rfl
@[simp] theorem State.setCq_losses (n : Nat) (q : Cq) : (s.setCq n q).losses = s.losses := rfl
@[simp] theorem State.setCq_lanes (n : Nat) (q : Cq) : (s.setCq n q).lanes = s.lanes := rfl
@[simp] theorem State.setCq_lossNotices (n : Nat) (q : Cq) : (s.setCq n q).lossNotices = s.lossNotices := rfl
@[simp] theorem State.setCq_dldSent (n : Nat) (q : Cq) : (s.setCq n q).dldSent = s.dldSent := rfl
@[simp] theorem State.setCq_edgeAcceptedAt (n : Nat) (q : Cq) : (s.setCq n q).edgeAcceptedAt = s.edgeAcceptedAt := rfl
@[simp] theorem State.setCq_epochOld (n : Nat) (q : Cq) : (s.setCq n q).epochOld = s.epochOld := rfl
@[simp] theorem State.setCq_tdcs (n : Nat) (q : Cq) : (s.setCq n q).tdcs = s.tdcs := rfl
@[simp] theorem State.setCq_snss (n : Nat) (q : Cq) : (s.setCq n q).snss = s.snss := rfl
@[simp] theorem State.setCq_heaters (n : Nat) (q : Cq) : (s.setCq n q).heaters = s.heaters := rfl
@[simp] theorem State.setCq_mon (n : Nat) (q : Cq) : (s.setCq n q).mon = s.mon := rfl
@[simp] theorem State.setCq_curveShadow (n : Nat) (q : Cq) : (s.setCq n q).curveShadow = s.curveShadow := rfl
@[simp] theorem State.setCq_curves (n : Nat) (q : Cq) : (s.setCq n q).curves = s.curves := rfl
@[simp] theorem State.setCq_mbx (n : Nat) (q : Cq) : (s.setCq n q).mbx = s.mbx := rfl
@[simp] theorem State.setCq_server (n : Nat) (q : Cq) : (s.setCq n q).server = s.server := rfl
@[simp] theorem State.setCq_training (n : Nat) (q : Cq) : (s.setCq n q).training = s.training := rfl
@[simp] theorem State.setCq_fwBank (n : Nat) (q : Cq) : (s.setCq n q).fwBank = s.fwBank := rfl
@[simp] theorem State.setCq_fwBody (n : Nat) (q : Cq) : (s.setCq n q).fwBody = s.fwBody := rfl
@[simp] theorem State.setCq_calBank (n : Nat) (q : Cq) : (s.setCq n q).calBank = s.calBank := rfl
@[simp] theorem State.setCq_calBody (n : Nat) (q : Cq) : (s.setCq n q).calBody = s.calBody := rfl
@[simp] theorem State.setCq_curveBank (n : Nat) (q : Cq) : (s.setCq n q).curveBank = s.curveBank := rfl
@[simp] theorem State.setCq_curveBody (n : Nat) (q : Cq) : (s.setCq n q).curveBody = s.curveBody := rfl
@[simp] theorem State.setCq_tripLog (n : Nat) (q : Cq) : (s.setCq n q).tripLog = s.tripLog := rfl
@[simp] theorem State.setCq_tripOwed (n : Nat) (q : Cq) : (s.setCq n q).tripOwed = s.tripOwed := rfl
@[simp] theorem State.setCq_routine (n : Nat) (q : Cq) : (s.setCq n q).routine = s.routine := rfl
@[simp] theorem State.setCq_dip (n : Nat) (q : Cq) : (s.setCq n q).dip = s.dip := rfl
@[simp] theorem State.setCq_trippedAt (n : Nat) (q : Cq) : (s.setCq n q).trippedAt = s.trippedAt := rfl
@[simp] theorem State.setCq_window (n : Nat) (q : Cq) : (s.setCq n q).window = s.window := rfl
@[simp] theorem State.setCq_thm (n : Nat) (q : Cq) : (s.setCq n q).thm = s.thm := rfl
@[simp] theorem State.setCq_peffWas (n : Nat) (q : Cq) : (s.setCq n q).peffWas = s.peffWas := rfl
@[simp] theorem State.setCq_calVref (n : Nat) (q : Cq) : (s.setCq n q).calVref = s.calVref := rfl
@[simp] theorem State.setCq_flatPend (n : Nat) (q : Cq) : (s.setCq n q).flatPend = s.flatPend := rfl
@[simp] theorem State.rd_setCq (n : Nat) (q : Cq) (i : Nat) : (s.setCq n q).rd i = s.rd i := rfl
@[simp] theorem State.get_setCq (n : Nat) (q : Cq) (g : Fld) : (s.setCq n q).get g = s.get g := rfl
@[simp] theorem State.get64_setCq (n : Nat) (q : Cq) (i : Nat) : (s.setCq n q).get64 i = s.get64 i := rfl
@[simp] theorem State.cq_setCq (n : Nat) (q : Cq) : (s.setCq n q).cq n = q := Table.get_set_same ..

/-! ### setPort -/

@[simp] theorem State.setPort_pending (r p : Nat) (x : Port) : (s.setPort r p x).pending = s.pending := rfl
@[simp] theorem State.setPort_part (r p : Nat) (x : Port) : (s.setPort r p x).part = s.part := rfl
@[simp] theorem State.setPort_ref10M (r p : Nat) (x : Port) : (s.setPort r p x).ref10M = s.ref10M := rfl
@[simp] theorem State.setPort_serial (r p : Nat) (x : Port) : (s.setPort r p x).serial = s.serial := rfl
@[simp] theorem State.setPort_now (r p : Nat) (x : Port) : (s.setPort r p x).now = s.now := rfl
@[simp] theorem State.setPort_epoch (r p : Nat) (x : Port) : (s.setPort r p x).epoch = s.epoch := rfl
@[simp] theorem State.setPort_epochOn (r p : Nat) (x : Port) : (s.setPort r p x).epochOn = s.epochOn := rfl
@[simp] theorem State.setPort_freeCtr (r p : Nat) (x : Port) : (s.setPort r p x).freeCtr = s.freeCtr := rfl
@[simp] theorem State.setPort_regs (r p : Nat) (x : Port) : (s.setPort r p x).regs = s.regs := rfl
@[simp] theorem State.setPort_lastRead (r p : Nat) (x : Port) : (s.setPort r p x).lastRead = s.lastRead := rfl
@[simp] theorem State.setPort_readShadow (r p : Nat) (x : Port) : (s.setPort r p x).readShadow = s.readShadow := rfl
@[simp] theorem State.setPort_writeShadow (r p : Nat) (x : Port) : (s.setPort r p x).writeShadow = s.writeShadow := rfl
@[simp] theorem State.setPort_rsetSel (r p : Nat) (x : Port) : (s.setPort r p x).rsetSel = s.rsetSel := rfl
@[simp] theorem State.setPort_mode (r p : Nat) (x : Port) : (s.setPort r p x).mode = s.mode := rfl
@[simp] theorem State.setPort_transition (r p : Nat) (x : Port) : (s.setPort r p x).transition = s.transition := rfl
@[simp] theorem State.setPort_powerGoodAt (r p : Nat) (x : Port) : (s.setPort r p x).powerGoodAt = s.powerGoodAt := rfl
@[simp] theorem State.setPort_calRaw (r p : Nat) (x : Port) : (s.setPort r p x).calRaw = s.calRaw := rfl
@[simp] theorem State.setPort_calAcc (r p : Nat) (x : Port) : (s.setPort r p x).calAcc = s.calAcc := rfl
@[simp] theorem State.setPort_disciplineAt (r p : Nat) (x : Port) : (s.setPort r p x).disciplineAt = s.disciplineAt := rfl
@[simp] theorem State.setPort_angle (r p : Nat) (x : Port) : (s.setPort r p x).angle = s.angle := rfl
@[simp] theorem State.setPort_alarmAt (r p : Nat) (x : Port) : (s.setPort r p x).alarmAt = s.alarmAt := rfl
@[simp] theorem State.setPort_alarmLate (r p : Nat) (x : Port) : (s.setPort r p x).alarmLate = s.alarmLate := rfl
@[simp] theorem State.setPort_alarmFired (r p : Nat) (x : Port) : (s.setPort r p x).alarmFired = s.alarmFired := rfl
@[simp] theorem State.setPort_snapArmed (r p : Nat) (x : Port) : (s.setPort r p x).snapArmed = s.snapArmed := rfl
@[simp] theorem State.setPort_relocking (r p : Nat) (x : Port) : (s.setPort r p x).relocking = s.relocking := rfl
@[simp] theorem State.setPort_lossAt (r p : Nat) (x : Port) : (s.setPort r p x).lossAt = s.lossAt := rfl
@[simp] theorem State.setPort_sqs (r p : Nat) (x : Port) : (s.setPort r p x).sqs = s.sqs := rfl
@[simp] theorem State.setPort_cqs (r p : Nat) (x : Port) : (s.setPort r p x).cqs = s.cqs := rfl
@[simp] theorem State.setPort_nextUid (r p : Nat) (x : Port) : (s.setPort r p x).nextUid = s.nextUid := rfl
@[simp] theorem State.setPort_busMaster (r p : Nat) (x : Port) : (s.setPort r p x).busMaster = s.busMaster := rfl
@[simp] theorem State.setPort_perst (r p : Nat) (x : Port) : (s.setPort r p x).perst = s.perst := rfl
@[simp] theorem State.setPort_posted (r p : Nat) (x : Port) : (s.setPort r p x).posted = s.posted := rfl
@[simp] theorem State.setPort_holding (r p : Nat) (x : Port) : (s.setPort r p x).holding = s.holding := rfl
@[simp] theorem State.setPort_holdHits (r p : Nat) (x : Port) : (s.setPort r p x).holdHits = s.holdHits := rfl
@[simp] theorem State.setPort_dmaStopped (r p : Nat) (x : Port) : (s.setPort r p x).dmaStopped = s.dmaStopped := rfl
@[simp] theorem State.setPort_gang (r p : Nat) (x : Port) : (s.setPort r p x).gang = s.gang := rfl
@[simp] theorem State.setPort_shots (r p : Nat) (x : Port) : (s.setPort r p x).shots = s.shots := rfl
@[simp] theorem State.setPort_works (r p : Nat) (x : Port) : (s.setPort r p x).works = s.works := rfl
@[simp] theorem State.setPort_wins (r p : Nat) (x : Port) : (s.setPort r p x).wins = s.wins := rfl
@[simp] theorem State.setPort_streams (r p : Nat) (x : Port) : (s.setPort r p x).streams = s.streams := rfl
@[simp] theorem State.setPort_engines (r p : Nat) (x : Port) : (s.setPort r p x).engines = s.engines := rfl
@[simp] theorem State.setPort_micro (r p : Nat) (x : Port) : (s.setPort r p x).micro = s.micro := rfl
@[simp] theorem State.setPort_nano (r p : Nat) (x : Port) : (s.setPort r p x).nano = s.nano := rfl
@[simp] theorem State.setPort_nanoRes (r p : Nat) (x : Port) : (s.setPort r p x).nanoRes = s.nanoRes := rfl
@[simp] theorem State.setPort_cache (r p : Nat) (x : Port) : (s.setPort r p x).cache = s.cache := rfl
@[simp] theorem State.setPort_commanded (r p : Nat) (x : Port) : (s.setPort r p x).commanded = s.commanded := rfl
@[simp] theorem State.setPort_slots (r p : Nat) (x : Port) : (s.setPort r p x).slots = s.slots := rfl
@[simp] theorem State.setPort_slotWrites (r p : Nat) (x : Port) : (s.setPort r p x).slotWrites = s.slotWrites := rfl
@[simp] theorem State.setPort_frames (r p : Nat) (x : Port) : (s.setPort r p x).frames = s.frames := rfl
@[simp] theorem State.setPort_mrk (r p : Nat) (x : Port) : (s.setPort r p x).mrk = s.mrk := rfl
@[simp] theorem State.setPort_mrkMute (r p : Nat) (x : Port) : (s.setPort r p x).mrkMute = s.mrkMute := rfl
@[simp] theorem State.setPort_lines (r p : Nat) (x : Port) : (s.setPort r p x).lines = s.lines := rfl
@[simp] theorem State.setPort_interp (r p : Nat) (x : Port) : (s.setPort r p x).interp = s.interp := rfl
@[simp] theorem State.setPort_interpPend (r p : Nat) (x : Port) : (s.setPort r p x).interpPend = s.interpPend := rfl
@[simp] theorem State.setPort_flat (r p : Nat) (x : Port) : (s.setPort r p x).flat = s.flat := rfl
@[simp] theorem State.setPort_synth (r p : Nat) (x : Port) : (s.setPort r p x).synth = s.synth := rfl
@[simp] theorem State.setPort_ffx (r p : Nat) (x : Port) : (s.setPort r p x).ffx = s.ffx := rfl
@[simp] theorem State.setPort_bia (r p : Nat) (x : Port) : (s.setPort r p x).bia = s.bia := rfl
@[simp] theorem State.setPort_clrNext (r p : Nat) (x : Port) : (s.setPort r p x).clrNext = s.clrNext := rfl
@[simp] theorem State.setPort_acqs (r p : Nat) (x : Port) : (s.setPort r p x).acqs = s.acqs := rfl
@[simp] theorem State.setPort_tones (r p : Nat) (x : Port) : (s.setPort r p x).tones = s.tones := rfl
@[simp] theorem State.setPort_feeds (r p : Nat) (x : Port) : (s.setPort r p x).feeds = s.feeds := rfl
@[simp] theorem State.setPort_rwins (r p : Nat) (x : Port) : (s.setPort r p x).rwins = s.rwins := rfl
@[simp] theorem State.setPort_traces (r p : Nat) (x : Port) : (s.setPort r p x).traces = s.traces := rfl
@[simp] theorem State.setPort_results (r p : Nat) (x : Port) : (s.setPort r p x).results = s.results := rfl
@[simp] theorem State.setPort_frameStamps (r p : Nat) (x : Port) : (s.setPort r p x).frameStamps = s.frameStamps := rfl
@[simp] theorem State.setPort_rsets (r p : Nat) (x : Port) : (s.setPort r p x).rsets = s.rsets := rfl
@[simp] theorem State.setPort_mem (r p : Nat) (x : Port) : (s.setPort r p x).mem = s.mem := rfl
@[simp] theorem State.setPort_scrubPos (r p : Nat) (x : Port) : (s.setPort r p x).scrubPos = s.scrubPos := rfl
@[simp] theorem State.setPort_scrubPass (r p : Nat) (x : Port) : (s.setPort r p x).scrubPass = s.scrubPass := rfl
@[simp] theorem State.setPort_corrected (r p : Nat) (x : Port) : (s.setPort r p x).corrected = s.corrected := rfl
@[simp] theorem State.setPort_passCe (r p : Nat) (x : Port) : (s.setPort r p x).passCe = s.passCe := rfl
@[simp] theorem State.setPort_txQueue (r p : Nat) (x : Port) : (s.setPort r p x).txQueue = s.txQueue := rfl
@[simp] theorem State.setPort_rxHeld (r p : Nat) (x : Port) : (s.setPort r p x).rxHeld = s.rxHeld := rfl
@[simp] theorem State.setPort_routeSends (r p : Nat) (x : Port) : (s.setPort r p x).routeSends = s.routeSends := rfl
@[simp] theorem State.setPort_losses (r p : Nat) (x : Port) : (s.setPort r p x).losses = s.losses := rfl
@[simp] theorem State.setPort_lanes (r p : Nat) (x : Port) : (s.setPort r p x).lanes = s.lanes := rfl
@[simp] theorem State.setPort_lossNotices (r p : Nat) (x : Port) : (s.setPort r p x).lossNotices = s.lossNotices := rfl
@[simp] theorem State.setPort_dldSent (r p : Nat) (x : Port) : (s.setPort r p x).dldSent = s.dldSent := rfl
@[simp] theorem State.setPort_edgeAcceptedAt (r p : Nat) (x : Port) : (s.setPort r p x).edgeAcceptedAt = s.edgeAcceptedAt := rfl
@[simp] theorem State.setPort_epochOld (r p : Nat) (x : Port) : (s.setPort r p x).epochOld = s.epochOld := rfl
@[simp] theorem State.setPort_tdcs (r p : Nat) (x : Port) : (s.setPort r p x).tdcs = s.tdcs := rfl
@[simp] theorem State.setPort_snss (r p : Nat) (x : Port) : (s.setPort r p x).snss = s.snss := rfl
@[simp] theorem State.setPort_heaters (r p : Nat) (x : Port) : (s.setPort r p x).heaters = s.heaters := rfl
@[simp] theorem State.setPort_mon (r p : Nat) (x : Port) : (s.setPort r p x).mon = s.mon := rfl
@[simp] theorem State.setPort_curveShadow (r p : Nat) (x : Port) : (s.setPort r p x).curveShadow = s.curveShadow := rfl
@[simp] theorem State.setPort_curves (r p : Nat) (x : Port) : (s.setPort r p x).curves = s.curves := rfl
@[simp] theorem State.setPort_mbx (r p : Nat) (x : Port) : (s.setPort r p x).mbx = s.mbx := rfl
@[simp] theorem State.setPort_server (r p : Nat) (x : Port) : (s.setPort r p x).server = s.server := rfl
@[simp] theorem State.setPort_training (r p : Nat) (x : Port) : (s.setPort r p x).training = s.training := rfl
@[simp] theorem State.setPort_fwBank (r p : Nat) (x : Port) : (s.setPort r p x).fwBank = s.fwBank := rfl
@[simp] theorem State.setPort_fwBody (r p : Nat) (x : Port) : (s.setPort r p x).fwBody = s.fwBody := rfl
@[simp] theorem State.setPort_calBank (r p : Nat) (x : Port) : (s.setPort r p x).calBank = s.calBank := rfl
@[simp] theorem State.setPort_calBody (r p : Nat) (x : Port) : (s.setPort r p x).calBody = s.calBody := rfl
@[simp] theorem State.setPort_curveBank (r p : Nat) (x : Port) : (s.setPort r p x).curveBank = s.curveBank := rfl
@[simp] theorem State.setPort_curveBody (r p : Nat) (x : Port) : (s.setPort r p x).curveBody = s.curveBody := rfl
@[simp] theorem State.setPort_tripLog (r p : Nat) (x : Port) : (s.setPort r p x).tripLog = s.tripLog := rfl
@[simp] theorem State.setPort_tripOwed (r p : Nat) (x : Port) : (s.setPort r p x).tripOwed = s.tripOwed := rfl
@[simp] theorem State.setPort_routine (r p : Nat) (x : Port) : (s.setPort r p x).routine = s.routine := rfl
@[simp] theorem State.setPort_dip (r p : Nat) (x : Port) : (s.setPort r p x).dip = s.dip := rfl
@[simp] theorem State.setPort_trippedAt (r p : Nat) (x : Port) : (s.setPort r p x).trippedAt = s.trippedAt := rfl
@[simp] theorem State.setPort_window (r p : Nat) (x : Port) : (s.setPort r p x).window = s.window := rfl
@[simp] theorem State.setPort_thm (r p : Nat) (x : Port) : (s.setPort r p x).thm = s.thm := rfl
@[simp] theorem State.setPort_peffWas (r p : Nat) (x : Port) : (s.setPort r p x).peffWas = s.peffWas := rfl
@[simp] theorem State.setPort_calVref (r p : Nat) (x : Port) : (s.setPort r p x).calVref = s.calVref := rfl
@[simp] theorem State.setPort_flatPend (r p : Nat) (x : Port) : (s.setPort r p x).flatPend = s.flatPend := rfl
@[simp] theorem State.rd_setPort (r p : Nat) (x : Port) (i : Nat) : (s.setPort r p x).rd i = s.rd i := rfl
@[simp] theorem State.get_setPort (r p : Nat) (x : Port) (g : Fld) : (s.setPort r p x).get g = s.get g := rfl
@[simp] theorem State.get64_setPort (r p : Nat) (x : Port) (i : Nat) : (s.setPort r p x).get64 i = s.get64 i := rfl
@[simp] theorem State.port_setPort (r p : Nat) (x : Port) : (s.setPort r p x).port r p = x := Table.get_set_same ..

/-! ### setSlot -/

@[simp] theorem State.setSlot_pending (r f : Nat) (x : Slot) : (s.setSlot r f x).pending = s.pending := rfl
@[simp] theorem State.setSlot_part (r f : Nat) (x : Slot) : (s.setSlot r f x).part = s.part := rfl
@[simp] theorem State.setSlot_ref10M (r f : Nat) (x : Slot) : (s.setSlot r f x).ref10M = s.ref10M := rfl
@[simp] theorem State.setSlot_serial (r f : Nat) (x : Slot) : (s.setSlot r f x).serial = s.serial := rfl
@[simp] theorem State.setSlot_now (r f : Nat) (x : Slot) : (s.setSlot r f x).now = s.now := rfl
@[simp] theorem State.setSlot_epoch (r f : Nat) (x : Slot) : (s.setSlot r f x).epoch = s.epoch := rfl
@[simp] theorem State.setSlot_epochOn (r f : Nat) (x : Slot) : (s.setSlot r f x).epochOn = s.epochOn := rfl
@[simp] theorem State.setSlot_freeCtr (r f : Nat) (x : Slot) : (s.setSlot r f x).freeCtr = s.freeCtr := rfl
@[simp] theorem State.setSlot_regs (r f : Nat) (x : Slot) : (s.setSlot r f x).regs = s.regs := rfl
@[simp] theorem State.setSlot_lastRead (r f : Nat) (x : Slot) : (s.setSlot r f x).lastRead = s.lastRead := rfl
@[simp] theorem State.setSlot_readShadow (r f : Nat) (x : Slot) : (s.setSlot r f x).readShadow = s.readShadow := rfl
@[simp] theorem State.setSlot_writeShadow (r f : Nat) (x : Slot) : (s.setSlot r f x).writeShadow = s.writeShadow := rfl
@[simp] theorem State.setSlot_rsetSel (r f : Nat) (x : Slot) : (s.setSlot r f x).rsetSel = s.rsetSel := rfl
@[simp] theorem State.setSlot_mode (r f : Nat) (x : Slot) : (s.setSlot r f x).mode = s.mode := rfl
@[simp] theorem State.setSlot_transition (r f : Nat) (x : Slot) : (s.setSlot r f x).transition = s.transition := rfl
@[simp] theorem State.setSlot_powerGoodAt (r f : Nat) (x : Slot) : (s.setSlot r f x).powerGoodAt = s.powerGoodAt := rfl
@[simp] theorem State.setSlot_calRaw (r f : Nat) (x : Slot) : (s.setSlot r f x).calRaw = s.calRaw := rfl
@[simp] theorem State.setSlot_calAcc (r f : Nat) (x : Slot) : (s.setSlot r f x).calAcc = s.calAcc := rfl
@[simp] theorem State.setSlot_disciplineAt (r f : Nat) (x : Slot) : (s.setSlot r f x).disciplineAt = s.disciplineAt := rfl
@[simp] theorem State.setSlot_angle (r f : Nat) (x : Slot) : (s.setSlot r f x).angle = s.angle := rfl
@[simp] theorem State.setSlot_alarmAt (r f : Nat) (x : Slot) : (s.setSlot r f x).alarmAt = s.alarmAt := rfl
@[simp] theorem State.setSlot_alarmLate (r f : Nat) (x : Slot) : (s.setSlot r f x).alarmLate = s.alarmLate := rfl
@[simp] theorem State.setSlot_alarmFired (r f : Nat) (x : Slot) : (s.setSlot r f x).alarmFired = s.alarmFired := rfl
@[simp] theorem State.setSlot_snapArmed (r f : Nat) (x : Slot) : (s.setSlot r f x).snapArmed = s.snapArmed := rfl
@[simp] theorem State.setSlot_relocking (r f : Nat) (x : Slot) : (s.setSlot r f x).relocking = s.relocking := rfl
@[simp] theorem State.setSlot_lossAt (r f : Nat) (x : Slot) : (s.setSlot r f x).lossAt = s.lossAt := rfl
@[simp] theorem State.setSlot_sqs (r f : Nat) (x : Slot) : (s.setSlot r f x).sqs = s.sqs := rfl
@[simp] theorem State.setSlot_cqs (r f : Nat) (x : Slot) : (s.setSlot r f x).cqs = s.cqs := rfl
@[simp] theorem State.setSlot_nextUid (r f : Nat) (x : Slot) : (s.setSlot r f x).nextUid = s.nextUid := rfl
@[simp] theorem State.setSlot_busMaster (r f : Nat) (x : Slot) : (s.setSlot r f x).busMaster = s.busMaster := rfl
@[simp] theorem State.setSlot_perst (r f : Nat) (x : Slot) : (s.setSlot r f x).perst = s.perst := rfl
@[simp] theorem State.setSlot_posted (r f : Nat) (x : Slot) : (s.setSlot r f x).posted = s.posted := rfl
@[simp] theorem State.setSlot_holding (r f : Nat) (x : Slot) : (s.setSlot r f x).holding = s.holding := rfl
@[simp] theorem State.setSlot_holdHits (r f : Nat) (x : Slot) : (s.setSlot r f x).holdHits = s.holdHits := rfl
@[simp] theorem State.setSlot_dmaStopped (r f : Nat) (x : Slot) : (s.setSlot r f x).dmaStopped = s.dmaStopped := rfl
@[simp] theorem State.setSlot_gang (r f : Nat) (x : Slot) : (s.setSlot r f x).gang = s.gang := rfl
@[simp] theorem State.setSlot_shots (r f : Nat) (x : Slot) : (s.setSlot r f x).shots = s.shots := rfl
@[simp] theorem State.setSlot_works (r f : Nat) (x : Slot) : (s.setSlot r f x).works = s.works := rfl
@[simp] theorem State.setSlot_wins (r f : Nat) (x : Slot) : (s.setSlot r f x).wins = s.wins := rfl
@[simp] theorem State.setSlot_streams (r f : Nat) (x : Slot) : (s.setSlot r f x).streams = s.streams := rfl
@[simp] theorem State.setSlot_engines (r f : Nat) (x : Slot) : (s.setSlot r f x).engines = s.engines := rfl
@[simp] theorem State.setSlot_micro (r f : Nat) (x : Slot) : (s.setSlot r f x).micro = s.micro := rfl
@[simp] theorem State.setSlot_nano (r f : Nat) (x : Slot) : (s.setSlot r f x).nano = s.nano := rfl
@[simp] theorem State.setSlot_nanoRes (r f : Nat) (x : Slot) : (s.setSlot r f x).nanoRes = s.nanoRes := rfl
@[simp] theorem State.setSlot_cache (r f : Nat) (x : Slot) : (s.setSlot r f x).cache = s.cache := rfl
@[simp] theorem State.setSlot_commanded (r f : Nat) (x : Slot) : (s.setSlot r f x).commanded = s.commanded := rfl
@[simp] theorem State.setSlot_ports (r f : Nat) (x : Slot) : (s.setSlot r f x).ports = s.ports := rfl
@[simp] theorem State.setSlot_slotWrites (r f : Nat) (x : Slot) : (s.setSlot r f x).slotWrites = s.slotWrites := rfl
@[simp] theorem State.setSlot_frames (r f : Nat) (x : Slot) : (s.setSlot r f x).frames = s.frames := rfl
@[simp] theorem State.setSlot_mrk (r f : Nat) (x : Slot) : (s.setSlot r f x).mrk = s.mrk := rfl
@[simp] theorem State.setSlot_mrkMute (r f : Nat) (x : Slot) : (s.setSlot r f x).mrkMute = s.mrkMute := rfl
@[simp] theorem State.setSlot_lines (r f : Nat) (x : Slot) : (s.setSlot r f x).lines = s.lines := rfl
@[simp] theorem State.setSlot_interp (r f : Nat) (x : Slot) : (s.setSlot r f x).interp = s.interp := rfl
@[simp] theorem State.setSlot_interpPend (r f : Nat) (x : Slot) : (s.setSlot r f x).interpPend = s.interpPend := rfl
@[simp] theorem State.setSlot_flat (r f : Nat) (x : Slot) : (s.setSlot r f x).flat = s.flat := rfl
@[simp] theorem State.setSlot_synth (r f : Nat) (x : Slot) : (s.setSlot r f x).synth = s.synth := rfl
@[simp] theorem State.setSlot_ffx (r f : Nat) (x : Slot) : (s.setSlot r f x).ffx = s.ffx := rfl
@[simp] theorem State.setSlot_bia (r f : Nat) (x : Slot) : (s.setSlot r f x).bia = s.bia := rfl
@[simp] theorem State.setSlot_clrNext (r f : Nat) (x : Slot) : (s.setSlot r f x).clrNext = s.clrNext := rfl
@[simp] theorem State.setSlot_acqs (r f : Nat) (x : Slot) : (s.setSlot r f x).acqs = s.acqs := rfl
@[simp] theorem State.setSlot_tones (r f : Nat) (x : Slot) : (s.setSlot r f x).tones = s.tones := rfl
@[simp] theorem State.setSlot_feeds (r f : Nat) (x : Slot) : (s.setSlot r f x).feeds = s.feeds := rfl
@[simp] theorem State.setSlot_rwins (r f : Nat) (x : Slot) : (s.setSlot r f x).rwins = s.rwins := rfl
@[simp] theorem State.setSlot_traces (r f : Nat) (x : Slot) : (s.setSlot r f x).traces = s.traces := rfl
@[simp] theorem State.setSlot_results (r f : Nat) (x : Slot) : (s.setSlot r f x).results = s.results := rfl
@[simp] theorem State.setSlot_frameStamps (r f : Nat) (x : Slot) : (s.setSlot r f x).frameStamps = s.frameStamps := rfl
@[simp] theorem State.setSlot_rsets (r f : Nat) (x : Slot) : (s.setSlot r f x).rsets = s.rsets := rfl
@[simp] theorem State.setSlot_mem (r f : Nat) (x : Slot) : (s.setSlot r f x).mem = s.mem := rfl
@[simp] theorem State.setSlot_scrubPos (r f : Nat) (x : Slot) : (s.setSlot r f x).scrubPos = s.scrubPos := rfl
@[simp] theorem State.setSlot_scrubPass (r f : Nat) (x : Slot) : (s.setSlot r f x).scrubPass = s.scrubPass := rfl
@[simp] theorem State.setSlot_corrected (r f : Nat) (x : Slot) : (s.setSlot r f x).corrected = s.corrected := rfl
@[simp] theorem State.setSlot_passCe (r f : Nat) (x : Slot) : (s.setSlot r f x).passCe = s.passCe := rfl
@[simp] theorem State.setSlot_txQueue (r f : Nat) (x : Slot) : (s.setSlot r f x).txQueue = s.txQueue := rfl
@[simp] theorem State.setSlot_rxHeld (r f : Nat) (x : Slot) : (s.setSlot r f x).rxHeld = s.rxHeld := rfl
@[simp] theorem State.setSlot_routeSends (r f : Nat) (x : Slot) : (s.setSlot r f x).routeSends = s.routeSends := rfl
@[simp] theorem State.setSlot_losses (r f : Nat) (x : Slot) : (s.setSlot r f x).losses = s.losses := rfl
@[simp] theorem State.setSlot_lanes (r f : Nat) (x : Slot) : (s.setSlot r f x).lanes = s.lanes := rfl
@[simp] theorem State.setSlot_lossNotices (r f : Nat) (x : Slot) : (s.setSlot r f x).lossNotices = s.lossNotices := rfl
@[simp] theorem State.setSlot_dldSent (r f : Nat) (x : Slot) : (s.setSlot r f x).dldSent = s.dldSent := rfl
@[simp] theorem State.setSlot_edgeAcceptedAt (r f : Nat) (x : Slot) : (s.setSlot r f x).edgeAcceptedAt = s.edgeAcceptedAt := rfl
@[simp] theorem State.setSlot_epochOld (r f : Nat) (x : Slot) : (s.setSlot r f x).epochOld = s.epochOld := rfl
@[simp] theorem State.setSlot_tdcs (r f : Nat) (x : Slot) : (s.setSlot r f x).tdcs = s.tdcs := rfl
@[simp] theorem State.setSlot_snss (r f : Nat) (x : Slot) : (s.setSlot r f x).snss = s.snss := rfl
@[simp] theorem State.setSlot_heaters (r f : Nat) (x : Slot) : (s.setSlot r f x).heaters = s.heaters := rfl
@[simp] theorem State.setSlot_mon (r f : Nat) (x : Slot) : (s.setSlot r f x).mon = s.mon := rfl
@[simp] theorem State.setSlot_curveShadow (r f : Nat) (x : Slot) : (s.setSlot r f x).curveShadow = s.curveShadow := rfl
@[simp] theorem State.setSlot_curves (r f : Nat) (x : Slot) : (s.setSlot r f x).curves = s.curves := rfl
@[simp] theorem State.setSlot_mbx (r f : Nat) (x : Slot) : (s.setSlot r f x).mbx = s.mbx := rfl
@[simp] theorem State.setSlot_server (r f : Nat) (x : Slot) : (s.setSlot r f x).server = s.server := rfl
@[simp] theorem State.setSlot_training (r f : Nat) (x : Slot) : (s.setSlot r f x).training = s.training := rfl
@[simp] theorem State.setSlot_fwBank (r f : Nat) (x : Slot) : (s.setSlot r f x).fwBank = s.fwBank := rfl
@[simp] theorem State.setSlot_fwBody (r f : Nat) (x : Slot) : (s.setSlot r f x).fwBody = s.fwBody := rfl
@[simp] theorem State.setSlot_calBank (r f : Nat) (x : Slot) : (s.setSlot r f x).calBank = s.calBank := rfl
@[simp] theorem State.setSlot_calBody (r f : Nat) (x : Slot) : (s.setSlot r f x).calBody = s.calBody := rfl
@[simp] theorem State.setSlot_curveBank (r f : Nat) (x : Slot) : (s.setSlot r f x).curveBank = s.curveBank := rfl
@[simp] theorem State.setSlot_curveBody (r f : Nat) (x : Slot) : (s.setSlot r f x).curveBody = s.curveBody := rfl
@[simp] theorem State.setSlot_tripLog (r f : Nat) (x : Slot) : (s.setSlot r f x).tripLog = s.tripLog := rfl
@[simp] theorem State.setSlot_tripOwed (r f : Nat) (x : Slot) : (s.setSlot r f x).tripOwed = s.tripOwed := rfl
@[simp] theorem State.setSlot_routine (r f : Nat) (x : Slot) : (s.setSlot r f x).routine = s.routine := rfl
@[simp] theorem State.setSlot_dip (r f : Nat) (x : Slot) : (s.setSlot r f x).dip = s.dip := rfl
@[simp] theorem State.setSlot_trippedAt (r f : Nat) (x : Slot) : (s.setSlot r f x).trippedAt = s.trippedAt := rfl
@[simp] theorem State.setSlot_window (r f : Nat) (x : Slot) : (s.setSlot r f x).window = s.window := rfl
@[simp] theorem State.setSlot_thm (r f : Nat) (x : Slot) : (s.setSlot r f x).thm = s.thm := rfl
@[simp] theorem State.setSlot_peffWas (r f : Nat) (x : Slot) : (s.setSlot r f x).peffWas = s.peffWas := rfl
@[simp] theorem State.setSlot_calVref (r f : Nat) (x : Slot) : (s.setSlot r f x).calVref = s.calVref := rfl
@[simp] theorem State.setSlot_flatPend (r f : Nat) (x : Slot) : (s.setSlot r f x).flatPend = s.flatPend := rfl
@[simp] theorem State.rd_setSlot (r f : Nat) (x : Slot) (i : Nat) : (s.setSlot r f x).rd i = s.rd i := rfl
@[simp] theorem State.get_setSlot (r f : Nat) (x : Slot) (g : Fld) : (s.setSlot r f x).get g = s.get g := rfl
@[simp] theorem State.get64_setSlot (r f : Nat) (x : Slot) (i : Nat) : (s.setSlot r f x).get64 i = s.get64 i := rfl
@[simp] theorem State.slot_setSlot (r f : Nat) (x : Slot) : (s.setSlot r f x).slot r f = x := Table.get_set_same ..

/-! ### setStream -/

@[simp] theorem State.setStream_pending (r n : Nat) (x : Stream) : (s.setStream r n x).pending = s.pending := rfl
@[simp] theorem State.setStream_part (r n : Nat) (x : Stream) : (s.setStream r n x).part = s.part := rfl
@[simp] theorem State.setStream_ref10M (r n : Nat) (x : Stream) : (s.setStream r n x).ref10M = s.ref10M := rfl
@[simp] theorem State.setStream_serial (r n : Nat) (x : Stream) : (s.setStream r n x).serial = s.serial := rfl
@[simp] theorem State.setStream_now (r n : Nat) (x : Stream) : (s.setStream r n x).now = s.now := rfl
@[simp] theorem State.setStream_epoch (r n : Nat) (x : Stream) : (s.setStream r n x).epoch = s.epoch := rfl
@[simp] theorem State.setStream_epochOn (r n : Nat) (x : Stream) : (s.setStream r n x).epochOn = s.epochOn := rfl
@[simp] theorem State.setStream_freeCtr (r n : Nat) (x : Stream) : (s.setStream r n x).freeCtr = s.freeCtr := rfl
@[simp] theorem State.setStream_regs (r n : Nat) (x : Stream) : (s.setStream r n x).regs = s.regs := rfl
@[simp] theorem State.setStream_lastRead (r n : Nat) (x : Stream) : (s.setStream r n x).lastRead = s.lastRead := rfl
@[simp] theorem State.setStream_readShadow (r n : Nat) (x : Stream) : (s.setStream r n x).readShadow = s.readShadow := rfl
@[simp] theorem State.setStream_writeShadow (r n : Nat) (x : Stream) : (s.setStream r n x).writeShadow = s.writeShadow := rfl
@[simp] theorem State.setStream_rsetSel (r n : Nat) (x : Stream) : (s.setStream r n x).rsetSel = s.rsetSel := rfl
@[simp] theorem State.setStream_mode (r n : Nat) (x : Stream) : (s.setStream r n x).mode = s.mode := rfl
@[simp] theorem State.setStream_transition (r n : Nat) (x : Stream) : (s.setStream r n x).transition = s.transition := rfl
@[simp] theorem State.setStream_powerGoodAt (r n : Nat) (x : Stream) : (s.setStream r n x).powerGoodAt = s.powerGoodAt := rfl
@[simp] theorem State.setStream_calRaw (r n : Nat) (x : Stream) : (s.setStream r n x).calRaw = s.calRaw := rfl
@[simp] theorem State.setStream_calAcc (r n : Nat) (x : Stream) : (s.setStream r n x).calAcc = s.calAcc := rfl
@[simp] theorem State.setStream_disciplineAt (r n : Nat) (x : Stream) : (s.setStream r n x).disciplineAt = s.disciplineAt := rfl
@[simp] theorem State.setStream_angle (r n : Nat) (x : Stream) : (s.setStream r n x).angle = s.angle := rfl
@[simp] theorem State.setStream_alarmAt (r n : Nat) (x : Stream) : (s.setStream r n x).alarmAt = s.alarmAt := rfl
@[simp] theorem State.setStream_alarmLate (r n : Nat) (x : Stream) : (s.setStream r n x).alarmLate = s.alarmLate := rfl
@[simp] theorem State.setStream_alarmFired (r n : Nat) (x : Stream) : (s.setStream r n x).alarmFired = s.alarmFired := rfl
@[simp] theorem State.setStream_snapArmed (r n : Nat) (x : Stream) : (s.setStream r n x).snapArmed = s.snapArmed := rfl
@[simp] theorem State.setStream_relocking (r n : Nat) (x : Stream) : (s.setStream r n x).relocking = s.relocking := rfl
@[simp] theorem State.setStream_lossAt (r n : Nat) (x : Stream) : (s.setStream r n x).lossAt = s.lossAt := rfl
@[simp] theorem State.setStream_sqs (r n : Nat) (x : Stream) : (s.setStream r n x).sqs = s.sqs := rfl
@[simp] theorem State.setStream_cqs (r n : Nat) (x : Stream) : (s.setStream r n x).cqs = s.cqs := rfl
@[simp] theorem State.setStream_nextUid (r n : Nat) (x : Stream) : (s.setStream r n x).nextUid = s.nextUid := rfl
@[simp] theorem State.setStream_busMaster (r n : Nat) (x : Stream) : (s.setStream r n x).busMaster = s.busMaster := rfl
@[simp] theorem State.setStream_perst (r n : Nat) (x : Stream) : (s.setStream r n x).perst = s.perst := rfl
@[simp] theorem State.setStream_posted (r n : Nat) (x : Stream) : (s.setStream r n x).posted = s.posted := rfl
@[simp] theorem State.setStream_holding (r n : Nat) (x : Stream) : (s.setStream r n x).holding = s.holding := rfl
@[simp] theorem State.setStream_holdHits (r n : Nat) (x : Stream) : (s.setStream r n x).holdHits = s.holdHits := rfl
@[simp] theorem State.setStream_dmaStopped (r n : Nat) (x : Stream) : (s.setStream r n x).dmaStopped = s.dmaStopped := rfl
@[simp] theorem State.setStream_gang (r n : Nat) (x : Stream) : (s.setStream r n x).gang = s.gang := rfl
@[simp] theorem State.setStream_shots (r n : Nat) (x : Stream) : (s.setStream r n x).shots = s.shots := rfl
@[simp] theorem State.setStream_works (r n : Nat) (x : Stream) : (s.setStream r n x).works = s.works := rfl
@[simp] theorem State.setStream_wins (r n : Nat) (x : Stream) : (s.setStream r n x).wins = s.wins := rfl
@[simp] theorem State.setStream_engines (r n : Nat) (x : Stream) : (s.setStream r n x).engines = s.engines := rfl
@[simp] theorem State.setStream_micro (r n : Nat) (x : Stream) : (s.setStream r n x).micro = s.micro := rfl
@[simp] theorem State.setStream_nano (r n : Nat) (x : Stream) : (s.setStream r n x).nano = s.nano := rfl
@[simp] theorem State.setStream_nanoRes (r n : Nat) (x : Stream) : (s.setStream r n x).nanoRes = s.nanoRes := rfl
@[simp] theorem State.setStream_cache (r n : Nat) (x : Stream) : (s.setStream r n x).cache = s.cache := rfl
@[simp] theorem State.setStream_commanded (r n : Nat) (x : Stream) : (s.setStream r n x).commanded = s.commanded := rfl
@[simp] theorem State.setStream_ports (r n : Nat) (x : Stream) : (s.setStream r n x).ports = s.ports := rfl
@[simp] theorem State.setStream_slots (r n : Nat) (x : Stream) : (s.setStream r n x).slots = s.slots := rfl
@[simp] theorem State.setStream_slotWrites (r n : Nat) (x : Stream) : (s.setStream r n x).slotWrites = s.slotWrites := rfl
@[simp] theorem State.setStream_frames (r n : Nat) (x : Stream) : (s.setStream r n x).frames = s.frames := rfl
@[simp] theorem State.setStream_mrk (r n : Nat) (x : Stream) : (s.setStream r n x).mrk = s.mrk := rfl
@[simp] theorem State.setStream_mrkMute (r n : Nat) (x : Stream) : (s.setStream r n x).mrkMute = s.mrkMute := rfl
@[simp] theorem State.setStream_lines (r n : Nat) (x : Stream) : (s.setStream r n x).lines = s.lines := rfl
@[simp] theorem State.setStream_interp (r n : Nat) (x : Stream) : (s.setStream r n x).interp = s.interp := rfl
@[simp] theorem State.setStream_interpPend (r n : Nat) (x : Stream) : (s.setStream r n x).interpPend = s.interpPend := rfl
@[simp] theorem State.setStream_flat (r n : Nat) (x : Stream) : (s.setStream r n x).flat = s.flat := rfl
@[simp] theorem State.setStream_synth (r n : Nat) (x : Stream) : (s.setStream r n x).synth = s.synth := rfl
@[simp] theorem State.setStream_ffx (r n : Nat) (x : Stream) : (s.setStream r n x).ffx = s.ffx := rfl
@[simp] theorem State.setStream_bia (r n : Nat) (x : Stream) : (s.setStream r n x).bia = s.bia := rfl
@[simp] theorem State.setStream_clrNext (r n : Nat) (x : Stream) : (s.setStream r n x).clrNext = s.clrNext := rfl
@[simp] theorem State.setStream_acqs (r n : Nat) (x : Stream) : (s.setStream r n x).acqs = s.acqs := rfl
@[simp] theorem State.setStream_tones (r n : Nat) (x : Stream) : (s.setStream r n x).tones = s.tones := rfl
@[simp] theorem State.setStream_feeds (r n : Nat) (x : Stream) : (s.setStream r n x).feeds = s.feeds := rfl
@[simp] theorem State.setStream_rwins (r n : Nat) (x : Stream) : (s.setStream r n x).rwins = s.rwins := rfl
@[simp] theorem State.setStream_traces (r n : Nat) (x : Stream) : (s.setStream r n x).traces = s.traces := rfl
@[simp] theorem State.setStream_results (r n : Nat) (x : Stream) : (s.setStream r n x).results = s.results := rfl
@[simp] theorem State.setStream_frameStamps (r n : Nat) (x : Stream) : (s.setStream r n x).frameStamps = s.frameStamps := rfl
@[simp] theorem State.setStream_rsets (r n : Nat) (x : Stream) : (s.setStream r n x).rsets = s.rsets := rfl
@[simp] theorem State.setStream_mem (r n : Nat) (x : Stream) : (s.setStream r n x).mem = s.mem := rfl
@[simp] theorem State.setStream_scrubPos (r n : Nat) (x : Stream) : (s.setStream r n x).scrubPos = s.scrubPos := rfl
@[simp] theorem State.setStream_scrubPass (r n : Nat) (x : Stream) : (s.setStream r n x).scrubPass = s.scrubPass := rfl
@[simp] theorem State.setStream_corrected (r n : Nat) (x : Stream) : (s.setStream r n x).corrected = s.corrected := rfl
@[simp] theorem State.setStream_passCe (r n : Nat) (x : Stream) : (s.setStream r n x).passCe = s.passCe := rfl
@[simp] theorem State.setStream_txQueue (r n : Nat) (x : Stream) : (s.setStream r n x).txQueue = s.txQueue := rfl
@[simp] theorem State.setStream_rxHeld (r n : Nat) (x : Stream) : (s.setStream r n x).rxHeld = s.rxHeld := rfl
@[simp] theorem State.setStream_routeSends (r n : Nat) (x : Stream) : (s.setStream r n x).routeSends = s.routeSends := rfl
@[simp] theorem State.setStream_losses (r n : Nat) (x : Stream) : (s.setStream r n x).losses = s.losses := rfl
@[simp] theorem State.setStream_lanes (r n : Nat) (x : Stream) : (s.setStream r n x).lanes = s.lanes := rfl
@[simp] theorem State.setStream_lossNotices (r n : Nat) (x : Stream) : (s.setStream r n x).lossNotices = s.lossNotices := rfl
@[simp] theorem State.setStream_dldSent (r n : Nat) (x : Stream) : (s.setStream r n x).dldSent = s.dldSent := rfl
@[simp] theorem State.setStream_edgeAcceptedAt (r n : Nat) (x : Stream) : (s.setStream r n x).edgeAcceptedAt = s.edgeAcceptedAt := rfl
@[simp] theorem State.setStream_epochOld (r n : Nat) (x : Stream) : (s.setStream r n x).epochOld = s.epochOld := rfl
@[simp] theorem State.setStream_tdcs (r n : Nat) (x : Stream) : (s.setStream r n x).tdcs = s.tdcs := rfl
@[simp] theorem State.setStream_snss (r n : Nat) (x : Stream) : (s.setStream r n x).snss = s.snss := rfl
@[simp] theorem State.setStream_heaters (r n : Nat) (x : Stream) : (s.setStream r n x).heaters = s.heaters := rfl
@[simp] theorem State.setStream_mon (r n : Nat) (x : Stream) : (s.setStream r n x).mon = s.mon := rfl
@[simp] theorem State.setStream_curveShadow (r n : Nat) (x : Stream) : (s.setStream r n x).curveShadow = s.curveShadow := rfl
@[simp] theorem State.setStream_curves (r n : Nat) (x : Stream) : (s.setStream r n x).curves = s.curves := rfl
@[simp] theorem State.setStream_mbx (r n : Nat) (x : Stream) : (s.setStream r n x).mbx = s.mbx := rfl
@[simp] theorem State.setStream_server (r n : Nat) (x : Stream) : (s.setStream r n x).server = s.server := rfl
@[simp] theorem State.setStream_training (r n : Nat) (x : Stream) : (s.setStream r n x).training = s.training := rfl
@[simp] theorem State.setStream_fwBank (r n : Nat) (x : Stream) : (s.setStream r n x).fwBank = s.fwBank := rfl
@[simp] theorem State.setStream_fwBody (r n : Nat) (x : Stream) : (s.setStream r n x).fwBody = s.fwBody := rfl
@[simp] theorem State.setStream_calBank (r n : Nat) (x : Stream) : (s.setStream r n x).calBank = s.calBank := rfl
@[simp] theorem State.setStream_calBody (r n : Nat) (x : Stream) : (s.setStream r n x).calBody = s.calBody := rfl
@[simp] theorem State.setStream_curveBank (r n : Nat) (x : Stream) : (s.setStream r n x).curveBank = s.curveBank := rfl
@[simp] theorem State.setStream_curveBody (r n : Nat) (x : Stream) : (s.setStream r n x).curveBody = s.curveBody := rfl
@[simp] theorem State.setStream_tripLog (r n : Nat) (x : Stream) : (s.setStream r n x).tripLog = s.tripLog := rfl
@[simp] theorem State.setStream_tripOwed (r n : Nat) (x : Stream) : (s.setStream r n x).tripOwed = s.tripOwed := rfl
@[simp] theorem State.setStream_routine (r n : Nat) (x : Stream) : (s.setStream r n x).routine = s.routine := rfl
@[simp] theorem State.setStream_dip (r n : Nat) (x : Stream) : (s.setStream r n x).dip = s.dip := rfl
@[simp] theorem State.setStream_trippedAt (r n : Nat) (x : Stream) : (s.setStream r n x).trippedAt = s.trippedAt := rfl
@[simp] theorem State.setStream_window (r n : Nat) (x : Stream) : (s.setStream r n x).window = s.window := rfl
@[simp] theorem State.setStream_thm (r n : Nat) (x : Stream) : (s.setStream r n x).thm = s.thm := rfl
@[simp] theorem State.setStream_peffWas (r n : Nat) (x : Stream) : (s.setStream r n x).peffWas = s.peffWas := rfl
@[simp] theorem State.setStream_calVref (r n : Nat) (x : Stream) : (s.setStream r n x).calVref = s.calVref := rfl
@[simp] theorem State.setStream_flatPend (r n : Nat) (x : Stream) : (s.setStream r n x).flatPend = s.flatPend := rfl
@[simp] theorem State.rd_setStream (r n : Nat) (x : Stream) (i : Nat) : (s.setStream r n x).rd i = s.rd i := rfl
@[simp] theorem State.get_setStream (r n : Nat) (x : Stream) (g : Fld) : (s.setStream r n x).get g = s.get g := rfl
@[simp] theorem State.get64_setStream (r n : Nat) (x : Stream) (i : Nat) : (s.setStream r n x).get64 i = s.get64 i := rfl
@[simp] theorem State.stream_setStream (r n : Nat) (x : Stream) : (s.setStream r n x).stream r n = x := Table.get_set_same ..

/-! ### setEngine -/

@[simp] theorem State.setEngine_pending (r e : Nat) (x : Engine) : (s.setEngine r e x).pending = s.pending := rfl
@[simp] theorem State.setEngine_part (r e : Nat) (x : Engine) : (s.setEngine r e x).part = s.part := rfl
@[simp] theorem State.setEngine_ref10M (r e : Nat) (x : Engine) : (s.setEngine r e x).ref10M = s.ref10M := rfl
@[simp] theorem State.setEngine_serial (r e : Nat) (x : Engine) : (s.setEngine r e x).serial = s.serial := rfl
@[simp] theorem State.setEngine_now (r e : Nat) (x : Engine) : (s.setEngine r e x).now = s.now := rfl
@[simp] theorem State.setEngine_epoch (r e : Nat) (x : Engine) : (s.setEngine r e x).epoch = s.epoch := rfl
@[simp] theorem State.setEngine_epochOn (r e : Nat) (x : Engine) : (s.setEngine r e x).epochOn = s.epochOn := rfl
@[simp] theorem State.setEngine_freeCtr (r e : Nat) (x : Engine) : (s.setEngine r e x).freeCtr = s.freeCtr := rfl
@[simp] theorem State.setEngine_regs (r e : Nat) (x : Engine) : (s.setEngine r e x).regs = s.regs := rfl
@[simp] theorem State.setEngine_lastRead (r e : Nat) (x : Engine) : (s.setEngine r e x).lastRead = s.lastRead := rfl
@[simp] theorem State.setEngine_readShadow (r e : Nat) (x : Engine) : (s.setEngine r e x).readShadow = s.readShadow := rfl
@[simp] theorem State.setEngine_writeShadow (r e : Nat) (x : Engine) : (s.setEngine r e x).writeShadow = s.writeShadow := rfl
@[simp] theorem State.setEngine_rsetSel (r e : Nat) (x : Engine) : (s.setEngine r e x).rsetSel = s.rsetSel := rfl
@[simp] theorem State.setEngine_mode (r e : Nat) (x : Engine) : (s.setEngine r e x).mode = s.mode := rfl
@[simp] theorem State.setEngine_transition (r e : Nat) (x : Engine) : (s.setEngine r e x).transition = s.transition := rfl
@[simp] theorem State.setEngine_powerGoodAt (r e : Nat) (x : Engine) : (s.setEngine r e x).powerGoodAt = s.powerGoodAt := rfl
@[simp] theorem State.setEngine_calRaw (r e : Nat) (x : Engine) : (s.setEngine r e x).calRaw = s.calRaw := rfl
@[simp] theorem State.setEngine_calAcc (r e : Nat) (x : Engine) : (s.setEngine r e x).calAcc = s.calAcc := rfl
@[simp] theorem State.setEngine_disciplineAt (r e : Nat) (x : Engine) : (s.setEngine r e x).disciplineAt = s.disciplineAt := rfl
@[simp] theorem State.setEngine_angle (r e : Nat) (x : Engine) : (s.setEngine r e x).angle = s.angle := rfl
@[simp] theorem State.setEngine_alarmAt (r e : Nat) (x : Engine) : (s.setEngine r e x).alarmAt = s.alarmAt := rfl
@[simp] theorem State.setEngine_alarmLate (r e : Nat) (x : Engine) : (s.setEngine r e x).alarmLate = s.alarmLate := rfl
@[simp] theorem State.setEngine_alarmFired (r e : Nat) (x : Engine) : (s.setEngine r e x).alarmFired = s.alarmFired := rfl
@[simp] theorem State.setEngine_snapArmed (r e : Nat) (x : Engine) : (s.setEngine r e x).snapArmed = s.snapArmed := rfl
@[simp] theorem State.setEngine_relocking (r e : Nat) (x : Engine) : (s.setEngine r e x).relocking = s.relocking := rfl
@[simp] theorem State.setEngine_lossAt (r e : Nat) (x : Engine) : (s.setEngine r e x).lossAt = s.lossAt := rfl
@[simp] theorem State.setEngine_sqs (r e : Nat) (x : Engine) : (s.setEngine r e x).sqs = s.sqs := rfl
@[simp] theorem State.setEngine_cqs (r e : Nat) (x : Engine) : (s.setEngine r e x).cqs = s.cqs := rfl
@[simp] theorem State.setEngine_nextUid (r e : Nat) (x : Engine) : (s.setEngine r e x).nextUid = s.nextUid := rfl
@[simp] theorem State.setEngine_busMaster (r e : Nat) (x : Engine) : (s.setEngine r e x).busMaster = s.busMaster := rfl
@[simp] theorem State.setEngine_perst (r e : Nat) (x : Engine) : (s.setEngine r e x).perst = s.perst := rfl
@[simp] theorem State.setEngine_posted (r e : Nat) (x : Engine) : (s.setEngine r e x).posted = s.posted := rfl
@[simp] theorem State.setEngine_holding (r e : Nat) (x : Engine) : (s.setEngine r e x).holding = s.holding := rfl
@[simp] theorem State.setEngine_holdHits (r e : Nat) (x : Engine) : (s.setEngine r e x).holdHits = s.holdHits := rfl
@[simp] theorem State.setEngine_dmaStopped (r e : Nat) (x : Engine) : (s.setEngine r e x).dmaStopped = s.dmaStopped := rfl
@[simp] theorem State.setEngine_gang (r e : Nat) (x : Engine) : (s.setEngine r e x).gang = s.gang := rfl
@[simp] theorem State.setEngine_shots (r e : Nat) (x : Engine) : (s.setEngine r e x).shots = s.shots := rfl
@[simp] theorem State.setEngine_works (r e : Nat) (x : Engine) : (s.setEngine r e x).works = s.works := rfl
@[simp] theorem State.setEngine_wins (r e : Nat) (x : Engine) : (s.setEngine r e x).wins = s.wins := rfl
@[simp] theorem State.setEngine_streams (r e : Nat) (x : Engine) : (s.setEngine r e x).streams = s.streams := rfl
@[simp] theorem State.setEngine_micro (r e : Nat) (x : Engine) : (s.setEngine r e x).micro = s.micro := rfl
@[simp] theorem State.setEngine_nano (r e : Nat) (x : Engine) : (s.setEngine r e x).nano = s.nano := rfl
@[simp] theorem State.setEngine_nanoRes (r e : Nat) (x : Engine) : (s.setEngine r e x).nanoRes = s.nanoRes := rfl
@[simp] theorem State.setEngine_cache (r e : Nat) (x : Engine) : (s.setEngine r e x).cache = s.cache := rfl
@[simp] theorem State.setEngine_commanded (r e : Nat) (x : Engine) : (s.setEngine r e x).commanded = s.commanded := rfl
@[simp] theorem State.setEngine_ports (r e : Nat) (x : Engine) : (s.setEngine r e x).ports = s.ports := rfl
@[simp] theorem State.setEngine_slots (r e : Nat) (x : Engine) : (s.setEngine r e x).slots = s.slots := rfl
@[simp] theorem State.setEngine_slotWrites (r e : Nat) (x : Engine) : (s.setEngine r e x).slotWrites = s.slotWrites := rfl
@[simp] theorem State.setEngine_frames (r e : Nat) (x : Engine) : (s.setEngine r e x).frames = s.frames := rfl
@[simp] theorem State.setEngine_mrk (r e : Nat) (x : Engine) : (s.setEngine r e x).mrk = s.mrk := rfl
@[simp] theorem State.setEngine_mrkMute (r e : Nat) (x : Engine) : (s.setEngine r e x).mrkMute = s.mrkMute := rfl
@[simp] theorem State.setEngine_lines (r e : Nat) (x : Engine) : (s.setEngine r e x).lines = s.lines := rfl
@[simp] theorem State.setEngine_interp (r e : Nat) (x : Engine) : (s.setEngine r e x).interp = s.interp := rfl
@[simp] theorem State.setEngine_interpPend (r e : Nat) (x : Engine) : (s.setEngine r e x).interpPend = s.interpPend := rfl
@[simp] theorem State.setEngine_flat (r e : Nat) (x : Engine) : (s.setEngine r e x).flat = s.flat := rfl
@[simp] theorem State.setEngine_synth (r e : Nat) (x : Engine) : (s.setEngine r e x).synth = s.synth := rfl
@[simp] theorem State.setEngine_ffx (r e : Nat) (x : Engine) : (s.setEngine r e x).ffx = s.ffx := rfl
@[simp] theorem State.setEngine_bia (r e : Nat) (x : Engine) : (s.setEngine r e x).bia = s.bia := rfl
@[simp] theorem State.setEngine_clrNext (r e : Nat) (x : Engine) : (s.setEngine r e x).clrNext = s.clrNext := rfl
@[simp] theorem State.setEngine_acqs (r e : Nat) (x : Engine) : (s.setEngine r e x).acqs = s.acqs := rfl
@[simp] theorem State.setEngine_tones (r e : Nat) (x : Engine) : (s.setEngine r e x).tones = s.tones := rfl
@[simp] theorem State.setEngine_feeds (r e : Nat) (x : Engine) : (s.setEngine r e x).feeds = s.feeds := rfl
@[simp] theorem State.setEngine_rwins (r e : Nat) (x : Engine) : (s.setEngine r e x).rwins = s.rwins := rfl
@[simp] theorem State.setEngine_traces (r e : Nat) (x : Engine) : (s.setEngine r e x).traces = s.traces := rfl
@[simp] theorem State.setEngine_results (r e : Nat) (x : Engine) : (s.setEngine r e x).results = s.results := rfl
@[simp] theorem State.setEngine_frameStamps (r e : Nat) (x : Engine) : (s.setEngine r e x).frameStamps = s.frameStamps := rfl
@[simp] theorem State.setEngine_rsets (r e : Nat) (x : Engine) : (s.setEngine r e x).rsets = s.rsets := rfl
@[simp] theorem State.setEngine_mem (r e : Nat) (x : Engine) : (s.setEngine r e x).mem = s.mem := rfl
@[simp] theorem State.setEngine_scrubPos (r e : Nat) (x : Engine) : (s.setEngine r e x).scrubPos = s.scrubPos := rfl
@[simp] theorem State.setEngine_scrubPass (r e : Nat) (x : Engine) : (s.setEngine r e x).scrubPass = s.scrubPass := rfl
@[simp] theorem State.setEngine_corrected (r e : Nat) (x : Engine) : (s.setEngine r e x).corrected = s.corrected := rfl
@[simp] theorem State.setEngine_passCe (r e : Nat) (x : Engine) : (s.setEngine r e x).passCe = s.passCe := rfl
@[simp] theorem State.setEngine_txQueue (r e : Nat) (x : Engine) : (s.setEngine r e x).txQueue = s.txQueue := rfl
@[simp] theorem State.setEngine_rxHeld (r e : Nat) (x : Engine) : (s.setEngine r e x).rxHeld = s.rxHeld := rfl
@[simp] theorem State.setEngine_routeSends (r e : Nat) (x : Engine) : (s.setEngine r e x).routeSends = s.routeSends := rfl
@[simp] theorem State.setEngine_losses (r e : Nat) (x : Engine) : (s.setEngine r e x).losses = s.losses := rfl
@[simp] theorem State.setEngine_lanes (r e : Nat) (x : Engine) : (s.setEngine r e x).lanes = s.lanes := rfl
@[simp] theorem State.setEngine_lossNotices (r e : Nat) (x : Engine) : (s.setEngine r e x).lossNotices = s.lossNotices := rfl
@[simp] theorem State.setEngine_dldSent (r e : Nat) (x : Engine) : (s.setEngine r e x).dldSent = s.dldSent := rfl
@[simp] theorem State.setEngine_edgeAcceptedAt (r e : Nat) (x : Engine) : (s.setEngine r e x).edgeAcceptedAt = s.edgeAcceptedAt := rfl
@[simp] theorem State.setEngine_epochOld (r e : Nat) (x : Engine) : (s.setEngine r e x).epochOld = s.epochOld := rfl
@[simp] theorem State.setEngine_tdcs (r e : Nat) (x : Engine) : (s.setEngine r e x).tdcs = s.tdcs := rfl
@[simp] theorem State.setEngine_snss (r e : Nat) (x : Engine) : (s.setEngine r e x).snss = s.snss := rfl
@[simp] theorem State.setEngine_heaters (r e : Nat) (x : Engine) : (s.setEngine r e x).heaters = s.heaters := rfl
@[simp] theorem State.setEngine_mon (r e : Nat) (x : Engine) : (s.setEngine r e x).mon = s.mon := rfl
@[simp] theorem State.setEngine_curveShadow (r e : Nat) (x : Engine) : (s.setEngine r e x).curveShadow = s.curveShadow := rfl
@[simp] theorem State.setEngine_curves (r e : Nat) (x : Engine) : (s.setEngine r e x).curves = s.curves := rfl
@[simp] theorem State.setEngine_mbx (r e : Nat) (x : Engine) : (s.setEngine r e x).mbx = s.mbx := rfl
@[simp] theorem State.setEngine_server (r e : Nat) (x : Engine) : (s.setEngine r e x).server = s.server := rfl
@[simp] theorem State.setEngine_training (r e : Nat) (x : Engine) : (s.setEngine r e x).training = s.training := rfl
@[simp] theorem State.setEngine_fwBank (r e : Nat) (x : Engine) : (s.setEngine r e x).fwBank = s.fwBank := rfl
@[simp] theorem State.setEngine_fwBody (r e : Nat) (x : Engine) : (s.setEngine r e x).fwBody = s.fwBody := rfl
@[simp] theorem State.setEngine_calBank (r e : Nat) (x : Engine) : (s.setEngine r e x).calBank = s.calBank := rfl
@[simp] theorem State.setEngine_calBody (r e : Nat) (x : Engine) : (s.setEngine r e x).calBody = s.calBody := rfl
@[simp] theorem State.setEngine_curveBank (r e : Nat) (x : Engine) : (s.setEngine r e x).curveBank = s.curveBank := rfl
@[simp] theorem State.setEngine_curveBody (r e : Nat) (x : Engine) : (s.setEngine r e x).curveBody = s.curveBody := rfl
@[simp] theorem State.setEngine_tripLog (r e : Nat) (x : Engine) : (s.setEngine r e x).tripLog = s.tripLog := rfl
@[simp] theorem State.setEngine_tripOwed (r e : Nat) (x : Engine) : (s.setEngine r e x).tripOwed = s.tripOwed := rfl
@[simp] theorem State.setEngine_routine (r e : Nat) (x : Engine) : (s.setEngine r e x).routine = s.routine := rfl
@[simp] theorem State.setEngine_dip (r e : Nat) (x : Engine) : (s.setEngine r e x).dip = s.dip := rfl
@[simp] theorem State.setEngine_trippedAt (r e : Nat) (x : Engine) : (s.setEngine r e x).trippedAt = s.trippedAt := rfl
@[simp] theorem State.setEngine_window (r e : Nat) (x : Engine) : (s.setEngine r e x).window = s.window := rfl
@[simp] theorem State.setEngine_thm (r e : Nat) (x : Engine) : (s.setEngine r e x).thm = s.thm := rfl
@[simp] theorem State.setEngine_peffWas (r e : Nat) (x : Engine) : (s.setEngine r e x).peffWas = s.peffWas := rfl
@[simp] theorem State.setEngine_calVref (r e : Nat) (x : Engine) : (s.setEngine r e x).calVref = s.calVref := rfl
@[simp] theorem State.setEngine_flatPend (r e : Nat) (x : Engine) : (s.setEngine r e x).flatPend = s.flatPend := rfl
@[simp] theorem State.rd_setEngine (r e : Nat) (x : Engine) (i : Nat) : (s.setEngine r e x).rd i = s.rd i := rfl
@[simp] theorem State.get_setEngine (r e : Nat) (x : Engine) (g : Fld) : (s.setEngine r e x).get g = s.get g := rfl
@[simp] theorem State.get64_setEngine (r e : Nat) (x : Engine) (i : Nat) : (s.setEngine r e x).get64 i = s.get64 i := rfl
@[simp] theorem State.engine_setEngine (r e : Nat) (x : Engine) : (s.setEngine r e x).engine r e = x := Table.get_set_same ..

/-! ### setLine -/

@[simp] theorem State.setLine_pending (r l : Nat) (x : Line) : (s.setLine r l x).pending = s.pending := rfl
@[simp] theorem State.setLine_part (r l : Nat) (x : Line) : (s.setLine r l x).part = s.part := rfl
@[simp] theorem State.setLine_ref10M (r l : Nat) (x : Line) : (s.setLine r l x).ref10M = s.ref10M := rfl
@[simp] theorem State.setLine_serial (r l : Nat) (x : Line) : (s.setLine r l x).serial = s.serial := rfl
@[simp] theorem State.setLine_now (r l : Nat) (x : Line) : (s.setLine r l x).now = s.now := rfl
@[simp] theorem State.setLine_epoch (r l : Nat) (x : Line) : (s.setLine r l x).epoch = s.epoch := rfl
@[simp] theorem State.setLine_epochOn (r l : Nat) (x : Line) : (s.setLine r l x).epochOn = s.epochOn := rfl
@[simp] theorem State.setLine_freeCtr (r l : Nat) (x : Line) : (s.setLine r l x).freeCtr = s.freeCtr := rfl
@[simp] theorem State.setLine_regs (r l : Nat) (x : Line) : (s.setLine r l x).regs = s.regs := rfl
@[simp] theorem State.setLine_lastRead (r l : Nat) (x : Line) : (s.setLine r l x).lastRead = s.lastRead := rfl
@[simp] theorem State.setLine_readShadow (r l : Nat) (x : Line) : (s.setLine r l x).readShadow = s.readShadow := rfl
@[simp] theorem State.setLine_writeShadow (r l : Nat) (x : Line) : (s.setLine r l x).writeShadow = s.writeShadow := rfl
@[simp] theorem State.setLine_rsetSel (r l : Nat) (x : Line) : (s.setLine r l x).rsetSel = s.rsetSel := rfl
@[simp] theorem State.setLine_mode (r l : Nat) (x : Line) : (s.setLine r l x).mode = s.mode := rfl
@[simp] theorem State.setLine_transition (r l : Nat) (x : Line) : (s.setLine r l x).transition = s.transition := rfl
@[simp] theorem State.setLine_powerGoodAt (r l : Nat) (x : Line) : (s.setLine r l x).powerGoodAt = s.powerGoodAt := rfl
@[simp] theorem State.setLine_calRaw (r l : Nat) (x : Line) : (s.setLine r l x).calRaw = s.calRaw := rfl
@[simp] theorem State.setLine_calAcc (r l : Nat) (x : Line) : (s.setLine r l x).calAcc = s.calAcc := rfl
@[simp] theorem State.setLine_disciplineAt (r l : Nat) (x : Line) : (s.setLine r l x).disciplineAt = s.disciplineAt := rfl
@[simp] theorem State.setLine_angle (r l : Nat) (x : Line) : (s.setLine r l x).angle = s.angle := rfl
@[simp] theorem State.setLine_alarmAt (r l : Nat) (x : Line) : (s.setLine r l x).alarmAt = s.alarmAt := rfl
@[simp] theorem State.setLine_alarmLate (r l : Nat) (x : Line) : (s.setLine r l x).alarmLate = s.alarmLate := rfl
@[simp] theorem State.setLine_alarmFired (r l : Nat) (x : Line) : (s.setLine r l x).alarmFired = s.alarmFired := rfl
@[simp] theorem State.setLine_snapArmed (r l : Nat) (x : Line) : (s.setLine r l x).snapArmed = s.snapArmed := rfl
@[simp] theorem State.setLine_relocking (r l : Nat) (x : Line) : (s.setLine r l x).relocking = s.relocking := rfl
@[simp] theorem State.setLine_lossAt (r l : Nat) (x : Line) : (s.setLine r l x).lossAt = s.lossAt := rfl
@[simp] theorem State.setLine_sqs (r l : Nat) (x : Line) : (s.setLine r l x).sqs = s.sqs := rfl
@[simp] theorem State.setLine_cqs (r l : Nat) (x : Line) : (s.setLine r l x).cqs = s.cqs := rfl
@[simp] theorem State.setLine_nextUid (r l : Nat) (x : Line) : (s.setLine r l x).nextUid = s.nextUid := rfl
@[simp] theorem State.setLine_busMaster (r l : Nat) (x : Line) : (s.setLine r l x).busMaster = s.busMaster := rfl
@[simp] theorem State.setLine_perst (r l : Nat) (x : Line) : (s.setLine r l x).perst = s.perst := rfl
@[simp] theorem State.setLine_posted (r l : Nat) (x : Line) : (s.setLine r l x).posted = s.posted := rfl
@[simp] theorem State.setLine_holding (r l : Nat) (x : Line) : (s.setLine r l x).holding = s.holding := rfl
@[simp] theorem State.setLine_holdHits (r l : Nat) (x : Line) : (s.setLine r l x).holdHits = s.holdHits := rfl
@[simp] theorem State.setLine_dmaStopped (r l : Nat) (x : Line) : (s.setLine r l x).dmaStopped = s.dmaStopped := rfl
@[simp] theorem State.setLine_gang (r l : Nat) (x : Line) : (s.setLine r l x).gang = s.gang := rfl
@[simp] theorem State.setLine_shots (r l : Nat) (x : Line) : (s.setLine r l x).shots = s.shots := rfl
@[simp] theorem State.setLine_works (r l : Nat) (x : Line) : (s.setLine r l x).works = s.works := rfl
@[simp] theorem State.setLine_wins (r l : Nat) (x : Line) : (s.setLine r l x).wins = s.wins := rfl
@[simp] theorem State.setLine_streams (r l : Nat) (x : Line) : (s.setLine r l x).streams = s.streams := rfl
@[simp] theorem State.setLine_engines (r l : Nat) (x : Line) : (s.setLine r l x).engines = s.engines := rfl
@[simp] theorem State.setLine_micro (r l : Nat) (x : Line) : (s.setLine r l x).micro = s.micro := rfl
@[simp] theorem State.setLine_nano (r l : Nat) (x : Line) : (s.setLine r l x).nano = s.nano := rfl
@[simp] theorem State.setLine_nanoRes (r l : Nat) (x : Line) : (s.setLine r l x).nanoRes = s.nanoRes := rfl
@[simp] theorem State.setLine_cache (r l : Nat) (x : Line) : (s.setLine r l x).cache = s.cache := rfl
@[simp] theorem State.setLine_commanded (r l : Nat) (x : Line) : (s.setLine r l x).commanded = s.commanded := rfl
@[simp] theorem State.setLine_ports (r l : Nat) (x : Line) : (s.setLine r l x).ports = s.ports := rfl
@[simp] theorem State.setLine_slots (r l : Nat) (x : Line) : (s.setLine r l x).slots = s.slots := rfl
@[simp] theorem State.setLine_slotWrites (r l : Nat) (x : Line) : (s.setLine r l x).slotWrites = s.slotWrites := rfl
@[simp] theorem State.setLine_frames (r l : Nat) (x : Line) : (s.setLine r l x).frames = s.frames := rfl
@[simp] theorem State.setLine_mrk (r l : Nat) (x : Line) : (s.setLine r l x).mrk = s.mrk := rfl
@[simp] theorem State.setLine_mrkMute (r l : Nat) (x : Line) : (s.setLine r l x).mrkMute = s.mrkMute := rfl
@[simp] theorem State.setLine_interp (r l : Nat) (x : Line) : (s.setLine r l x).interp = s.interp := rfl
@[simp] theorem State.setLine_interpPend (r l : Nat) (x : Line) : (s.setLine r l x).interpPend = s.interpPend := rfl
@[simp] theorem State.setLine_flat (r l : Nat) (x : Line) : (s.setLine r l x).flat = s.flat := rfl
@[simp] theorem State.setLine_synth (r l : Nat) (x : Line) : (s.setLine r l x).synth = s.synth := rfl
@[simp] theorem State.setLine_ffx (r l : Nat) (x : Line) : (s.setLine r l x).ffx = s.ffx := rfl
@[simp] theorem State.setLine_bia (r l : Nat) (x : Line) : (s.setLine r l x).bia = s.bia := rfl
@[simp] theorem State.setLine_clrNext (r l : Nat) (x : Line) : (s.setLine r l x).clrNext = s.clrNext := rfl
@[simp] theorem State.setLine_acqs (r l : Nat) (x : Line) : (s.setLine r l x).acqs = s.acqs := rfl
@[simp] theorem State.setLine_tones (r l : Nat) (x : Line) : (s.setLine r l x).tones = s.tones := rfl
@[simp] theorem State.setLine_feeds (r l : Nat) (x : Line) : (s.setLine r l x).feeds = s.feeds := rfl
@[simp] theorem State.setLine_rwins (r l : Nat) (x : Line) : (s.setLine r l x).rwins = s.rwins := rfl
@[simp] theorem State.setLine_traces (r l : Nat) (x : Line) : (s.setLine r l x).traces = s.traces := rfl
@[simp] theorem State.setLine_results (r l : Nat) (x : Line) : (s.setLine r l x).results = s.results := rfl
@[simp] theorem State.setLine_frameStamps (r l : Nat) (x : Line) : (s.setLine r l x).frameStamps = s.frameStamps := rfl
@[simp] theorem State.setLine_rsets (r l : Nat) (x : Line) : (s.setLine r l x).rsets = s.rsets := rfl
@[simp] theorem State.setLine_mem (r l : Nat) (x : Line) : (s.setLine r l x).mem = s.mem := rfl
@[simp] theorem State.setLine_scrubPos (r l : Nat) (x : Line) : (s.setLine r l x).scrubPos = s.scrubPos := rfl
@[simp] theorem State.setLine_scrubPass (r l : Nat) (x : Line) : (s.setLine r l x).scrubPass = s.scrubPass := rfl
@[simp] theorem State.setLine_corrected (r l : Nat) (x : Line) : (s.setLine r l x).corrected = s.corrected := rfl
@[simp] theorem State.setLine_passCe (r l : Nat) (x : Line) : (s.setLine r l x).passCe = s.passCe := rfl
@[simp] theorem State.setLine_txQueue (r l : Nat) (x : Line) : (s.setLine r l x).txQueue = s.txQueue := rfl
@[simp] theorem State.setLine_rxHeld (r l : Nat) (x : Line) : (s.setLine r l x).rxHeld = s.rxHeld := rfl
@[simp] theorem State.setLine_routeSends (r l : Nat) (x : Line) : (s.setLine r l x).routeSends = s.routeSends := rfl
@[simp] theorem State.setLine_losses (r l : Nat) (x : Line) : (s.setLine r l x).losses = s.losses := rfl
@[simp] theorem State.setLine_lanes (r l : Nat) (x : Line) : (s.setLine r l x).lanes = s.lanes := rfl
@[simp] theorem State.setLine_lossNotices (r l : Nat) (x : Line) : (s.setLine r l x).lossNotices = s.lossNotices := rfl
@[simp] theorem State.setLine_dldSent (r l : Nat) (x : Line) : (s.setLine r l x).dldSent = s.dldSent := rfl
@[simp] theorem State.setLine_edgeAcceptedAt (r l : Nat) (x : Line) : (s.setLine r l x).edgeAcceptedAt = s.edgeAcceptedAt := rfl
@[simp] theorem State.setLine_epochOld (r l : Nat) (x : Line) : (s.setLine r l x).epochOld = s.epochOld := rfl
@[simp] theorem State.setLine_tdcs (r l : Nat) (x : Line) : (s.setLine r l x).tdcs = s.tdcs := rfl
@[simp] theorem State.setLine_snss (r l : Nat) (x : Line) : (s.setLine r l x).snss = s.snss := rfl
@[simp] theorem State.setLine_heaters (r l : Nat) (x : Line) : (s.setLine r l x).heaters = s.heaters := rfl
@[simp] theorem State.setLine_mon (r l : Nat) (x : Line) : (s.setLine r l x).mon = s.mon := rfl
@[simp] theorem State.setLine_curveShadow (r l : Nat) (x : Line) : (s.setLine r l x).curveShadow = s.curveShadow := rfl
@[simp] theorem State.setLine_curves (r l : Nat) (x : Line) : (s.setLine r l x).curves = s.curves := rfl
@[simp] theorem State.setLine_mbx (r l : Nat) (x : Line) : (s.setLine r l x).mbx = s.mbx := rfl
@[simp] theorem State.setLine_server (r l : Nat) (x : Line) : (s.setLine r l x).server = s.server := rfl
@[simp] theorem State.setLine_training (r l : Nat) (x : Line) : (s.setLine r l x).training = s.training := rfl
@[simp] theorem State.setLine_fwBank (r l : Nat) (x : Line) : (s.setLine r l x).fwBank = s.fwBank := rfl
@[simp] theorem State.setLine_fwBody (r l : Nat) (x : Line) : (s.setLine r l x).fwBody = s.fwBody := rfl
@[simp] theorem State.setLine_calBank (r l : Nat) (x : Line) : (s.setLine r l x).calBank = s.calBank := rfl
@[simp] theorem State.setLine_calBody (r l : Nat) (x : Line) : (s.setLine r l x).calBody = s.calBody := rfl
@[simp] theorem State.setLine_curveBank (r l : Nat) (x : Line) : (s.setLine r l x).curveBank = s.curveBank := rfl
@[simp] theorem State.setLine_curveBody (r l : Nat) (x : Line) : (s.setLine r l x).curveBody = s.curveBody := rfl
@[simp] theorem State.setLine_tripLog (r l : Nat) (x : Line) : (s.setLine r l x).tripLog = s.tripLog := rfl
@[simp] theorem State.setLine_tripOwed (r l : Nat) (x : Line) : (s.setLine r l x).tripOwed = s.tripOwed := rfl
@[simp] theorem State.setLine_routine (r l : Nat) (x : Line) : (s.setLine r l x).routine = s.routine := rfl
@[simp] theorem State.setLine_dip (r l : Nat) (x : Line) : (s.setLine r l x).dip = s.dip := rfl
@[simp] theorem State.setLine_trippedAt (r l : Nat) (x : Line) : (s.setLine r l x).trippedAt = s.trippedAt := rfl
@[simp] theorem State.setLine_window (r l : Nat) (x : Line) : (s.setLine r l x).window = s.window := rfl
@[simp] theorem State.setLine_thm (r l : Nat) (x : Line) : (s.setLine r l x).thm = s.thm := rfl
@[simp] theorem State.setLine_peffWas (r l : Nat) (x : Line) : (s.setLine r l x).peffWas = s.peffWas := rfl
@[simp] theorem State.setLine_calVref (r l : Nat) (x : Line) : (s.setLine r l x).calVref = s.calVref := rfl
@[simp] theorem State.setLine_flatPend (r l : Nat) (x : Line) : (s.setLine r l x).flatPend = s.flatPend := rfl
@[simp] theorem State.rd_setLine (r l : Nat) (x : Line) (i : Nat) : (s.setLine r l x).rd i = s.rd i := rfl
@[simp] theorem State.get_setLine (r l : Nat) (x : Line) (g : Fld) : (s.setLine r l x).get g = s.get g := rfl
@[simp] theorem State.get64_setLine (r l : Nat) (x : Line) (i : Nat) : (s.setLine r l x).get64 i = s.get64 i := rfl
@[simp] theorem State.line_setLine (r l : Nat) (x : Line) : (s.setLine r l x).line r l = x := Table.get_set_same ..

/-! ### setFfx -/

@[simp] theorem State.setFfx_pending (r k : Nat) (x : Ffx) : (s.setFfx r k x).pending = s.pending := rfl
@[simp] theorem State.setFfx_part (r k : Nat) (x : Ffx) : (s.setFfx r k x).part = s.part := rfl
@[simp] theorem State.setFfx_ref10M (r k : Nat) (x : Ffx) : (s.setFfx r k x).ref10M = s.ref10M := rfl
@[simp] theorem State.setFfx_serial (r k : Nat) (x : Ffx) : (s.setFfx r k x).serial = s.serial := rfl
@[simp] theorem State.setFfx_now (r k : Nat) (x : Ffx) : (s.setFfx r k x).now = s.now := rfl
@[simp] theorem State.setFfx_epoch (r k : Nat) (x : Ffx) : (s.setFfx r k x).epoch = s.epoch := rfl
@[simp] theorem State.setFfx_epochOn (r k : Nat) (x : Ffx) : (s.setFfx r k x).epochOn = s.epochOn := rfl
@[simp] theorem State.setFfx_freeCtr (r k : Nat) (x : Ffx) : (s.setFfx r k x).freeCtr = s.freeCtr := rfl
@[simp] theorem State.setFfx_regs (r k : Nat) (x : Ffx) : (s.setFfx r k x).regs = s.regs := rfl
@[simp] theorem State.setFfx_lastRead (r k : Nat) (x : Ffx) : (s.setFfx r k x).lastRead = s.lastRead := rfl
@[simp] theorem State.setFfx_readShadow (r k : Nat) (x : Ffx) : (s.setFfx r k x).readShadow = s.readShadow := rfl
@[simp] theorem State.setFfx_writeShadow (r k : Nat) (x : Ffx) : (s.setFfx r k x).writeShadow = s.writeShadow := rfl
@[simp] theorem State.setFfx_rsetSel (r k : Nat) (x : Ffx) : (s.setFfx r k x).rsetSel = s.rsetSel := rfl
@[simp] theorem State.setFfx_mode (r k : Nat) (x : Ffx) : (s.setFfx r k x).mode = s.mode := rfl
@[simp] theorem State.setFfx_transition (r k : Nat) (x : Ffx) : (s.setFfx r k x).transition = s.transition := rfl
@[simp] theorem State.setFfx_powerGoodAt (r k : Nat) (x : Ffx) : (s.setFfx r k x).powerGoodAt = s.powerGoodAt := rfl
@[simp] theorem State.setFfx_calRaw (r k : Nat) (x : Ffx) : (s.setFfx r k x).calRaw = s.calRaw := rfl
@[simp] theorem State.setFfx_calAcc (r k : Nat) (x : Ffx) : (s.setFfx r k x).calAcc = s.calAcc := rfl
@[simp] theorem State.setFfx_disciplineAt (r k : Nat) (x : Ffx) : (s.setFfx r k x).disciplineAt = s.disciplineAt := rfl
@[simp] theorem State.setFfx_angle (r k : Nat) (x : Ffx) : (s.setFfx r k x).angle = s.angle := rfl
@[simp] theorem State.setFfx_alarmAt (r k : Nat) (x : Ffx) : (s.setFfx r k x).alarmAt = s.alarmAt := rfl
@[simp] theorem State.setFfx_alarmLate (r k : Nat) (x : Ffx) : (s.setFfx r k x).alarmLate = s.alarmLate := rfl
@[simp] theorem State.setFfx_alarmFired (r k : Nat) (x : Ffx) : (s.setFfx r k x).alarmFired = s.alarmFired := rfl
@[simp] theorem State.setFfx_snapArmed (r k : Nat) (x : Ffx) : (s.setFfx r k x).snapArmed = s.snapArmed := rfl
@[simp] theorem State.setFfx_relocking (r k : Nat) (x : Ffx) : (s.setFfx r k x).relocking = s.relocking := rfl
@[simp] theorem State.setFfx_lossAt (r k : Nat) (x : Ffx) : (s.setFfx r k x).lossAt = s.lossAt := rfl
@[simp] theorem State.setFfx_sqs (r k : Nat) (x : Ffx) : (s.setFfx r k x).sqs = s.sqs := rfl
@[simp] theorem State.setFfx_cqs (r k : Nat) (x : Ffx) : (s.setFfx r k x).cqs = s.cqs := rfl
@[simp] theorem State.setFfx_nextUid (r k : Nat) (x : Ffx) : (s.setFfx r k x).nextUid = s.nextUid := rfl
@[simp] theorem State.setFfx_busMaster (r k : Nat) (x : Ffx) : (s.setFfx r k x).busMaster = s.busMaster := rfl
@[simp] theorem State.setFfx_perst (r k : Nat) (x : Ffx) : (s.setFfx r k x).perst = s.perst := rfl
@[simp] theorem State.setFfx_posted (r k : Nat) (x : Ffx) : (s.setFfx r k x).posted = s.posted := rfl
@[simp] theorem State.setFfx_holding (r k : Nat) (x : Ffx) : (s.setFfx r k x).holding = s.holding := rfl
@[simp] theorem State.setFfx_holdHits (r k : Nat) (x : Ffx) : (s.setFfx r k x).holdHits = s.holdHits := rfl
@[simp] theorem State.setFfx_dmaStopped (r k : Nat) (x : Ffx) : (s.setFfx r k x).dmaStopped = s.dmaStopped := rfl
@[simp] theorem State.setFfx_gang (r k : Nat) (x : Ffx) : (s.setFfx r k x).gang = s.gang := rfl
@[simp] theorem State.setFfx_shots (r k : Nat) (x : Ffx) : (s.setFfx r k x).shots = s.shots := rfl
@[simp] theorem State.setFfx_works (r k : Nat) (x : Ffx) : (s.setFfx r k x).works = s.works := rfl
@[simp] theorem State.setFfx_wins (r k : Nat) (x : Ffx) : (s.setFfx r k x).wins = s.wins := rfl
@[simp] theorem State.setFfx_streams (r k : Nat) (x : Ffx) : (s.setFfx r k x).streams = s.streams := rfl
@[simp] theorem State.setFfx_engines (r k : Nat) (x : Ffx) : (s.setFfx r k x).engines = s.engines := rfl
@[simp] theorem State.setFfx_micro (r k : Nat) (x : Ffx) : (s.setFfx r k x).micro = s.micro := rfl
@[simp] theorem State.setFfx_nano (r k : Nat) (x : Ffx) : (s.setFfx r k x).nano = s.nano := rfl
@[simp] theorem State.setFfx_nanoRes (r k : Nat) (x : Ffx) : (s.setFfx r k x).nanoRes = s.nanoRes := rfl
@[simp] theorem State.setFfx_cache (r k : Nat) (x : Ffx) : (s.setFfx r k x).cache = s.cache := rfl
@[simp] theorem State.setFfx_commanded (r k : Nat) (x : Ffx) : (s.setFfx r k x).commanded = s.commanded := rfl
@[simp] theorem State.setFfx_ports (r k : Nat) (x : Ffx) : (s.setFfx r k x).ports = s.ports := rfl
@[simp] theorem State.setFfx_slots (r k : Nat) (x : Ffx) : (s.setFfx r k x).slots = s.slots := rfl
@[simp] theorem State.setFfx_slotWrites (r k : Nat) (x : Ffx) : (s.setFfx r k x).slotWrites = s.slotWrites := rfl
@[simp] theorem State.setFfx_frames (r k : Nat) (x : Ffx) : (s.setFfx r k x).frames = s.frames := rfl
@[simp] theorem State.setFfx_mrk (r k : Nat) (x : Ffx) : (s.setFfx r k x).mrk = s.mrk := rfl
@[simp] theorem State.setFfx_mrkMute (r k : Nat) (x : Ffx) : (s.setFfx r k x).mrkMute = s.mrkMute := rfl
@[simp] theorem State.setFfx_lines (r k : Nat) (x : Ffx) : (s.setFfx r k x).lines = s.lines := rfl
@[simp] theorem State.setFfx_interp (r k : Nat) (x : Ffx) : (s.setFfx r k x).interp = s.interp := rfl
@[simp] theorem State.setFfx_interpPend (r k : Nat) (x : Ffx) : (s.setFfx r k x).interpPend = s.interpPend := rfl
@[simp] theorem State.setFfx_flat (r k : Nat) (x : Ffx) : (s.setFfx r k x).flat = s.flat := rfl
@[simp] theorem State.setFfx_synth (r k : Nat) (x : Ffx) : (s.setFfx r k x).synth = s.synth := rfl
@[simp] theorem State.setFfx_bia (r k : Nat) (x : Ffx) : (s.setFfx r k x).bia = s.bia := rfl
@[simp] theorem State.setFfx_clrNext (r k : Nat) (x : Ffx) : (s.setFfx r k x).clrNext = s.clrNext := rfl
@[simp] theorem State.setFfx_acqs (r k : Nat) (x : Ffx) : (s.setFfx r k x).acqs = s.acqs := rfl
@[simp] theorem State.setFfx_tones (r k : Nat) (x : Ffx) : (s.setFfx r k x).tones = s.tones := rfl
@[simp] theorem State.setFfx_feeds (r k : Nat) (x : Ffx) : (s.setFfx r k x).feeds = s.feeds := rfl
@[simp] theorem State.setFfx_rwins (r k : Nat) (x : Ffx) : (s.setFfx r k x).rwins = s.rwins := rfl
@[simp] theorem State.setFfx_traces (r k : Nat) (x : Ffx) : (s.setFfx r k x).traces = s.traces := rfl
@[simp] theorem State.setFfx_results (r k : Nat) (x : Ffx) : (s.setFfx r k x).results = s.results := rfl
@[simp] theorem State.setFfx_frameStamps (r k : Nat) (x : Ffx) : (s.setFfx r k x).frameStamps = s.frameStamps := rfl
@[simp] theorem State.setFfx_rsets (r k : Nat) (x : Ffx) : (s.setFfx r k x).rsets = s.rsets := rfl
@[simp] theorem State.setFfx_mem (r k : Nat) (x : Ffx) : (s.setFfx r k x).mem = s.mem := rfl
@[simp] theorem State.setFfx_scrubPos (r k : Nat) (x : Ffx) : (s.setFfx r k x).scrubPos = s.scrubPos := rfl
@[simp] theorem State.setFfx_scrubPass (r k : Nat) (x : Ffx) : (s.setFfx r k x).scrubPass = s.scrubPass := rfl
@[simp] theorem State.setFfx_corrected (r k : Nat) (x : Ffx) : (s.setFfx r k x).corrected = s.corrected := rfl
@[simp] theorem State.setFfx_passCe (r k : Nat) (x : Ffx) : (s.setFfx r k x).passCe = s.passCe := rfl
@[simp] theorem State.setFfx_txQueue (r k : Nat) (x : Ffx) : (s.setFfx r k x).txQueue = s.txQueue := rfl
@[simp] theorem State.setFfx_rxHeld (r k : Nat) (x : Ffx) : (s.setFfx r k x).rxHeld = s.rxHeld := rfl
@[simp] theorem State.setFfx_routeSends (r k : Nat) (x : Ffx) : (s.setFfx r k x).routeSends = s.routeSends := rfl
@[simp] theorem State.setFfx_losses (r k : Nat) (x : Ffx) : (s.setFfx r k x).losses = s.losses := rfl
@[simp] theorem State.setFfx_lanes (r k : Nat) (x : Ffx) : (s.setFfx r k x).lanes = s.lanes := rfl
@[simp] theorem State.setFfx_lossNotices (r k : Nat) (x : Ffx) : (s.setFfx r k x).lossNotices = s.lossNotices := rfl
@[simp] theorem State.setFfx_dldSent (r k : Nat) (x : Ffx) : (s.setFfx r k x).dldSent = s.dldSent := rfl
@[simp] theorem State.setFfx_edgeAcceptedAt (r k : Nat) (x : Ffx) : (s.setFfx r k x).edgeAcceptedAt = s.edgeAcceptedAt := rfl
@[simp] theorem State.setFfx_epochOld (r k : Nat) (x : Ffx) : (s.setFfx r k x).epochOld = s.epochOld := rfl
@[simp] theorem State.setFfx_tdcs (r k : Nat) (x : Ffx) : (s.setFfx r k x).tdcs = s.tdcs := rfl
@[simp] theorem State.setFfx_snss (r k : Nat) (x : Ffx) : (s.setFfx r k x).snss = s.snss := rfl
@[simp] theorem State.setFfx_heaters (r k : Nat) (x : Ffx) : (s.setFfx r k x).heaters = s.heaters := rfl
@[simp] theorem State.setFfx_mon (r k : Nat) (x : Ffx) : (s.setFfx r k x).mon = s.mon := rfl
@[simp] theorem State.setFfx_curveShadow (r k : Nat) (x : Ffx) : (s.setFfx r k x).curveShadow = s.curveShadow := rfl
@[simp] theorem State.setFfx_curves (r k : Nat) (x : Ffx) : (s.setFfx r k x).curves = s.curves := rfl
@[simp] theorem State.setFfx_mbx (r k : Nat) (x : Ffx) : (s.setFfx r k x).mbx = s.mbx := rfl
@[simp] theorem State.setFfx_server (r k : Nat) (x : Ffx) : (s.setFfx r k x).server = s.server := rfl
@[simp] theorem State.setFfx_training (r k : Nat) (x : Ffx) : (s.setFfx r k x).training = s.training := rfl
@[simp] theorem State.setFfx_fwBank (r k : Nat) (x : Ffx) : (s.setFfx r k x).fwBank = s.fwBank := rfl
@[simp] theorem State.setFfx_fwBody (r k : Nat) (x : Ffx) : (s.setFfx r k x).fwBody = s.fwBody := rfl
@[simp] theorem State.setFfx_calBank (r k : Nat) (x : Ffx) : (s.setFfx r k x).calBank = s.calBank := rfl
@[simp] theorem State.setFfx_calBody (r k : Nat) (x : Ffx) : (s.setFfx r k x).calBody = s.calBody := rfl
@[simp] theorem State.setFfx_curveBank (r k : Nat) (x : Ffx) : (s.setFfx r k x).curveBank = s.curveBank := rfl
@[simp] theorem State.setFfx_curveBody (r k : Nat) (x : Ffx) : (s.setFfx r k x).curveBody = s.curveBody := rfl
@[simp] theorem State.setFfx_tripLog (r k : Nat) (x : Ffx) : (s.setFfx r k x).tripLog = s.tripLog := rfl
@[simp] theorem State.setFfx_tripOwed (r k : Nat) (x : Ffx) : (s.setFfx r k x).tripOwed = s.tripOwed := rfl
@[simp] theorem State.setFfx_routine (r k : Nat) (x : Ffx) : (s.setFfx r k x).routine = s.routine := rfl
@[simp] theorem State.setFfx_dip (r k : Nat) (x : Ffx) : (s.setFfx r k x).dip = s.dip := rfl
@[simp] theorem State.setFfx_trippedAt (r k : Nat) (x : Ffx) : (s.setFfx r k x).trippedAt = s.trippedAt := rfl
@[simp] theorem State.setFfx_window (r k : Nat) (x : Ffx) : (s.setFfx r k x).window = s.window := rfl
@[simp] theorem State.setFfx_thm (r k : Nat) (x : Ffx) : (s.setFfx r k x).thm = s.thm := rfl
@[simp] theorem State.setFfx_peffWas (r k : Nat) (x : Ffx) : (s.setFfx r k x).peffWas = s.peffWas := rfl
@[simp] theorem State.setFfx_calVref (r k : Nat) (x : Ffx) : (s.setFfx r k x).calVref = s.calVref := rfl
@[simp] theorem State.setFfx_flatPend (r k : Nat) (x : Ffx) : (s.setFfx r k x).flatPend = s.flatPend := rfl
@[simp] theorem State.rd_setFfx (r k : Nat) (x : Ffx) (i : Nat) : (s.setFfx r k x).rd i = s.rd i := rfl
@[simp] theorem State.get_setFfx (r k : Nat) (x : Ffx) (g : Fld) : (s.setFfx r k x).get g = s.get g := rfl
@[simp] theorem State.get64_setFfx (r k : Nat) (x : Ffx) (i : Nat) : (s.setFfx r k x).get64 i = s.get64 i := rfl
@[simp] theorem State.ffxAt_setFfx (r k : Nat) (x : Ffx) : (s.setFfx r k x).ffxAt r k = x := Table.get_set_same ..

/-! ### setBia -/

@[simp] theorem State.setBia_pending (r k : Nat) (x : Bia) : (s.setBia r k x).pending = s.pending := rfl
@[simp] theorem State.setBia_part (r k : Nat) (x : Bia) : (s.setBia r k x).part = s.part := rfl
@[simp] theorem State.setBia_ref10M (r k : Nat) (x : Bia) : (s.setBia r k x).ref10M = s.ref10M := rfl
@[simp] theorem State.setBia_serial (r k : Nat) (x : Bia) : (s.setBia r k x).serial = s.serial := rfl
@[simp] theorem State.setBia_now (r k : Nat) (x : Bia) : (s.setBia r k x).now = s.now := rfl
@[simp] theorem State.setBia_epoch (r k : Nat) (x : Bia) : (s.setBia r k x).epoch = s.epoch := rfl
@[simp] theorem State.setBia_epochOn (r k : Nat) (x : Bia) : (s.setBia r k x).epochOn = s.epochOn := rfl
@[simp] theorem State.setBia_freeCtr (r k : Nat) (x : Bia) : (s.setBia r k x).freeCtr = s.freeCtr := rfl
@[simp] theorem State.setBia_regs (r k : Nat) (x : Bia) : (s.setBia r k x).regs = s.regs := rfl
@[simp] theorem State.setBia_lastRead (r k : Nat) (x : Bia) : (s.setBia r k x).lastRead = s.lastRead := rfl
@[simp] theorem State.setBia_readShadow (r k : Nat) (x : Bia) : (s.setBia r k x).readShadow = s.readShadow := rfl
@[simp] theorem State.setBia_writeShadow (r k : Nat) (x : Bia) : (s.setBia r k x).writeShadow = s.writeShadow := rfl
@[simp] theorem State.setBia_rsetSel (r k : Nat) (x : Bia) : (s.setBia r k x).rsetSel = s.rsetSel := rfl
@[simp] theorem State.setBia_mode (r k : Nat) (x : Bia) : (s.setBia r k x).mode = s.mode := rfl
@[simp] theorem State.setBia_transition (r k : Nat) (x : Bia) : (s.setBia r k x).transition = s.transition := rfl
@[simp] theorem State.setBia_powerGoodAt (r k : Nat) (x : Bia) : (s.setBia r k x).powerGoodAt = s.powerGoodAt := rfl
@[simp] theorem State.setBia_calRaw (r k : Nat) (x : Bia) : (s.setBia r k x).calRaw = s.calRaw := rfl
@[simp] theorem State.setBia_calAcc (r k : Nat) (x : Bia) : (s.setBia r k x).calAcc = s.calAcc := rfl
@[simp] theorem State.setBia_disciplineAt (r k : Nat) (x : Bia) : (s.setBia r k x).disciplineAt = s.disciplineAt := rfl
@[simp] theorem State.setBia_angle (r k : Nat) (x : Bia) : (s.setBia r k x).angle = s.angle := rfl
@[simp] theorem State.setBia_alarmAt (r k : Nat) (x : Bia) : (s.setBia r k x).alarmAt = s.alarmAt := rfl
@[simp] theorem State.setBia_alarmLate (r k : Nat) (x : Bia) : (s.setBia r k x).alarmLate = s.alarmLate := rfl
@[simp] theorem State.setBia_alarmFired (r k : Nat) (x : Bia) : (s.setBia r k x).alarmFired = s.alarmFired := rfl
@[simp] theorem State.setBia_snapArmed (r k : Nat) (x : Bia) : (s.setBia r k x).snapArmed = s.snapArmed := rfl
@[simp] theorem State.setBia_relocking (r k : Nat) (x : Bia) : (s.setBia r k x).relocking = s.relocking := rfl
@[simp] theorem State.setBia_lossAt (r k : Nat) (x : Bia) : (s.setBia r k x).lossAt = s.lossAt := rfl
@[simp] theorem State.setBia_sqs (r k : Nat) (x : Bia) : (s.setBia r k x).sqs = s.sqs := rfl
@[simp] theorem State.setBia_cqs (r k : Nat) (x : Bia) : (s.setBia r k x).cqs = s.cqs := rfl
@[simp] theorem State.setBia_nextUid (r k : Nat) (x : Bia) : (s.setBia r k x).nextUid = s.nextUid := rfl
@[simp] theorem State.setBia_busMaster (r k : Nat) (x : Bia) : (s.setBia r k x).busMaster = s.busMaster := rfl
@[simp] theorem State.setBia_perst (r k : Nat) (x : Bia) : (s.setBia r k x).perst = s.perst := rfl
@[simp] theorem State.setBia_posted (r k : Nat) (x : Bia) : (s.setBia r k x).posted = s.posted := rfl
@[simp] theorem State.setBia_holding (r k : Nat) (x : Bia) : (s.setBia r k x).holding = s.holding := rfl
@[simp] theorem State.setBia_holdHits (r k : Nat) (x : Bia) : (s.setBia r k x).holdHits = s.holdHits := rfl
@[simp] theorem State.setBia_dmaStopped (r k : Nat) (x : Bia) : (s.setBia r k x).dmaStopped = s.dmaStopped := rfl
@[simp] theorem State.setBia_gang (r k : Nat) (x : Bia) : (s.setBia r k x).gang = s.gang := rfl
@[simp] theorem State.setBia_shots (r k : Nat) (x : Bia) : (s.setBia r k x).shots = s.shots := rfl
@[simp] theorem State.setBia_works (r k : Nat) (x : Bia) : (s.setBia r k x).works = s.works := rfl
@[simp] theorem State.setBia_wins (r k : Nat) (x : Bia) : (s.setBia r k x).wins = s.wins := rfl
@[simp] theorem State.setBia_streams (r k : Nat) (x : Bia) : (s.setBia r k x).streams = s.streams := rfl
@[simp] theorem State.setBia_engines (r k : Nat) (x : Bia) : (s.setBia r k x).engines = s.engines := rfl
@[simp] theorem State.setBia_micro (r k : Nat) (x : Bia) : (s.setBia r k x).micro = s.micro := rfl
@[simp] theorem State.setBia_nano (r k : Nat) (x : Bia) : (s.setBia r k x).nano = s.nano := rfl
@[simp] theorem State.setBia_nanoRes (r k : Nat) (x : Bia) : (s.setBia r k x).nanoRes = s.nanoRes := rfl
@[simp] theorem State.setBia_cache (r k : Nat) (x : Bia) : (s.setBia r k x).cache = s.cache := rfl
@[simp] theorem State.setBia_commanded (r k : Nat) (x : Bia) : (s.setBia r k x).commanded = s.commanded := rfl
@[simp] theorem State.setBia_ports (r k : Nat) (x : Bia) : (s.setBia r k x).ports = s.ports := rfl
@[simp] theorem State.setBia_slots (r k : Nat) (x : Bia) : (s.setBia r k x).slots = s.slots := rfl
@[simp] theorem State.setBia_slotWrites (r k : Nat) (x : Bia) : (s.setBia r k x).slotWrites = s.slotWrites := rfl
@[simp] theorem State.setBia_frames (r k : Nat) (x : Bia) : (s.setBia r k x).frames = s.frames := rfl
@[simp] theorem State.setBia_mrk (r k : Nat) (x : Bia) : (s.setBia r k x).mrk = s.mrk := rfl
@[simp] theorem State.setBia_mrkMute (r k : Nat) (x : Bia) : (s.setBia r k x).mrkMute = s.mrkMute := rfl
@[simp] theorem State.setBia_lines (r k : Nat) (x : Bia) : (s.setBia r k x).lines = s.lines := rfl
@[simp] theorem State.setBia_interp (r k : Nat) (x : Bia) : (s.setBia r k x).interp = s.interp := rfl
@[simp] theorem State.setBia_interpPend (r k : Nat) (x : Bia) : (s.setBia r k x).interpPend = s.interpPend := rfl
@[simp] theorem State.setBia_flat (r k : Nat) (x : Bia) : (s.setBia r k x).flat = s.flat := rfl
@[simp] theorem State.setBia_synth (r k : Nat) (x : Bia) : (s.setBia r k x).synth = s.synth := rfl
@[simp] theorem State.setBia_ffx (r k : Nat) (x : Bia) : (s.setBia r k x).ffx = s.ffx := rfl
@[simp] theorem State.setBia_clrNext (r k : Nat) (x : Bia) : (s.setBia r k x).clrNext = s.clrNext := rfl
@[simp] theorem State.setBia_acqs (r k : Nat) (x : Bia) : (s.setBia r k x).acqs = s.acqs := rfl
@[simp] theorem State.setBia_tones (r k : Nat) (x : Bia) : (s.setBia r k x).tones = s.tones := rfl
@[simp] theorem State.setBia_feeds (r k : Nat) (x : Bia) : (s.setBia r k x).feeds = s.feeds := rfl
@[simp] theorem State.setBia_rwins (r k : Nat) (x : Bia) : (s.setBia r k x).rwins = s.rwins := rfl
@[simp] theorem State.setBia_traces (r k : Nat) (x : Bia) : (s.setBia r k x).traces = s.traces := rfl
@[simp] theorem State.setBia_results (r k : Nat) (x : Bia) : (s.setBia r k x).results = s.results := rfl
@[simp] theorem State.setBia_frameStamps (r k : Nat) (x : Bia) : (s.setBia r k x).frameStamps = s.frameStamps := rfl
@[simp] theorem State.setBia_rsets (r k : Nat) (x : Bia) : (s.setBia r k x).rsets = s.rsets := rfl
@[simp] theorem State.setBia_mem (r k : Nat) (x : Bia) : (s.setBia r k x).mem = s.mem := rfl
@[simp] theorem State.setBia_scrubPos (r k : Nat) (x : Bia) : (s.setBia r k x).scrubPos = s.scrubPos := rfl
@[simp] theorem State.setBia_scrubPass (r k : Nat) (x : Bia) : (s.setBia r k x).scrubPass = s.scrubPass := rfl
@[simp] theorem State.setBia_corrected (r k : Nat) (x : Bia) : (s.setBia r k x).corrected = s.corrected := rfl
@[simp] theorem State.setBia_passCe (r k : Nat) (x : Bia) : (s.setBia r k x).passCe = s.passCe := rfl
@[simp] theorem State.setBia_txQueue (r k : Nat) (x : Bia) : (s.setBia r k x).txQueue = s.txQueue := rfl
@[simp] theorem State.setBia_rxHeld (r k : Nat) (x : Bia) : (s.setBia r k x).rxHeld = s.rxHeld := rfl
@[simp] theorem State.setBia_routeSends (r k : Nat) (x : Bia) : (s.setBia r k x).routeSends = s.routeSends := rfl
@[simp] theorem State.setBia_losses (r k : Nat) (x : Bia) : (s.setBia r k x).losses = s.losses := rfl
@[simp] theorem State.setBia_lanes (r k : Nat) (x : Bia) : (s.setBia r k x).lanes = s.lanes := rfl
@[simp] theorem State.setBia_lossNotices (r k : Nat) (x : Bia) : (s.setBia r k x).lossNotices = s.lossNotices := rfl
@[simp] theorem State.setBia_dldSent (r k : Nat) (x : Bia) : (s.setBia r k x).dldSent = s.dldSent := rfl
@[simp] theorem State.setBia_edgeAcceptedAt (r k : Nat) (x : Bia) : (s.setBia r k x).edgeAcceptedAt = s.edgeAcceptedAt := rfl
@[simp] theorem State.setBia_epochOld (r k : Nat) (x : Bia) : (s.setBia r k x).epochOld = s.epochOld := rfl
@[simp] theorem State.setBia_tdcs (r k : Nat) (x : Bia) : (s.setBia r k x).tdcs = s.tdcs := rfl
@[simp] theorem State.setBia_snss (r k : Nat) (x : Bia) : (s.setBia r k x).snss = s.snss := rfl
@[simp] theorem State.setBia_heaters (r k : Nat) (x : Bia) : (s.setBia r k x).heaters = s.heaters := rfl
@[simp] theorem State.setBia_mon (r k : Nat) (x : Bia) : (s.setBia r k x).mon = s.mon := rfl
@[simp] theorem State.setBia_curveShadow (r k : Nat) (x : Bia) : (s.setBia r k x).curveShadow = s.curveShadow := rfl
@[simp] theorem State.setBia_curves (r k : Nat) (x : Bia) : (s.setBia r k x).curves = s.curves := rfl
@[simp] theorem State.setBia_mbx (r k : Nat) (x : Bia) : (s.setBia r k x).mbx = s.mbx := rfl
@[simp] theorem State.setBia_server (r k : Nat) (x : Bia) : (s.setBia r k x).server = s.server := rfl
@[simp] theorem State.setBia_training (r k : Nat) (x : Bia) : (s.setBia r k x).training = s.training := rfl
@[simp] theorem State.setBia_fwBank (r k : Nat) (x : Bia) : (s.setBia r k x).fwBank = s.fwBank := rfl
@[simp] theorem State.setBia_fwBody (r k : Nat) (x : Bia) : (s.setBia r k x).fwBody = s.fwBody := rfl
@[simp] theorem State.setBia_calBank (r k : Nat) (x : Bia) : (s.setBia r k x).calBank = s.calBank := rfl
@[simp] theorem State.setBia_calBody (r k : Nat) (x : Bia) : (s.setBia r k x).calBody = s.calBody := rfl
@[simp] theorem State.setBia_curveBank (r k : Nat) (x : Bia) : (s.setBia r k x).curveBank = s.curveBank := rfl
@[simp] theorem State.setBia_curveBody (r k : Nat) (x : Bia) : (s.setBia r k x).curveBody = s.curveBody := rfl
@[simp] theorem State.setBia_tripLog (r k : Nat) (x : Bia) : (s.setBia r k x).tripLog = s.tripLog := rfl
@[simp] theorem State.setBia_tripOwed (r k : Nat) (x : Bia) : (s.setBia r k x).tripOwed = s.tripOwed := rfl
@[simp] theorem State.setBia_routine (r k : Nat) (x : Bia) : (s.setBia r k x).routine = s.routine := rfl
@[simp] theorem State.setBia_dip (r k : Nat) (x : Bia) : (s.setBia r k x).dip = s.dip := rfl
@[simp] theorem State.setBia_trippedAt (r k : Nat) (x : Bia) : (s.setBia r k x).trippedAt = s.trippedAt := rfl
@[simp] theorem State.setBia_window (r k : Nat) (x : Bia) : (s.setBia r k x).window = s.window := rfl
@[simp] theorem State.setBia_thm (r k : Nat) (x : Bia) : (s.setBia r k x).thm = s.thm := rfl
@[simp] theorem State.setBia_peffWas (r k : Nat) (x : Bia) : (s.setBia r k x).peffWas = s.peffWas := rfl
@[simp] theorem State.setBia_calVref (r k : Nat) (x : Bia) : (s.setBia r k x).calVref = s.calVref := rfl
@[simp] theorem State.setBia_flatPend (r k : Nat) (x : Bia) : (s.setBia r k x).flatPend = s.flatPend := rfl
@[simp] theorem State.rd_setBia (r k : Nat) (x : Bia) (i : Nat) : (s.setBia r k x).rd i = s.rd i := rfl
@[simp] theorem State.get_setBia (r k : Nat) (x : Bia) (g : Fld) : (s.setBia r k x).get g = s.get g := rfl
@[simp] theorem State.get64_setBia (r k : Nat) (x : Bia) (i : Nat) : (s.setBia r k x).get64 i = s.get64 i := rfl
@[simp] theorem State.biaAt_setBia (r k : Nat) (x : Bia) : (s.setBia r k x).biaAt r k = x := Table.get_set_same ..

/-! ### setMrkMute -/

@[simp] theorem State.setMrkMute_pending (r : Nat) (m : MrkMute) : (s.setMrkMute r m).pending = s.pending := rfl
@[simp] theorem State.setMrkMute_part (r : Nat) (m : MrkMute) : (s.setMrkMute r m).part = s.part := rfl
@[simp] theorem State.setMrkMute_ref10M (r : Nat) (m : MrkMute) : (s.setMrkMute r m).ref10M = s.ref10M := rfl
@[simp] theorem State.setMrkMute_serial (r : Nat) (m : MrkMute) : (s.setMrkMute r m).serial = s.serial := rfl
@[simp] theorem State.setMrkMute_now (r : Nat) (m : MrkMute) : (s.setMrkMute r m).now = s.now := rfl
@[simp] theorem State.setMrkMute_epoch (r : Nat) (m : MrkMute) : (s.setMrkMute r m).epoch = s.epoch := rfl
@[simp] theorem State.setMrkMute_epochOn (r : Nat) (m : MrkMute) : (s.setMrkMute r m).epochOn = s.epochOn := rfl
@[simp] theorem State.setMrkMute_freeCtr (r : Nat) (m : MrkMute) : (s.setMrkMute r m).freeCtr = s.freeCtr := rfl
@[simp] theorem State.setMrkMute_regs (r : Nat) (m : MrkMute) : (s.setMrkMute r m).regs = s.regs := rfl
@[simp] theorem State.setMrkMute_lastRead (r : Nat) (m : MrkMute) : (s.setMrkMute r m).lastRead = s.lastRead := rfl
@[simp] theorem State.setMrkMute_readShadow (r : Nat) (m : MrkMute) : (s.setMrkMute r m).readShadow = s.readShadow := rfl
@[simp] theorem State.setMrkMute_writeShadow (r : Nat) (m : MrkMute) : (s.setMrkMute r m).writeShadow = s.writeShadow := rfl
@[simp] theorem State.setMrkMute_rsetSel (r : Nat) (m : MrkMute) : (s.setMrkMute r m).rsetSel = s.rsetSel := rfl
@[simp] theorem State.setMrkMute_mode (r : Nat) (m : MrkMute) : (s.setMrkMute r m).mode = s.mode := rfl
@[simp] theorem State.setMrkMute_transition (r : Nat) (m : MrkMute) : (s.setMrkMute r m).transition = s.transition := rfl
@[simp] theorem State.setMrkMute_powerGoodAt (r : Nat) (m : MrkMute) : (s.setMrkMute r m).powerGoodAt = s.powerGoodAt := rfl
@[simp] theorem State.setMrkMute_calRaw (r : Nat) (m : MrkMute) : (s.setMrkMute r m).calRaw = s.calRaw := rfl
@[simp] theorem State.setMrkMute_calAcc (r : Nat) (m : MrkMute) : (s.setMrkMute r m).calAcc = s.calAcc := rfl
@[simp] theorem State.setMrkMute_disciplineAt (r : Nat) (m : MrkMute) : (s.setMrkMute r m).disciplineAt = s.disciplineAt := rfl
@[simp] theorem State.setMrkMute_angle (r : Nat) (m : MrkMute) : (s.setMrkMute r m).angle = s.angle := rfl
@[simp] theorem State.setMrkMute_alarmAt (r : Nat) (m : MrkMute) : (s.setMrkMute r m).alarmAt = s.alarmAt := rfl
@[simp] theorem State.setMrkMute_alarmLate (r : Nat) (m : MrkMute) : (s.setMrkMute r m).alarmLate = s.alarmLate := rfl
@[simp] theorem State.setMrkMute_alarmFired (r : Nat) (m : MrkMute) : (s.setMrkMute r m).alarmFired = s.alarmFired := rfl
@[simp] theorem State.setMrkMute_snapArmed (r : Nat) (m : MrkMute) : (s.setMrkMute r m).snapArmed = s.snapArmed := rfl
@[simp] theorem State.setMrkMute_relocking (r : Nat) (m : MrkMute) : (s.setMrkMute r m).relocking = s.relocking := rfl
@[simp] theorem State.setMrkMute_lossAt (r : Nat) (m : MrkMute) : (s.setMrkMute r m).lossAt = s.lossAt := rfl
@[simp] theorem State.setMrkMute_sqs (r : Nat) (m : MrkMute) : (s.setMrkMute r m).sqs = s.sqs := rfl
@[simp] theorem State.setMrkMute_cqs (r : Nat) (m : MrkMute) : (s.setMrkMute r m).cqs = s.cqs := rfl
@[simp] theorem State.setMrkMute_nextUid (r : Nat) (m : MrkMute) : (s.setMrkMute r m).nextUid = s.nextUid := rfl
@[simp] theorem State.setMrkMute_busMaster (r : Nat) (m : MrkMute) : (s.setMrkMute r m).busMaster = s.busMaster := rfl
@[simp] theorem State.setMrkMute_perst (r : Nat) (m : MrkMute) : (s.setMrkMute r m).perst = s.perst := rfl
@[simp] theorem State.setMrkMute_posted (r : Nat) (m : MrkMute) : (s.setMrkMute r m).posted = s.posted := rfl
@[simp] theorem State.setMrkMute_holding (r : Nat) (m : MrkMute) : (s.setMrkMute r m).holding = s.holding := rfl
@[simp] theorem State.setMrkMute_holdHits (r : Nat) (m : MrkMute) : (s.setMrkMute r m).holdHits = s.holdHits := rfl
@[simp] theorem State.setMrkMute_dmaStopped (r : Nat) (m : MrkMute) : (s.setMrkMute r m).dmaStopped = s.dmaStopped := rfl
@[simp] theorem State.setMrkMute_gang (r : Nat) (m : MrkMute) : (s.setMrkMute r m).gang = s.gang := rfl
@[simp] theorem State.setMrkMute_shots (r : Nat) (m : MrkMute) : (s.setMrkMute r m).shots = s.shots := rfl
@[simp] theorem State.setMrkMute_works (r : Nat) (m : MrkMute) : (s.setMrkMute r m).works = s.works := rfl
@[simp] theorem State.setMrkMute_wins (r : Nat) (m : MrkMute) : (s.setMrkMute r m).wins = s.wins := rfl
@[simp] theorem State.setMrkMute_streams (r : Nat) (m : MrkMute) : (s.setMrkMute r m).streams = s.streams := rfl
@[simp] theorem State.setMrkMute_engines (r : Nat) (m : MrkMute) : (s.setMrkMute r m).engines = s.engines := rfl
@[simp] theorem State.setMrkMute_micro (r : Nat) (m : MrkMute) : (s.setMrkMute r m).micro = s.micro := rfl
@[simp] theorem State.setMrkMute_nano (r : Nat) (m : MrkMute) : (s.setMrkMute r m).nano = s.nano := rfl
@[simp] theorem State.setMrkMute_nanoRes (r : Nat) (m : MrkMute) : (s.setMrkMute r m).nanoRes = s.nanoRes := rfl
@[simp] theorem State.setMrkMute_cache (r : Nat) (m : MrkMute) : (s.setMrkMute r m).cache = s.cache := rfl
@[simp] theorem State.setMrkMute_commanded (r : Nat) (m : MrkMute) : (s.setMrkMute r m).commanded = s.commanded := rfl
@[simp] theorem State.setMrkMute_ports (r : Nat) (m : MrkMute) : (s.setMrkMute r m).ports = s.ports := rfl
@[simp] theorem State.setMrkMute_slots (r : Nat) (m : MrkMute) : (s.setMrkMute r m).slots = s.slots := rfl
@[simp] theorem State.setMrkMute_slotWrites (r : Nat) (m : MrkMute) : (s.setMrkMute r m).slotWrites = s.slotWrites := rfl
@[simp] theorem State.setMrkMute_frames (r : Nat) (m : MrkMute) : (s.setMrkMute r m).frames = s.frames := rfl
@[simp] theorem State.setMrkMute_mrk (r : Nat) (m : MrkMute) : (s.setMrkMute r m).mrk = s.mrk := rfl
@[simp] theorem State.setMrkMute_lines (r : Nat) (m : MrkMute) : (s.setMrkMute r m).lines = s.lines := rfl
@[simp] theorem State.setMrkMute_interp (r : Nat) (m : MrkMute) : (s.setMrkMute r m).interp = s.interp := rfl
@[simp] theorem State.setMrkMute_interpPend (r : Nat) (m : MrkMute) : (s.setMrkMute r m).interpPend = s.interpPend := rfl
@[simp] theorem State.setMrkMute_flat (r : Nat) (m : MrkMute) : (s.setMrkMute r m).flat = s.flat := rfl
@[simp] theorem State.setMrkMute_synth (r : Nat) (m : MrkMute) : (s.setMrkMute r m).synth = s.synth := rfl
@[simp] theorem State.setMrkMute_ffx (r : Nat) (m : MrkMute) : (s.setMrkMute r m).ffx = s.ffx := rfl
@[simp] theorem State.setMrkMute_bia (r : Nat) (m : MrkMute) : (s.setMrkMute r m).bia = s.bia := rfl
@[simp] theorem State.setMrkMute_clrNext (r : Nat) (m : MrkMute) : (s.setMrkMute r m).clrNext = s.clrNext := rfl
@[simp] theorem State.setMrkMute_acqs (r : Nat) (m : MrkMute) : (s.setMrkMute r m).acqs = s.acqs := rfl
@[simp] theorem State.setMrkMute_tones (r : Nat) (m : MrkMute) : (s.setMrkMute r m).tones = s.tones := rfl
@[simp] theorem State.setMrkMute_feeds (r : Nat) (m : MrkMute) : (s.setMrkMute r m).feeds = s.feeds := rfl
@[simp] theorem State.setMrkMute_rwins (r : Nat) (m : MrkMute) : (s.setMrkMute r m).rwins = s.rwins := rfl
@[simp] theorem State.setMrkMute_traces (r : Nat) (m : MrkMute) : (s.setMrkMute r m).traces = s.traces := rfl
@[simp] theorem State.setMrkMute_results (r : Nat) (m : MrkMute) : (s.setMrkMute r m).results = s.results := rfl
@[simp] theorem State.setMrkMute_frameStamps (r : Nat) (m : MrkMute) : (s.setMrkMute r m).frameStamps = s.frameStamps := rfl
@[simp] theorem State.setMrkMute_rsets (r : Nat) (m : MrkMute) : (s.setMrkMute r m).rsets = s.rsets := rfl
@[simp] theorem State.setMrkMute_mem (r : Nat) (m : MrkMute) : (s.setMrkMute r m).mem = s.mem := rfl
@[simp] theorem State.setMrkMute_scrubPos (r : Nat) (m : MrkMute) : (s.setMrkMute r m).scrubPos = s.scrubPos := rfl
@[simp] theorem State.setMrkMute_scrubPass (r : Nat) (m : MrkMute) : (s.setMrkMute r m).scrubPass = s.scrubPass := rfl
@[simp] theorem State.setMrkMute_corrected (r : Nat) (m : MrkMute) : (s.setMrkMute r m).corrected = s.corrected := rfl
@[simp] theorem State.setMrkMute_passCe (r : Nat) (m : MrkMute) : (s.setMrkMute r m).passCe = s.passCe := rfl
@[simp] theorem State.setMrkMute_txQueue (r : Nat) (m : MrkMute) : (s.setMrkMute r m).txQueue = s.txQueue := rfl
@[simp] theorem State.setMrkMute_rxHeld (r : Nat) (m : MrkMute) : (s.setMrkMute r m).rxHeld = s.rxHeld := rfl
@[simp] theorem State.setMrkMute_routeSends (r : Nat) (m : MrkMute) : (s.setMrkMute r m).routeSends = s.routeSends := rfl
@[simp] theorem State.setMrkMute_losses (r : Nat) (m : MrkMute) : (s.setMrkMute r m).losses = s.losses := rfl
@[simp] theorem State.setMrkMute_lanes (r : Nat) (m : MrkMute) : (s.setMrkMute r m).lanes = s.lanes := rfl
@[simp] theorem State.setMrkMute_lossNotices (r : Nat) (m : MrkMute) : (s.setMrkMute r m).lossNotices = s.lossNotices := rfl
@[simp] theorem State.setMrkMute_dldSent (r : Nat) (m : MrkMute) : (s.setMrkMute r m).dldSent = s.dldSent := rfl
@[simp] theorem State.setMrkMute_edgeAcceptedAt (r : Nat) (m : MrkMute) : (s.setMrkMute r m).edgeAcceptedAt = s.edgeAcceptedAt := rfl
@[simp] theorem State.setMrkMute_epochOld (r : Nat) (m : MrkMute) : (s.setMrkMute r m).epochOld = s.epochOld := rfl
@[simp] theorem State.setMrkMute_tdcs (r : Nat) (m : MrkMute) : (s.setMrkMute r m).tdcs = s.tdcs := rfl
@[simp] theorem State.setMrkMute_snss (r : Nat) (m : MrkMute) : (s.setMrkMute r m).snss = s.snss := rfl
@[simp] theorem State.setMrkMute_heaters (r : Nat) (m : MrkMute) : (s.setMrkMute r m).heaters = s.heaters := rfl
@[simp] theorem State.setMrkMute_mon (r : Nat) (m : MrkMute) : (s.setMrkMute r m).mon = s.mon := rfl
@[simp] theorem State.setMrkMute_curveShadow (r : Nat) (m : MrkMute) : (s.setMrkMute r m).curveShadow = s.curveShadow := rfl
@[simp] theorem State.setMrkMute_curves (r : Nat) (m : MrkMute) : (s.setMrkMute r m).curves = s.curves := rfl
@[simp] theorem State.setMrkMute_mbx (r : Nat) (m : MrkMute) : (s.setMrkMute r m).mbx = s.mbx := rfl
@[simp] theorem State.setMrkMute_server (r : Nat) (m : MrkMute) : (s.setMrkMute r m).server = s.server := rfl
@[simp] theorem State.setMrkMute_training (r : Nat) (m : MrkMute) : (s.setMrkMute r m).training = s.training := rfl
@[simp] theorem State.setMrkMute_fwBank (r : Nat) (m : MrkMute) : (s.setMrkMute r m).fwBank = s.fwBank := rfl
@[simp] theorem State.setMrkMute_fwBody (r : Nat) (m : MrkMute) : (s.setMrkMute r m).fwBody = s.fwBody := rfl
@[simp] theorem State.setMrkMute_calBank (r : Nat) (m : MrkMute) : (s.setMrkMute r m).calBank = s.calBank := rfl
@[simp] theorem State.setMrkMute_calBody (r : Nat) (m : MrkMute) : (s.setMrkMute r m).calBody = s.calBody := rfl
@[simp] theorem State.setMrkMute_curveBank (r : Nat) (m : MrkMute) : (s.setMrkMute r m).curveBank = s.curveBank := rfl
@[simp] theorem State.setMrkMute_curveBody (r : Nat) (m : MrkMute) : (s.setMrkMute r m).curveBody = s.curveBody := rfl
@[simp] theorem State.setMrkMute_tripLog (r : Nat) (m : MrkMute) : (s.setMrkMute r m).tripLog = s.tripLog := rfl
@[simp] theorem State.setMrkMute_tripOwed (r : Nat) (m : MrkMute) : (s.setMrkMute r m).tripOwed = s.tripOwed := rfl
@[simp] theorem State.setMrkMute_routine (r : Nat) (m : MrkMute) : (s.setMrkMute r m).routine = s.routine := rfl
@[simp] theorem State.setMrkMute_dip (r : Nat) (m : MrkMute) : (s.setMrkMute r m).dip = s.dip := rfl
@[simp] theorem State.setMrkMute_trippedAt (r : Nat) (m : MrkMute) : (s.setMrkMute r m).trippedAt = s.trippedAt := rfl
@[simp] theorem State.setMrkMute_window (r : Nat) (m : MrkMute) : (s.setMrkMute r m).window = s.window := rfl
@[simp] theorem State.setMrkMute_thm (r : Nat) (m : MrkMute) : (s.setMrkMute r m).thm = s.thm := rfl
@[simp] theorem State.setMrkMute_peffWas (r : Nat) (m : MrkMute) : (s.setMrkMute r m).peffWas = s.peffWas := rfl
@[simp] theorem State.setMrkMute_calVref (r : Nat) (m : MrkMute) : (s.setMrkMute r m).calVref = s.calVref := rfl
@[simp] theorem State.setMrkMute_flatPend (r : Nat) (m : MrkMute) : (s.setMrkMute r m).flatPend = s.flatPend := rfl
@[simp] theorem State.rd_setMrkMute (r : Nat) (m : MrkMute) (i : Nat) : (s.setMrkMute r m).rd i = s.rd i := rfl
@[simp] theorem State.get_setMrkMute (r : Nat) (m : MrkMute) (g : Fld) : (s.setMrkMute r m).get g = s.get g := rfl
@[simp] theorem State.get64_setMrkMute (r : Nat) (m : MrkMute) (i : Nat) : (s.setMrkMute r m).get64 i = s.get64 i := rfl
@[simp] theorem State.mrkMuteAt_setMrkMute (r : Nat) (m : MrkMute) : (s.setMrkMute r m).mrkMuteAt r = m := Table.get_set_same ..

/-! ### setMem -/

@[simp] theorem State.setMem_pending (w : Nat) (c : Codeword) : (s.setMem w c).pending = s.pending := rfl
@[simp] theorem State.setMem_part (w : Nat) (c : Codeword) : (s.setMem w c).part = s.part := rfl
@[simp] theorem State.setMem_ref10M (w : Nat) (c : Codeword) : (s.setMem w c).ref10M = s.ref10M := rfl
@[simp] theorem State.setMem_serial (w : Nat) (c : Codeword) : (s.setMem w c).serial = s.serial := rfl
@[simp] theorem State.setMem_now (w : Nat) (c : Codeword) : (s.setMem w c).now = s.now := rfl
@[simp] theorem State.setMem_epoch (w : Nat) (c : Codeword) : (s.setMem w c).epoch = s.epoch := rfl
@[simp] theorem State.setMem_epochOn (w : Nat) (c : Codeword) : (s.setMem w c).epochOn = s.epochOn := rfl
@[simp] theorem State.setMem_freeCtr (w : Nat) (c : Codeword) : (s.setMem w c).freeCtr = s.freeCtr := rfl
@[simp] theorem State.setMem_regs (w : Nat) (c : Codeword) : (s.setMem w c).regs = s.regs := rfl
@[simp] theorem State.setMem_lastRead (w : Nat) (c : Codeword) : (s.setMem w c).lastRead = s.lastRead := rfl
@[simp] theorem State.setMem_readShadow (w : Nat) (c : Codeword) : (s.setMem w c).readShadow = s.readShadow := rfl
@[simp] theorem State.setMem_writeShadow (w : Nat) (c : Codeword) : (s.setMem w c).writeShadow = s.writeShadow := rfl
@[simp] theorem State.setMem_rsetSel (w : Nat) (c : Codeword) : (s.setMem w c).rsetSel = s.rsetSel := rfl
@[simp] theorem State.setMem_mode (w : Nat) (c : Codeword) : (s.setMem w c).mode = s.mode := rfl
@[simp] theorem State.setMem_transition (w : Nat) (c : Codeword) : (s.setMem w c).transition = s.transition := rfl
@[simp] theorem State.setMem_powerGoodAt (w : Nat) (c : Codeword) : (s.setMem w c).powerGoodAt = s.powerGoodAt := rfl
@[simp] theorem State.setMem_calRaw (w : Nat) (c : Codeword) : (s.setMem w c).calRaw = s.calRaw := rfl
@[simp] theorem State.setMem_calAcc (w : Nat) (c : Codeword) : (s.setMem w c).calAcc = s.calAcc := rfl
@[simp] theorem State.setMem_disciplineAt (w : Nat) (c : Codeword) : (s.setMem w c).disciplineAt = s.disciplineAt := rfl
@[simp] theorem State.setMem_angle (w : Nat) (c : Codeword) : (s.setMem w c).angle = s.angle := rfl
@[simp] theorem State.setMem_alarmAt (w : Nat) (c : Codeword) : (s.setMem w c).alarmAt = s.alarmAt := rfl
@[simp] theorem State.setMem_alarmLate (w : Nat) (c : Codeword) : (s.setMem w c).alarmLate = s.alarmLate := rfl
@[simp] theorem State.setMem_alarmFired (w : Nat) (c : Codeword) : (s.setMem w c).alarmFired = s.alarmFired := rfl
@[simp] theorem State.setMem_snapArmed (w : Nat) (c : Codeword) : (s.setMem w c).snapArmed = s.snapArmed := rfl
@[simp] theorem State.setMem_relocking (w : Nat) (c : Codeword) : (s.setMem w c).relocking = s.relocking := rfl
@[simp] theorem State.setMem_lossAt (w : Nat) (c : Codeword) : (s.setMem w c).lossAt = s.lossAt := rfl
@[simp] theorem State.setMem_sqs (w : Nat) (c : Codeword) : (s.setMem w c).sqs = s.sqs := rfl
@[simp] theorem State.setMem_cqs (w : Nat) (c : Codeword) : (s.setMem w c).cqs = s.cqs := rfl
@[simp] theorem State.setMem_nextUid (w : Nat) (c : Codeword) : (s.setMem w c).nextUid = s.nextUid := rfl
@[simp] theorem State.setMem_busMaster (w : Nat) (c : Codeword) : (s.setMem w c).busMaster = s.busMaster := rfl
@[simp] theorem State.setMem_perst (w : Nat) (c : Codeword) : (s.setMem w c).perst = s.perst := rfl
@[simp] theorem State.setMem_posted (w : Nat) (c : Codeword) : (s.setMem w c).posted = s.posted := rfl
@[simp] theorem State.setMem_holding (w : Nat) (c : Codeword) : (s.setMem w c).holding = s.holding := rfl
@[simp] theorem State.setMem_holdHits (w : Nat) (c : Codeword) : (s.setMem w c).holdHits = s.holdHits := rfl
@[simp] theorem State.setMem_dmaStopped (w : Nat) (c : Codeword) : (s.setMem w c).dmaStopped = s.dmaStopped := rfl
@[simp] theorem State.setMem_gang (w : Nat) (c : Codeword) : (s.setMem w c).gang = s.gang := rfl
@[simp] theorem State.setMem_shots (w : Nat) (c : Codeword) : (s.setMem w c).shots = s.shots := rfl
@[simp] theorem State.setMem_works (w : Nat) (c : Codeword) : (s.setMem w c).works = s.works := rfl
@[simp] theorem State.setMem_wins (w : Nat) (c : Codeword) : (s.setMem w c).wins = s.wins := rfl
@[simp] theorem State.setMem_streams (w : Nat) (c : Codeword) : (s.setMem w c).streams = s.streams := rfl
@[simp] theorem State.setMem_engines (w : Nat) (c : Codeword) : (s.setMem w c).engines = s.engines := rfl
@[simp] theorem State.setMem_micro (w : Nat) (c : Codeword) : (s.setMem w c).micro = s.micro := rfl
@[simp] theorem State.setMem_nano (w : Nat) (c : Codeword) : (s.setMem w c).nano = s.nano := rfl
@[simp] theorem State.setMem_nanoRes (w : Nat) (c : Codeword) : (s.setMem w c).nanoRes = s.nanoRes := rfl
@[simp] theorem State.setMem_cache (w : Nat) (c : Codeword) : (s.setMem w c).cache = s.cache := rfl
@[simp] theorem State.setMem_commanded (w : Nat) (c : Codeword) : (s.setMem w c).commanded = s.commanded := rfl
@[simp] theorem State.setMem_ports (w : Nat) (c : Codeword) : (s.setMem w c).ports = s.ports := rfl
@[simp] theorem State.setMem_slots (w : Nat) (c : Codeword) : (s.setMem w c).slots = s.slots := rfl
@[simp] theorem State.setMem_slotWrites (w : Nat) (c : Codeword) : (s.setMem w c).slotWrites = s.slotWrites := rfl
@[simp] theorem State.setMem_frames (w : Nat) (c : Codeword) : (s.setMem w c).frames = s.frames := rfl
@[simp] theorem State.setMem_mrk (w : Nat) (c : Codeword) : (s.setMem w c).mrk = s.mrk := rfl
@[simp] theorem State.setMem_mrkMute (w : Nat) (c : Codeword) : (s.setMem w c).mrkMute = s.mrkMute := rfl
@[simp] theorem State.setMem_lines (w : Nat) (c : Codeword) : (s.setMem w c).lines = s.lines := rfl
@[simp] theorem State.setMem_interp (w : Nat) (c : Codeword) : (s.setMem w c).interp = s.interp := rfl
@[simp] theorem State.setMem_interpPend (w : Nat) (c : Codeword) : (s.setMem w c).interpPend = s.interpPend := rfl
@[simp] theorem State.setMem_flat (w : Nat) (c : Codeword) : (s.setMem w c).flat = s.flat := rfl
@[simp] theorem State.setMem_synth (w : Nat) (c : Codeword) : (s.setMem w c).synth = s.synth := rfl
@[simp] theorem State.setMem_ffx (w : Nat) (c : Codeword) : (s.setMem w c).ffx = s.ffx := rfl
@[simp] theorem State.setMem_bia (w : Nat) (c : Codeword) : (s.setMem w c).bia = s.bia := rfl
@[simp] theorem State.setMem_clrNext (w : Nat) (c : Codeword) : (s.setMem w c).clrNext = s.clrNext := rfl
@[simp] theorem State.setMem_acqs (w : Nat) (c : Codeword) : (s.setMem w c).acqs = s.acqs := rfl
@[simp] theorem State.setMem_tones (w : Nat) (c : Codeword) : (s.setMem w c).tones = s.tones := rfl
@[simp] theorem State.setMem_feeds (w : Nat) (c : Codeword) : (s.setMem w c).feeds = s.feeds := rfl
@[simp] theorem State.setMem_rwins (w : Nat) (c : Codeword) : (s.setMem w c).rwins = s.rwins := rfl
@[simp] theorem State.setMem_traces (w : Nat) (c : Codeword) : (s.setMem w c).traces = s.traces := rfl
@[simp] theorem State.setMem_results (w : Nat) (c : Codeword) : (s.setMem w c).results = s.results := rfl
@[simp] theorem State.setMem_frameStamps (w : Nat) (c : Codeword) : (s.setMem w c).frameStamps = s.frameStamps := rfl
@[simp] theorem State.setMem_rsets (w : Nat) (c : Codeword) : (s.setMem w c).rsets = s.rsets := rfl
@[simp] theorem State.setMem_scrubPos (w : Nat) (c : Codeword) : (s.setMem w c).scrubPos = s.scrubPos := rfl
@[simp] theorem State.setMem_scrubPass (w : Nat) (c : Codeword) : (s.setMem w c).scrubPass = s.scrubPass := rfl
@[simp] theorem State.setMem_corrected (w : Nat) (c : Codeword) : (s.setMem w c).corrected = s.corrected := rfl
@[simp] theorem State.setMem_passCe (w : Nat) (c : Codeword) : (s.setMem w c).passCe = s.passCe := rfl
@[simp] theorem State.setMem_txQueue (w : Nat) (c : Codeword) : (s.setMem w c).txQueue = s.txQueue := rfl
@[simp] theorem State.setMem_rxHeld (w : Nat) (c : Codeword) : (s.setMem w c).rxHeld = s.rxHeld := rfl
@[simp] theorem State.setMem_routeSends (w : Nat) (c : Codeword) : (s.setMem w c).routeSends = s.routeSends := rfl
@[simp] theorem State.setMem_losses (w : Nat) (c : Codeword) : (s.setMem w c).losses = s.losses := rfl
@[simp] theorem State.setMem_lanes (w : Nat) (c : Codeword) : (s.setMem w c).lanes = s.lanes := rfl
@[simp] theorem State.setMem_lossNotices (w : Nat) (c : Codeword) : (s.setMem w c).lossNotices = s.lossNotices := rfl
@[simp] theorem State.setMem_dldSent (w : Nat) (c : Codeword) : (s.setMem w c).dldSent = s.dldSent := rfl
@[simp] theorem State.setMem_edgeAcceptedAt (w : Nat) (c : Codeword) : (s.setMem w c).edgeAcceptedAt = s.edgeAcceptedAt := rfl
@[simp] theorem State.setMem_epochOld (w : Nat) (c : Codeword) : (s.setMem w c).epochOld = s.epochOld := rfl
@[simp] theorem State.setMem_tdcs (w : Nat) (c : Codeword) : (s.setMem w c).tdcs = s.tdcs := rfl
@[simp] theorem State.setMem_snss (w : Nat) (c : Codeword) : (s.setMem w c).snss = s.snss := rfl
@[simp] theorem State.setMem_heaters (w : Nat) (c : Codeword) : (s.setMem w c).heaters = s.heaters := rfl
@[simp] theorem State.setMem_mon (w : Nat) (c : Codeword) : (s.setMem w c).mon = s.mon := rfl
@[simp] theorem State.setMem_curveShadow (w : Nat) (c : Codeword) : (s.setMem w c).curveShadow = s.curveShadow := rfl
@[simp] theorem State.setMem_curves (w : Nat) (c : Codeword) : (s.setMem w c).curves = s.curves := rfl
@[simp] theorem State.setMem_mbx (w : Nat) (c : Codeword) : (s.setMem w c).mbx = s.mbx := rfl
@[simp] theorem State.setMem_server (w : Nat) (c : Codeword) : (s.setMem w c).server = s.server := rfl
@[simp] theorem State.setMem_training (w : Nat) (c : Codeword) : (s.setMem w c).training = s.training := rfl
@[simp] theorem State.setMem_fwBank (w : Nat) (c : Codeword) : (s.setMem w c).fwBank = s.fwBank := rfl
@[simp] theorem State.setMem_fwBody (w : Nat) (c : Codeword) : (s.setMem w c).fwBody = s.fwBody := rfl
@[simp] theorem State.setMem_calBank (w : Nat) (c : Codeword) : (s.setMem w c).calBank = s.calBank := rfl
@[simp] theorem State.setMem_calBody (w : Nat) (c : Codeword) : (s.setMem w c).calBody = s.calBody := rfl
@[simp] theorem State.setMem_curveBank (w : Nat) (c : Codeword) : (s.setMem w c).curveBank = s.curveBank := rfl
@[simp] theorem State.setMem_curveBody (w : Nat) (c : Codeword) : (s.setMem w c).curveBody = s.curveBody := rfl
@[simp] theorem State.setMem_tripLog (w : Nat) (c : Codeword) : (s.setMem w c).tripLog = s.tripLog := rfl
@[simp] theorem State.setMem_tripOwed (w : Nat) (c : Codeword) : (s.setMem w c).tripOwed = s.tripOwed := rfl
@[simp] theorem State.setMem_routine (w : Nat) (c : Codeword) : (s.setMem w c).routine = s.routine := rfl
@[simp] theorem State.setMem_dip (w : Nat) (c : Codeword) : (s.setMem w c).dip = s.dip := rfl
@[simp] theorem State.setMem_trippedAt (w : Nat) (c : Codeword) : (s.setMem w c).trippedAt = s.trippedAt := rfl
@[simp] theorem State.setMem_window (w : Nat) (c : Codeword) : (s.setMem w c).window = s.window := rfl
@[simp] theorem State.setMem_thm (w : Nat) (c : Codeword) : (s.setMem w c).thm = s.thm := rfl
@[simp] theorem State.setMem_peffWas (w : Nat) (c : Codeword) : (s.setMem w c).peffWas = s.peffWas := rfl
@[simp] theorem State.setMem_calVref (w : Nat) (c : Codeword) : (s.setMem w c).calVref = s.calVref := rfl
@[simp] theorem State.setMem_flatPend (w : Nat) (c : Codeword) : (s.setMem w c).flatPend = s.flatPend := rfl
@[simp] theorem State.rd_setMem (w : Nat) (c : Codeword) (i : Nat) : (s.setMem w c).rd i = s.rd i := rfl
@[simp] theorem State.get_setMem (w : Nat) (c : Codeword) (g : Fld) : (s.setMem w c).get g = s.get g := rfl
@[simp] theorem State.get64_setMem (w : Nat) (c : Codeword) (i : Nat) : (s.setMem w c).get64 i = s.get64 i := rfl
@[simp] theorem State.memAt_setMem (w : Nat) (c : Codeword) : (s.setMem w c).memAt w = c := Table.get_set_same ..

/-! ### setMbx -/

@[simp] theorem State.setMbx_pending (k : Nat) (m : Mailbox) : (s.setMbx k m).pending = s.pending := rfl
@[simp] theorem State.setMbx_part (k : Nat) (m : Mailbox) : (s.setMbx k m).part = s.part := rfl
@[simp] theorem State.setMbx_ref10M (k : Nat) (m : Mailbox) : (s.setMbx k m).ref10M = s.ref10M := rfl
@[simp] theorem State.setMbx_serial (k : Nat) (m : Mailbox) : (s.setMbx k m).serial = s.serial := rfl
@[simp] theorem State.setMbx_now (k : Nat) (m : Mailbox) : (s.setMbx k m).now = s.now := rfl
@[simp] theorem State.setMbx_epoch (k : Nat) (m : Mailbox) : (s.setMbx k m).epoch = s.epoch := rfl
@[simp] theorem State.setMbx_epochOn (k : Nat) (m : Mailbox) : (s.setMbx k m).epochOn = s.epochOn := rfl
@[simp] theorem State.setMbx_freeCtr (k : Nat) (m : Mailbox) : (s.setMbx k m).freeCtr = s.freeCtr := rfl
@[simp] theorem State.setMbx_regs (k : Nat) (m : Mailbox) : (s.setMbx k m).regs = s.regs := rfl
@[simp] theorem State.setMbx_lastRead (k : Nat) (m : Mailbox) : (s.setMbx k m).lastRead = s.lastRead := rfl
@[simp] theorem State.setMbx_readShadow (k : Nat) (m : Mailbox) : (s.setMbx k m).readShadow = s.readShadow := rfl
@[simp] theorem State.setMbx_writeShadow (k : Nat) (m : Mailbox) : (s.setMbx k m).writeShadow = s.writeShadow := rfl
@[simp] theorem State.setMbx_rsetSel (k : Nat) (m : Mailbox) : (s.setMbx k m).rsetSel = s.rsetSel := rfl
@[simp] theorem State.setMbx_mode (k : Nat) (m : Mailbox) : (s.setMbx k m).mode = s.mode := rfl
@[simp] theorem State.setMbx_transition (k : Nat) (m : Mailbox) : (s.setMbx k m).transition = s.transition := rfl
@[simp] theorem State.setMbx_powerGoodAt (k : Nat) (m : Mailbox) : (s.setMbx k m).powerGoodAt = s.powerGoodAt := rfl
@[simp] theorem State.setMbx_calRaw (k : Nat) (m : Mailbox) : (s.setMbx k m).calRaw = s.calRaw := rfl
@[simp] theorem State.setMbx_calAcc (k : Nat) (m : Mailbox) : (s.setMbx k m).calAcc = s.calAcc := rfl
@[simp] theorem State.setMbx_disciplineAt (k : Nat) (m : Mailbox) : (s.setMbx k m).disciplineAt = s.disciplineAt := rfl
@[simp] theorem State.setMbx_angle (k : Nat) (m : Mailbox) : (s.setMbx k m).angle = s.angle := rfl
@[simp] theorem State.setMbx_alarmAt (k : Nat) (m : Mailbox) : (s.setMbx k m).alarmAt = s.alarmAt := rfl
@[simp] theorem State.setMbx_alarmLate (k : Nat) (m : Mailbox) : (s.setMbx k m).alarmLate = s.alarmLate := rfl
@[simp] theorem State.setMbx_alarmFired (k : Nat) (m : Mailbox) : (s.setMbx k m).alarmFired = s.alarmFired := rfl
@[simp] theorem State.setMbx_snapArmed (k : Nat) (m : Mailbox) : (s.setMbx k m).snapArmed = s.snapArmed := rfl
@[simp] theorem State.setMbx_relocking (k : Nat) (m : Mailbox) : (s.setMbx k m).relocking = s.relocking := rfl
@[simp] theorem State.setMbx_lossAt (k : Nat) (m : Mailbox) : (s.setMbx k m).lossAt = s.lossAt := rfl
@[simp] theorem State.setMbx_sqs (k : Nat) (m : Mailbox) : (s.setMbx k m).sqs = s.sqs := rfl
@[simp] theorem State.setMbx_cqs (k : Nat) (m : Mailbox) : (s.setMbx k m).cqs = s.cqs := rfl
@[simp] theorem State.setMbx_nextUid (k : Nat) (m : Mailbox) : (s.setMbx k m).nextUid = s.nextUid := rfl
@[simp] theorem State.setMbx_busMaster (k : Nat) (m : Mailbox) : (s.setMbx k m).busMaster = s.busMaster := rfl
@[simp] theorem State.setMbx_perst (k : Nat) (m : Mailbox) : (s.setMbx k m).perst = s.perst := rfl
@[simp] theorem State.setMbx_posted (k : Nat) (m : Mailbox) : (s.setMbx k m).posted = s.posted := rfl
@[simp] theorem State.setMbx_holding (k : Nat) (m : Mailbox) : (s.setMbx k m).holding = s.holding := rfl
@[simp] theorem State.setMbx_holdHits (k : Nat) (m : Mailbox) : (s.setMbx k m).holdHits = s.holdHits := rfl
@[simp] theorem State.setMbx_dmaStopped (k : Nat) (m : Mailbox) : (s.setMbx k m).dmaStopped = s.dmaStopped := rfl
@[simp] theorem State.setMbx_gang (k : Nat) (m : Mailbox) : (s.setMbx k m).gang = s.gang := rfl
@[simp] theorem State.setMbx_shots (k : Nat) (m : Mailbox) : (s.setMbx k m).shots = s.shots := rfl
@[simp] theorem State.setMbx_works (k : Nat) (m : Mailbox) : (s.setMbx k m).works = s.works := rfl
@[simp] theorem State.setMbx_wins (k : Nat) (m : Mailbox) : (s.setMbx k m).wins = s.wins := rfl
@[simp] theorem State.setMbx_streams (k : Nat) (m : Mailbox) : (s.setMbx k m).streams = s.streams := rfl
@[simp] theorem State.setMbx_engines (k : Nat) (m : Mailbox) : (s.setMbx k m).engines = s.engines := rfl
@[simp] theorem State.setMbx_micro (k : Nat) (m : Mailbox) : (s.setMbx k m).micro = s.micro := rfl
@[simp] theorem State.setMbx_nano (k : Nat) (m : Mailbox) : (s.setMbx k m).nano = s.nano := rfl
@[simp] theorem State.setMbx_nanoRes (k : Nat) (m : Mailbox) : (s.setMbx k m).nanoRes = s.nanoRes := rfl
@[simp] theorem State.setMbx_cache (k : Nat) (m : Mailbox) : (s.setMbx k m).cache = s.cache := rfl
@[simp] theorem State.setMbx_commanded (k : Nat) (m : Mailbox) : (s.setMbx k m).commanded = s.commanded := rfl
@[simp] theorem State.setMbx_ports (k : Nat) (m : Mailbox) : (s.setMbx k m).ports = s.ports := rfl
@[simp] theorem State.setMbx_slots (k : Nat) (m : Mailbox) : (s.setMbx k m).slots = s.slots := rfl
@[simp] theorem State.setMbx_slotWrites (k : Nat) (m : Mailbox) : (s.setMbx k m).slotWrites = s.slotWrites := rfl
@[simp] theorem State.setMbx_frames (k : Nat) (m : Mailbox) : (s.setMbx k m).frames = s.frames := rfl
@[simp] theorem State.setMbx_mrk (k : Nat) (m : Mailbox) : (s.setMbx k m).mrk = s.mrk := rfl
@[simp] theorem State.setMbx_mrkMute (k : Nat) (m : Mailbox) : (s.setMbx k m).mrkMute = s.mrkMute := rfl
@[simp] theorem State.setMbx_lines (k : Nat) (m : Mailbox) : (s.setMbx k m).lines = s.lines := rfl
@[simp] theorem State.setMbx_interp (k : Nat) (m : Mailbox) : (s.setMbx k m).interp = s.interp := rfl
@[simp] theorem State.setMbx_interpPend (k : Nat) (m : Mailbox) : (s.setMbx k m).interpPend = s.interpPend := rfl
@[simp] theorem State.setMbx_flat (k : Nat) (m : Mailbox) : (s.setMbx k m).flat = s.flat := rfl
@[simp] theorem State.setMbx_synth (k : Nat) (m : Mailbox) : (s.setMbx k m).synth = s.synth := rfl
@[simp] theorem State.setMbx_ffx (k : Nat) (m : Mailbox) : (s.setMbx k m).ffx = s.ffx := rfl
@[simp] theorem State.setMbx_bia (k : Nat) (m : Mailbox) : (s.setMbx k m).bia = s.bia := rfl
@[simp] theorem State.setMbx_clrNext (k : Nat) (m : Mailbox) : (s.setMbx k m).clrNext = s.clrNext := rfl
@[simp] theorem State.setMbx_acqs (k : Nat) (m : Mailbox) : (s.setMbx k m).acqs = s.acqs := rfl
@[simp] theorem State.setMbx_tones (k : Nat) (m : Mailbox) : (s.setMbx k m).tones = s.tones := rfl
@[simp] theorem State.setMbx_feeds (k : Nat) (m : Mailbox) : (s.setMbx k m).feeds = s.feeds := rfl
@[simp] theorem State.setMbx_rwins (k : Nat) (m : Mailbox) : (s.setMbx k m).rwins = s.rwins := rfl
@[simp] theorem State.setMbx_traces (k : Nat) (m : Mailbox) : (s.setMbx k m).traces = s.traces := rfl
@[simp] theorem State.setMbx_results (k : Nat) (m : Mailbox) : (s.setMbx k m).results = s.results := rfl
@[simp] theorem State.setMbx_frameStamps (k : Nat) (m : Mailbox) : (s.setMbx k m).frameStamps = s.frameStamps := rfl
@[simp] theorem State.setMbx_rsets (k : Nat) (m : Mailbox) : (s.setMbx k m).rsets = s.rsets := rfl
@[simp] theorem State.setMbx_mem (k : Nat) (m : Mailbox) : (s.setMbx k m).mem = s.mem := rfl
@[simp] theorem State.setMbx_scrubPos (k : Nat) (m : Mailbox) : (s.setMbx k m).scrubPos = s.scrubPos := rfl
@[simp] theorem State.setMbx_scrubPass (k : Nat) (m : Mailbox) : (s.setMbx k m).scrubPass = s.scrubPass := rfl
@[simp] theorem State.setMbx_corrected (k : Nat) (m : Mailbox) : (s.setMbx k m).corrected = s.corrected := rfl
@[simp] theorem State.setMbx_passCe (k : Nat) (m : Mailbox) : (s.setMbx k m).passCe = s.passCe := rfl
@[simp] theorem State.setMbx_txQueue (k : Nat) (m : Mailbox) : (s.setMbx k m).txQueue = s.txQueue := rfl
@[simp] theorem State.setMbx_rxHeld (k : Nat) (m : Mailbox) : (s.setMbx k m).rxHeld = s.rxHeld := rfl
@[simp] theorem State.setMbx_routeSends (k : Nat) (m : Mailbox) : (s.setMbx k m).routeSends = s.routeSends := rfl
@[simp] theorem State.setMbx_losses (k : Nat) (m : Mailbox) : (s.setMbx k m).losses = s.losses := rfl
@[simp] theorem State.setMbx_lanes (k : Nat) (m : Mailbox) : (s.setMbx k m).lanes = s.lanes := rfl
@[simp] theorem State.setMbx_lossNotices (k : Nat) (m : Mailbox) : (s.setMbx k m).lossNotices = s.lossNotices := rfl
@[simp] theorem State.setMbx_dldSent (k : Nat) (m : Mailbox) : (s.setMbx k m).dldSent = s.dldSent := rfl
@[simp] theorem State.setMbx_edgeAcceptedAt (k : Nat) (m : Mailbox) : (s.setMbx k m).edgeAcceptedAt = s.edgeAcceptedAt := rfl
@[simp] theorem State.setMbx_epochOld (k : Nat) (m : Mailbox) : (s.setMbx k m).epochOld = s.epochOld := rfl
@[simp] theorem State.setMbx_tdcs (k : Nat) (m : Mailbox) : (s.setMbx k m).tdcs = s.tdcs := rfl
@[simp] theorem State.setMbx_snss (k : Nat) (m : Mailbox) : (s.setMbx k m).snss = s.snss := rfl
@[simp] theorem State.setMbx_heaters (k : Nat) (m : Mailbox) : (s.setMbx k m).heaters = s.heaters := rfl
@[simp] theorem State.setMbx_mon (k : Nat) (m : Mailbox) : (s.setMbx k m).mon = s.mon := rfl
@[simp] theorem State.setMbx_curveShadow (k : Nat) (m : Mailbox) : (s.setMbx k m).curveShadow = s.curveShadow := rfl
@[simp] theorem State.setMbx_curves (k : Nat) (m : Mailbox) : (s.setMbx k m).curves = s.curves := rfl
@[simp] theorem State.setMbx_server (k : Nat) (m : Mailbox) : (s.setMbx k m).server = s.server := rfl
@[simp] theorem State.setMbx_training (k : Nat) (m : Mailbox) : (s.setMbx k m).training = s.training := rfl
@[simp] theorem State.setMbx_fwBank (k : Nat) (m : Mailbox) : (s.setMbx k m).fwBank = s.fwBank := rfl
@[simp] theorem State.setMbx_fwBody (k : Nat) (m : Mailbox) : (s.setMbx k m).fwBody = s.fwBody := rfl
@[simp] theorem State.setMbx_calBank (k : Nat) (m : Mailbox) : (s.setMbx k m).calBank = s.calBank := rfl
@[simp] theorem State.setMbx_calBody (k : Nat) (m : Mailbox) : (s.setMbx k m).calBody = s.calBody := rfl
@[simp] theorem State.setMbx_curveBank (k : Nat) (m : Mailbox) : (s.setMbx k m).curveBank = s.curveBank := rfl
@[simp] theorem State.setMbx_curveBody (k : Nat) (m : Mailbox) : (s.setMbx k m).curveBody = s.curveBody := rfl
@[simp] theorem State.setMbx_tripLog (k : Nat) (m : Mailbox) : (s.setMbx k m).tripLog = s.tripLog := rfl
@[simp] theorem State.setMbx_tripOwed (k : Nat) (m : Mailbox) : (s.setMbx k m).tripOwed = s.tripOwed := rfl
@[simp] theorem State.setMbx_routine (k : Nat) (m : Mailbox) : (s.setMbx k m).routine = s.routine := rfl
@[simp] theorem State.setMbx_dip (k : Nat) (m : Mailbox) : (s.setMbx k m).dip = s.dip := rfl
@[simp] theorem State.setMbx_trippedAt (k : Nat) (m : Mailbox) : (s.setMbx k m).trippedAt = s.trippedAt := rfl
@[simp] theorem State.setMbx_window (k : Nat) (m : Mailbox) : (s.setMbx k m).window = s.window := rfl
@[simp] theorem State.setMbx_thm (k : Nat) (m : Mailbox) : (s.setMbx k m).thm = s.thm := rfl
@[simp] theorem State.setMbx_peffWas (k : Nat) (m : Mailbox) : (s.setMbx k m).peffWas = s.peffWas := rfl
@[simp] theorem State.setMbx_calVref (k : Nat) (m : Mailbox) : (s.setMbx k m).calVref = s.calVref := rfl
@[simp] theorem State.setMbx_flatPend (k : Nat) (m : Mailbox) : (s.setMbx k m).flatPend = s.flatPend := rfl
@[simp] theorem State.rd_setMbx (k : Nat) (m : Mailbox) (i : Nat) : (s.setMbx k m).rd i = s.rd i := rfl
@[simp] theorem State.get_setMbx (k : Nat) (m : Mailbox) (g : Fld) : (s.setMbx k m).get g = s.get g := rfl
@[simp] theorem State.get64_setMbx (k : Nat) (m : Mailbox) (i : Nat) : (s.setMbx k m).get64 i = s.get64 i := rfl
@[simp] theorem State.slotOf_setMbx (k : Nat) (m : Mailbox) : (s.setMbx k m).slotOf k = m := Table.get_set_same ..

/-! ### setRwin -/

@[simp] theorem State.setRwin_pending (r k : Nat) (x : RWin) : (s.setRwin r k x).pending = s.pending := rfl
@[simp] theorem State.setRwin_part (r k : Nat) (x : RWin) : (s.setRwin r k x).part = s.part := rfl
@[simp] theorem State.setRwin_ref10M (r k : Nat) (x : RWin) : (s.setRwin r k x).ref10M = s.ref10M := rfl
@[simp] theorem State.setRwin_serial (r k : Nat) (x : RWin) : (s.setRwin r k x).serial = s.serial := rfl
@[simp] theorem State.setRwin_now (r k : Nat) (x : RWin) : (s.setRwin r k x).now = s.now := rfl
@[simp] theorem State.setRwin_epoch (r k : Nat) (x : RWin) : (s.setRwin r k x).epoch = s.epoch := rfl
@[simp] theorem State.setRwin_epochOn (r k : Nat) (x : RWin) : (s.setRwin r k x).epochOn = s.epochOn := rfl
@[simp] theorem State.setRwin_freeCtr (r k : Nat) (x : RWin) : (s.setRwin r k x).freeCtr = s.freeCtr := rfl
@[simp] theorem State.setRwin_regs (r k : Nat) (x : RWin) : (s.setRwin r k x).regs = s.regs := rfl
@[simp] theorem State.setRwin_lastRead (r k : Nat) (x : RWin) : (s.setRwin r k x).lastRead = s.lastRead := rfl
@[simp] theorem State.setRwin_readShadow (r k : Nat) (x : RWin) : (s.setRwin r k x).readShadow = s.readShadow := rfl
@[simp] theorem State.setRwin_writeShadow (r k : Nat) (x : RWin) : (s.setRwin r k x).writeShadow = s.writeShadow := rfl
@[simp] theorem State.setRwin_rsetSel (r k : Nat) (x : RWin) : (s.setRwin r k x).rsetSel = s.rsetSel := rfl
@[simp] theorem State.setRwin_mode (r k : Nat) (x : RWin) : (s.setRwin r k x).mode = s.mode := rfl
@[simp] theorem State.setRwin_transition (r k : Nat) (x : RWin) : (s.setRwin r k x).transition = s.transition := rfl
@[simp] theorem State.setRwin_powerGoodAt (r k : Nat) (x : RWin) : (s.setRwin r k x).powerGoodAt = s.powerGoodAt := rfl
@[simp] theorem State.setRwin_calRaw (r k : Nat) (x : RWin) : (s.setRwin r k x).calRaw = s.calRaw := rfl
@[simp] theorem State.setRwin_calAcc (r k : Nat) (x : RWin) : (s.setRwin r k x).calAcc = s.calAcc := rfl
@[simp] theorem State.setRwin_disciplineAt (r k : Nat) (x : RWin) : (s.setRwin r k x).disciplineAt = s.disciplineAt := rfl
@[simp] theorem State.setRwin_angle (r k : Nat) (x : RWin) : (s.setRwin r k x).angle = s.angle := rfl
@[simp] theorem State.setRwin_alarmAt (r k : Nat) (x : RWin) : (s.setRwin r k x).alarmAt = s.alarmAt := rfl
@[simp] theorem State.setRwin_alarmLate (r k : Nat) (x : RWin) : (s.setRwin r k x).alarmLate = s.alarmLate := rfl
@[simp] theorem State.setRwin_alarmFired (r k : Nat) (x : RWin) : (s.setRwin r k x).alarmFired = s.alarmFired := rfl
@[simp] theorem State.setRwin_snapArmed (r k : Nat) (x : RWin) : (s.setRwin r k x).snapArmed = s.snapArmed := rfl
@[simp] theorem State.setRwin_relocking (r k : Nat) (x : RWin) : (s.setRwin r k x).relocking = s.relocking := rfl
@[simp] theorem State.setRwin_lossAt (r k : Nat) (x : RWin) : (s.setRwin r k x).lossAt = s.lossAt := rfl
@[simp] theorem State.setRwin_sqs (r k : Nat) (x : RWin) : (s.setRwin r k x).sqs = s.sqs := rfl
@[simp] theorem State.setRwin_cqs (r k : Nat) (x : RWin) : (s.setRwin r k x).cqs = s.cqs := rfl
@[simp] theorem State.setRwin_nextUid (r k : Nat) (x : RWin) : (s.setRwin r k x).nextUid = s.nextUid := rfl
@[simp] theorem State.setRwin_busMaster (r k : Nat) (x : RWin) : (s.setRwin r k x).busMaster = s.busMaster := rfl
@[simp] theorem State.setRwin_perst (r k : Nat) (x : RWin) : (s.setRwin r k x).perst = s.perst := rfl
@[simp] theorem State.setRwin_posted (r k : Nat) (x : RWin) : (s.setRwin r k x).posted = s.posted := rfl
@[simp] theorem State.setRwin_holding (r k : Nat) (x : RWin) : (s.setRwin r k x).holding = s.holding := rfl
@[simp] theorem State.setRwin_holdHits (r k : Nat) (x : RWin) : (s.setRwin r k x).holdHits = s.holdHits := rfl
@[simp] theorem State.setRwin_dmaStopped (r k : Nat) (x : RWin) : (s.setRwin r k x).dmaStopped = s.dmaStopped := rfl
@[simp] theorem State.setRwin_gang (r k : Nat) (x : RWin) : (s.setRwin r k x).gang = s.gang := rfl
@[simp] theorem State.setRwin_shots (r k : Nat) (x : RWin) : (s.setRwin r k x).shots = s.shots := rfl
@[simp] theorem State.setRwin_works (r k : Nat) (x : RWin) : (s.setRwin r k x).works = s.works := rfl
@[simp] theorem State.setRwin_wins (r k : Nat) (x : RWin) : (s.setRwin r k x).wins = s.wins := rfl
@[simp] theorem State.setRwin_streams (r k : Nat) (x : RWin) : (s.setRwin r k x).streams = s.streams := rfl
@[simp] theorem State.setRwin_engines (r k : Nat) (x : RWin) : (s.setRwin r k x).engines = s.engines := rfl
@[simp] theorem State.setRwin_micro (r k : Nat) (x : RWin) : (s.setRwin r k x).micro = s.micro := rfl
@[simp] theorem State.setRwin_nano (r k : Nat) (x : RWin) : (s.setRwin r k x).nano = s.nano := rfl
@[simp] theorem State.setRwin_nanoRes (r k : Nat) (x : RWin) : (s.setRwin r k x).nanoRes = s.nanoRes := rfl
@[simp] theorem State.setRwin_cache (r k : Nat) (x : RWin) : (s.setRwin r k x).cache = s.cache := rfl
@[simp] theorem State.setRwin_commanded (r k : Nat) (x : RWin) : (s.setRwin r k x).commanded = s.commanded := rfl
@[simp] theorem State.setRwin_ports (r k : Nat) (x : RWin) : (s.setRwin r k x).ports = s.ports := rfl
@[simp] theorem State.setRwin_slots (r k : Nat) (x : RWin) : (s.setRwin r k x).slots = s.slots := rfl
@[simp] theorem State.setRwin_slotWrites (r k : Nat) (x : RWin) : (s.setRwin r k x).slotWrites = s.slotWrites := rfl
@[simp] theorem State.setRwin_frames (r k : Nat) (x : RWin) : (s.setRwin r k x).frames = s.frames := rfl
@[simp] theorem State.setRwin_mrk (r k : Nat) (x : RWin) : (s.setRwin r k x).mrk = s.mrk := rfl
@[simp] theorem State.setRwin_mrkMute (r k : Nat) (x : RWin) : (s.setRwin r k x).mrkMute = s.mrkMute := rfl
@[simp] theorem State.setRwin_lines (r k : Nat) (x : RWin) : (s.setRwin r k x).lines = s.lines := rfl
@[simp] theorem State.setRwin_interp (r k : Nat) (x : RWin) : (s.setRwin r k x).interp = s.interp := rfl
@[simp] theorem State.setRwin_interpPend (r k : Nat) (x : RWin) : (s.setRwin r k x).interpPend = s.interpPend := rfl
@[simp] theorem State.setRwin_flat (r k : Nat) (x : RWin) : (s.setRwin r k x).flat = s.flat := rfl
@[simp] theorem State.setRwin_synth (r k : Nat) (x : RWin) : (s.setRwin r k x).synth = s.synth := rfl
@[simp] theorem State.setRwin_ffx (r k : Nat) (x : RWin) : (s.setRwin r k x).ffx = s.ffx := rfl
@[simp] theorem State.setRwin_bia (r k : Nat) (x : RWin) : (s.setRwin r k x).bia = s.bia := rfl
@[simp] theorem State.setRwin_clrNext (r k : Nat) (x : RWin) : (s.setRwin r k x).clrNext = s.clrNext := rfl
@[simp] theorem State.setRwin_acqs (r k : Nat) (x : RWin) : (s.setRwin r k x).acqs = s.acqs := rfl
@[simp] theorem State.setRwin_tones (r k : Nat) (x : RWin) : (s.setRwin r k x).tones = s.tones := rfl
@[simp] theorem State.setRwin_feeds (r k : Nat) (x : RWin) : (s.setRwin r k x).feeds = s.feeds := rfl
@[simp] theorem State.setRwin_traces (r k : Nat) (x : RWin) : (s.setRwin r k x).traces = s.traces := rfl
@[simp] theorem State.setRwin_results (r k : Nat) (x : RWin) : (s.setRwin r k x).results = s.results := rfl
@[simp] theorem State.setRwin_frameStamps (r k : Nat) (x : RWin) : (s.setRwin r k x).frameStamps = s.frameStamps := rfl
@[simp] theorem State.setRwin_rsets (r k : Nat) (x : RWin) : (s.setRwin r k x).rsets = s.rsets := rfl
@[simp] theorem State.setRwin_mem (r k : Nat) (x : RWin) : (s.setRwin r k x).mem = s.mem := rfl
@[simp] theorem State.setRwin_scrubPos (r k : Nat) (x : RWin) : (s.setRwin r k x).scrubPos = s.scrubPos := rfl
@[simp] theorem State.setRwin_scrubPass (r k : Nat) (x : RWin) : (s.setRwin r k x).scrubPass = s.scrubPass := rfl
@[simp] theorem State.setRwin_corrected (r k : Nat) (x : RWin) : (s.setRwin r k x).corrected = s.corrected := rfl
@[simp] theorem State.setRwin_passCe (r k : Nat) (x : RWin) : (s.setRwin r k x).passCe = s.passCe := rfl
@[simp] theorem State.setRwin_txQueue (r k : Nat) (x : RWin) : (s.setRwin r k x).txQueue = s.txQueue := rfl
@[simp] theorem State.setRwin_rxHeld (r k : Nat) (x : RWin) : (s.setRwin r k x).rxHeld = s.rxHeld := rfl
@[simp] theorem State.setRwin_routeSends (r k : Nat) (x : RWin) : (s.setRwin r k x).routeSends = s.routeSends := rfl
@[simp] theorem State.setRwin_losses (r k : Nat) (x : RWin) : (s.setRwin r k x).losses = s.losses := rfl
@[simp] theorem State.setRwin_lanes (r k : Nat) (x : RWin) : (s.setRwin r k x).lanes = s.lanes := rfl
@[simp] theorem State.setRwin_lossNotices (r k : Nat) (x : RWin) : (s.setRwin r k x).lossNotices = s.lossNotices := rfl
@[simp] theorem State.setRwin_dldSent (r k : Nat) (x : RWin) : (s.setRwin r k x).dldSent = s.dldSent := rfl
@[simp] theorem State.setRwin_edgeAcceptedAt (r k : Nat) (x : RWin) : (s.setRwin r k x).edgeAcceptedAt = s.edgeAcceptedAt := rfl
@[simp] theorem State.setRwin_epochOld (r k : Nat) (x : RWin) : (s.setRwin r k x).epochOld = s.epochOld := rfl
@[simp] theorem State.setRwin_tdcs (r k : Nat) (x : RWin) : (s.setRwin r k x).tdcs = s.tdcs := rfl
@[simp] theorem State.setRwin_snss (r k : Nat) (x : RWin) : (s.setRwin r k x).snss = s.snss := rfl
@[simp] theorem State.setRwin_heaters (r k : Nat) (x : RWin) : (s.setRwin r k x).heaters = s.heaters := rfl
@[simp] theorem State.setRwin_mon (r k : Nat) (x : RWin) : (s.setRwin r k x).mon = s.mon := rfl
@[simp] theorem State.setRwin_curveShadow (r k : Nat) (x : RWin) : (s.setRwin r k x).curveShadow = s.curveShadow := rfl
@[simp] theorem State.setRwin_curves (r k : Nat) (x : RWin) : (s.setRwin r k x).curves = s.curves := rfl
@[simp] theorem State.setRwin_mbx (r k : Nat) (x : RWin) : (s.setRwin r k x).mbx = s.mbx := rfl
@[simp] theorem State.setRwin_server (r k : Nat) (x : RWin) : (s.setRwin r k x).server = s.server := rfl
@[simp] theorem State.setRwin_training (r k : Nat) (x : RWin) : (s.setRwin r k x).training = s.training := rfl
@[simp] theorem State.setRwin_fwBank (r k : Nat) (x : RWin) : (s.setRwin r k x).fwBank = s.fwBank := rfl
@[simp] theorem State.setRwin_fwBody (r k : Nat) (x : RWin) : (s.setRwin r k x).fwBody = s.fwBody := rfl
@[simp] theorem State.setRwin_calBank (r k : Nat) (x : RWin) : (s.setRwin r k x).calBank = s.calBank := rfl
@[simp] theorem State.setRwin_calBody (r k : Nat) (x : RWin) : (s.setRwin r k x).calBody = s.calBody := rfl
@[simp] theorem State.setRwin_curveBank (r k : Nat) (x : RWin) : (s.setRwin r k x).curveBank = s.curveBank := rfl
@[simp] theorem State.setRwin_curveBody (r k : Nat) (x : RWin) : (s.setRwin r k x).curveBody = s.curveBody := rfl
@[simp] theorem State.setRwin_tripLog (r k : Nat) (x : RWin) : (s.setRwin r k x).tripLog = s.tripLog := rfl
@[simp] theorem State.setRwin_tripOwed (r k : Nat) (x : RWin) : (s.setRwin r k x).tripOwed = s.tripOwed := rfl
@[simp] theorem State.setRwin_routine (r k : Nat) (x : RWin) : (s.setRwin r k x).routine = s.routine := rfl
@[simp] theorem State.setRwin_dip (r k : Nat) (x : RWin) : (s.setRwin r k x).dip = s.dip := rfl
@[simp] theorem State.setRwin_trippedAt (r k : Nat) (x : RWin) : (s.setRwin r k x).trippedAt = s.trippedAt := rfl
@[simp] theorem State.setRwin_window (r k : Nat) (x : RWin) : (s.setRwin r k x).window = s.window := rfl
@[simp] theorem State.setRwin_thm (r k : Nat) (x : RWin) : (s.setRwin r k x).thm = s.thm := rfl
@[simp] theorem State.setRwin_peffWas (r k : Nat) (x : RWin) : (s.setRwin r k x).peffWas = s.peffWas := rfl
@[simp] theorem State.setRwin_calVref (r k : Nat) (x : RWin) : (s.setRwin r k x).calVref = s.calVref := rfl
@[simp] theorem State.setRwin_flatPend (r k : Nat) (x : RWin) : (s.setRwin r k x).flatPend = s.flatPend := rfl
@[simp] theorem State.rd_setRwin (r k : Nat) (x : RWin) (i : Nat) : (s.setRwin r k x).rd i = s.rd i := rfl
@[simp] theorem State.get_setRwin (r k : Nat) (x : RWin) (g : Fld) : (s.setRwin r k x).get g = s.get g := rfl
@[simp] theorem State.get64_setRwin (r k : Nat) (x : RWin) (i : Nat) : (s.setRwin r k x).get64 i = s.get64 i := rfl
@[simp] theorem State.rwin_setRwin (r k : Nat) (x : RWin) : (s.setRwin r k x).rwin r k = x := Table.get_set_same ..

/-! ### setUnit -/

@[simp] theorem State.setUnit_pending (r u : Nat) (x : TraceUnit) : (s.setUnit r u x).pending = s.pending := rfl
@[simp] theorem State.setUnit_part (r u : Nat) (x : TraceUnit) : (s.setUnit r u x).part = s.part := rfl
@[simp] theorem State.setUnit_ref10M (r u : Nat) (x : TraceUnit) : (s.setUnit r u x).ref10M = s.ref10M := rfl
@[simp] theorem State.setUnit_serial (r u : Nat) (x : TraceUnit) : (s.setUnit r u x).serial = s.serial := rfl
@[simp] theorem State.setUnit_now (r u : Nat) (x : TraceUnit) : (s.setUnit r u x).now = s.now := rfl
@[simp] theorem State.setUnit_epoch (r u : Nat) (x : TraceUnit) : (s.setUnit r u x).epoch = s.epoch := rfl
@[simp] theorem State.setUnit_epochOn (r u : Nat) (x : TraceUnit) : (s.setUnit r u x).epochOn = s.epochOn := rfl
@[simp] theorem State.setUnit_freeCtr (r u : Nat) (x : TraceUnit) : (s.setUnit r u x).freeCtr = s.freeCtr := rfl
@[simp] theorem State.setUnit_regs (r u : Nat) (x : TraceUnit) : (s.setUnit r u x).regs = s.regs := rfl
@[simp] theorem State.setUnit_lastRead (r u : Nat) (x : TraceUnit) : (s.setUnit r u x).lastRead = s.lastRead := rfl
@[simp] theorem State.setUnit_readShadow (r u : Nat) (x : TraceUnit) : (s.setUnit r u x).readShadow = s.readShadow := rfl
@[simp] theorem State.setUnit_writeShadow (r u : Nat) (x : TraceUnit) : (s.setUnit r u x).writeShadow = s.writeShadow := rfl
@[simp] theorem State.setUnit_rsetSel (r u : Nat) (x : TraceUnit) : (s.setUnit r u x).rsetSel = s.rsetSel := rfl
@[simp] theorem State.setUnit_mode (r u : Nat) (x : TraceUnit) : (s.setUnit r u x).mode = s.mode := rfl
@[simp] theorem State.setUnit_transition (r u : Nat) (x : TraceUnit) : (s.setUnit r u x).transition = s.transition := rfl
@[simp] theorem State.setUnit_powerGoodAt (r u : Nat) (x : TraceUnit) : (s.setUnit r u x).powerGoodAt = s.powerGoodAt := rfl
@[simp] theorem State.setUnit_calRaw (r u : Nat) (x : TraceUnit) : (s.setUnit r u x).calRaw = s.calRaw := rfl
@[simp] theorem State.setUnit_calAcc (r u : Nat) (x : TraceUnit) : (s.setUnit r u x).calAcc = s.calAcc := rfl
@[simp] theorem State.setUnit_disciplineAt (r u : Nat) (x : TraceUnit) : (s.setUnit r u x).disciplineAt = s.disciplineAt := rfl
@[simp] theorem State.setUnit_angle (r u : Nat) (x : TraceUnit) : (s.setUnit r u x).angle = s.angle := rfl
@[simp] theorem State.setUnit_alarmAt (r u : Nat) (x : TraceUnit) : (s.setUnit r u x).alarmAt = s.alarmAt := rfl
@[simp] theorem State.setUnit_alarmLate (r u : Nat) (x : TraceUnit) : (s.setUnit r u x).alarmLate = s.alarmLate := rfl
@[simp] theorem State.setUnit_alarmFired (r u : Nat) (x : TraceUnit) : (s.setUnit r u x).alarmFired = s.alarmFired := rfl
@[simp] theorem State.setUnit_snapArmed (r u : Nat) (x : TraceUnit) : (s.setUnit r u x).snapArmed = s.snapArmed := rfl
@[simp] theorem State.setUnit_relocking (r u : Nat) (x : TraceUnit) : (s.setUnit r u x).relocking = s.relocking := rfl
@[simp] theorem State.setUnit_lossAt (r u : Nat) (x : TraceUnit) : (s.setUnit r u x).lossAt = s.lossAt := rfl
@[simp] theorem State.setUnit_sqs (r u : Nat) (x : TraceUnit) : (s.setUnit r u x).sqs = s.sqs := rfl
@[simp] theorem State.setUnit_cqs (r u : Nat) (x : TraceUnit) : (s.setUnit r u x).cqs = s.cqs := rfl
@[simp] theorem State.setUnit_nextUid (r u : Nat) (x : TraceUnit) : (s.setUnit r u x).nextUid = s.nextUid := rfl
@[simp] theorem State.setUnit_busMaster (r u : Nat) (x : TraceUnit) : (s.setUnit r u x).busMaster = s.busMaster := rfl
@[simp] theorem State.setUnit_perst (r u : Nat) (x : TraceUnit) : (s.setUnit r u x).perst = s.perst := rfl
@[simp] theorem State.setUnit_posted (r u : Nat) (x : TraceUnit) : (s.setUnit r u x).posted = s.posted := rfl
@[simp] theorem State.setUnit_holding (r u : Nat) (x : TraceUnit) : (s.setUnit r u x).holding = s.holding := rfl
@[simp] theorem State.setUnit_holdHits (r u : Nat) (x : TraceUnit) : (s.setUnit r u x).holdHits = s.holdHits := rfl
@[simp] theorem State.setUnit_dmaStopped (r u : Nat) (x : TraceUnit) : (s.setUnit r u x).dmaStopped = s.dmaStopped := rfl
@[simp] theorem State.setUnit_gang (r u : Nat) (x : TraceUnit) : (s.setUnit r u x).gang = s.gang := rfl
@[simp] theorem State.setUnit_shots (r u : Nat) (x : TraceUnit) : (s.setUnit r u x).shots = s.shots := rfl
@[simp] theorem State.setUnit_works (r u : Nat) (x : TraceUnit) : (s.setUnit r u x).works = s.works := rfl
@[simp] theorem State.setUnit_wins (r u : Nat) (x : TraceUnit) : (s.setUnit r u x).wins = s.wins := rfl
@[simp] theorem State.setUnit_streams (r u : Nat) (x : TraceUnit) : (s.setUnit r u x).streams = s.streams := rfl
@[simp] theorem State.setUnit_engines (r u : Nat) (x : TraceUnit) : (s.setUnit r u x).engines = s.engines := rfl
@[simp] theorem State.setUnit_micro (r u : Nat) (x : TraceUnit) : (s.setUnit r u x).micro = s.micro := rfl
@[simp] theorem State.setUnit_nano (r u : Nat) (x : TraceUnit) : (s.setUnit r u x).nano = s.nano := rfl
@[simp] theorem State.setUnit_nanoRes (r u : Nat) (x : TraceUnit) : (s.setUnit r u x).nanoRes = s.nanoRes := rfl
@[simp] theorem State.setUnit_cache (r u : Nat) (x : TraceUnit) : (s.setUnit r u x).cache = s.cache := rfl
@[simp] theorem State.setUnit_commanded (r u : Nat) (x : TraceUnit) : (s.setUnit r u x).commanded = s.commanded := rfl
@[simp] theorem State.setUnit_ports (r u : Nat) (x : TraceUnit) : (s.setUnit r u x).ports = s.ports := rfl
@[simp] theorem State.setUnit_slots (r u : Nat) (x : TraceUnit) : (s.setUnit r u x).slots = s.slots := rfl
@[simp] theorem State.setUnit_slotWrites (r u : Nat) (x : TraceUnit) : (s.setUnit r u x).slotWrites = s.slotWrites := rfl
@[simp] theorem State.setUnit_frames (r u : Nat) (x : TraceUnit) : (s.setUnit r u x).frames = s.frames := rfl
@[simp] theorem State.setUnit_mrk (r u : Nat) (x : TraceUnit) : (s.setUnit r u x).mrk = s.mrk := rfl
@[simp] theorem State.setUnit_mrkMute (r u : Nat) (x : TraceUnit) : (s.setUnit r u x).mrkMute = s.mrkMute := rfl
@[simp] theorem State.setUnit_lines (r u : Nat) (x : TraceUnit) : (s.setUnit r u x).lines = s.lines := rfl
@[simp] theorem State.setUnit_interp (r u : Nat) (x : TraceUnit) : (s.setUnit r u x).interp = s.interp := rfl
@[simp] theorem State.setUnit_interpPend (r u : Nat) (x : TraceUnit) : (s.setUnit r u x).interpPend = s.interpPend := rfl
@[simp] theorem State.setUnit_flat (r u : Nat) (x : TraceUnit) : (s.setUnit r u x).flat = s.flat := rfl
@[simp] theorem State.setUnit_synth (r u : Nat) (x : TraceUnit) : (s.setUnit r u x).synth = s.synth := rfl
@[simp] theorem State.setUnit_ffx (r u : Nat) (x : TraceUnit) : (s.setUnit r u x).ffx = s.ffx := rfl
@[simp] theorem State.setUnit_bia (r u : Nat) (x : TraceUnit) : (s.setUnit r u x).bia = s.bia := rfl
@[simp] theorem State.setUnit_clrNext (r u : Nat) (x : TraceUnit) : (s.setUnit r u x).clrNext = s.clrNext := rfl
@[simp] theorem State.setUnit_acqs (r u : Nat) (x : TraceUnit) : (s.setUnit r u x).acqs = s.acqs := rfl
@[simp] theorem State.setUnit_tones (r u : Nat) (x : TraceUnit) : (s.setUnit r u x).tones = s.tones := rfl
@[simp] theorem State.setUnit_feeds (r u : Nat) (x : TraceUnit) : (s.setUnit r u x).feeds = s.feeds := rfl
@[simp] theorem State.setUnit_rwins (r u : Nat) (x : TraceUnit) : (s.setUnit r u x).rwins = s.rwins := rfl
@[simp] theorem State.setUnit_results (r u : Nat) (x : TraceUnit) : (s.setUnit r u x).results = s.results := rfl
@[simp] theorem State.setUnit_frameStamps (r u : Nat) (x : TraceUnit) : (s.setUnit r u x).frameStamps = s.frameStamps := rfl
@[simp] theorem State.setUnit_rsets (r u : Nat) (x : TraceUnit) : (s.setUnit r u x).rsets = s.rsets := rfl
@[simp] theorem State.setUnit_mem (r u : Nat) (x : TraceUnit) : (s.setUnit r u x).mem = s.mem := rfl
@[simp] theorem State.setUnit_scrubPos (r u : Nat) (x : TraceUnit) : (s.setUnit r u x).scrubPos = s.scrubPos := rfl
@[simp] theorem State.setUnit_scrubPass (r u : Nat) (x : TraceUnit) : (s.setUnit r u x).scrubPass = s.scrubPass := rfl
@[simp] theorem State.setUnit_corrected (r u : Nat) (x : TraceUnit) : (s.setUnit r u x).corrected = s.corrected := rfl
@[simp] theorem State.setUnit_passCe (r u : Nat) (x : TraceUnit) : (s.setUnit r u x).passCe = s.passCe := rfl
@[simp] theorem State.setUnit_txQueue (r u : Nat) (x : TraceUnit) : (s.setUnit r u x).txQueue = s.txQueue := rfl
@[simp] theorem State.setUnit_rxHeld (r u : Nat) (x : TraceUnit) : (s.setUnit r u x).rxHeld = s.rxHeld := rfl
@[simp] theorem State.setUnit_routeSends (r u : Nat) (x : TraceUnit) : (s.setUnit r u x).routeSends = s.routeSends := rfl
@[simp] theorem State.setUnit_losses (r u : Nat) (x : TraceUnit) : (s.setUnit r u x).losses = s.losses := rfl
@[simp] theorem State.setUnit_lanes (r u : Nat) (x : TraceUnit) : (s.setUnit r u x).lanes = s.lanes := rfl
@[simp] theorem State.setUnit_lossNotices (r u : Nat) (x : TraceUnit) : (s.setUnit r u x).lossNotices = s.lossNotices := rfl
@[simp] theorem State.setUnit_dldSent (r u : Nat) (x : TraceUnit) : (s.setUnit r u x).dldSent = s.dldSent := rfl
@[simp] theorem State.setUnit_edgeAcceptedAt (r u : Nat) (x : TraceUnit) : (s.setUnit r u x).edgeAcceptedAt = s.edgeAcceptedAt := rfl
@[simp] theorem State.setUnit_epochOld (r u : Nat) (x : TraceUnit) : (s.setUnit r u x).epochOld = s.epochOld := rfl
@[simp] theorem State.setUnit_tdcs (r u : Nat) (x : TraceUnit) : (s.setUnit r u x).tdcs = s.tdcs := rfl
@[simp] theorem State.setUnit_snss (r u : Nat) (x : TraceUnit) : (s.setUnit r u x).snss = s.snss := rfl
@[simp] theorem State.setUnit_heaters (r u : Nat) (x : TraceUnit) : (s.setUnit r u x).heaters = s.heaters := rfl
@[simp] theorem State.setUnit_mon (r u : Nat) (x : TraceUnit) : (s.setUnit r u x).mon = s.mon := rfl
@[simp] theorem State.setUnit_curveShadow (r u : Nat) (x : TraceUnit) : (s.setUnit r u x).curveShadow = s.curveShadow := rfl
@[simp] theorem State.setUnit_curves (r u : Nat) (x : TraceUnit) : (s.setUnit r u x).curves = s.curves := rfl
@[simp] theorem State.setUnit_mbx (r u : Nat) (x : TraceUnit) : (s.setUnit r u x).mbx = s.mbx := rfl
@[simp] theorem State.setUnit_server (r u : Nat) (x : TraceUnit) : (s.setUnit r u x).server = s.server := rfl
@[simp] theorem State.setUnit_training (r u : Nat) (x : TraceUnit) : (s.setUnit r u x).training = s.training := rfl
@[simp] theorem State.setUnit_fwBank (r u : Nat) (x : TraceUnit) : (s.setUnit r u x).fwBank = s.fwBank := rfl
@[simp] theorem State.setUnit_fwBody (r u : Nat) (x : TraceUnit) : (s.setUnit r u x).fwBody = s.fwBody := rfl
@[simp] theorem State.setUnit_calBank (r u : Nat) (x : TraceUnit) : (s.setUnit r u x).calBank = s.calBank := rfl
@[simp] theorem State.setUnit_calBody (r u : Nat) (x : TraceUnit) : (s.setUnit r u x).calBody = s.calBody := rfl
@[simp] theorem State.setUnit_curveBank (r u : Nat) (x : TraceUnit) : (s.setUnit r u x).curveBank = s.curveBank := rfl
@[simp] theorem State.setUnit_curveBody (r u : Nat) (x : TraceUnit) : (s.setUnit r u x).curveBody = s.curveBody := rfl
@[simp] theorem State.setUnit_tripLog (r u : Nat) (x : TraceUnit) : (s.setUnit r u x).tripLog = s.tripLog := rfl
@[simp] theorem State.setUnit_tripOwed (r u : Nat) (x : TraceUnit) : (s.setUnit r u x).tripOwed = s.tripOwed := rfl
@[simp] theorem State.setUnit_routine (r u : Nat) (x : TraceUnit) : (s.setUnit r u x).routine = s.routine := rfl
@[simp] theorem State.setUnit_dip (r u : Nat) (x : TraceUnit) : (s.setUnit r u x).dip = s.dip := rfl
@[simp] theorem State.setUnit_trippedAt (r u : Nat) (x : TraceUnit) : (s.setUnit r u x).trippedAt = s.trippedAt := rfl
@[simp] theorem State.setUnit_window (r u : Nat) (x : TraceUnit) : (s.setUnit r u x).window = s.window := rfl
@[simp] theorem State.setUnit_thm (r u : Nat) (x : TraceUnit) : (s.setUnit r u x).thm = s.thm := rfl
@[simp] theorem State.setUnit_peffWas (r u : Nat) (x : TraceUnit) : (s.setUnit r u x).peffWas = s.peffWas := rfl
@[simp] theorem State.setUnit_calVref (r u : Nat) (x : TraceUnit) : (s.setUnit r u x).calVref = s.calVref := rfl
@[simp] theorem State.setUnit_flatPend (r u : Nat) (x : TraceUnit) : (s.setUnit r u x).flatPend = s.flatPend := rfl
@[simp] theorem State.rd_setUnit (r u : Nat) (x : TraceUnit) (i : Nat) : (s.setUnit r u x).rd i = s.rd i := rfl
@[simp] theorem State.get_setUnit (r u : Nat) (x : TraceUnit) (g : Fld) : (s.setUnit r u x).get g = s.get g := rfl
@[simp] theorem State.get64_setUnit (r u : Nat) (x : TraceUnit) (i : Nat) : (s.setUnit r u x).get64 i = s.get64 i := rfl
@[simp] theorem State.unit_setUnit (r u : Nat) (x : TraceUnit) : (s.setUnit r u x).unit r u = x := Table.get_set_same ..

/-! ### setRset -/

@[simp] theorem State.setRset_pending (n : Nat) (x : RSet) : (s.setRset n x).pending = s.pending := rfl
@[simp] theorem State.setRset_part (n : Nat) (x : RSet) : (s.setRset n x).part = s.part := rfl
@[simp] theorem State.setRset_ref10M (n : Nat) (x : RSet) : (s.setRset n x).ref10M = s.ref10M := rfl
@[simp] theorem State.setRset_serial (n : Nat) (x : RSet) : (s.setRset n x).serial = s.serial := rfl
@[simp] theorem State.setRset_now (n : Nat) (x : RSet) : (s.setRset n x).now = s.now := rfl
@[simp] theorem State.setRset_epoch (n : Nat) (x : RSet) : (s.setRset n x).epoch = s.epoch := rfl
@[simp] theorem State.setRset_epochOn (n : Nat) (x : RSet) : (s.setRset n x).epochOn = s.epochOn := rfl
@[simp] theorem State.setRset_freeCtr (n : Nat) (x : RSet) : (s.setRset n x).freeCtr = s.freeCtr := rfl
@[simp] theorem State.setRset_regs (n : Nat) (x : RSet) : (s.setRset n x).regs = s.regs := rfl
@[simp] theorem State.setRset_lastRead (n : Nat) (x : RSet) : (s.setRset n x).lastRead = s.lastRead := rfl
@[simp] theorem State.setRset_readShadow (n : Nat) (x : RSet) : (s.setRset n x).readShadow = s.readShadow := rfl
@[simp] theorem State.setRset_writeShadow (n : Nat) (x : RSet) : (s.setRset n x).writeShadow = s.writeShadow := rfl
@[simp] theorem State.setRset_rsetSel (n : Nat) (x : RSet) : (s.setRset n x).rsetSel = s.rsetSel := rfl
@[simp] theorem State.setRset_mode (n : Nat) (x : RSet) : (s.setRset n x).mode = s.mode := rfl
@[simp] theorem State.setRset_transition (n : Nat) (x : RSet) : (s.setRset n x).transition = s.transition := rfl
@[simp] theorem State.setRset_powerGoodAt (n : Nat) (x : RSet) : (s.setRset n x).powerGoodAt = s.powerGoodAt := rfl
@[simp] theorem State.setRset_calRaw (n : Nat) (x : RSet) : (s.setRset n x).calRaw = s.calRaw := rfl
@[simp] theorem State.setRset_calAcc (n : Nat) (x : RSet) : (s.setRset n x).calAcc = s.calAcc := rfl
@[simp] theorem State.setRset_disciplineAt (n : Nat) (x : RSet) : (s.setRset n x).disciplineAt = s.disciplineAt := rfl
@[simp] theorem State.setRset_angle (n : Nat) (x : RSet) : (s.setRset n x).angle = s.angle := rfl
@[simp] theorem State.setRset_alarmAt (n : Nat) (x : RSet) : (s.setRset n x).alarmAt = s.alarmAt := rfl
@[simp] theorem State.setRset_alarmLate (n : Nat) (x : RSet) : (s.setRset n x).alarmLate = s.alarmLate := rfl
@[simp] theorem State.setRset_alarmFired (n : Nat) (x : RSet) : (s.setRset n x).alarmFired = s.alarmFired := rfl
@[simp] theorem State.setRset_snapArmed (n : Nat) (x : RSet) : (s.setRset n x).snapArmed = s.snapArmed := rfl
@[simp] theorem State.setRset_relocking (n : Nat) (x : RSet) : (s.setRset n x).relocking = s.relocking := rfl
@[simp] theorem State.setRset_lossAt (n : Nat) (x : RSet) : (s.setRset n x).lossAt = s.lossAt := rfl
@[simp] theorem State.setRset_sqs (n : Nat) (x : RSet) : (s.setRset n x).sqs = s.sqs := rfl
@[simp] theorem State.setRset_cqs (n : Nat) (x : RSet) : (s.setRset n x).cqs = s.cqs := rfl
@[simp] theorem State.setRset_nextUid (n : Nat) (x : RSet) : (s.setRset n x).nextUid = s.nextUid := rfl
@[simp] theorem State.setRset_busMaster (n : Nat) (x : RSet) : (s.setRset n x).busMaster = s.busMaster := rfl
@[simp] theorem State.setRset_perst (n : Nat) (x : RSet) : (s.setRset n x).perst = s.perst := rfl
@[simp] theorem State.setRset_posted (n : Nat) (x : RSet) : (s.setRset n x).posted = s.posted := rfl
@[simp] theorem State.setRset_holding (n : Nat) (x : RSet) : (s.setRset n x).holding = s.holding := rfl
@[simp] theorem State.setRset_holdHits (n : Nat) (x : RSet) : (s.setRset n x).holdHits = s.holdHits := rfl
@[simp] theorem State.setRset_dmaStopped (n : Nat) (x : RSet) : (s.setRset n x).dmaStopped = s.dmaStopped := rfl
@[simp] theorem State.setRset_gang (n : Nat) (x : RSet) : (s.setRset n x).gang = s.gang := rfl
@[simp] theorem State.setRset_shots (n : Nat) (x : RSet) : (s.setRset n x).shots = s.shots := rfl
@[simp] theorem State.setRset_works (n : Nat) (x : RSet) : (s.setRset n x).works = s.works := rfl
@[simp] theorem State.setRset_wins (n : Nat) (x : RSet) : (s.setRset n x).wins = s.wins := rfl
@[simp] theorem State.setRset_streams (n : Nat) (x : RSet) : (s.setRset n x).streams = s.streams := rfl
@[simp] theorem State.setRset_engines (n : Nat) (x : RSet) : (s.setRset n x).engines = s.engines := rfl
@[simp] theorem State.setRset_micro (n : Nat) (x : RSet) : (s.setRset n x).micro = s.micro := rfl
@[simp] theorem State.setRset_nano (n : Nat) (x : RSet) : (s.setRset n x).nano = s.nano := rfl
@[simp] theorem State.setRset_nanoRes (n : Nat) (x : RSet) : (s.setRset n x).nanoRes = s.nanoRes := rfl
@[simp] theorem State.setRset_cache (n : Nat) (x : RSet) : (s.setRset n x).cache = s.cache := rfl
@[simp] theorem State.setRset_commanded (n : Nat) (x : RSet) : (s.setRset n x).commanded = s.commanded := rfl
@[simp] theorem State.setRset_ports (n : Nat) (x : RSet) : (s.setRset n x).ports = s.ports := rfl
@[simp] theorem State.setRset_slots (n : Nat) (x : RSet) : (s.setRset n x).slots = s.slots := rfl
@[simp] theorem State.setRset_slotWrites (n : Nat) (x : RSet) : (s.setRset n x).slotWrites = s.slotWrites := rfl
@[simp] theorem State.setRset_frames (n : Nat) (x : RSet) : (s.setRset n x).frames = s.frames := rfl
@[simp] theorem State.setRset_mrk (n : Nat) (x : RSet) : (s.setRset n x).mrk = s.mrk := rfl
@[simp] theorem State.setRset_mrkMute (n : Nat) (x : RSet) : (s.setRset n x).mrkMute = s.mrkMute := rfl
@[simp] theorem State.setRset_lines (n : Nat) (x : RSet) : (s.setRset n x).lines = s.lines := rfl
@[simp] theorem State.setRset_interp (n : Nat) (x : RSet) : (s.setRset n x).interp = s.interp := rfl
@[simp] theorem State.setRset_interpPend (n : Nat) (x : RSet) : (s.setRset n x).interpPend = s.interpPend := rfl
@[simp] theorem State.setRset_flat (n : Nat) (x : RSet) : (s.setRset n x).flat = s.flat := rfl
@[simp] theorem State.setRset_synth (n : Nat) (x : RSet) : (s.setRset n x).synth = s.synth := rfl
@[simp] theorem State.setRset_ffx (n : Nat) (x : RSet) : (s.setRset n x).ffx = s.ffx := rfl
@[simp] theorem State.setRset_bia (n : Nat) (x : RSet) : (s.setRset n x).bia = s.bia := rfl
@[simp] theorem State.setRset_clrNext (n : Nat) (x : RSet) : (s.setRset n x).clrNext = s.clrNext := rfl
@[simp] theorem State.setRset_acqs (n : Nat) (x : RSet) : (s.setRset n x).acqs = s.acqs := rfl
@[simp] theorem State.setRset_tones (n : Nat) (x : RSet) : (s.setRset n x).tones = s.tones := rfl
@[simp] theorem State.setRset_feeds (n : Nat) (x : RSet) : (s.setRset n x).feeds = s.feeds := rfl
@[simp] theorem State.setRset_rwins (n : Nat) (x : RSet) : (s.setRset n x).rwins = s.rwins := rfl
@[simp] theorem State.setRset_traces (n : Nat) (x : RSet) : (s.setRset n x).traces = s.traces := rfl
@[simp] theorem State.setRset_results (n : Nat) (x : RSet) : (s.setRset n x).results = s.results := rfl
@[simp] theorem State.setRset_frameStamps (n : Nat) (x : RSet) : (s.setRset n x).frameStamps = s.frameStamps := rfl
@[simp] theorem State.setRset_mem (n : Nat) (x : RSet) : (s.setRset n x).mem = s.mem := rfl
@[simp] theorem State.setRset_scrubPos (n : Nat) (x : RSet) : (s.setRset n x).scrubPos = s.scrubPos := rfl
@[simp] theorem State.setRset_scrubPass (n : Nat) (x : RSet) : (s.setRset n x).scrubPass = s.scrubPass := rfl
@[simp] theorem State.setRset_corrected (n : Nat) (x : RSet) : (s.setRset n x).corrected = s.corrected := rfl
@[simp] theorem State.setRset_passCe (n : Nat) (x : RSet) : (s.setRset n x).passCe = s.passCe := rfl
@[simp] theorem State.setRset_txQueue (n : Nat) (x : RSet) : (s.setRset n x).txQueue = s.txQueue := rfl
@[simp] theorem State.setRset_rxHeld (n : Nat) (x : RSet) : (s.setRset n x).rxHeld = s.rxHeld := rfl
@[simp] theorem State.setRset_routeSends (n : Nat) (x : RSet) : (s.setRset n x).routeSends = s.routeSends := rfl
@[simp] theorem State.setRset_losses (n : Nat) (x : RSet) : (s.setRset n x).losses = s.losses := rfl
@[simp] theorem State.setRset_lanes (n : Nat) (x : RSet) : (s.setRset n x).lanes = s.lanes := rfl
@[simp] theorem State.setRset_lossNotices (n : Nat) (x : RSet) : (s.setRset n x).lossNotices = s.lossNotices := rfl
@[simp] theorem State.setRset_dldSent (n : Nat) (x : RSet) : (s.setRset n x).dldSent = s.dldSent := rfl
@[simp] theorem State.setRset_edgeAcceptedAt (n : Nat) (x : RSet) : (s.setRset n x).edgeAcceptedAt = s.edgeAcceptedAt := rfl
@[simp] theorem State.setRset_epochOld (n : Nat) (x : RSet) : (s.setRset n x).epochOld = s.epochOld := rfl
@[simp] theorem State.setRset_tdcs (n : Nat) (x : RSet) : (s.setRset n x).tdcs = s.tdcs := rfl
@[simp] theorem State.setRset_snss (n : Nat) (x : RSet) : (s.setRset n x).snss = s.snss := rfl
@[simp] theorem State.setRset_heaters (n : Nat) (x : RSet) : (s.setRset n x).heaters = s.heaters := rfl
@[simp] theorem State.setRset_mon (n : Nat) (x : RSet) : (s.setRset n x).mon = s.mon := rfl
@[simp] theorem State.setRset_curveShadow (n : Nat) (x : RSet) : (s.setRset n x).curveShadow = s.curveShadow := rfl
@[simp] theorem State.setRset_curves (n : Nat) (x : RSet) : (s.setRset n x).curves = s.curves := rfl
@[simp] theorem State.setRset_mbx (n : Nat) (x : RSet) : (s.setRset n x).mbx = s.mbx := rfl
@[simp] theorem State.setRset_server (n : Nat) (x : RSet) : (s.setRset n x).server = s.server := rfl
@[simp] theorem State.setRset_training (n : Nat) (x : RSet) : (s.setRset n x).training = s.training := rfl
@[simp] theorem State.setRset_fwBank (n : Nat) (x : RSet) : (s.setRset n x).fwBank = s.fwBank := rfl
@[simp] theorem State.setRset_fwBody (n : Nat) (x : RSet) : (s.setRset n x).fwBody = s.fwBody := rfl
@[simp] theorem State.setRset_calBank (n : Nat) (x : RSet) : (s.setRset n x).calBank = s.calBank := rfl
@[simp] theorem State.setRset_calBody (n : Nat) (x : RSet) : (s.setRset n x).calBody = s.calBody := rfl
@[simp] theorem State.setRset_curveBank (n : Nat) (x : RSet) : (s.setRset n x).curveBank = s.curveBank := rfl
@[simp] theorem State.setRset_curveBody (n : Nat) (x : RSet) : (s.setRset n x).curveBody = s.curveBody := rfl
@[simp] theorem State.setRset_tripLog (n : Nat) (x : RSet) : (s.setRset n x).tripLog = s.tripLog := rfl
@[simp] theorem State.setRset_tripOwed (n : Nat) (x : RSet) : (s.setRset n x).tripOwed = s.tripOwed := rfl
@[simp] theorem State.setRset_routine (n : Nat) (x : RSet) : (s.setRset n x).routine = s.routine := rfl
@[simp] theorem State.setRset_dip (n : Nat) (x : RSet) : (s.setRset n x).dip = s.dip := rfl
@[simp] theorem State.setRset_trippedAt (n : Nat) (x : RSet) : (s.setRset n x).trippedAt = s.trippedAt := rfl
@[simp] theorem State.setRset_window (n : Nat) (x : RSet) : (s.setRset n x).window = s.window := rfl
@[simp] theorem State.setRset_thm (n : Nat) (x : RSet) : (s.setRset n x).thm = s.thm := rfl
@[simp] theorem State.setRset_peffWas (n : Nat) (x : RSet) : (s.setRset n x).peffWas = s.peffWas := rfl
@[simp] theorem State.setRset_calVref (n : Nat) (x : RSet) : (s.setRset n x).calVref = s.calVref := rfl
@[simp] theorem State.setRset_flatPend (n : Nat) (x : RSet) : (s.setRset n x).flatPend = s.flatPend := rfl
@[simp] theorem State.rd_setRset (n : Nat) (x : RSet) (i : Nat) : (s.setRset n x).rd i = s.rd i := rfl
@[simp] theorem State.get_setRset (n : Nat) (x : RSet) (g : Fld) : (s.setRset n x).get g = s.get g := rfl
@[simp] theorem State.get64_setRset (n : Nat) (x : RSet) (i : Nat) : (s.setRset n x).get64 i = s.get64 i := rfl
@[simp] theorem State.rset_setRset (n : Nat) (x : RSet) : (s.setRset n x).rset n = x := Table.get_set_same ..

/-! ### setSns -/

@[simp] theorem State.setSns_pending (c : Nat) (x : Sns) : (s.setSns c x).pending = s.pending := rfl
@[simp] theorem State.setSns_part (c : Nat) (x : Sns) : (s.setSns c x).part = s.part := rfl
@[simp] theorem State.setSns_ref10M (c : Nat) (x : Sns) : (s.setSns c x).ref10M = s.ref10M := rfl
@[simp] theorem State.setSns_serial (c : Nat) (x : Sns) : (s.setSns c x).serial = s.serial := rfl
@[simp] theorem State.setSns_now (c : Nat) (x : Sns) : (s.setSns c x).now = s.now := rfl
@[simp] theorem State.setSns_epoch (c : Nat) (x : Sns) : (s.setSns c x).epoch = s.epoch := rfl
@[simp] theorem State.setSns_epochOn (c : Nat) (x : Sns) : (s.setSns c x).epochOn = s.epochOn := rfl
@[simp] theorem State.setSns_freeCtr (c : Nat) (x : Sns) : (s.setSns c x).freeCtr = s.freeCtr := rfl
@[simp] theorem State.setSns_regs (c : Nat) (x : Sns) : (s.setSns c x).regs = s.regs := rfl
@[simp] theorem State.setSns_lastRead (c : Nat) (x : Sns) : (s.setSns c x).lastRead = s.lastRead := rfl
@[simp] theorem State.setSns_readShadow (c : Nat) (x : Sns) : (s.setSns c x).readShadow = s.readShadow := rfl
@[simp] theorem State.setSns_writeShadow (c : Nat) (x : Sns) : (s.setSns c x).writeShadow = s.writeShadow := rfl
@[simp] theorem State.setSns_rsetSel (c : Nat) (x : Sns) : (s.setSns c x).rsetSel = s.rsetSel := rfl
@[simp] theorem State.setSns_mode (c : Nat) (x : Sns) : (s.setSns c x).mode = s.mode := rfl
@[simp] theorem State.setSns_transition (c : Nat) (x : Sns) : (s.setSns c x).transition = s.transition := rfl
@[simp] theorem State.setSns_powerGoodAt (c : Nat) (x : Sns) : (s.setSns c x).powerGoodAt = s.powerGoodAt := rfl
@[simp] theorem State.setSns_calRaw (c : Nat) (x : Sns) : (s.setSns c x).calRaw = s.calRaw := rfl
@[simp] theorem State.setSns_calAcc (c : Nat) (x : Sns) : (s.setSns c x).calAcc = s.calAcc := rfl
@[simp] theorem State.setSns_disciplineAt (c : Nat) (x : Sns) : (s.setSns c x).disciplineAt = s.disciplineAt := rfl
@[simp] theorem State.setSns_angle (c : Nat) (x : Sns) : (s.setSns c x).angle = s.angle := rfl
@[simp] theorem State.setSns_alarmAt (c : Nat) (x : Sns) : (s.setSns c x).alarmAt = s.alarmAt := rfl
@[simp] theorem State.setSns_alarmLate (c : Nat) (x : Sns) : (s.setSns c x).alarmLate = s.alarmLate := rfl
@[simp] theorem State.setSns_alarmFired (c : Nat) (x : Sns) : (s.setSns c x).alarmFired = s.alarmFired := rfl
@[simp] theorem State.setSns_snapArmed (c : Nat) (x : Sns) : (s.setSns c x).snapArmed = s.snapArmed := rfl
@[simp] theorem State.setSns_relocking (c : Nat) (x : Sns) : (s.setSns c x).relocking = s.relocking := rfl
@[simp] theorem State.setSns_lossAt (c : Nat) (x : Sns) : (s.setSns c x).lossAt = s.lossAt := rfl
@[simp] theorem State.setSns_sqs (c : Nat) (x : Sns) : (s.setSns c x).sqs = s.sqs := rfl
@[simp] theorem State.setSns_cqs (c : Nat) (x : Sns) : (s.setSns c x).cqs = s.cqs := rfl
@[simp] theorem State.setSns_nextUid (c : Nat) (x : Sns) : (s.setSns c x).nextUid = s.nextUid := rfl
@[simp] theorem State.setSns_busMaster (c : Nat) (x : Sns) : (s.setSns c x).busMaster = s.busMaster := rfl
@[simp] theorem State.setSns_perst (c : Nat) (x : Sns) : (s.setSns c x).perst = s.perst := rfl
@[simp] theorem State.setSns_posted (c : Nat) (x : Sns) : (s.setSns c x).posted = s.posted := rfl
@[simp] theorem State.setSns_holding (c : Nat) (x : Sns) : (s.setSns c x).holding = s.holding := rfl
@[simp] theorem State.setSns_holdHits (c : Nat) (x : Sns) : (s.setSns c x).holdHits = s.holdHits := rfl
@[simp] theorem State.setSns_dmaStopped (c : Nat) (x : Sns) : (s.setSns c x).dmaStopped = s.dmaStopped := rfl
@[simp] theorem State.setSns_gang (c : Nat) (x : Sns) : (s.setSns c x).gang = s.gang := rfl
@[simp] theorem State.setSns_shots (c : Nat) (x : Sns) : (s.setSns c x).shots = s.shots := rfl
@[simp] theorem State.setSns_works (c : Nat) (x : Sns) : (s.setSns c x).works = s.works := rfl
@[simp] theorem State.setSns_wins (c : Nat) (x : Sns) : (s.setSns c x).wins = s.wins := rfl
@[simp] theorem State.setSns_streams (c : Nat) (x : Sns) : (s.setSns c x).streams = s.streams := rfl
@[simp] theorem State.setSns_engines (c : Nat) (x : Sns) : (s.setSns c x).engines = s.engines := rfl
@[simp] theorem State.setSns_micro (c : Nat) (x : Sns) : (s.setSns c x).micro = s.micro := rfl
@[simp] theorem State.setSns_nano (c : Nat) (x : Sns) : (s.setSns c x).nano = s.nano := rfl
@[simp] theorem State.setSns_nanoRes (c : Nat) (x : Sns) : (s.setSns c x).nanoRes = s.nanoRes := rfl
@[simp] theorem State.setSns_cache (c : Nat) (x : Sns) : (s.setSns c x).cache = s.cache := rfl
@[simp] theorem State.setSns_commanded (c : Nat) (x : Sns) : (s.setSns c x).commanded = s.commanded := rfl
@[simp] theorem State.setSns_ports (c : Nat) (x : Sns) : (s.setSns c x).ports = s.ports := rfl
@[simp] theorem State.setSns_slots (c : Nat) (x : Sns) : (s.setSns c x).slots = s.slots := rfl
@[simp] theorem State.setSns_slotWrites (c : Nat) (x : Sns) : (s.setSns c x).slotWrites = s.slotWrites := rfl
@[simp] theorem State.setSns_frames (c : Nat) (x : Sns) : (s.setSns c x).frames = s.frames := rfl
@[simp] theorem State.setSns_mrk (c : Nat) (x : Sns) : (s.setSns c x).mrk = s.mrk := rfl
@[simp] theorem State.setSns_mrkMute (c : Nat) (x : Sns) : (s.setSns c x).mrkMute = s.mrkMute := rfl
@[simp] theorem State.setSns_lines (c : Nat) (x : Sns) : (s.setSns c x).lines = s.lines := rfl
@[simp] theorem State.setSns_interp (c : Nat) (x : Sns) : (s.setSns c x).interp = s.interp := rfl
@[simp] theorem State.setSns_interpPend (c : Nat) (x : Sns) : (s.setSns c x).interpPend = s.interpPend := rfl
@[simp] theorem State.setSns_flat (c : Nat) (x : Sns) : (s.setSns c x).flat = s.flat := rfl
@[simp] theorem State.setSns_synth (c : Nat) (x : Sns) : (s.setSns c x).synth = s.synth := rfl
@[simp] theorem State.setSns_ffx (c : Nat) (x : Sns) : (s.setSns c x).ffx = s.ffx := rfl
@[simp] theorem State.setSns_bia (c : Nat) (x : Sns) : (s.setSns c x).bia = s.bia := rfl
@[simp] theorem State.setSns_clrNext (c : Nat) (x : Sns) : (s.setSns c x).clrNext = s.clrNext := rfl
@[simp] theorem State.setSns_acqs (c : Nat) (x : Sns) : (s.setSns c x).acqs = s.acqs := rfl
@[simp] theorem State.setSns_tones (c : Nat) (x : Sns) : (s.setSns c x).tones = s.tones := rfl
@[simp] theorem State.setSns_feeds (c : Nat) (x : Sns) : (s.setSns c x).feeds = s.feeds := rfl
@[simp] theorem State.setSns_rwins (c : Nat) (x : Sns) : (s.setSns c x).rwins = s.rwins := rfl
@[simp] theorem State.setSns_traces (c : Nat) (x : Sns) : (s.setSns c x).traces = s.traces := rfl
@[simp] theorem State.setSns_results (c : Nat) (x : Sns) : (s.setSns c x).results = s.results := rfl
@[simp] theorem State.setSns_frameStamps (c : Nat) (x : Sns) : (s.setSns c x).frameStamps = s.frameStamps := rfl
@[simp] theorem State.setSns_rsets (c : Nat) (x : Sns) : (s.setSns c x).rsets = s.rsets := rfl
@[simp] theorem State.setSns_mem (c : Nat) (x : Sns) : (s.setSns c x).mem = s.mem := rfl
@[simp] theorem State.setSns_scrubPos (c : Nat) (x : Sns) : (s.setSns c x).scrubPos = s.scrubPos := rfl
@[simp] theorem State.setSns_scrubPass (c : Nat) (x : Sns) : (s.setSns c x).scrubPass = s.scrubPass := rfl
@[simp] theorem State.setSns_corrected (c : Nat) (x : Sns) : (s.setSns c x).corrected = s.corrected := rfl
@[simp] theorem State.setSns_passCe (c : Nat) (x : Sns) : (s.setSns c x).passCe = s.passCe := rfl
@[simp] theorem State.setSns_txQueue (c : Nat) (x : Sns) : (s.setSns c x).txQueue = s.txQueue := rfl
@[simp] theorem State.setSns_rxHeld (c : Nat) (x : Sns) : (s.setSns c x).rxHeld = s.rxHeld := rfl
@[simp] theorem State.setSns_routeSends (c : Nat) (x : Sns) : (s.setSns c x).routeSends = s.routeSends := rfl
@[simp] theorem State.setSns_losses (c : Nat) (x : Sns) : (s.setSns c x).losses = s.losses := rfl
@[simp] theorem State.setSns_lanes (c : Nat) (x : Sns) : (s.setSns c x).lanes = s.lanes := rfl
@[simp] theorem State.setSns_lossNotices (c : Nat) (x : Sns) : (s.setSns c x).lossNotices = s.lossNotices := rfl
@[simp] theorem State.setSns_dldSent (c : Nat) (x : Sns) : (s.setSns c x).dldSent = s.dldSent := rfl
@[simp] theorem State.setSns_edgeAcceptedAt (c : Nat) (x : Sns) : (s.setSns c x).edgeAcceptedAt = s.edgeAcceptedAt := rfl
@[simp] theorem State.setSns_epochOld (c : Nat) (x : Sns) : (s.setSns c x).epochOld = s.epochOld := rfl
@[simp] theorem State.setSns_tdcs (c : Nat) (x : Sns) : (s.setSns c x).tdcs = s.tdcs := rfl
@[simp] theorem State.setSns_heaters (c : Nat) (x : Sns) : (s.setSns c x).heaters = s.heaters := rfl
@[simp] theorem State.setSns_mon (c : Nat) (x : Sns) : (s.setSns c x).mon = s.mon := rfl
@[simp] theorem State.setSns_curveShadow (c : Nat) (x : Sns) : (s.setSns c x).curveShadow = s.curveShadow := rfl
@[simp] theorem State.setSns_curves (c : Nat) (x : Sns) : (s.setSns c x).curves = s.curves := rfl
@[simp] theorem State.setSns_mbx (c : Nat) (x : Sns) : (s.setSns c x).mbx = s.mbx := rfl
@[simp] theorem State.setSns_server (c : Nat) (x : Sns) : (s.setSns c x).server = s.server := rfl
@[simp] theorem State.setSns_training (c : Nat) (x : Sns) : (s.setSns c x).training = s.training := rfl
@[simp] theorem State.setSns_fwBank (c : Nat) (x : Sns) : (s.setSns c x).fwBank = s.fwBank := rfl
@[simp] theorem State.setSns_fwBody (c : Nat) (x : Sns) : (s.setSns c x).fwBody = s.fwBody := rfl
@[simp] theorem State.setSns_calBank (c : Nat) (x : Sns) : (s.setSns c x).calBank = s.calBank := rfl
@[simp] theorem State.setSns_calBody (c : Nat) (x : Sns) : (s.setSns c x).calBody = s.calBody := rfl
@[simp] theorem State.setSns_curveBank (c : Nat) (x : Sns) : (s.setSns c x).curveBank = s.curveBank := rfl
@[simp] theorem State.setSns_curveBody (c : Nat) (x : Sns) : (s.setSns c x).curveBody = s.curveBody := rfl
@[simp] theorem State.setSns_tripLog (c : Nat) (x : Sns) : (s.setSns c x).tripLog = s.tripLog := rfl
@[simp] theorem State.setSns_tripOwed (c : Nat) (x : Sns) : (s.setSns c x).tripOwed = s.tripOwed := rfl
@[simp] theorem State.setSns_routine (c : Nat) (x : Sns) : (s.setSns c x).routine = s.routine := rfl
@[simp] theorem State.setSns_dip (c : Nat) (x : Sns) : (s.setSns c x).dip = s.dip := rfl
@[simp] theorem State.setSns_trippedAt (c : Nat) (x : Sns) : (s.setSns c x).trippedAt = s.trippedAt := rfl
@[simp] theorem State.setSns_window (c : Nat) (x : Sns) : (s.setSns c x).window = s.window := rfl
@[simp] theorem State.setSns_thm (c : Nat) (x : Sns) : (s.setSns c x).thm = s.thm := rfl
@[simp] theorem State.setSns_peffWas (c : Nat) (x : Sns) : (s.setSns c x).peffWas = s.peffWas := rfl
@[simp] theorem State.setSns_calVref (c : Nat) (x : Sns) : (s.setSns c x).calVref = s.calVref := rfl
@[simp] theorem State.setSns_flatPend (c : Nat) (x : Sns) : (s.setSns c x).flatPend = s.flatPend := rfl
@[simp] theorem State.rd_setSns (c : Nat) (x : Sns) (i : Nat) : (s.setSns c x).rd i = s.rd i := rfl
@[simp] theorem State.get_setSns (c : Nat) (x : Sns) (g : Fld) : (s.setSns c x).get g = s.get g := rfl
@[simp] theorem State.get64_setSns (c : Nat) (x : Sns) (i : Nat) : (s.setSns c x).get64 i = s.get64 i := rfl
@[simp] theorem State.sns_setSns (c : Nat) (x : Sns) : (s.setSns c x).sns c = x := Table.get_set_same ..

/-! ### setHeater -/

@[simp] theorem State.setHeater_pending (k : Nat) (h : Heater) : (s.setHeater k h).pending = s.pending := rfl
@[simp] theorem State.setHeater_part (k : Nat) (h : Heater) : (s.setHeater k h).part = s.part := rfl
@[simp] theorem State.setHeater_ref10M (k : Nat) (h : Heater) : (s.setHeater k h).ref10M = s.ref10M := rfl
@[simp] theorem State.setHeater_serial (k : Nat) (h : Heater) : (s.setHeater k h).serial = s.serial := rfl
@[simp] theorem State.setHeater_now (k : Nat) (h : Heater) : (s.setHeater k h).now = s.now := rfl
@[simp] theorem State.setHeater_epoch (k : Nat) (h : Heater) : (s.setHeater k h).epoch = s.epoch := rfl
@[simp] theorem State.setHeater_epochOn (k : Nat) (h : Heater) : (s.setHeater k h).epochOn = s.epochOn := rfl
@[simp] theorem State.setHeater_freeCtr (k : Nat) (h : Heater) : (s.setHeater k h).freeCtr = s.freeCtr := rfl
@[simp] theorem State.setHeater_regs (k : Nat) (h : Heater) : (s.setHeater k h).regs = s.regs := rfl
@[simp] theorem State.setHeater_lastRead (k : Nat) (h : Heater) : (s.setHeater k h).lastRead = s.lastRead := rfl
@[simp] theorem State.setHeater_readShadow (k : Nat) (h : Heater) : (s.setHeater k h).readShadow = s.readShadow := rfl
@[simp] theorem State.setHeater_writeShadow (k : Nat) (h : Heater) : (s.setHeater k h).writeShadow = s.writeShadow := rfl
@[simp] theorem State.setHeater_rsetSel (k : Nat) (h : Heater) : (s.setHeater k h).rsetSel = s.rsetSel := rfl
@[simp] theorem State.setHeater_mode (k : Nat) (h : Heater) : (s.setHeater k h).mode = s.mode := rfl
@[simp] theorem State.setHeater_transition (k : Nat) (h : Heater) : (s.setHeater k h).transition = s.transition := rfl
@[simp] theorem State.setHeater_powerGoodAt (k : Nat) (h : Heater) : (s.setHeater k h).powerGoodAt = s.powerGoodAt := rfl
@[simp] theorem State.setHeater_calRaw (k : Nat) (h : Heater) : (s.setHeater k h).calRaw = s.calRaw := rfl
@[simp] theorem State.setHeater_calAcc (k : Nat) (h : Heater) : (s.setHeater k h).calAcc = s.calAcc := rfl
@[simp] theorem State.setHeater_disciplineAt (k : Nat) (h : Heater) : (s.setHeater k h).disciplineAt = s.disciplineAt := rfl
@[simp] theorem State.setHeater_angle (k : Nat) (h : Heater) : (s.setHeater k h).angle = s.angle := rfl
@[simp] theorem State.setHeater_alarmAt (k : Nat) (h : Heater) : (s.setHeater k h).alarmAt = s.alarmAt := rfl
@[simp] theorem State.setHeater_alarmLate (k : Nat) (h : Heater) : (s.setHeater k h).alarmLate = s.alarmLate := rfl
@[simp] theorem State.setHeater_alarmFired (k : Nat) (h : Heater) : (s.setHeater k h).alarmFired = s.alarmFired := rfl
@[simp] theorem State.setHeater_snapArmed (k : Nat) (h : Heater) : (s.setHeater k h).snapArmed = s.snapArmed := rfl
@[simp] theorem State.setHeater_relocking (k : Nat) (h : Heater) : (s.setHeater k h).relocking = s.relocking := rfl
@[simp] theorem State.setHeater_lossAt (k : Nat) (h : Heater) : (s.setHeater k h).lossAt = s.lossAt := rfl
@[simp] theorem State.setHeater_sqs (k : Nat) (h : Heater) : (s.setHeater k h).sqs = s.sqs := rfl
@[simp] theorem State.setHeater_cqs (k : Nat) (h : Heater) : (s.setHeater k h).cqs = s.cqs := rfl
@[simp] theorem State.setHeater_nextUid (k : Nat) (h : Heater) : (s.setHeater k h).nextUid = s.nextUid := rfl
@[simp] theorem State.setHeater_busMaster (k : Nat) (h : Heater) : (s.setHeater k h).busMaster = s.busMaster := rfl
@[simp] theorem State.setHeater_perst (k : Nat) (h : Heater) : (s.setHeater k h).perst = s.perst := rfl
@[simp] theorem State.setHeater_posted (k : Nat) (h : Heater) : (s.setHeater k h).posted = s.posted := rfl
@[simp] theorem State.setHeater_holding (k : Nat) (h : Heater) : (s.setHeater k h).holding = s.holding := rfl
@[simp] theorem State.setHeater_holdHits (k : Nat) (h : Heater) : (s.setHeater k h).holdHits = s.holdHits := rfl
@[simp] theorem State.setHeater_dmaStopped (k : Nat) (h : Heater) : (s.setHeater k h).dmaStopped = s.dmaStopped := rfl
@[simp] theorem State.setHeater_gang (k : Nat) (h : Heater) : (s.setHeater k h).gang = s.gang := rfl
@[simp] theorem State.setHeater_shots (k : Nat) (h : Heater) : (s.setHeater k h).shots = s.shots := rfl
@[simp] theorem State.setHeater_works (k : Nat) (h : Heater) : (s.setHeater k h).works = s.works := rfl
@[simp] theorem State.setHeater_wins (k : Nat) (h : Heater) : (s.setHeater k h).wins = s.wins := rfl
@[simp] theorem State.setHeater_streams (k : Nat) (h : Heater) : (s.setHeater k h).streams = s.streams := rfl
@[simp] theorem State.setHeater_engines (k : Nat) (h : Heater) : (s.setHeater k h).engines = s.engines := rfl
@[simp] theorem State.setHeater_micro (k : Nat) (h : Heater) : (s.setHeater k h).micro = s.micro := rfl
@[simp] theorem State.setHeater_nano (k : Nat) (h : Heater) : (s.setHeater k h).nano = s.nano := rfl
@[simp] theorem State.setHeater_nanoRes (k : Nat) (h : Heater) : (s.setHeater k h).nanoRes = s.nanoRes := rfl
@[simp] theorem State.setHeater_cache (k : Nat) (h : Heater) : (s.setHeater k h).cache = s.cache := rfl
@[simp] theorem State.setHeater_commanded (k : Nat) (h : Heater) : (s.setHeater k h).commanded = s.commanded := rfl
@[simp] theorem State.setHeater_ports (k : Nat) (h : Heater) : (s.setHeater k h).ports = s.ports := rfl
@[simp] theorem State.setHeater_slots (k : Nat) (h : Heater) : (s.setHeater k h).slots = s.slots := rfl
@[simp] theorem State.setHeater_slotWrites (k : Nat) (h : Heater) : (s.setHeater k h).slotWrites = s.slotWrites := rfl
@[simp] theorem State.setHeater_frames (k : Nat) (h : Heater) : (s.setHeater k h).frames = s.frames := rfl
@[simp] theorem State.setHeater_mrk (k : Nat) (h : Heater) : (s.setHeater k h).mrk = s.mrk := rfl
@[simp] theorem State.setHeater_mrkMute (k : Nat) (h : Heater) : (s.setHeater k h).mrkMute = s.mrkMute := rfl
@[simp] theorem State.setHeater_lines (k : Nat) (h : Heater) : (s.setHeater k h).lines = s.lines := rfl
@[simp] theorem State.setHeater_interp (k : Nat) (h : Heater) : (s.setHeater k h).interp = s.interp := rfl
@[simp] theorem State.setHeater_interpPend (k : Nat) (h : Heater) : (s.setHeater k h).interpPend = s.interpPend := rfl
@[simp] theorem State.setHeater_flat (k : Nat) (h : Heater) : (s.setHeater k h).flat = s.flat := rfl
@[simp] theorem State.setHeater_synth (k : Nat) (h : Heater) : (s.setHeater k h).synth = s.synth := rfl
@[simp] theorem State.setHeater_ffx (k : Nat) (h : Heater) : (s.setHeater k h).ffx = s.ffx := rfl
@[simp] theorem State.setHeater_bia (k : Nat) (h : Heater) : (s.setHeater k h).bia = s.bia := rfl
@[simp] theorem State.setHeater_clrNext (k : Nat) (h : Heater) : (s.setHeater k h).clrNext = s.clrNext := rfl
@[simp] theorem State.setHeater_acqs (k : Nat) (h : Heater) : (s.setHeater k h).acqs = s.acqs := rfl
@[simp] theorem State.setHeater_tones (k : Nat) (h : Heater) : (s.setHeater k h).tones = s.tones := rfl
@[simp] theorem State.setHeater_feeds (k : Nat) (h : Heater) : (s.setHeater k h).feeds = s.feeds := rfl
@[simp] theorem State.setHeater_rwins (k : Nat) (h : Heater) : (s.setHeater k h).rwins = s.rwins := rfl
@[simp] theorem State.setHeater_traces (k : Nat) (h : Heater) : (s.setHeater k h).traces = s.traces := rfl
@[simp] theorem State.setHeater_results (k : Nat) (h : Heater) : (s.setHeater k h).results = s.results := rfl
@[simp] theorem State.setHeater_frameStamps (k : Nat) (h : Heater) : (s.setHeater k h).frameStamps = s.frameStamps := rfl
@[simp] theorem State.setHeater_rsets (k : Nat) (h : Heater) : (s.setHeater k h).rsets = s.rsets := rfl
@[simp] theorem State.setHeater_mem (k : Nat) (h : Heater) : (s.setHeater k h).mem = s.mem := rfl
@[simp] theorem State.setHeater_scrubPos (k : Nat) (h : Heater) : (s.setHeater k h).scrubPos = s.scrubPos := rfl
@[simp] theorem State.setHeater_scrubPass (k : Nat) (h : Heater) : (s.setHeater k h).scrubPass = s.scrubPass := rfl
@[simp] theorem State.setHeater_corrected (k : Nat) (h : Heater) : (s.setHeater k h).corrected = s.corrected := rfl
@[simp] theorem State.setHeater_passCe (k : Nat) (h : Heater) : (s.setHeater k h).passCe = s.passCe := rfl
@[simp] theorem State.setHeater_txQueue (k : Nat) (h : Heater) : (s.setHeater k h).txQueue = s.txQueue := rfl
@[simp] theorem State.setHeater_rxHeld (k : Nat) (h : Heater) : (s.setHeater k h).rxHeld = s.rxHeld := rfl
@[simp] theorem State.setHeater_routeSends (k : Nat) (h : Heater) : (s.setHeater k h).routeSends = s.routeSends := rfl
@[simp] theorem State.setHeater_losses (k : Nat) (h : Heater) : (s.setHeater k h).losses = s.losses := rfl
@[simp] theorem State.setHeater_lanes (k : Nat) (h : Heater) : (s.setHeater k h).lanes = s.lanes := rfl
@[simp] theorem State.setHeater_lossNotices (k : Nat) (h : Heater) : (s.setHeater k h).lossNotices = s.lossNotices := rfl
@[simp] theorem State.setHeater_dldSent (k : Nat) (h : Heater) : (s.setHeater k h).dldSent = s.dldSent := rfl
@[simp] theorem State.setHeater_edgeAcceptedAt (k : Nat) (h : Heater) : (s.setHeater k h).edgeAcceptedAt = s.edgeAcceptedAt := rfl
@[simp] theorem State.setHeater_epochOld (k : Nat) (h : Heater) : (s.setHeater k h).epochOld = s.epochOld := rfl
@[simp] theorem State.setHeater_tdcs (k : Nat) (h : Heater) : (s.setHeater k h).tdcs = s.tdcs := rfl
@[simp] theorem State.setHeater_snss (k : Nat) (h : Heater) : (s.setHeater k h).snss = s.snss := rfl
@[simp] theorem State.setHeater_mon (k : Nat) (h : Heater) : (s.setHeater k h).mon = s.mon := rfl
@[simp] theorem State.setHeater_curveShadow (k : Nat) (h : Heater) : (s.setHeater k h).curveShadow = s.curveShadow := rfl
@[simp] theorem State.setHeater_curves (k : Nat) (h : Heater) : (s.setHeater k h).curves = s.curves := rfl
@[simp] theorem State.setHeater_mbx (k : Nat) (h : Heater) : (s.setHeater k h).mbx = s.mbx := rfl
@[simp] theorem State.setHeater_server (k : Nat) (h : Heater) : (s.setHeater k h).server = s.server := rfl
@[simp] theorem State.setHeater_training (k : Nat) (h : Heater) : (s.setHeater k h).training = s.training := rfl
@[simp] theorem State.setHeater_fwBank (k : Nat) (h : Heater) : (s.setHeater k h).fwBank = s.fwBank := rfl
@[simp] theorem State.setHeater_fwBody (k : Nat) (h : Heater) : (s.setHeater k h).fwBody = s.fwBody := rfl
@[simp] theorem State.setHeater_calBank (k : Nat) (h : Heater) : (s.setHeater k h).calBank = s.calBank := rfl
@[simp] theorem State.setHeater_calBody (k : Nat) (h : Heater) : (s.setHeater k h).calBody = s.calBody := rfl
@[simp] theorem State.setHeater_curveBank (k : Nat) (h : Heater) : (s.setHeater k h).curveBank = s.curveBank := rfl
@[simp] theorem State.setHeater_curveBody (k : Nat) (h : Heater) : (s.setHeater k h).curveBody = s.curveBody := rfl
@[simp] theorem State.setHeater_tripLog (k : Nat) (h : Heater) : (s.setHeater k h).tripLog = s.tripLog := rfl
@[simp] theorem State.setHeater_tripOwed (k : Nat) (h : Heater) : (s.setHeater k h).tripOwed = s.tripOwed := rfl
@[simp] theorem State.setHeater_routine (k : Nat) (h : Heater) : (s.setHeater k h).routine = s.routine := rfl
@[simp] theorem State.setHeater_dip (k : Nat) (h : Heater) : (s.setHeater k h).dip = s.dip := rfl
@[simp] theorem State.setHeater_trippedAt (k : Nat) (h : Heater) : (s.setHeater k h).trippedAt = s.trippedAt := rfl
@[simp] theorem State.setHeater_window (k : Nat) (h : Heater) : (s.setHeater k h).window = s.window := rfl
@[simp] theorem State.setHeater_thm (k : Nat) (h : Heater) : (s.setHeater k h).thm = s.thm := rfl
@[simp] theorem State.setHeater_peffWas (k : Nat) (h : Heater) : (s.setHeater k h).peffWas = s.peffWas := rfl
@[simp] theorem State.setHeater_calVref (k : Nat) (h : Heater) : (s.setHeater k h).calVref = s.calVref := rfl
@[simp] theorem State.setHeater_flatPend (k : Nat) (h : Heater) : (s.setHeater k h).flatPend = s.flatPend := rfl
@[simp] theorem State.rd_setHeater (k : Nat) (h : Heater) (i : Nat) : (s.setHeater k h).rd i = s.rd i := rfl
@[simp] theorem State.get_setHeater (k : Nat) (h : Heater) (g : Fld) : (s.setHeater k h).get g = s.get g := rfl
@[simp] theorem State.get64_setHeater (k : Nat) (h : Heater) (i : Nat) : (s.setHeater k h).get64 i = s.get64 i := rfl
@[simp] theorem State.heater_setHeater (k : Nat) (h : Heater) : (s.setHeater k h).heater k = h := Table.get_set_same ..

/-! ### setTdc -/

@[simp] theorem State.setTdc_pending (c : Nat) (x : Tdc) : (s.setTdc c x).pending = s.pending := rfl
@[simp] theorem State.setTdc_part (c : Nat) (x : Tdc) : (s.setTdc c x).part = s.part := rfl
@[simp] theorem State.setTdc_ref10M (c : Nat) (x : Tdc) : (s.setTdc c x).ref10M = s.ref10M := rfl
@[simp] theorem State.setTdc_serial (c : Nat) (x : Tdc) : (s.setTdc c x).serial = s.serial := rfl
@[simp] theorem State.setTdc_now (c : Nat) (x : Tdc) : (s.setTdc c x).now = s.now := rfl
@[simp] theorem State.setTdc_epoch (c : Nat) (x : Tdc) : (s.setTdc c x).epoch = s.epoch := rfl
@[simp] theorem State.setTdc_epochOn (c : Nat) (x : Tdc) : (s.setTdc c x).epochOn = s.epochOn := rfl
@[simp] theorem State.setTdc_freeCtr (c : Nat) (x : Tdc) : (s.setTdc c x).freeCtr = s.freeCtr := rfl
@[simp] theorem State.setTdc_regs (c : Nat) (x : Tdc) : (s.setTdc c x).regs = s.regs := rfl
@[simp] theorem State.setTdc_lastRead (c : Nat) (x : Tdc) : (s.setTdc c x).lastRead = s.lastRead := rfl
@[simp] theorem State.setTdc_readShadow (c : Nat) (x : Tdc) : (s.setTdc c x).readShadow = s.readShadow := rfl
@[simp] theorem State.setTdc_writeShadow (c : Nat) (x : Tdc) : (s.setTdc c x).writeShadow = s.writeShadow := rfl
@[simp] theorem State.setTdc_rsetSel (c : Nat) (x : Tdc) : (s.setTdc c x).rsetSel = s.rsetSel := rfl
@[simp] theorem State.setTdc_mode (c : Nat) (x : Tdc) : (s.setTdc c x).mode = s.mode := rfl
@[simp] theorem State.setTdc_transition (c : Nat) (x : Tdc) : (s.setTdc c x).transition = s.transition := rfl
@[simp] theorem State.setTdc_powerGoodAt (c : Nat) (x : Tdc) : (s.setTdc c x).powerGoodAt = s.powerGoodAt := rfl
@[simp] theorem State.setTdc_calRaw (c : Nat) (x : Tdc) : (s.setTdc c x).calRaw = s.calRaw := rfl
@[simp] theorem State.setTdc_calAcc (c : Nat) (x : Tdc) : (s.setTdc c x).calAcc = s.calAcc := rfl
@[simp] theorem State.setTdc_disciplineAt (c : Nat) (x : Tdc) : (s.setTdc c x).disciplineAt = s.disciplineAt := rfl
@[simp] theorem State.setTdc_angle (c : Nat) (x : Tdc) : (s.setTdc c x).angle = s.angle := rfl
@[simp] theorem State.setTdc_alarmAt (c : Nat) (x : Tdc) : (s.setTdc c x).alarmAt = s.alarmAt := rfl
@[simp] theorem State.setTdc_alarmLate (c : Nat) (x : Tdc) : (s.setTdc c x).alarmLate = s.alarmLate := rfl
@[simp] theorem State.setTdc_alarmFired (c : Nat) (x : Tdc) : (s.setTdc c x).alarmFired = s.alarmFired := rfl
@[simp] theorem State.setTdc_snapArmed (c : Nat) (x : Tdc) : (s.setTdc c x).snapArmed = s.snapArmed := rfl
@[simp] theorem State.setTdc_relocking (c : Nat) (x : Tdc) : (s.setTdc c x).relocking = s.relocking := rfl
@[simp] theorem State.setTdc_lossAt (c : Nat) (x : Tdc) : (s.setTdc c x).lossAt = s.lossAt := rfl
@[simp] theorem State.setTdc_sqs (c : Nat) (x : Tdc) : (s.setTdc c x).sqs = s.sqs := rfl
@[simp] theorem State.setTdc_cqs (c : Nat) (x : Tdc) : (s.setTdc c x).cqs = s.cqs := rfl
@[simp] theorem State.setTdc_nextUid (c : Nat) (x : Tdc) : (s.setTdc c x).nextUid = s.nextUid := rfl
@[simp] theorem State.setTdc_busMaster (c : Nat) (x : Tdc) : (s.setTdc c x).busMaster = s.busMaster := rfl
@[simp] theorem State.setTdc_perst (c : Nat) (x : Tdc) : (s.setTdc c x).perst = s.perst := rfl
@[simp] theorem State.setTdc_posted (c : Nat) (x : Tdc) : (s.setTdc c x).posted = s.posted := rfl
@[simp] theorem State.setTdc_holding (c : Nat) (x : Tdc) : (s.setTdc c x).holding = s.holding := rfl
@[simp] theorem State.setTdc_holdHits (c : Nat) (x : Tdc) : (s.setTdc c x).holdHits = s.holdHits := rfl
@[simp] theorem State.setTdc_dmaStopped (c : Nat) (x : Tdc) : (s.setTdc c x).dmaStopped = s.dmaStopped := rfl
@[simp] theorem State.setTdc_gang (c : Nat) (x : Tdc) : (s.setTdc c x).gang = s.gang := rfl
@[simp] theorem State.setTdc_shots (c : Nat) (x : Tdc) : (s.setTdc c x).shots = s.shots := rfl
@[simp] theorem State.setTdc_works (c : Nat) (x : Tdc) : (s.setTdc c x).works = s.works := rfl
@[simp] theorem State.setTdc_wins (c : Nat) (x : Tdc) : (s.setTdc c x).wins = s.wins := rfl
@[simp] theorem State.setTdc_streams (c : Nat) (x : Tdc) : (s.setTdc c x).streams = s.streams := rfl
@[simp] theorem State.setTdc_engines (c : Nat) (x : Tdc) : (s.setTdc c x).engines = s.engines := rfl
@[simp] theorem State.setTdc_micro (c : Nat) (x : Tdc) : (s.setTdc c x).micro = s.micro := rfl
@[simp] theorem State.setTdc_nano (c : Nat) (x : Tdc) : (s.setTdc c x).nano = s.nano := rfl
@[simp] theorem State.setTdc_nanoRes (c : Nat) (x : Tdc) : (s.setTdc c x).nanoRes = s.nanoRes := rfl
@[simp] theorem State.setTdc_cache (c : Nat) (x : Tdc) : (s.setTdc c x).cache = s.cache := rfl
@[simp] theorem State.setTdc_commanded (c : Nat) (x : Tdc) : (s.setTdc c x).commanded = s.commanded := rfl
@[simp] theorem State.setTdc_ports (c : Nat) (x : Tdc) : (s.setTdc c x).ports = s.ports := rfl
@[simp] theorem State.setTdc_slots (c : Nat) (x : Tdc) : (s.setTdc c x).slots = s.slots := rfl
@[simp] theorem State.setTdc_slotWrites (c : Nat) (x : Tdc) : (s.setTdc c x).slotWrites = s.slotWrites := rfl
@[simp] theorem State.setTdc_frames (c : Nat) (x : Tdc) : (s.setTdc c x).frames = s.frames := rfl
@[simp] theorem State.setTdc_mrk (c : Nat) (x : Tdc) : (s.setTdc c x).mrk = s.mrk := rfl
@[simp] theorem State.setTdc_mrkMute (c : Nat) (x : Tdc) : (s.setTdc c x).mrkMute = s.mrkMute := rfl
@[simp] theorem State.setTdc_lines (c : Nat) (x : Tdc) : (s.setTdc c x).lines = s.lines := rfl
@[simp] theorem State.setTdc_interp (c : Nat) (x : Tdc) : (s.setTdc c x).interp = s.interp := rfl
@[simp] theorem State.setTdc_interpPend (c : Nat) (x : Tdc) : (s.setTdc c x).interpPend = s.interpPend := rfl
@[simp] theorem State.setTdc_flat (c : Nat) (x : Tdc) : (s.setTdc c x).flat = s.flat := rfl
@[simp] theorem State.setTdc_synth (c : Nat) (x : Tdc) : (s.setTdc c x).synth = s.synth := rfl
@[simp] theorem State.setTdc_ffx (c : Nat) (x : Tdc) : (s.setTdc c x).ffx = s.ffx := rfl
@[simp] theorem State.setTdc_bia (c : Nat) (x : Tdc) : (s.setTdc c x).bia = s.bia := rfl
@[simp] theorem State.setTdc_clrNext (c : Nat) (x : Tdc) : (s.setTdc c x).clrNext = s.clrNext := rfl
@[simp] theorem State.setTdc_acqs (c : Nat) (x : Tdc) : (s.setTdc c x).acqs = s.acqs := rfl
@[simp] theorem State.setTdc_tones (c : Nat) (x : Tdc) : (s.setTdc c x).tones = s.tones := rfl
@[simp] theorem State.setTdc_feeds (c : Nat) (x : Tdc) : (s.setTdc c x).feeds = s.feeds := rfl
@[simp] theorem State.setTdc_rwins (c : Nat) (x : Tdc) : (s.setTdc c x).rwins = s.rwins := rfl
@[simp] theorem State.setTdc_traces (c : Nat) (x : Tdc) : (s.setTdc c x).traces = s.traces := rfl
@[simp] theorem State.setTdc_results (c : Nat) (x : Tdc) : (s.setTdc c x).results = s.results := rfl
@[simp] theorem State.setTdc_frameStamps (c : Nat) (x : Tdc) : (s.setTdc c x).frameStamps = s.frameStamps := rfl
@[simp] theorem State.setTdc_rsets (c : Nat) (x : Tdc) : (s.setTdc c x).rsets = s.rsets := rfl
@[simp] theorem State.setTdc_mem (c : Nat) (x : Tdc) : (s.setTdc c x).mem = s.mem := rfl
@[simp] theorem State.setTdc_scrubPos (c : Nat) (x : Tdc) : (s.setTdc c x).scrubPos = s.scrubPos := rfl
@[simp] theorem State.setTdc_scrubPass (c : Nat) (x : Tdc) : (s.setTdc c x).scrubPass = s.scrubPass := rfl
@[simp] theorem State.setTdc_corrected (c : Nat) (x : Tdc) : (s.setTdc c x).corrected = s.corrected := rfl
@[simp] theorem State.setTdc_passCe (c : Nat) (x : Tdc) : (s.setTdc c x).passCe = s.passCe := rfl
@[simp] theorem State.setTdc_txQueue (c : Nat) (x : Tdc) : (s.setTdc c x).txQueue = s.txQueue := rfl
@[simp] theorem State.setTdc_rxHeld (c : Nat) (x : Tdc) : (s.setTdc c x).rxHeld = s.rxHeld := rfl
@[simp] theorem State.setTdc_routeSends (c : Nat) (x : Tdc) : (s.setTdc c x).routeSends = s.routeSends := rfl
@[simp] theorem State.setTdc_losses (c : Nat) (x : Tdc) : (s.setTdc c x).losses = s.losses := rfl
@[simp] theorem State.setTdc_lanes (c : Nat) (x : Tdc) : (s.setTdc c x).lanes = s.lanes := rfl
@[simp] theorem State.setTdc_lossNotices (c : Nat) (x : Tdc) : (s.setTdc c x).lossNotices = s.lossNotices := rfl
@[simp] theorem State.setTdc_dldSent (c : Nat) (x : Tdc) : (s.setTdc c x).dldSent = s.dldSent := rfl
@[simp] theorem State.setTdc_edgeAcceptedAt (c : Nat) (x : Tdc) : (s.setTdc c x).edgeAcceptedAt = s.edgeAcceptedAt := rfl
@[simp] theorem State.setTdc_epochOld (c : Nat) (x : Tdc) : (s.setTdc c x).epochOld = s.epochOld := rfl
@[simp] theorem State.setTdc_snss (c : Nat) (x : Tdc) : (s.setTdc c x).snss = s.snss := rfl
@[simp] theorem State.setTdc_heaters (c : Nat) (x : Tdc) : (s.setTdc c x).heaters = s.heaters := rfl
@[simp] theorem State.setTdc_mon (c : Nat) (x : Tdc) : (s.setTdc c x).mon = s.mon := rfl
@[simp] theorem State.setTdc_curveShadow (c : Nat) (x : Tdc) : (s.setTdc c x).curveShadow = s.curveShadow := rfl
@[simp] theorem State.setTdc_curves (c : Nat) (x : Tdc) : (s.setTdc c x).curves = s.curves := rfl
@[simp] theorem State.setTdc_mbx (c : Nat) (x : Tdc) : (s.setTdc c x).mbx = s.mbx := rfl
@[simp] theorem State.setTdc_server (c : Nat) (x : Tdc) : (s.setTdc c x).server = s.server := rfl
@[simp] theorem State.setTdc_training (c : Nat) (x : Tdc) : (s.setTdc c x).training = s.training := rfl
@[simp] theorem State.setTdc_fwBank (c : Nat) (x : Tdc) : (s.setTdc c x).fwBank = s.fwBank := rfl
@[simp] theorem State.setTdc_fwBody (c : Nat) (x : Tdc) : (s.setTdc c x).fwBody = s.fwBody := rfl
@[simp] theorem State.setTdc_calBank (c : Nat) (x : Tdc) : (s.setTdc c x).calBank = s.calBank := rfl
@[simp] theorem State.setTdc_calBody (c : Nat) (x : Tdc) : (s.setTdc c x).calBody = s.calBody := rfl
@[simp] theorem State.setTdc_curveBank (c : Nat) (x : Tdc) : (s.setTdc c x).curveBank = s.curveBank := rfl
@[simp] theorem State.setTdc_curveBody (c : Nat) (x : Tdc) : (s.setTdc c x).curveBody = s.curveBody := rfl
@[simp] theorem State.setTdc_tripLog (c : Nat) (x : Tdc) : (s.setTdc c x).tripLog = s.tripLog := rfl
@[simp] theorem State.setTdc_tripOwed (c : Nat) (x : Tdc) : (s.setTdc c x).tripOwed = s.tripOwed := rfl
@[simp] theorem State.setTdc_routine (c : Nat) (x : Tdc) : (s.setTdc c x).routine = s.routine := rfl
@[simp] theorem State.setTdc_dip (c : Nat) (x : Tdc) : (s.setTdc c x).dip = s.dip := rfl
@[simp] theorem State.setTdc_trippedAt (c : Nat) (x : Tdc) : (s.setTdc c x).trippedAt = s.trippedAt := rfl
@[simp] theorem State.setTdc_window (c : Nat) (x : Tdc) : (s.setTdc c x).window = s.window := rfl
@[simp] theorem State.setTdc_thm (c : Nat) (x : Tdc) : (s.setTdc c x).thm = s.thm := rfl
@[simp] theorem State.setTdc_peffWas (c : Nat) (x : Tdc) : (s.setTdc c x).peffWas = s.peffWas := rfl
@[simp] theorem State.setTdc_calVref (c : Nat) (x : Tdc) : (s.setTdc c x).calVref = s.calVref := rfl
@[simp] theorem State.setTdc_flatPend (c : Nat) (x : Tdc) : (s.setTdc c x).flatPend = s.flatPend := rfl
@[simp] theorem State.rd_setTdc (c : Nat) (x : Tdc) (i : Nat) : (s.setTdc c x).rd i = s.rd i := rfl
@[simp] theorem State.get_setTdc (c : Nat) (x : Tdc) (g : Fld) : (s.setTdc c x).get g = s.get g := rfl
@[simp] theorem State.get64_setTdc (c : Nat) (x : Tdc) (i : Nat) : (s.setTdc c x).get64 i = s.get64 i := rfl
@[simp] theorem State.tdc_setTdc (c : Nat) (x : Tdc) : (s.setTdc c x).tdc c = x := Table.get_set_same ..

/-! ### setTone -/

@[simp] theorem State.setTone_pending (r k : Nat) (x : Tone) : (s.setTone r k x).pending = s.pending := rfl
@[simp] theorem State.setTone_part (r k : Nat) (x : Tone) : (s.setTone r k x).part = s.part := rfl
@[simp] theorem State.setTone_ref10M (r k : Nat) (x : Tone) : (s.setTone r k x).ref10M = s.ref10M := rfl
@[simp] theorem State.setTone_serial (r k : Nat) (x : Tone) : (s.setTone r k x).serial = s.serial := rfl
@[simp] theorem State.setTone_now (r k : Nat) (x : Tone) : (s.setTone r k x).now = s.now := rfl
@[simp] theorem State.setTone_epoch (r k : Nat) (x : Tone) : (s.setTone r k x).epoch = s.epoch := rfl
@[simp] theorem State.setTone_epochOn (r k : Nat) (x : Tone) : (s.setTone r k x).epochOn = s.epochOn := rfl
@[simp] theorem State.setTone_freeCtr (r k : Nat) (x : Tone) : (s.setTone r k x).freeCtr = s.freeCtr := rfl
@[simp] theorem State.setTone_regs (r k : Nat) (x : Tone) : (s.setTone r k x).regs = s.regs := rfl
@[simp] theorem State.setTone_lastRead (r k : Nat) (x : Tone) : (s.setTone r k x).lastRead = s.lastRead := rfl
@[simp] theorem State.setTone_readShadow (r k : Nat) (x : Tone) : (s.setTone r k x).readShadow = s.readShadow := rfl
@[simp] theorem State.setTone_writeShadow (r k : Nat) (x : Tone) : (s.setTone r k x).writeShadow = s.writeShadow := rfl
@[simp] theorem State.setTone_rsetSel (r k : Nat) (x : Tone) : (s.setTone r k x).rsetSel = s.rsetSel := rfl
@[simp] theorem State.setTone_mode (r k : Nat) (x : Tone) : (s.setTone r k x).mode = s.mode := rfl
@[simp] theorem State.setTone_transition (r k : Nat) (x : Tone) : (s.setTone r k x).transition = s.transition := rfl
@[simp] theorem State.setTone_powerGoodAt (r k : Nat) (x : Tone) : (s.setTone r k x).powerGoodAt = s.powerGoodAt := rfl
@[simp] theorem State.setTone_calRaw (r k : Nat) (x : Tone) : (s.setTone r k x).calRaw = s.calRaw := rfl
@[simp] theorem State.setTone_calAcc (r k : Nat) (x : Tone) : (s.setTone r k x).calAcc = s.calAcc := rfl
@[simp] theorem State.setTone_disciplineAt (r k : Nat) (x : Tone) : (s.setTone r k x).disciplineAt = s.disciplineAt := rfl
@[simp] theorem State.setTone_angle (r k : Nat) (x : Tone) : (s.setTone r k x).angle = s.angle := rfl
@[simp] theorem State.setTone_alarmAt (r k : Nat) (x : Tone) : (s.setTone r k x).alarmAt = s.alarmAt := rfl
@[simp] theorem State.setTone_alarmLate (r k : Nat) (x : Tone) : (s.setTone r k x).alarmLate = s.alarmLate := rfl
@[simp] theorem State.setTone_alarmFired (r k : Nat) (x : Tone) : (s.setTone r k x).alarmFired = s.alarmFired := rfl
@[simp] theorem State.setTone_snapArmed (r k : Nat) (x : Tone) : (s.setTone r k x).snapArmed = s.snapArmed := rfl
@[simp] theorem State.setTone_relocking (r k : Nat) (x : Tone) : (s.setTone r k x).relocking = s.relocking := rfl
@[simp] theorem State.setTone_lossAt (r k : Nat) (x : Tone) : (s.setTone r k x).lossAt = s.lossAt := rfl
@[simp] theorem State.setTone_sqs (r k : Nat) (x : Tone) : (s.setTone r k x).sqs = s.sqs := rfl
@[simp] theorem State.setTone_cqs (r k : Nat) (x : Tone) : (s.setTone r k x).cqs = s.cqs := rfl
@[simp] theorem State.setTone_nextUid (r k : Nat) (x : Tone) : (s.setTone r k x).nextUid = s.nextUid := rfl
@[simp] theorem State.setTone_busMaster (r k : Nat) (x : Tone) : (s.setTone r k x).busMaster = s.busMaster := rfl
@[simp] theorem State.setTone_perst (r k : Nat) (x : Tone) : (s.setTone r k x).perst = s.perst := rfl
@[simp] theorem State.setTone_posted (r k : Nat) (x : Tone) : (s.setTone r k x).posted = s.posted := rfl
@[simp] theorem State.setTone_holding (r k : Nat) (x : Tone) : (s.setTone r k x).holding = s.holding := rfl
@[simp] theorem State.setTone_holdHits (r k : Nat) (x : Tone) : (s.setTone r k x).holdHits = s.holdHits := rfl
@[simp] theorem State.setTone_dmaStopped (r k : Nat) (x : Tone) : (s.setTone r k x).dmaStopped = s.dmaStopped := rfl
@[simp] theorem State.setTone_gang (r k : Nat) (x : Tone) : (s.setTone r k x).gang = s.gang := rfl
@[simp] theorem State.setTone_shots (r k : Nat) (x : Tone) : (s.setTone r k x).shots = s.shots := rfl
@[simp] theorem State.setTone_works (r k : Nat) (x : Tone) : (s.setTone r k x).works = s.works := rfl
@[simp] theorem State.setTone_wins (r k : Nat) (x : Tone) : (s.setTone r k x).wins = s.wins := rfl
@[simp] theorem State.setTone_streams (r k : Nat) (x : Tone) : (s.setTone r k x).streams = s.streams := rfl
@[simp] theorem State.setTone_engines (r k : Nat) (x : Tone) : (s.setTone r k x).engines = s.engines := rfl
@[simp] theorem State.setTone_micro (r k : Nat) (x : Tone) : (s.setTone r k x).micro = s.micro := rfl
@[simp] theorem State.setTone_nano (r k : Nat) (x : Tone) : (s.setTone r k x).nano = s.nano := rfl
@[simp] theorem State.setTone_nanoRes (r k : Nat) (x : Tone) : (s.setTone r k x).nanoRes = s.nanoRes := rfl
@[simp] theorem State.setTone_cache (r k : Nat) (x : Tone) : (s.setTone r k x).cache = s.cache := rfl
@[simp] theorem State.setTone_commanded (r k : Nat) (x : Tone) : (s.setTone r k x).commanded = s.commanded := rfl
@[simp] theorem State.setTone_ports (r k : Nat) (x : Tone) : (s.setTone r k x).ports = s.ports := rfl
@[simp] theorem State.setTone_slots (r k : Nat) (x : Tone) : (s.setTone r k x).slots = s.slots := rfl
@[simp] theorem State.setTone_slotWrites (r k : Nat) (x : Tone) : (s.setTone r k x).slotWrites = s.slotWrites := rfl
@[simp] theorem State.setTone_frames (r k : Nat) (x : Tone) : (s.setTone r k x).frames = s.frames := rfl
@[simp] theorem State.setTone_mrk (r k : Nat) (x : Tone) : (s.setTone r k x).mrk = s.mrk := rfl
@[simp] theorem State.setTone_mrkMute (r k : Nat) (x : Tone) : (s.setTone r k x).mrkMute = s.mrkMute := rfl
@[simp] theorem State.setTone_lines (r k : Nat) (x : Tone) : (s.setTone r k x).lines = s.lines := rfl
@[simp] theorem State.setTone_interp (r k : Nat) (x : Tone) : (s.setTone r k x).interp = s.interp := rfl
@[simp] theorem State.setTone_interpPend (r k : Nat) (x : Tone) : (s.setTone r k x).interpPend = s.interpPend := rfl
@[simp] theorem State.setTone_flat (r k : Nat) (x : Tone) : (s.setTone r k x).flat = s.flat := rfl
@[simp] theorem State.setTone_synth (r k : Nat) (x : Tone) : (s.setTone r k x).synth = s.synth := rfl
@[simp] theorem State.setTone_ffx (r k : Nat) (x : Tone) : (s.setTone r k x).ffx = s.ffx := rfl
@[simp] theorem State.setTone_bia (r k : Nat) (x : Tone) : (s.setTone r k x).bia = s.bia := rfl
@[simp] theorem State.setTone_clrNext (r k : Nat) (x : Tone) : (s.setTone r k x).clrNext = s.clrNext := rfl
@[simp] theorem State.setTone_acqs (r k : Nat) (x : Tone) : (s.setTone r k x).acqs = s.acqs := rfl
@[simp] theorem State.setTone_feeds (r k : Nat) (x : Tone) : (s.setTone r k x).feeds = s.feeds := rfl
@[simp] theorem State.setTone_rwins (r k : Nat) (x : Tone) : (s.setTone r k x).rwins = s.rwins := rfl
@[simp] theorem State.setTone_traces (r k : Nat) (x : Tone) : (s.setTone r k x).traces = s.traces := rfl
@[simp] theorem State.setTone_results (r k : Nat) (x : Tone) : (s.setTone r k x).results = s.results := rfl
@[simp] theorem State.setTone_frameStamps (r k : Nat) (x : Tone) : (s.setTone r k x).frameStamps = s.frameStamps := rfl
@[simp] theorem State.setTone_rsets (r k : Nat) (x : Tone) : (s.setTone r k x).rsets = s.rsets := rfl
@[simp] theorem State.setTone_mem (r k : Nat) (x : Tone) : (s.setTone r k x).mem = s.mem := rfl
@[simp] theorem State.setTone_scrubPos (r k : Nat) (x : Tone) : (s.setTone r k x).scrubPos = s.scrubPos := rfl
@[simp] theorem State.setTone_scrubPass (r k : Nat) (x : Tone) : (s.setTone r k x).scrubPass = s.scrubPass := rfl
@[simp] theorem State.setTone_corrected (r k : Nat) (x : Tone) : (s.setTone r k x).corrected = s.corrected := rfl
@[simp] theorem State.setTone_passCe (r k : Nat) (x : Tone) : (s.setTone r k x).passCe = s.passCe := rfl
@[simp] theorem State.setTone_txQueue (r k : Nat) (x : Tone) : (s.setTone r k x).txQueue = s.txQueue := rfl
@[simp] theorem State.setTone_rxHeld (r k : Nat) (x : Tone) : (s.setTone r k x).rxHeld = s.rxHeld := rfl
@[simp] theorem State.setTone_routeSends (r k : Nat) (x : Tone) : (s.setTone r k x).routeSends = s.routeSends := rfl
@[simp] theorem State.setTone_losses (r k : Nat) (x : Tone) : (s.setTone r k x).losses = s.losses := rfl
@[simp] theorem State.setTone_lanes (r k : Nat) (x : Tone) : (s.setTone r k x).lanes = s.lanes := rfl
@[simp] theorem State.setTone_lossNotices (r k : Nat) (x : Tone) : (s.setTone r k x).lossNotices = s.lossNotices := rfl
@[simp] theorem State.setTone_dldSent (r k : Nat) (x : Tone) : (s.setTone r k x).dldSent = s.dldSent := rfl
@[simp] theorem State.setTone_edgeAcceptedAt (r k : Nat) (x : Tone) : (s.setTone r k x).edgeAcceptedAt = s.edgeAcceptedAt := rfl
@[simp] theorem State.setTone_epochOld (r k : Nat) (x : Tone) : (s.setTone r k x).epochOld = s.epochOld := rfl
@[simp] theorem State.setTone_tdcs (r k : Nat) (x : Tone) : (s.setTone r k x).tdcs = s.tdcs := rfl
@[simp] theorem State.setTone_snss (r k : Nat) (x : Tone) : (s.setTone r k x).snss = s.snss := rfl
@[simp] theorem State.setTone_heaters (r k : Nat) (x : Tone) : (s.setTone r k x).heaters = s.heaters := rfl
@[simp] theorem State.setTone_mon (r k : Nat) (x : Tone) : (s.setTone r k x).mon = s.mon := rfl
@[simp] theorem State.setTone_curveShadow (r k : Nat) (x : Tone) : (s.setTone r k x).curveShadow = s.curveShadow := rfl
@[simp] theorem State.setTone_curves (r k : Nat) (x : Tone) : (s.setTone r k x).curves = s.curves := rfl
@[simp] theorem State.setTone_mbx (r k : Nat) (x : Tone) : (s.setTone r k x).mbx = s.mbx := rfl
@[simp] theorem State.setTone_server (r k : Nat) (x : Tone) : (s.setTone r k x).server = s.server := rfl
@[simp] theorem State.setTone_training (r k : Nat) (x : Tone) : (s.setTone r k x).training = s.training := rfl
@[simp] theorem State.setTone_fwBank (r k : Nat) (x : Tone) : (s.setTone r k x).fwBank = s.fwBank := rfl
@[simp] theorem State.setTone_fwBody (r k : Nat) (x : Tone) : (s.setTone r k x).fwBody = s.fwBody := rfl
@[simp] theorem State.setTone_calBank (r k : Nat) (x : Tone) : (s.setTone r k x).calBank = s.calBank := rfl
@[simp] theorem State.setTone_calBody (r k : Nat) (x : Tone) : (s.setTone r k x).calBody = s.calBody := rfl
@[simp] theorem State.setTone_curveBank (r k : Nat) (x : Tone) : (s.setTone r k x).curveBank = s.curveBank := rfl
@[simp] theorem State.setTone_curveBody (r k : Nat) (x : Tone) : (s.setTone r k x).curveBody = s.curveBody := rfl
@[simp] theorem State.setTone_tripLog (r k : Nat) (x : Tone) : (s.setTone r k x).tripLog = s.tripLog := rfl
@[simp] theorem State.setTone_tripOwed (r k : Nat) (x : Tone) : (s.setTone r k x).tripOwed = s.tripOwed := rfl
@[simp] theorem State.setTone_routine (r k : Nat) (x : Tone) : (s.setTone r k x).routine = s.routine := rfl
@[simp] theorem State.setTone_dip (r k : Nat) (x : Tone) : (s.setTone r k x).dip = s.dip := rfl
@[simp] theorem State.setTone_trippedAt (r k : Nat) (x : Tone) : (s.setTone r k x).trippedAt = s.trippedAt := rfl
@[simp] theorem State.setTone_window (r k : Nat) (x : Tone) : (s.setTone r k x).window = s.window := rfl
@[simp] theorem State.setTone_thm (r k : Nat) (x : Tone) : (s.setTone r k x).thm = s.thm := rfl
@[simp] theorem State.setTone_peffWas (r k : Nat) (x : Tone) : (s.setTone r k x).peffWas = s.peffWas := rfl
@[simp] theorem State.setTone_calVref (r k : Nat) (x : Tone) : (s.setTone r k x).calVref = s.calVref := rfl
@[simp] theorem State.setTone_flatPend (r k : Nat) (x : Tone) : (s.setTone r k x).flatPend = s.flatPend := rfl
@[simp] theorem State.rd_setTone (r k : Nat) (x : Tone) (i : Nat) : (s.setTone r k x).rd i = s.rd i := rfl
@[simp] theorem State.get_setTone (r k : Nat) (x : Tone) (g : Fld) : (s.setTone r k x).get g = s.get g := rfl
@[simp] theorem State.get64_setTone (r k : Nat) (x : Tone) (i : Nat) : (s.setTone r k x).get64 i = s.get64 i := rfl
@[simp] theorem State.tone_setTone (r k : Nat) (x : Tone) : (s.setTone r k x).tone r k = x := Table.get_set_same ..

/-! ### setFeed -/

@[simp] theorem State.setFeed_pending (r f : Nat) (x : Feed) : (s.setFeed r f x).pending = s.pending := rfl
@[simp] theorem State.setFeed_part (r f : Nat) (x : Feed) : (s.setFeed r f x).part = s.part := rfl
@[simp] theorem State.setFeed_ref10M (r f : Nat) (x : Feed) : (s.setFeed r f x).ref10M = s.ref10M := rfl
@[simp] theorem State.setFeed_serial (r f : Nat) (x : Feed) : (s.setFeed r f x).serial = s.serial := rfl
@[simp] theorem State.setFeed_now (r f : Nat) (x : Feed) : (s.setFeed r f x).now = s.now := rfl
@[simp] theorem State.setFeed_epoch (r f : Nat) (x : Feed) : (s.setFeed r f x).epoch = s.epoch := rfl
@[simp] theorem State.setFeed_epochOn (r f : Nat) (x : Feed) : (s.setFeed r f x).epochOn = s.epochOn := rfl
@[simp] theorem State.setFeed_freeCtr (r f : Nat) (x : Feed) : (s.setFeed r f x).freeCtr = s.freeCtr := rfl
@[simp] theorem State.setFeed_regs (r f : Nat) (x : Feed) : (s.setFeed r f x).regs = s.regs := rfl
@[simp] theorem State.setFeed_lastRead (r f : Nat) (x : Feed) : (s.setFeed r f x).lastRead = s.lastRead := rfl
@[simp] theorem State.setFeed_readShadow (r f : Nat) (x : Feed) : (s.setFeed r f x).readShadow = s.readShadow := rfl
@[simp] theorem State.setFeed_writeShadow (r f : Nat) (x : Feed) : (s.setFeed r f x).writeShadow = s.writeShadow := rfl
@[simp] theorem State.setFeed_rsetSel (r f : Nat) (x : Feed) : (s.setFeed r f x).rsetSel = s.rsetSel := rfl
@[simp] theorem State.setFeed_mode (r f : Nat) (x : Feed) : (s.setFeed r f x).mode = s.mode := rfl
@[simp] theorem State.setFeed_transition (r f : Nat) (x : Feed) : (s.setFeed r f x).transition = s.transition := rfl
@[simp] theorem State.setFeed_powerGoodAt (r f : Nat) (x : Feed) : (s.setFeed r f x).powerGoodAt = s.powerGoodAt := rfl
@[simp] theorem State.setFeed_calRaw (r f : Nat) (x : Feed) : (s.setFeed r f x).calRaw = s.calRaw := rfl
@[simp] theorem State.setFeed_calAcc (r f : Nat) (x : Feed) : (s.setFeed r f x).calAcc = s.calAcc := rfl
@[simp] theorem State.setFeed_disciplineAt (r f : Nat) (x : Feed) : (s.setFeed r f x).disciplineAt = s.disciplineAt := rfl
@[simp] theorem State.setFeed_angle (r f : Nat) (x : Feed) : (s.setFeed r f x).angle = s.angle := rfl
@[simp] theorem State.setFeed_alarmAt (r f : Nat) (x : Feed) : (s.setFeed r f x).alarmAt = s.alarmAt := rfl
@[simp] theorem State.setFeed_alarmLate (r f : Nat) (x : Feed) : (s.setFeed r f x).alarmLate = s.alarmLate := rfl
@[simp] theorem State.setFeed_alarmFired (r f : Nat) (x : Feed) : (s.setFeed r f x).alarmFired = s.alarmFired := rfl
@[simp] theorem State.setFeed_snapArmed (r f : Nat) (x : Feed) : (s.setFeed r f x).snapArmed = s.snapArmed := rfl
@[simp] theorem State.setFeed_relocking (r f : Nat) (x : Feed) : (s.setFeed r f x).relocking = s.relocking := rfl
@[simp] theorem State.setFeed_lossAt (r f : Nat) (x : Feed) : (s.setFeed r f x).lossAt = s.lossAt := rfl
@[simp] theorem State.setFeed_sqs (r f : Nat) (x : Feed) : (s.setFeed r f x).sqs = s.sqs := rfl
@[simp] theorem State.setFeed_cqs (r f : Nat) (x : Feed) : (s.setFeed r f x).cqs = s.cqs := rfl
@[simp] theorem State.setFeed_nextUid (r f : Nat) (x : Feed) : (s.setFeed r f x).nextUid = s.nextUid := rfl
@[simp] theorem State.setFeed_busMaster (r f : Nat) (x : Feed) : (s.setFeed r f x).busMaster = s.busMaster := rfl
@[simp] theorem State.setFeed_perst (r f : Nat) (x : Feed) : (s.setFeed r f x).perst = s.perst := rfl
@[simp] theorem State.setFeed_posted (r f : Nat) (x : Feed) : (s.setFeed r f x).posted = s.posted := rfl
@[simp] theorem State.setFeed_holding (r f : Nat) (x : Feed) : (s.setFeed r f x).holding = s.holding := rfl
@[simp] theorem State.setFeed_holdHits (r f : Nat) (x : Feed) : (s.setFeed r f x).holdHits = s.holdHits := rfl
@[simp] theorem State.setFeed_dmaStopped (r f : Nat) (x : Feed) : (s.setFeed r f x).dmaStopped = s.dmaStopped := rfl
@[simp] theorem State.setFeed_gang (r f : Nat) (x : Feed) : (s.setFeed r f x).gang = s.gang := rfl
@[simp] theorem State.setFeed_shots (r f : Nat) (x : Feed) : (s.setFeed r f x).shots = s.shots := rfl
@[simp] theorem State.setFeed_works (r f : Nat) (x : Feed) : (s.setFeed r f x).works = s.works := rfl
@[simp] theorem State.setFeed_wins (r f : Nat) (x : Feed) : (s.setFeed r f x).wins = s.wins := rfl
@[simp] theorem State.setFeed_streams (r f : Nat) (x : Feed) : (s.setFeed r f x).streams = s.streams := rfl
@[simp] theorem State.setFeed_engines (r f : Nat) (x : Feed) : (s.setFeed r f x).engines = s.engines := rfl
@[simp] theorem State.setFeed_micro (r f : Nat) (x : Feed) : (s.setFeed r f x).micro = s.micro := rfl
@[simp] theorem State.setFeed_nano (r f : Nat) (x : Feed) : (s.setFeed r f x).nano = s.nano := rfl
@[simp] theorem State.setFeed_nanoRes (r f : Nat) (x : Feed) : (s.setFeed r f x).nanoRes = s.nanoRes := rfl
@[simp] theorem State.setFeed_cache (r f : Nat) (x : Feed) : (s.setFeed r f x).cache = s.cache := rfl
@[simp] theorem State.setFeed_commanded (r f : Nat) (x : Feed) : (s.setFeed r f x).commanded = s.commanded := rfl
@[simp] theorem State.setFeed_ports (r f : Nat) (x : Feed) : (s.setFeed r f x).ports = s.ports := rfl
@[simp] theorem State.setFeed_slots (r f : Nat) (x : Feed) : (s.setFeed r f x).slots = s.slots := rfl
@[simp] theorem State.setFeed_slotWrites (r f : Nat) (x : Feed) : (s.setFeed r f x).slotWrites = s.slotWrites := rfl
@[simp] theorem State.setFeed_frames (r f : Nat) (x : Feed) : (s.setFeed r f x).frames = s.frames := rfl
@[simp] theorem State.setFeed_mrk (r f : Nat) (x : Feed) : (s.setFeed r f x).mrk = s.mrk := rfl
@[simp] theorem State.setFeed_mrkMute (r f : Nat) (x : Feed) : (s.setFeed r f x).mrkMute = s.mrkMute := rfl
@[simp] theorem State.setFeed_lines (r f : Nat) (x : Feed) : (s.setFeed r f x).lines = s.lines := rfl
@[simp] theorem State.setFeed_interp (r f : Nat) (x : Feed) : (s.setFeed r f x).interp = s.interp := rfl
@[simp] theorem State.setFeed_interpPend (r f : Nat) (x : Feed) : (s.setFeed r f x).interpPend = s.interpPend := rfl
@[simp] theorem State.setFeed_flat (r f : Nat) (x : Feed) : (s.setFeed r f x).flat = s.flat := rfl
@[simp] theorem State.setFeed_synth (r f : Nat) (x : Feed) : (s.setFeed r f x).synth = s.synth := rfl
@[simp] theorem State.setFeed_ffx (r f : Nat) (x : Feed) : (s.setFeed r f x).ffx = s.ffx := rfl
@[simp] theorem State.setFeed_bia (r f : Nat) (x : Feed) : (s.setFeed r f x).bia = s.bia := rfl
@[simp] theorem State.setFeed_clrNext (r f : Nat) (x : Feed) : (s.setFeed r f x).clrNext = s.clrNext := rfl
@[simp] theorem State.setFeed_acqs (r f : Nat) (x : Feed) : (s.setFeed r f x).acqs = s.acqs := rfl
@[simp] theorem State.setFeed_tones (r f : Nat) (x : Feed) : (s.setFeed r f x).tones = s.tones := rfl
@[simp] theorem State.setFeed_rwins (r f : Nat) (x : Feed) : (s.setFeed r f x).rwins = s.rwins := rfl
@[simp] theorem State.setFeed_traces (r f : Nat) (x : Feed) : (s.setFeed r f x).traces = s.traces := rfl
@[simp] theorem State.setFeed_results (r f : Nat) (x : Feed) : (s.setFeed r f x).results = s.results := rfl
@[simp] theorem State.setFeed_frameStamps (r f : Nat) (x : Feed) : (s.setFeed r f x).frameStamps = s.frameStamps := rfl
@[simp] theorem State.setFeed_rsets (r f : Nat) (x : Feed) : (s.setFeed r f x).rsets = s.rsets := rfl
@[simp] theorem State.setFeed_mem (r f : Nat) (x : Feed) : (s.setFeed r f x).mem = s.mem := rfl
@[simp] theorem State.setFeed_scrubPos (r f : Nat) (x : Feed) : (s.setFeed r f x).scrubPos = s.scrubPos := rfl
@[simp] theorem State.setFeed_scrubPass (r f : Nat) (x : Feed) : (s.setFeed r f x).scrubPass = s.scrubPass := rfl
@[simp] theorem State.setFeed_corrected (r f : Nat) (x : Feed) : (s.setFeed r f x).corrected = s.corrected := rfl
@[simp] theorem State.setFeed_passCe (r f : Nat) (x : Feed) : (s.setFeed r f x).passCe = s.passCe := rfl
@[simp] theorem State.setFeed_txQueue (r f : Nat) (x : Feed) : (s.setFeed r f x).txQueue = s.txQueue := rfl
@[simp] theorem State.setFeed_rxHeld (r f : Nat) (x : Feed) : (s.setFeed r f x).rxHeld = s.rxHeld := rfl
@[simp] theorem State.setFeed_routeSends (r f : Nat) (x : Feed) : (s.setFeed r f x).routeSends = s.routeSends := rfl
@[simp] theorem State.setFeed_losses (r f : Nat) (x : Feed) : (s.setFeed r f x).losses = s.losses := rfl
@[simp] theorem State.setFeed_lanes (r f : Nat) (x : Feed) : (s.setFeed r f x).lanes = s.lanes := rfl
@[simp] theorem State.setFeed_lossNotices (r f : Nat) (x : Feed) : (s.setFeed r f x).lossNotices = s.lossNotices := rfl
@[simp] theorem State.setFeed_dldSent (r f : Nat) (x : Feed) : (s.setFeed r f x).dldSent = s.dldSent := rfl
@[simp] theorem State.setFeed_edgeAcceptedAt (r f : Nat) (x : Feed) : (s.setFeed r f x).edgeAcceptedAt = s.edgeAcceptedAt := rfl
@[simp] theorem State.setFeed_epochOld (r f : Nat) (x : Feed) : (s.setFeed r f x).epochOld = s.epochOld := rfl
@[simp] theorem State.setFeed_tdcs (r f : Nat) (x : Feed) : (s.setFeed r f x).tdcs = s.tdcs := rfl
@[simp] theorem State.setFeed_snss (r f : Nat) (x : Feed) : (s.setFeed r f x).snss = s.snss := rfl
@[simp] theorem State.setFeed_heaters (r f : Nat) (x : Feed) : (s.setFeed r f x).heaters = s.heaters := rfl
@[simp] theorem State.setFeed_mon (r f : Nat) (x : Feed) : (s.setFeed r f x).mon = s.mon := rfl
@[simp] theorem State.setFeed_curveShadow (r f : Nat) (x : Feed) : (s.setFeed r f x).curveShadow = s.curveShadow := rfl
@[simp] theorem State.setFeed_curves (r f : Nat) (x : Feed) : (s.setFeed r f x).curves = s.curves := rfl
@[simp] theorem State.setFeed_mbx (r f : Nat) (x : Feed) : (s.setFeed r f x).mbx = s.mbx := rfl
@[simp] theorem State.setFeed_server (r f : Nat) (x : Feed) : (s.setFeed r f x).server = s.server := rfl
@[simp] theorem State.setFeed_training (r f : Nat) (x : Feed) : (s.setFeed r f x).training = s.training := rfl
@[simp] theorem State.setFeed_fwBank (r f : Nat) (x : Feed) : (s.setFeed r f x).fwBank = s.fwBank := rfl
@[simp] theorem State.setFeed_fwBody (r f : Nat) (x : Feed) : (s.setFeed r f x).fwBody = s.fwBody := rfl
@[simp] theorem State.setFeed_calBank (r f : Nat) (x : Feed) : (s.setFeed r f x).calBank = s.calBank := rfl
@[simp] theorem State.setFeed_calBody (r f : Nat) (x : Feed) : (s.setFeed r f x).calBody = s.calBody := rfl
@[simp] theorem State.setFeed_curveBank (r f : Nat) (x : Feed) : (s.setFeed r f x).curveBank = s.curveBank := rfl
@[simp] theorem State.setFeed_curveBody (r f : Nat) (x : Feed) : (s.setFeed r f x).curveBody = s.curveBody := rfl
@[simp] theorem State.setFeed_tripLog (r f : Nat) (x : Feed) : (s.setFeed r f x).tripLog = s.tripLog := rfl
@[simp] theorem State.setFeed_tripOwed (r f : Nat) (x : Feed) : (s.setFeed r f x).tripOwed = s.tripOwed := rfl
@[simp] theorem State.setFeed_routine (r f : Nat) (x : Feed) : (s.setFeed r f x).routine = s.routine := rfl
@[simp] theorem State.setFeed_dip (r f : Nat) (x : Feed) : (s.setFeed r f x).dip = s.dip := rfl
@[simp] theorem State.setFeed_trippedAt (r f : Nat) (x : Feed) : (s.setFeed r f x).trippedAt = s.trippedAt := rfl
@[simp] theorem State.setFeed_window (r f : Nat) (x : Feed) : (s.setFeed r f x).window = s.window := rfl
@[simp] theorem State.setFeed_thm (r f : Nat) (x : Feed) : (s.setFeed r f x).thm = s.thm := rfl
@[simp] theorem State.setFeed_peffWas (r f : Nat) (x : Feed) : (s.setFeed r f x).peffWas = s.peffWas := rfl
@[simp] theorem State.setFeed_calVref (r f : Nat) (x : Feed) : (s.setFeed r f x).calVref = s.calVref := rfl
@[simp] theorem State.setFeed_flatPend (r f : Nat) (x : Feed) : (s.setFeed r f x).flatPend = s.flatPend := rfl
@[simp] theorem State.rd_setFeed (r f : Nat) (x : Feed) (i : Nat) : (s.setFeed r f x).rd i = s.rd i := rfl
@[simp] theorem State.get_setFeed (r f : Nat) (x : Feed) (g : Fld) : (s.setFeed r f x).get g = s.get g := rfl
@[simp] theorem State.get64_setFeed (r f : Nat) (x : Feed) (i : Nat) : (s.setFeed r f x).get64 i = s.get64 i := rfl
@[simp] theorem State.feed_setFeed (r f : Nat) (x : Feed) : (s.setFeed r f x).feed r f = x := Table.get_set_same ..

/-! ### setLane -/

@[simp] theorem State.setLane_pending (l : Nat) (x : DLane) : (s.setLane l x).pending = s.pending := rfl
@[simp] theorem State.setLane_part (l : Nat) (x : DLane) : (s.setLane l x).part = s.part := rfl
@[simp] theorem State.setLane_ref10M (l : Nat) (x : DLane) : (s.setLane l x).ref10M = s.ref10M := rfl
@[simp] theorem State.setLane_serial (l : Nat) (x : DLane) : (s.setLane l x).serial = s.serial := rfl
@[simp] theorem State.setLane_now (l : Nat) (x : DLane) : (s.setLane l x).now = s.now := rfl
@[simp] theorem State.setLane_epoch (l : Nat) (x : DLane) : (s.setLane l x).epoch = s.epoch := rfl
@[simp] theorem State.setLane_epochOn (l : Nat) (x : DLane) : (s.setLane l x).epochOn = s.epochOn := rfl
@[simp] theorem State.setLane_freeCtr (l : Nat) (x : DLane) : (s.setLane l x).freeCtr = s.freeCtr := rfl
@[simp] theorem State.setLane_regs (l : Nat) (x : DLane) : (s.setLane l x).regs = s.regs := rfl
@[simp] theorem State.setLane_lastRead (l : Nat) (x : DLane) : (s.setLane l x).lastRead = s.lastRead := rfl
@[simp] theorem State.setLane_readShadow (l : Nat) (x : DLane) : (s.setLane l x).readShadow = s.readShadow := rfl
@[simp] theorem State.setLane_writeShadow (l : Nat) (x : DLane) : (s.setLane l x).writeShadow = s.writeShadow := rfl
@[simp] theorem State.setLane_rsetSel (l : Nat) (x : DLane) : (s.setLane l x).rsetSel = s.rsetSel := rfl
@[simp] theorem State.setLane_mode (l : Nat) (x : DLane) : (s.setLane l x).mode = s.mode := rfl
@[simp] theorem State.setLane_transition (l : Nat) (x : DLane) : (s.setLane l x).transition = s.transition := rfl
@[simp] theorem State.setLane_powerGoodAt (l : Nat) (x : DLane) : (s.setLane l x).powerGoodAt = s.powerGoodAt := rfl
@[simp] theorem State.setLane_calRaw (l : Nat) (x : DLane) : (s.setLane l x).calRaw = s.calRaw := rfl
@[simp] theorem State.setLane_calAcc (l : Nat) (x : DLane) : (s.setLane l x).calAcc = s.calAcc := rfl
@[simp] theorem State.setLane_disciplineAt (l : Nat) (x : DLane) : (s.setLane l x).disciplineAt = s.disciplineAt := rfl
@[simp] theorem State.setLane_angle (l : Nat) (x : DLane) : (s.setLane l x).angle = s.angle := rfl
@[simp] theorem State.setLane_alarmAt (l : Nat) (x : DLane) : (s.setLane l x).alarmAt = s.alarmAt := rfl
@[simp] theorem State.setLane_alarmLate (l : Nat) (x : DLane) : (s.setLane l x).alarmLate = s.alarmLate := rfl
@[simp] theorem State.setLane_alarmFired (l : Nat) (x : DLane) : (s.setLane l x).alarmFired = s.alarmFired := rfl
@[simp] theorem State.setLane_snapArmed (l : Nat) (x : DLane) : (s.setLane l x).snapArmed = s.snapArmed := rfl
@[simp] theorem State.setLane_relocking (l : Nat) (x : DLane) : (s.setLane l x).relocking = s.relocking := rfl
@[simp] theorem State.setLane_lossAt (l : Nat) (x : DLane) : (s.setLane l x).lossAt = s.lossAt := rfl
@[simp] theorem State.setLane_sqs (l : Nat) (x : DLane) : (s.setLane l x).sqs = s.sqs := rfl
@[simp] theorem State.setLane_cqs (l : Nat) (x : DLane) : (s.setLane l x).cqs = s.cqs := rfl
@[simp] theorem State.setLane_nextUid (l : Nat) (x : DLane) : (s.setLane l x).nextUid = s.nextUid := rfl
@[simp] theorem State.setLane_busMaster (l : Nat) (x : DLane) : (s.setLane l x).busMaster = s.busMaster := rfl
@[simp] theorem State.setLane_perst (l : Nat) (x : DLane) : (s.setLane l x).perst = s.perst := rfl
@[simp] theorem State.setLane_posted (l : Nat) (x : DLane) : (s.setLane l x).posted = s.posted := rfl
@[simp] theorem State.setLane_holding (l : Nat) (x : DLane) : (s.setLane l x).holding = s.holding := rfl
@[simp] theorem State.setLane_holdHits (l : Nat) (x : DLane) : (s.setLane l x).holdHits = s.holdHits := rfl
@[simp] theorem State.setLane_dmaStopped (l : Nat) (x : DLane) : (s.setLane l x).dmaStopped = s.dmaStopped := rfl
@[simp] theorem State.setLane_gang (l : Nat) (x : DLane) : (s.setLane l x).gang = s.gang := rfl
@[simp] theorem State.setLane_shots (l : Nat) (x : DLane) : (s.setLane l x).shots = s.shots := rfl
@[simp] theorem State.setLane_works (l : Nat) (x : DLane) : (s.setLane l x).works = s.works := rfl
@[simp] theorem State.setLane_wins (l : Nat) (x : DLane) : (s.setLane l x).wins = s.wins := rfl
@[simp] theorem State.setLane_streams (l : Nat) (x : DLane) : (s.setLane l x).streams = s.streams := rfl
@[simp] theorem State.setLane_engines (l : Nat) (x : DLane) : (s.setLane l x).engines = s.engines := rfl
@[simp] theorem State.setLane_micro (l : Nat) (x : DLane) : (s.setLane l x).micro = s.micro := rfl
@[simp] theorem State.setLane_nano (l : Nat) (x : DLane) : (s.setLane l x).nano = s.nano := rfl
@[simp] theorem State.setLane_nanoRes (l : Nat) (x : DLane) : (s.setLane l x).nanoRes = s.nanoRes := rfl
@[simp] theorem State.setLane_cache (l : Nat) (x : DLane) : (s.setLane l x).cache = s.cache := rfl
@[simp] theorem State.setLane_commanded (l : Nat) (x : DLane) : (s.setLane l x).commanded = s.commanded := rfl
@[simp] theorem State.setLane_ports (l : Nat) (x : DLane) : (s.setLane l x).ports = s.ports := rfl
@[simp] theorem State.setLane_slots (l : Nat) (x : DLane) : (s.setLane l x).slots = s.slots := rfl
@[simp] theorem State.setLane_slotWrites (l : Nat) (x : DLane) : (s.setLane l x).slotWrites = s.slotWrites := rfl
@[simp] theorem State.setLane_frames (l : Nat) (x : DLane) : (s.setLane l x).frames = s.frames := rfl
@[simp] theorem State.setLane_mrk (l : Nat) (x : DLane) : (s.setLane l x).mrk = s.mrk := rfl
@[simp] theorem State.setLane_mrkMute (l : Nat) (x : DLane) : (s.setLane l x).mrkMute = s.mrkMute := rfl
@[simp] theorem State.setLane_lines (l : Nat) (x : DLane) : (s.setLane l x).lines = s.lines := rfl
@[simp] theorem State.setLane_interp (l : Nat) (x : DLane) : (s.setLane l x).interp = s.interp := rfl
@[simp] theorem State.setLane_interpPend (l : Nat) (x : DLane) : (s.setLane l x).interpPend = s.interpPend := rfl
@[simp] theorem State.setLane_flat (l : Nat) (x : DLane) : (s.setLane l x).flat = s.flat := rfl
@[simp] theorem State.setLane_synth (l : Nat) (x : DLane) : (s.setLane l x).synth = s.synth := rfl
@[simp] theorem State.setLane_ffx (l : Nat) (x : DLane) : (s.setLane l x).ffx = s.ffx := rfl
@[simp] theorem State.setLane_bia (l : Nat) (x : DLane) : (s.setLane l x).bia = s.bia := rfl
@[simp] theorem State.setLane_clrNext (l : Nat) (x : DLane) : (s.setLane l x).clrNext = s.clrNext := rfl
@[simp] theorem State.setLane_acqs (l : Nat) (x : DLane) : (s.setLane l x).acqs = s.acqs := rfl
@[simp] theorem State.setLane_tones (l : Nat) (x : DLane) : (s.setLane l x).tones = s.tones := rfl
@[simp] theorem State.setLane_feeds (l : Nat) (x : DLane) : (s.setLane l x).feeds = s.feeds := rfl
@[simp] theorem State.setLane_rwins (l : Nat) (x : DLane) : (s.setLane l x).rwins = s.rwins := rfl
@[simp] theorem State.setLane_traces (l : Nat) (x : DLane) : (s.setLane l x).traces = s.traces := rfl
@[simp] theorem State.setLane_results (l : Nat) (x : DLane) : (s.setLane l x).results = s.results := rfl
@[simp] theorem State.setLane_frameStamps (l : Nat) (x : DLane) : (s.setLane l x).frameStamps = s.frameStamps := rfl
@[simp] theorem State.setLane_rsets (l : Nat) (x : DLane) : (s.setLane l x).rsets = s.rsets := rfl
@[simp] theorem State.setLane_mem (l : Nat) (x : DLane) : (s.setLane l x).mem = s.mem := rfl
@[simp] theorem State.setLane_scrubPos (l : Nat) (x : DLane) : (s.setLane l x).scrubPos = s.scrubPos := rfl
@[simp] theorem State.setLane_scrubPass (l : Nat) (x : DLane) : (s.setLane l x).scrubPass = s.scrubPass := rfl
@[simp] theorem State.setLane_corrected (l : Nat) (x : DLane) : (s.setLane l x).corrected = s.corrected := rfl
@[simp] theorem State.setLane_passCe (l : Nat) (x : DLane) : (s.setLane l x).passCe = s.passCe := rfl
@[simp] theorem State.setLane_txQueue (l : Nat) (x : DLane) : (s.setLane l x).txQueue = s.txQueue := rfl
@[simp] theorem State.setLane_rxHeld (l : Nat) (x : DLane) : (s.setLane l x).rxHeld = s.rxHeld := rfl
@[simp] theorem State.setLane_routeSends (l : Nat) (x : DLane) : (s.setLane l x).routeSends = s.routeSends := rfl
@[simp] theorem State.setLane_losses (l : Nat) (x : DLane) : (s.setLane l x).losses = s.losses := rfl
@[simp] theorem State.setLane_lossNotices (l : Nat) (x : DLane) : (s.setLane l x).lossNotices = s.lossNotices := rfl
@[simp] theorem State.setLane_dldSent (l : Nat) (x : DLane) : (s.setLane l x).dldSent = s.dldSent := rfl
@[simp] theorem State.setLane_edgeAcceptedAt (l : Nat) (x : DLane) : (s.setLane l x).edgeAcceptedAt = s.edgeAcceptedAt := rfl
@[simp] theorem State.setLane_epochOld (l : Nat) (x : DLane) : (s.setLane l x).epochOld = s.epochOld := rfl
@[simp] theorem State.setLane_tdcs (l : Nat) (x : DLane) : (s.setLane l x).tdcs = s.tdcs := rfl
@[simp] theorem State.setLane_snss (l : Nat) (x : DLane) : (s.setLane l x).snss = s.snss := rfl
@[simp] theorem State.setLane_heaters (l : Nat) (x : DLane) : (s.setLane l x).heaters = s.heaters := rfl
@[simp] theorem State.setLane_mon (l : Nat) (x : DLane) : (s.setLane l x).mon = s.mon := rfl
@[simp] theorem State.setLane_curveShadow (l : Nat) (x : DLane) : (s.setLane l x).curveShadow = s.curveShadow := rfl
@[simp] theorem State.setLane_curves (l : Nat) (x : DLane) : (s.setLane l x).curves = s.curves := rfl
@[simp] theorem State.setLane_mbx (l : Nat) (x : DLane) : (s.setLane l x).mbx = s.mbx := rfl
@[simp] theorem State.setLane_server (l : Nat) (x : DLane) : (s.setLane l x).server = s.server := rfl
@[simp] theorem State.setLane_training (l : Nat) (x : DLane) : (s.setLane l x).training = s.training := rfl
@[simp] theorem State.setLane_fwBank (l : Nat) (x : DLane) : (s.setLane l x).fwBank = s.fwBank := rfl
@[simp] theorem State.setLane_fwBody (l : Nat) (x : DLane) : (s.setLane l x).fwBody = s.fwBody := rfl
@[simp] theorem State.setLane_calBank (l : Nat) (x : DLane) : (s.setLane l x).calBank = s.calBank := rfl
@[simp] theorem State.setLane_calBody (l : Nat) (x : DLane) : (s.setLane l x).calBody = s.calBody := rfl
@[simp] theorem State.setLane_curveBank (l : Nat) (x : DLane) : (s.setLane l x).curveBank = s.curveBank := rfl
@[simp] theorem State.setLane_curveBody (l : Nat) (x : DLane) : (s.setLane l x).curveBody = s.curveBody := rfl
@[simp] theorem State.setLane_tripLog (l : Nat) (x : DLane) : (s.setLane l x).tripLog = s.tripLog := rfl
@[simp] theorem State.setLane_tripOwed (l : Nat) (x : DLane) : (s.setLane l x).tripOwed = s.tripOwed := rfl
@[simp] theorem State.setLane_routine (l : Nat) (x : DLane) : (s.setLane l x).routine = s.routine := rfl
@[simp] theorem State.setLane_dip (l : Nat) (x : DLane) : (s.setLane l x).dip = s.dip := rfl
@[simp] theorem State.setLane_trippedAt (l : Nat) (x : DLane) : (s.setLane l x).trippedAt = s.trippedAt := rfl
@[simp] theorem State.setLane_window (l : Nat) (x : DLane) : (s.setLane l x).window = s.window := rfl
@[simp] theorem State.setLane_thm (l : Nat) (x : DLane) : (s.setLane l x).thm = s.thm := rfl
@[simp] theorem State.setLane_peffWas (l : Nat) (x : DLane) : (s.setLane l x).peffWas = s.peffWas := rfl
@[simp] theorem State.setLane_calVref (l : Nat) (x : DLane) : (s.setLane l x).calVref = s.calVref := rfl
@[simp] theorem State.setLane_flatPend (l : Nat) (x : DLane) : (s.setLane l x).flatPend = s.flatPend := rfl
@[simp] theorem State.rd_setLane (l : Nat) (x : DLane) (i : Nat) : (s.setLane l x).rd i = s.rd i := rfl
@[simp] theorem State.get_setLane (l : Nat) (x : DLane) (g : Fld) : (s.setLane l x).get g = s.get g := rfl
@[simp] theorem State.get64_setLane (l : Nat) (x : DLane) (i : Nat) : (s.setLane l x).get64 i = s.get64 i := rfl
@[simp] theorem State.lane_setLane (l : Nat) (x : DLane) : (s.setLane l x).lane l = x := Table.get_set_same ..

/-! ### updShot -/

@[simp] theorem State.updShot_pending (n : Nat) (f : Shot → Shot) : (s.updShot n f).pending = s.pending := rfl
@[simp] theorem State.updShot_part (n : Nat) (f : Shot → Shot) : (s.updShot n f).part = s.part := rfl
@[simp] theorem State.updShot_ref10M (n : Nat) (f : Shot → Shot) : (s.updShot n f).ref10M = s.ref10M := rfl
@[simp] theorem State.updShot_serial (n : Nat) (f : Shot → Shot) : (s.updShot n f).serial = s.serial := rfl
@[simp] theorem State.updShot_now (n : Nat) (f : Shot → Shot) : (s.updShot n f).now = s.now := rfl
@[simp] theorem State.updShot_epoch (n : Nat) (f : Shot → Shot) : (s.updShot n f).epoch = s.epoch := rfl
@[simp] theorem State.updShot_epochOn (n : Nat) (f : Shot → Shot) : (s.updShot n f).epochOn = s.epochOn := rfl
@[simp] theorem State.updShot_freeCtr (n : Nat) (f : Shot → Shot) : (s.updShot n f).freeCtr = s.freeCtr := rfl
@[simp] theorem State.updShot_regs (n : Nat) (f : Shot → Shot) : (s.updShot n f).regs = s.regs := rfl
@[simp] theorem State.updShot_lastRead (n : Nat) (f : Shot → Shot) : (s.updShot n f).lastRead = s.lastRead := rfl
@[simp] theorem State.updShot_readShadow (n : Nat) (f : Shot → Shot) : (s.updShot n f).readShadow = s.readShadow := rfl
@[simp] theorem State.updShot_writeShadow (n : Nat) (f : Shot → Shot) : (s.updShot n f).writeShadow = s.writeShadow := rfl
@[simp] theorem State.updShot_rsetSel (n : Nat) (f : Shot → Shot) : (s.updShot n f).rsetSel = s.rsetSel := rfl
@[simp] theorem State.updShot_mode (n : Nat) (f : Shot → Shot) : (s.updShot n f).mode = s.mode := rfl
@[simp] theorem State.updShot_transition (n : Nat) (f : Shot → Shot) : (s.updShot n f).transition = s.transition := rfl
@[simp] theorem State.updShot_powerGoodAt (n : Nat) (f : Shot → Shot) : (s.updShot n f).powerGoodAt = s.powerGoodAt := rfl
@[simp] theorem State.updShot_calRaw (n : Nat) (f : Shot → Shot) : (s.updShot n f).calRaw = s.calRaw := rfl
@[simp] theorem State.updShot_calAcc (n : Nat) (f : Shot → Shot) : (s.updShot n f).calAcc = s.calAcc := rfl
@[simp] theorem State.updShot_disciplineAt (n : Nat) (f : Shot → Shot) : (s.updShot n f).disciplineAt = s.disciplineAt := rfl
@[simp] theorem State.updShot_angle (n : Nat) (f : Shot → Shot) : (s.updShot n f).angle = s.angle := rfl
@[simp] theorem State.updShot_alarmAt (n : Nat) (f : Shot → Shot) : (s.updShot n f).alarmAt = s.alarmAt := rfl
@[simp] theorem State.updShot_alarmLate (n : Nat) (f : Shot → Shot) : (s.updShot n f).alarmLate = s.alarmLate := rfl
@[simp] theorem State.updShot_alarmFired (n : Nat) (f : Shot → Shot) : (s.updShot n f).alarmFired = s.alarmFired := rfl
@[simp] theorem State.updShot_snapArmed (n : Nat) (f : Shot → Shot) : (s.updShot n f).snapArmed = s.snapArmed := rfl
@[simp] theorem State.updShot_relocking (n : Nat) (f : Shot → Shot) : (s.updShot n f).relocking = s.relocking := rfl
@[simp] theorem State.updShot_lossAt (n : Nat) (f : Shot → Shot) : (s.updShot n f).lossAt = s.lossAt := rfl
@[simp] theorem State.updShot_sqs (n : Nat) (f : Shot → Shot) : (s.updShot n f).sqs = s.sqs := rfl
@[simp] theorem State.updShot_cqs (n : Nat) (f : Shot → Shot) : (s.updShot n f).cqs = s.cqs := rfl
@[simp] theorem State.updShot_nextUid (n : Nat) (f : Shot → Shot) : (s.updShot n f).nextUid = s.nextUid := rfl
@[simp] theorem State.updShot_busMaster (n : Nat) (f : Shot → Shot) : (s.updShot n f).busMaster = s.busMaster := rfl
@[simp] theorem State.updShot_perst (n : Nat) (f : Shot → Shot) : (s.updShot n f).perst = s.perst := rfl
@[simp] theorem State.updShot_posted (n : Nat) (f : Shot → Shot) : (s.updShot n f).posted = s.posted := rfl
@[simp] theorem State.updShot_holding (n : Nat) (f : Shot → Shot) : (s.updShot n f).holding = s.holding := rfl
@[simp] theorem State.updShot_holdHits (n : Nat) (f : Shot → Shot) : (s.updShot n f).holdHits = s.holdHits := rfl
@[simp] theorem State.updShot_dmaStopped (n : Nat) (f : Shot → Shot) : (s.updShot n f).dmaStopped = s.dmaStopped := rfl
@[simp] theorem State.updShot_gang (n : Nat) (f : Shot → Shot) : (s.updShot n f).gang = s.gang := rfl
@[simp] theorem State.updShot_works (n : Nat) (f : Shot → Shot) : (s.updShot n f).works = s.works := rfl
@[simp] theorem State.updShot_wins (n : Nat) (f : Shot → Shot) : (s.updShot n f).wins = s.wins := rfl
@[simp] theorem State.updShot_streams (n : Nat) (f : Shot → Shot) : (s.updShot n f).streams = s.streams := rfl
@[simp] theorem State.updShot_engines (n : Nat) (f : Shot → Shot) : (s.updShot n f).engines = s.engines := rfl
@[simp] theorem State.updShot_micro (n : Nat) (f : Shot → Shot) : (s.updShot n f).micro = s.micro := rfl
@[simp] theorem State.updShot_nano (n : Nat) (f : Shot → Shot) : (s.updShot n f).nano = s.nano := rfl
@[simp] theorem State.updShot_nanoRes (n : Nat) (f : Shot → Shot) : (s.updShot n f).nanoRes = s.nanoRes := rfl
@[simp] theorem State.updShot_cache (n : Nat) (f : Shot → Shot) : (s.updShot n f).cache = s.cache := rfl
@[simp] theorem State.updShot_commanded (n : Nat) (f : Shot → Shot) : (s.updShot n f).commanded = s.commanded := rfl
@[simp] theorem State.updShot_ports (n : Nat) (f : Shot → Shot) : (s.updShot n f).ports = s.ports := rfl
@[simp] theorem State.updShot_slots (n : Nat) (f : Shot → Shot) : (s.updShot n f).slots = s.slots := rfl
@[simp] theorem State.updShot_slotWrites (n : Nat) (f : Shot → Shot) : (s.updShot n f).slotWrites = s.slotWrites := rfl
@[simp] theorem State.updShot_frames (n : Nat) (f : Shot → Shot) : (s.updShot n f).frames = s.frames := rfl
@[simp] theorem State.updShot_mrk (n : Nat) (f : Shot → Shot) : (s.updShot n f).mrk = s.mrk := rfl
@[simp] theorem State.updShot_mrkMute (n : Nat) (f : Shot → Shot) : (s.updShot n f).mrkMute = s.mrkMute := rfl
@[simp] theorem State.updShot_lines (n : Nat) (f : Shot → Shot) : (s.updShot n f).lines = s.lines := rfl
@[simp] theorem State.updShot_interp (n : Nat) (f : Shot → Shot) : (s.updShot n f).interp = s.interp := rfl
@[simp] theorem State.updShot_interpPend (n : Nat) (f : Shot → Shot) : (s.updShot n f).interpPend = s.interpPend := rfl
@[simp] theorem State.updShot_flat (n : Nat) (f : Shot → Shot) : (s.updShot n f).flat = s.flat := rfl
@[simp] theorem State.updShot_synth (n : Nat) (f : Shot → Shot) : (s.updShot n f).synth = s.synth := rfl
@[simp] theorem State.updShot_ffx (n : Nat) (f : Shot → Shot) : (s.updShot n f).ffx = s.ffx := rfl
@[simp] theorem State.updShot_bia (n : Nat) (f : Shot → Shot) : (s.updShot n f).bia = s.bia := rfl
@[simp] theorem State.updShot_clrNext (n : Nat) (f : Shot → Shot) : (s.updShot n f).clrNext = s.clrNext := rfl
@[simp] theorem State.updShot_acqs (n : Nat) (f : Shot → Shot) : (s.updShot n f).acqs = s.acqs := rfl
@[simp] theorem State.updShot_tones (n : Nat) (f : Shot → Shot) : (s.updShot n f).tones = s.tones := rfl
@[simp] theorem State.updShot_feeds (n : Nat) (f : Shot → Shot) : (s.updShot n f).feeds = s.feeds := rfl
@[simp] theorem State.updShot_rwins (n : Nat) (f : Shot → Shot) : (s.updShot n f).rwins = s.rwins := rfl
@[simp] theorem State.updShot_traces (n : Nat) (f : Shot → Shot) : (s.updShot n f).traces = s.traces := rfl
@[simp] theorem State.updShot_results (n : Nat) (f : Shot → Shot) : (s.updShot n f).results = s.results := rfl
@[simp] theorem State.updShot_frameStamps (n : Nat) (f : Shot → Shot) : (s.updShot n f).frameStamps = s.frameStamps := rfl
@[simp] theorem State.updShot_rsets (n : Nat) (f : Shot → Shot) : (s.updShot n f).rsets = s.rsets := rfl
@[simp] theorem State.updShot_mem (n : Nat) (f : Shot → Shot) : (s.updShot n f).mem = s.mem := rfl
@[simp] theorem State.updShot_scrubPos (n : Nat) (f : Shot → Shot) : (s.updShot n f).scrubPos = s.scrubPos := rfl
@[simp] theorem State.updShot_scrubPass (n : Nat) (f : Shot → Shot) : (s.updShot n f).scrubPass = s.scrubPass := rfl
@[simp] theorem State.updShot_corrected (n : Nat) (f : Shot → Shot) : (s.updShot n f).corrected = s.corrected := rfl
@[simp] theorem State.updShot_passCe (n : Nat) (f : Shot → Shot) : (s.updShot n f).passCe = s.passCe := rfl
@[simp] theorem State.updShot_txQueue (n : Nat) (f : Shot → Shot) : (s.updShot n f).txQueue = s.txQueue := rfl
@[simp] theorem State.updShot_rxHeld (n : Nat) (f : Shot → Shot) : (s.updShot n f).rxHeld = s.rxHeld := rfl
@[simp] theorem State.updShot_routeSends (n : Nat) (f : Shot → Shot) : (s.updShot n f).routeSends = s.routeSends := rfl
@[simp] theorem State.updShot_losses (n : Nat) (f : Shot → Shot) : (s.updShot n f).losses = s.losses := rfl
@[simp] theorem State.updShot_lanes (n : Nat) (f : Shot → Shot) : (s.updShot n f).lanes = s.lanes := rfl
@[simp] theorem State.updShot_lossNotices (n : Nat) (f : Shot → Shot) : (s.updShot n f).lossNotices = s.lossNotices := rfl
@[simp] theorem State.updShot_dldSent (n : Nat) (f : Shot → Shot) : (s.updShot n f).dldSent = s.dldSent := rfl
@[simp] theorem State.updShot_edgeAcceptedAt (n : Nat) (f : Shot → Shot) : (s.updShot n f).edgeAcceptedAt = s.edgeAcceptedAt := rfl
@[simp] theorem State.updShot_epochOld (n : Nat) (f : Shot → Shot) : (s.updShot n f).epochOld = s.epochOld := rfl
@[simp] theorem State.updShot_tdcs (n : Nat) (f : Shot → Shot) : (s.updShot n f).tdcs = s.tdcs := rfl
@[simp] theorem State.updShot_snss (n : Nat) (f : Shot → Shot) : (s.updShot n f).snss = s.snss := rfl
@[simp] theorem State.updShot_heaters (n : Nat) (f : Shot → Shot) : (s.updShot n f).heaters = s.heaters := rfl
@[simp] theorem State.updShot_mon (n : Nat) (f : Shot → Shot) : (s.updShot n f).mon = s.mon := rfl
@[simp] theorem State.updShot_curveShadow (n : Nat) (f : Shot → Shot) : (s.updShot n f).curveShadow = s.curveShadow := rfl
@[simp] theorem State.updShot_curves (n : Nat) (f : Shot → Shot) : (s.updShot n f).curves = s.curves := rfl
@[simp] theorem State.updShot_mbx (n : Nat) (f : Shot → Shot) : (s.updShot n f).mbx = s.mbx := rfl
@[simp] theorem State.updShot_server (n : Nat) (f : Shot → Shot) : (s.updShot n f).server = s.server := rfl
@[simp] theorem State.updShot_training (n : Nat) (f : Shot → Shot) : (s.updShot n f).training = s.training := rfl
@[simp] theorem State.updShot_fwBank (n : Nat) (f : Shot → Shot) : (s.updShot n f).fwBank = s.fwBank := rfl
@[simp] theorem State.updShot_fwBody (n : Nat) (f : Shot → Shot) : (s.updShot n f).fwBody = s.fwBody := rfl
@[simp] theorem State.updShot_calBank (n : Nat) (f : Shot → Shot) : (s.updShot n f).calBank = s.calBank := rfl
@[simp] theorem State.updShot_calBody (n : Nat) (f : Shot → Shot) : (s.updShot n f).calBody = s.calBody := rfl
@[simp] theorem State.updShot_curveBank (n : Nat) (f : Shot → Shot) : (s.updShot n f).curveBank = s.curveBank := rfl
@[simp] theorem State.updShot_curveBody (n : Nat) (f : Shot → Shot) : (s.updShot n f).curveBody = s.curveBody := rfl
@[simp] theorem State.updShot_tripLog (n : Nat) (f : Shot → Shot) : (s.updShot n f).tripLog = s.tripLog := rfl
@[simp] theorem State.updShot_tripOwed (n : Nat) (f : Shot → Shot) : (s.updShot n f).tripOwed = s.tripOwed := rfl
@[simp] theorem State.updShot_routine (n : Nat) (f : Shot → Shot) : (s.updShot n f).routine = s.routine := rfl
@[simp] theorem State.updShot_dip (n : Nat) (f : Shot → Shot) : (s.updShot n f).dip = s.dip := rfl
@[simp] theorem State.updShot_trippedAt (n : Nat) (f : Shot → Shot) : (s.updShot n f).trippedAt = s.trippedAt := rfl
@[simp] theorem State.updShot_window (n : Nat) (f : Shot → Shot) : (s.updShot n f).window = s.window := rfl
@[simp] theorem State.updShot_thm (n : Nat) (f : Shot → Shot) : (s.updShot n f).thm = s.thm := rfl
@[simp] theorem State.updShot_peffWas (n : Nat) (f : Shot → Shot) : (s.updShot n f).peffWas = s.peffWas := rfl
@[simp] theorem State.updShot_calVref (n : Nat) (f : Shot → Shot) : (s.updShot n f).calVref = s.calVref := rfl
@[simp] theorem State.updShot_flatPend (n : Nat) (f : Shot → Shot) : (s.updShot n f).flatPend = s.flatPend := rfl
@[simp] theorem State.rd_updShot (n : Nat) (f : Shot → Shot) (i : Nat) : (s.updShot n f).rd i = s.rd i := rfl
@[simp] theorem State.get_updShot (n : Nat) (f : Shot → Shot) (g : Fld) : (s.updShot n f).get g = s.get g := rfl
@[simp] theorem State.get64_updShot (n : Nat) (f : Shot → Shot) (i : Nat) : (s.updShot n f).get64 i = s.get64 i := rfl

end Sys2Proof.Machine
end

