-- ==== Sys2Proof/Laws/Step.lean ====
section
/-!
SUPPORT. What the passing of one tick keeps and counts, and what the commands that set the epoch or restart the part keep.
-/
namespace Sys2Proof.Machine

/-! ### The commands that set the epoch or restart the part -/

/-- An accepted edge apart from the epoch it sets. -/
theorem acceptEpoch_ok0 (s : State) : Ok0 s (acceptEpoch s) := by
  unfold acceptEpoch
  extract_lets load shift s1 s2 s3 e g s4
  have h1 : Ok s s1 := loseAlarms_ok _ (Ok.refl s)
  have h2 : Ok s s2 := State_put_ok _ _ _ (State_put_ok _ _ _ (State_bumpWrap_ok _ _ h1))
  have h3 : Ok s s3 := ite_ok h2 (State_put_ok _ _ _ h2)
  have h4 : Ok0 s s4 := Ok0.stores (x := s3) rfl rfl rfl rfl rfl id id id id id h3.toOk0
  exact h4.trans (State_event_ok _ _ (State_put64_ok _ _ _ (State_put64_ok _ _ _ (Ok.refl s4)))).toOk0

theorem epochInEdge_ok0 (s : State) : Ok0 s (epochInEdge s) := by
  unfold epochInEdge
  split
  · exact (acceptEpoch_ok0 s).trans (shiftEpochs_ok _ _ _ (snsCut_ok _ (Ok.refl _))).toOk0
  · exact (ignoreEpoch_ok _ (Ok.refl s)).toOk0

/-- An EPOCH_IN edge changes no mode but by what `Ok` allows. -/
theorem epochInEdge_trip (s : State) (h : s.mode = .tripped) : (epochInEdge s).mode = .tripped := by
  unfold epochInEdge
  split
  · rename_i a
    exact absurd a.1 (by simp [State.edgeAcceptable, h])
  · exact (ignoreEpoch_ok _ (Ok.refl s)).trip h

theorem restart_ok0 (s : State) (cause : Nat) : Ok0 s (restart s cause) :=
  Ok0.stores (x := s) rfl rfl rfl rfl rfl (fun _ => Table.wf_set _ _ _ rfl) (fun _ => rfl) (fun _ => rfl) (fun _ => rfl)
    (fun _ => rfl) (Ok0.refl s)

/-! ### One tick -/

/-- What begins with a tick keeps all but the calendar, which the first of its operations counts. -/
theorem beginTick_ok (s : State) : Ok (tickCalendar s) (beginTick s) := by
  unfold beginTick
  exact pollStops_ok _ (engineBalls_ok _ (applyFrames_ok _ (crossBoundaries_ok _ (initChannels_ok _ (noteFrame_ok _
    (clearNext_ok _ (tickAngle_ok _ (Ok.refl _))))))))

theorem tickCalendar_ok0 (s : State) : Ok0 s (tickCalendar s) := Ok0.stores (x := s) rfl rfl rfl rfl rfl id id id id id (Ok0.refl s)

/-- A tick is what plays in it, then the count, then what begins with the next one. -/
theorem tick_on (s : State) (h : s.epochOn = true) :
    tick s = beginTick { (playTick s) with now := s.now + 1, epoch := s.epoch + 1 } := by rw [tick, if_pos h]

theorem tick_off (s : State) (h : s.epochOn = false) : tick s = clearNext { s with now := s.now + 1 } := by
  rw [tick, if_neg (by simp [h])]

/-- Everything but the counts is as `Ok0` says: the state compared has the count of the tick. -/
theorem tick_ok0 (s : State) : Ok0 { s with now := s.now + 1 } (tick s) := by
  by_cases h : s.epochOn = true
  · rw [tick_on s h]
    have p : Ok s (playTick s) := playTick_ok s (Ok.refl s)
    generalize playTick s = q at p ⊢
    have a : Ok0 { s with now := s.now + 1 } { q with now := s.now + 1, epoch := s.epoch + 1 } :=
      ⟨p.pending, p.part, p.ref10M, p.serial, rfl, fun c =>
        let d := p.canon ⟨c.regs, c.mem, c.micro, c.nano, c.cache⟩
        ⟨d.regs, d.mem, d.micro, d.nano, d.cache⟩⟩
    exact Ok0.trans (b := _) a ((tickCalendar_ok0 _).trans (beginTick_ok _).toOk0)
  · rw [tick_off s (by simpa using h)]
    exact (clearNext_ok _ (Ok.refl _)).toOk0

theorem tick_canonical (s : State) (c : s.canonical) : (tick s).canonical :=
  (tick_ok0 s).canon ⟨c.regs, c.mem, c.micro, c.nano, c.cache⟩

theorem tick_epoch (s : State) (h : s.epochOn = true) :
    (tick s).epoch = s.epoch + 1 ∧ (tick s).calRaw = (s.calRaw + 1) % 2 ^ 64 := by
  rw [tick_on s h]
  have p : Ok s (playTick s) := playTick_ok s (Ok.refl s)
  generalize playTick s = q at p ⊢
  have b := beginTick_ok { q with now := s.now + 1, epoch := s.epoch + 1 }
  refine ⟨b.epoch, b.calRaw.trans ?_⟩
  simp only [tickCalendar, p.calRaw]

theorem tick_epoch_off (s : State) (h : s.epochOn = false) : (tick s).epoch = s.epoch ∧ (tick s).calRaw = s.calRaw := by
  rw [tick_off s h]
  have b := clearNext_ok _ (Ok.refl { s with now := s.now + 1 })
  exact ⟨b.epoch, b.calRaw⟩

theorem tick_trip (s : State) (h : s.mode = .tripped) : (tick s).mode = .tripped := by
  by_cases e : s.epochOn = true
  · rw [tick_on s e]
    have p : Ok s (playTick s) := playTick_ok s (Ok.refl s)
    generalize playTick s = q at p ⊢
    exact (beginTick_ok { q with now := s.now + 1, epoch := s.epoch + 1 }).trip (p.trip h)
  · rw [tick_off s (by simpa using e)]
    exact (clearNext_ok _ (Ok.refl { s with now := s.now + 1 })).trip h

end Sys2Proof.Machine
end

