-- ==== Sys2Proof/Laws/Writes.lean ====
section
/-!
SUPPORT. What a 32-bit write and a 32-bit read come to: the gate of the mode, then the register's own write.
-/
namespace Sys2Proof.Machine

theorem rankOf_board {a : Nat} (h : a < 0x100000) : rankOf? a = none := if_pos h

theorem answers_board (s : State) {a : Nat} (h : a < 0x100000) : s.answers a = true := by
  simp only [State.answers, rankOf_board h]

theorem modeRefuses_low (s : State) {a : Nat} (h : a < 0x30000 ∨ (0xF0000 ≤ a ∧ a < 0x100000)) : s.modeRefuses a = false := by
  have e : rankOf? a = none := by unfold rankOf?; rw [if_pos (by omega)]
  simp only [State.modeRefuses, e]
  simp; omega

theorem modeRefuses_board (s : State) {a : Nat} (h : a < 0x100000) (k : s.boardOpen) : s.modeRefuses a = false := by
  have e : rankOf? a = none := by unfold rankOf?; rw [if_pos h]
  simp only [State.modeRefuses, e]
  simp [k.1, k.2]

theorem modeRefuses_rank (s : State) {a : Nat} (h : s.mode ≠ .standby ∧ s.mode ≠ .calibrate) (k : 0x100000 ≤ a) :
    s.modeRefuses a = false := by
  have e : rankOf? a = some (a / 0x100000 - 1, a % 0x100000) := by unfold rankOf?; rw [if_neg (by omega)]
  simp only [State.modeRefuses, e]
  simp [h.1, h.2]

/-- A write of a Board register that is no half of a pair. -/
theorem hostWrite_board (s : State) (rid a : Nat) (v : Word) {row : RegRow} {i : Nat} (h1 : pairLow? a = none)
    (h2 : regRow? a = some (row, i)) (h3 : rankOf? a = none) (h4 : s.modeRefuses a = false) :
    hostWrite s rid a v = (writeBoard s rid row i a v).finish rid a := by
  simp [hostWrite, writeHalf, h1, h2, writeGated, State.answers, h3, h4, writeTaken]

/-- A write of a register of a Rank that answers, no half of a pair. -/
theorem hostWrite_rank (s : State) (rid a r off : Nat) (v : Word) {row : RegRow} {i : Nat} (h1 : pairLow? a = none)
    (h2 : regRow? a = some (row, i)) (h3 : rankOf? a = some (r, off)) (h4 : s.modeRefuses a = false) (h5 : s.rankOpen r = true) :
    hostWrite s rid a v = (writeRank s r row i a v).finish rid a := by
  simp [hostWrite, writeHalf, h1, h2, writeGated, State.answers, h3, h4, h5, writeTaken]

/-- A write that the mode refuses: no effect but the access error (R533). -/
theorem hostWrite_refused (s : State) (rid a : Nat) (v : Word) (h1 : pairLow? a = none) (h3 : s.answers a = true)
    (h4 : s.modeRefuses a = true) : hostWrite s rid a v = s.accessError rid 1 a := by
  cases h2 : regRow? a <;> simp [hostWrite, writeHalf, h1, h2, writeGated, h3, h4, refusedBy, WriteOut.finish]

@[simp] theorem finish_taken (s : State) (rid a : Nat) : (taken s).finish rid a = s := rfl
@[simp] theorem finish_refusedBy (s : State) (c rid a : Nat) : (refusedBy s c).finish rid a = s.accessError rid c a := rfl

/-- The high half of a pair that can be written commits both halves (R73). -/
theorem hostWrite_high (s : State) (rid lo : Nat) (v : Word) {row top : RegRow} {i j : Nat} (h1 : pairLow? (lo + 4) = some lo)
    (h2 : regRow? (lo + 4) = some (top, j)) (h5 : pairWritable top = true) (h6 : regRow? lo = some (row, i))
    (h7 : pairWritable row = true) (h3 : s.answers (lo + 4) = true)
    (h4 : (s.emptyShadow rid lo).modeRefuses (lo + 4) = false) :
    hostWrite s rid (lo + 4) v =
      (commitPair (s.emptyShadow rid lo) row i lo (s.heldLow rid lo) v).finish rid lo := by
  have h3' : (s.emptyShadow rid lo).answers (lo + 4) = true := h3
  simp [hostWrite, writeHalf, h1, h2, h5, h6, h7, writeGated, h3', h4, writeTaken, commitAt]

/-- The low half of a pair that can be written is held (R73). -/
theorem hostWrite_low (s : State) (rid lo : Nat) (v : Word) {row : RegRow} {i : Nat} (h1 : pairLow? lo = some lo)
    (h2 : regRow? lo = some (row, i)) (h5 : pairWritable row = true) :
    hostWrite s rid lo v = s.setWriteShadow rid (some ⟨lo, v⟩) := by
  simp [hostWrite, writeHalf, h1, h2, h5]

end Sys2Proof.Machine
end

