-- ==== Sys2Proof/WellFormed.lean ====
section
/-!
DEFINITION. The commands that exist: their operands name units of the part and fit the fields that carry them. A step takes any
command; to one that is not well formed no event of the hardware corresponds.
-/
namespace Sys2Proof

/-- A PCI Express Requester ID has 16 bits; 0xFFFF is the MP (R71). -/
def ridOk (n : Nat) : Bool := decide (n < 65536)

/-- BAR0 has 16 MiB (R105). -/
def bar0Ok (n : Nat) : Bool := decide (n < 16777216)

/-- Rank positions (R4). -/
def rankOk (n : Nat) : Bool := decide (n < 8)

/-- Engines of a Rank (Table 00-1). -/
def engineOk (n : Nat) : Bool := decide (n < 24)

/-- Ports of a Rank: 32 drive channels, 32 tones, 32 FFX outputs. -/
def portOk (n : Nat) : Bool := decide (n < 96)

/-- FFX or BIAS outputs, tones and result windows of a Rank. -/
def outputOk (n : Nat) : Bool := decide (n < 32)

/-- DRV lines 0-15, feedlines 16 and 17, and 18 for the markers of a Rank. -/
def lineOk (n : Nat) : Bool := decide (n < 19)

/-- Frequency slots of a Rank. -/
def slotOk (n : Nat) : Bool := decide (n < 128)

/-- Logical channels of a Rank (R256). -/
def channelOk (n : Nat) : Bool := decide (n < 64)

/-- Feedlines and trace units of a Rank. -/
def unitOk (n : Nat) : Bool := decide (n < 2)

/-- Verdict latches of an engine (Table 05-1). -/
def latchOk (n : Nat) : Bool := decide (n < 4)

/-- Alarms. -/
def alarmOk (n : Nat) : Bool := decide (n < 16)

/-- Angle windows. -/
def angleOk (n : Nat) : Bool := decide (n < 8)

/-- Submission rings, completion rings, and routes. -/
def ringOk (n : Nat) : Bool := decide (n < 64)

/-- Streams of a Rank, and MSI-X vectors. -/
def streamOk (n : Nat) : Bool := decide (n < 256)

/-- Mailbox slots. -/
def mailboxOk (n : Nat) : Bool := decide (n < 8)

/-- Dalid lanes. -/
def laneOk (n : Nat) : Bool := decide (n < 16)

/-- Dalid ports, TRIG_IN inputs and heaters. -/
def dalidOk (n : Nat) : Bool := decide (n < 4)

/-- Time-interval channels and sensor channels. -/
def unit8Ok (n : Nat) : Bool := decide (n < 8)

/-- Picoseconds within a tick (R401). -/
def psOk (n : Nat) : Bool := decide (n < 400)

/-- Supply rails (R474). -/
def railOk (n : Nat) : Bool := decide (n < 16)

/-- Kinds of a failed fetch (R137, Table 03-13). -/
def kindOk (n : Nat) : Bool := decide (n < 4)

/-- Record sets. -/
def setOk (n : Nat) : Bool := decide (n < 4096)

/-- 8-byte words of a waveform cache (R218). -/
def cacheOk (n : Nat) : Bool := decide (n < 3145728)

/-- Nanowords of a Rank. -/
def nanoOk (n : Nat) : Bool := decide (n < 65536)

/-- A byte. -/
def byteOk (n : Nat) : Bool := decide (n < 256)

/-- A 16-bit value. -/
def halfOk (n : Nat) : Bool := decide (n < 65536)

/-- A link state (Table 03-13): 16, 32 or 64 GT/s by code 1 to 3, 8 or 16 lanes; 64 GT/s needs FLIT mode. -/
def linkForm (rate width : Nat) (flit : Bool) : Bool :=
  decide (1 ≤ rate) && decide (rate ≤ 3) && (decide (width = 8) || decide (width = 16)) && (flit || decide (rate ≤ 2))

/-- A command is well formed. (DESIGN CHOICE, log 3.) -/
def Instr.wellFormed : Instr → Bool
  | .registerWrite rid addr _ => ridOk rid && bar0Ok addr
  | .bar08ByteAccess rid addr _ _ => ridOk rid && bar0Ok addr
  | .bar0BadWidthAccess rid addr _ => ridOk rid && bar0Ok addr
  | .pairLowRead rid addr => ridOk rid && bar0Ok addr
  | .pairHighRead rid addr => ridOk rid && bar0Ok addr
  | .pairLowWrite rid addr _ => ridOk rid && bar0Ok addr
  | .pairHighWrite rid addr _ => ridOk rid && bar0Ok addr
  | .requestSetup => true
  | .requestStandby => true
  | .requestArmed _ _ => true
  | .requestHold => true
  | .requestQuiesce => true
  | .requestCalibrate _ => true
  | .requestTest => true
  | .requestSealed => true
  | .requestClear => true
  | .requestHoldover => true
  | .requestTripped => true
  | .requestUndefinedMode code => decide (0xC ≤ code ∧ code ≤ 0xF)
  | .powerOn => true
  | .internalPowerGood => true
  | .powerUpStageEnd _ _ => true
  | .supplyReset rail => railOk rail
  | .supplyWarning rail => railOk rail
  | .supplyRecovery => true
  | .clrNFall => true
  | .clrcodeApply r k => rankOk r && outputOk k
  | .perstNAssert => true
  | .perstNRelease => true
  | .hotReset => true
  | .functionLevelReset => true
  | .linkRecovery rate width flit => linkForm rate width flit
  | .epochInEdge => true
  | .refinLoss => true
  | .refinRestored => true
  | .pllLocked => true
  | .epoTrimWrite rid _ => ridOk rid
  | .alarmEnable rid n _ => ridOk rid && alarmOk n
  | .alarmFire n => alarmOk n
  | .brdEvtEnWrite rid _ => ridOk rid
  | .angleReferenceEdge => true
  | .angleIncrementEdge => true
  | .angleStall => true
  | .angleCfgWrite rid _ _ => ridOk rid
  | .angleWindowEdge n => angleOk n
  | .epoCalStep rid _ => ridOk rid
  | .epoCalRateAdj rid _ => ridOk rid
  | .disciplineWatchExpiry => true
  | .snapshotGo rid _ => ridOk rid
  | .snapshotCapture => true
  | .sqEnable rid n _ => ridOk rid && ringOk n
  | .sqDisable rid n => ridOk rid && ringOk n
  | .cqEnable rid n _ => ridOk rid && ringOk n
  | .cqDisable rid n => ridOk rid && ringOk n
  | .ringCfgWrite rid addr _ => ridOk rid && bar0Ok addr
  | .sqTailDoorbell rid n _ => ridOk rid && ringOk n
  | .cqHeadDoorbell rid n _ => ridOk rid && ringOk n
  | .descriptorFetch sq _ _ => ringOk sq
  | .descriptorArrival sq _ _ ext => ringOk sq && decide (ext.length ≤ 15)
  | .fetchError sq _ kind => ringOk sq && kindOk kind
  | .shot sq => ringOk sq
  | .gangPrepare r => rankOk r
  | .gangCommit => true
  | .abort sq => ringOk sq
  | .nopDescriptor sq => ringOk sq
  | .loadMicro sq _ => ringOk sq
  | .loadNano sq _ => ringOk sq
  | .loadCache sq _ => ringOk sq
  | .loadComplete _ _ => true
  | .streamWindow sq _ => ringOk sq
  | .recordSetAlloc sq => ringOk sq
  | .recordSetReady _ _ => true
  | .recordSetRecycle sq => ringOk sq
  | .recycleDone _ => true
  | .release sq => ringOk sq
  | .releaseDone _ => true
  | .finalEntry _ => true
  | .coalesceTimeout n => ringOk n
  | .msixUnmask rid v => ridOk rid && streamOk v
  | .mailboxPost k seq cmd len expire opt payload => mailboxOk k && byteOk seq && halfOk cmd && halfOk len && halfOk expire && byteOk opt && decide (payload.length = len ∧ len ≤ 2016)
  | .mailboxCancel k => mailboxOk k
  | .mailboxExpire k => mailboxOk k
  | .echo k _ => mailboxOk k
  | .version k _ => mailboxOk k
  | .shotStart _ => true
  | .engineLead r e => rankOk r && engineOk e
  | .spanFence _ => true
  | .abortEpoch _ => true
  | .endOfShot _ => true
  | .claimRelease _ => true
  | .failureNotice _ r => rankOk r
  | .clkStatsClr rid _ => ridOk rid
  | .nop r e => rankOk r && engineOk e
  | .play r e => rankOk r && engineOk e
  | .jmp r e => rankOk r && engineOk e
  | .call r e => rankOk r && engineOk e
  | .ret r e => rankOk r && engineOk e
  | .ldc r e => rankOk r && engineOk e
  | .loop r e => rankOk r && engineOk e
  | .addc r e => rankOk r && engineOk e
  | .test r e => rankOk r && engineOk e
  | .varm r e => rankOk r && engineOk e
  | .stagingComplete r e latch => rankOk r && engineOk e && latchOk latch
  | .brv r e => rankOk r && engineOk e
  | .brvEnd r e => rankOk r && engineOk e
  | .brvTimeout r e => rankOk r && engineOk e
  | .waita r e => rankOk r && engineOk e
  | .waitw r e => rankOk r && engineOk e
  | .waitEnd r e => rankOk r && engineOk e
  | .waitTimeout r e => rankOk r && engineOk e
  | .quiet r e => rankOk r && engineOk e
  | .stop r e => rankOk r && engineOk e
  | .nanowordApply r e => rankOk r && engineOk e
  | .portStart r p => rankOk r && portOk p
  | .portJump r p => rankOk r && portOk p
  | .portHalt r p => rankOk r && portOk p
  | .portModify r p => rankOk r && portOk p
  | .segmentCommit r p => rankOk r && portOk p
  | .microTrap r e _ addr _ => rankOk r && engineOk e && nanoOk addr
  | .trapRetryEnd r e => rankOk r && engineOk e
  | .streamMissing r n => rankOk r && streamOk n
  | .cacheRewrite r word => rankOk r && cacheOk word
  | .streamWindowEnd _ => true
  | .streamReadFailure _ _ _ => true
  | .seStatsClr rid r => ridOk rid && rankOk r
  | .rnkStrmClr rid r => ridOk rid && rankOk r
  | .drvCtrlWrite rid r line _ => ridOk rid && rankOk r && lineOk line
  | .lineSettingEffect r line => rankOk r && lineOk line
  | .fscSettleEnd r line => rankOk r && lineOk line
  | .slotEffect r f => rankOk r && slotOk f
  | .interpEffect r c => rankOk r && channelOk c
  | .synStatsClr rid r => ridOk rid && rankOk r
  | .calibrationStageEnd _ _ _ => true
  | .calibrationEnd => true
  | .rangeChangeRequest rid r _ k _ => ridOk rid && rankOk r && outputOk k
  | .rangeHoldBegin r _ k => rankOk r && outputOk k
  | .rangeHoldEnd r _ k => rankOk r && outputOk k
  | .ffxValEffect r k => rankOk r && outputOk k
  | .biaValEffect r k => rankOk r && outputOk k
  | .limitEffect r _ k => rankOk r && outputOk k
  | .predistortionEffect r k => rankOk r && outputOk k
  | .ffxStatsClr rid r => ridOk rid && rankOk r
  | .biaStatsClr rid r => ridOk rid && rankOk r
  | .filtEffect r k => rankOk r && outputOk k
  | .gainEffect r f => rankOk r && unitOk f
  | .resultWindowArm r k => rankOk r && outputOk k
  | .windowOpen r k _ => rankOk r && outputOk k
  | .forcedTrigger r k _ => rankOk r && outputOk k
  | .integrationEnd r k _ => rankOk r && outputOk k
  | .verdictOnFabric r k => rankOk r && outputOk k
  | .routeEnqueue r k => rankOk r && outputOk k
  | .verdictDelivery r k => rankOk r && outputOk k
  | .captureEnd r u => rankOk r && unitOk u
  | .traceRearm r u => rankOk r && unitOk u
  | .recordDelivery set => setOk set
  | .streamThroughDrainEnd set _ => setOk set
  | .dmdStatsClr rid r => ridOk rid && rankOk r
  | .acqStatsClr rid r => ridOk rid && rankOk r
  | .blockTransmit l => laneOk l
  | .verdictBlockReceived l _ => laneOk l
  | .routeForward n => ringOk n
  | .routedDelivery n => ringOk n
  | .lossCapture n => ringOk n
  | .frameTransmit l => laneOk l
  | .epochCheckSend l => laneOk l
  | .portIdSend l => laneOk l
  | .comma l _ => laneOk l
  | .idle l _ => laneOk l
  | .epochCheck l _ => laneOk l
  | .portId l _ => laneOk l
  | .eqReq l _ => laneOk l
  | .eqAck l _ => laneOk l
  | .lossLo l _ => laneOk l
  | .lossHi l _ => laneOk l
  | .clockRecovered l => laneOk l
  | .blockLock l => laneOk l
  | .frameLock l => laneOk l
  | .lockLoss l => laneOk l
  | .faultRetry l => laneOk l
  | .mshRteWrite rid n word _ => ridOk rid && ringOk n && unitOk word
  | .laneEnable rid p _ => ridOk rid && dalidOk p
  | .loopSelect rid p _ => ridOk rid && dalidOk p
  | .txeqEffect l => laneOk l
  | .vrdStatsClr rid => ridOk rid
  | .mshStatsClr rid _ => ridOk rid
  | .dldStatsClr rid => ridOk rid
  | .trainPort k _ _ => mailboxOk k
  | .eyeScan k _ _ _ => mailboxOk k
  | .resetPort k _ => mailboxOk k
  | .scrubRead => true
  | .scrubPassEnd => true
  | .errorInject rid _ => ridOk rid
  | .logClr rid => ridOk rid
  | .memStatsClr rid => ridOk rid
  | .triggerEdge n _ => dalidOk n
  | .tdcArm rid c => ridOk rid && unit8Ok c
  | .tdcDisarm rid c => ridOk rid && unit8Ok c
  | .tdcStart c f => unit8Ok c && psOk f
  | .tdcStop c f => unit8Ok c && psOk f
  | .tdcWindowClose c => unit8Ok c
  | .tdcPost c => unit8Ok c
  | .tdcStatsClr rid => ridOk rid
  | .sensorPeriodBoundary c _ _ => unit8Ok c
  | .sensorPost c _ _ _ => unit8Ok c
  | .heaterCodeEffect k => dalidOk k
  | .sensorFault c _ _ => unit8Ok c
  | .noSensor k => dalidOk k
  | .loopEnable rid k _ => ridOk rid && dalidOk k
  | .loopDisable rid k _ => ridOk rid && dalidOk k
  | .htrValEffect k => dalidOk k
  | .heaterCompliance k _ => dalidOk k
  | .snsStatsClr rid => ridOk rid
  | .monitorSlotEnd _ _ _ => true
  | .urgentGo rid _ => ridOk rid
  | .tableRun rid _ => ridOk rid
  | .tableStop rid _ => ridOk rid
  | .curveWrite k _ => mailboxOk k
  | .curveCommit k _ => mailboxOk k
  | .curveRead k _ => mailboxOk k
  | .curveSave k _ _ => mailboxOk k
  | .curveClear k _ => mailboxOk k
  | .sealFitted => true
  | .sealRemoved => true
  | .presencePress => true
  | .presenceWindowExpiry => true
  | .fwInfo k _ => mailboxOk k
  | .fwWrite k _ _ => mailboxOk k
  | .fwCommit k _ _ => mailboxOk k
  | .flashRead k _ => mailboxOk k
  | .calInfo k _ => mailboxOk k
  | .calCommit k _ _ => mailboxOk k
  | .calTableRead k _ => mailboxOk k
  | .calTableWrite k _ => mailboxOk k
  | .mpLoad k _ => mailboxOk k
  | .tripLogRead k _ => mailboxOk k
  | .tripLogErase k _ => mailboxOk k
  | .sweepDemand rid => ridOk rid
  | .scheduledSweep => true
  | .sweepBackstop => true
  | .sweepEnd _ => true
  | .throttleReaches7 => true
  | .throttleFallsBelow7 => true
  | .floorWrite rid _ => ridOk rid
  | .dmaStop => true
  | .tripLogAppend => true
  | .transitionComplete => true
  | .busMasterEnableWrite _ => true
  | .badSyncHeader l => laneOk l
  | .unknownControlBlock l => laneOk l

end Sys2Proof
end

