-- ==== Sys2Proof/Tests/Slice0.lean ====
section
/-!
SUPPORT. Tests: for each obligation a witness (wit_<what>) that meets its hypotheses together, at a boundary value of each range;
the worked examples of spec/ (test_<what>); and an ill-formed term for each check of WellFormed.lean (wf_refuses_<check>).
-/
open Sys2Proof Sys2Proof.Machine
namespace Sys2Proof.Tests
set_option Elab.async false

/-! ### States for the tests -/

/-- A state with some register fields set. -/
def withFlds (s : State) (l : List (Fld × Nat)) : State := l.foldl (fun s x => s.put x.1 x.2) s

/-- The part after power-up with the reference locked, in a mode. -/
def up (m : Mode) : State :=
  { (withFlds State.reset [(Reg.BRD_BOOT_STAGE, 0xF), (Reg.BRD_BOOT_RANK_READY, 0xFF), (Reg.EPO_REF_LOCK, 1)]) with
    mode := m, epochOn := true, epoch := 100000, now := 100000, powerGoodAt := some 0, busMaster := true, perst := false,
    server := 2 }

/-- A slot with some fields set, by their first bits. -/
def slotWith (l : List (Nat × Nat)) : BitVec 512 := BitVec.ofNat 512 (l.foldl (fun a x => a + x.2 * 2 ^ x.1) 0)

/-- A descriptor of SQ 63 that has arrived, with a type, an extension count and further header and body fields. -/
def desc (uid typ ext : Nat) (l : List (Nat × Nat)) (slots : List (BitVec 512)) : Desc :=
  ⟨uid, 63, slotWith ([(0, typ), (8, ext), (32, 5)] ++ l), slots, 99000, 99000⟩

/-- A SHOT on Rank 7 from 200000 for 1000 t that claims engine 23, with further claims of the Rank. -/
def shotDesc (uid : Nat) (l : List (Nat × Nat)) : Desc :=
  desc uid 1 1 [(48, 0x80), (64, 200000), (128, 1000), (288, 0xFFFF)] [slotWith ((0, 0x800000) :: l)]

/-- SQ 63 and CQ 63 enabled with 16 slots each, and a descriptor at the front of the SQ. -/
def ringed (s : State) (ds : List Desc) : State :=
  { (withFlds s [(Reg.PCI_SQ_CFG_EN 63, 1), (Reg.PCI_SQ_CFG_SIZE_LOG2 63, 4), (Reg.PCI_SQ_CFG_CQ 63, 63), (Reg.PCI_CQ_CFG_EN 63, 1),
      (Reg.PCI_CQ_CFG_SIZE_LOG2 63, 4), (Reg.PCI_CQ_CFG_VECTOR 63, 2)]) with
    sqs := [(63, { sqDefault 0 with queue := ds.map fun d => ⟨d.uid, 1 + d.ext.length, false, some d⟩, tail := 8, fetchPos := 4 })]
    cqs := [(63, { cqDefault 0 with owed := 2 })], nextUid := 100 }

/-- An accepted shot in a phase. -/
def shotIn (d : Desc) (ph : ShotPhase) : Shot :=
  { desc := d, phase := ph, endAt := 0, stamp := 0, started := decide (ph ≠ .admitted), fixed := false, status := [], flags := [],
    failed := [], failedMask := [], abort := none, gangStop := none, exclusive := true, flow := true, segsLeft := 0, records := 0,
    abortedBy := [], silent := false }

/-! ### The block as a whole -/

theorem wit_step : (({ State.reset with pending := [.powerOn] } : State).pending = .powerOn :: []) := by decide
theorem wit_tick : State.reset.pending = [] ∧ State.reset.epochOn = false ∧ (up .setup).pending = [] ∧ (up .setup).epochOn = true := by
  decide
theorem wit_canonical : State.reset.canonical ∧ ∃ t, step { State.reset with pending := [.requestClear] } = .next t :=
  ⟨by constructor <;> decide, _, rfl⟩
theorem wit_keeps_time : (∃ t, exec .requestClear State.reset = .next t) ∧ Instr.requestClear ≠ .epochInEdge ∧ Instr.requestClear ≠ .powerOn ∧
    ∀ rail, Instr.requestClear ≠ .supplyReset rail := ⟨⟨_, rfl⟩, by decide, by decide, fun _ h => by cases h⟩
theorem wit_tripped : let s : State := { up .tripped with pending := [.requestClear] }
    s.mode = .tripped ∧ (∃ t, step s = .next t) ∧ s.pending.head? ≠ some .powerOn ∧ ∀ rail, s.pending.head? ≠ some (.supplyReset rail) :=
  ⟨rfl, ⟨_, rfl⟩, by decide, fun _ h => by cases h⟩

/-! ### Accesses of BAR0 -/

theorem wit_badAccess : (16777215 : Nat) < 2 ^ 24 ∧ (65535 : Nat) < 2 ^ 16 ∧ (up .setup).get Reg.BRD_ACC_ERR_FLAG = 0 ∧
    (withFlds (up .setup) [(Reg.BRD_ACC_ERR_FLAG, 1)]).get Reg.BRD_ACC_ERR_FLAG = 1 := by decide
theorem wit_pairRead : let lo := Reg.EPO_NOW_LO
    lo % 4 = 0 ∧ lo + 4 < 2 ^ 24 ∧ pairLow? lo = some lo ∧ pairLow? (lo + 4) = some lo ∧
    ({ up .setup with readShadow := [(7, some ⟨lo, 5⟩)] } : State).readShadow.get shadowDefault 7 = some ⟨lo, 5⟩ := by decide
theorem wit_pairRead_empty : ∀ w, (up .setup).readShadow.get shadowDefault 7 ≠ some ⟨Reg.EPO_NOW_LO, w⟩ := fun _ h => by cases h
theorem wit_pairWrite : let lo := Reg.EPO_CAL_STEP_LO
    lo % 4 = 0 ∧ lo < 2 ^ 24 ∧ pairLow? lo = some lo ∧ ∃ row i, regRow? lo = some (row, i) ∧ pairWritable row = true :=
  ⟨by decide, by decide, by decide, _, _, rfl, by decide⟩
theorem wit_pairCommit : (15 : Nat) < 16 ∧ (up .setup).boardOpen ∧ (up .setup).get (Reg.EPO_ALM_CTRLn_EN 15) = 0 ∧
    (withFlds (up .setup) [(Reg.EPO_ALM_CTRLn_EN 15, 1)]).get (Reg.EPO_ALM_CTRLn_EN 15) = 1 :=
  ⟨by decide, ⟨by decide, by decide⟩, by decide, by decide⟩
theorem wit_plain : (up .setup).boardOpen ∧ 0x30000 % 4 = 0 ∧ pairLow? 0x30000 = none ∧ 0xEFFFC % 4 = 0 ∧ pairLow? 0xEFFFC = none ∧
    (up .calibrate).mode = .calibrate ∧ 0x100000 % 4 = 0 ∧ pairLow? 0x100000 = none ∧ pairLow? 0x8FFFFC = none ∧
    State.reset.rankOpen 0 = false ∧ (up .tripped).rankOpen 7 = false := by
  refine ⟨⟨by decide, by decide⟩, ?_⟩; decide
theorem wit_statistics : (up .setup).boardOpen ∧ wordBits 0x3200 15 8 = 50 ∧ wordBits 0x5F00 15 8 = 95 ∧ (7 : Nat) < 8 ∧
    (up .setup).rankWritable 7 := ⟨⟨by decide, by decide⟩, by decide, by decide, by decide, by decide, by decide, by decide⟩

/-! ### The timebase -/

theorem wit_timebase : (up .setup).mode = .setup ∧ (up .armed).mode ≠ .setup ∧ ((up .setup).namesWindow fun _ => true) = false ∧
    wordBits 0x1 7 4 = 0 ∧ wordBits 0x11 7 4 ≠ 0 ∧
    (({ up .armed with shots := [shotIn (desc 1 1 1 [(48, 0x80), (21, 1)] []) .admitted] } : State).namesWindow fun _ => true) = true ∧
    (let s := withFlds (up .setup) [(Reg.EPO_CAL_CTRL_DISCIPLINED, 1), (Reg.EPO_CAL_CTRL_WATCH, 1)]
     s.get Reg.EPO_CAL_CTRL_DISCIPLINED = 1 ∧ s.get Reg.EPO_CAL_CTRL_WATCH ≠ 0 ∧
     s.disciplineAt + s.get Reg.EPO_CAL_CTRL_WATCH * 2500000000 ≤ ({ s with now := 2500000000 } : State).now) ∧
    ({ up .setup with snapArmed := true } : State).snapArmed = true := by decide +kernel

theorem wit_events : (15 : Nat) < 16 ∧ (up .setup).boardOpen ∧ (up .setup).get (Reg.EPO_ALM_CTRLn_EN 15) = 0 ∧
    wordBits 0 31 29 = 0 ∧ wordBits 0xE0000001 31 31 = 1 ∧
    (let s := withFlds (up .setup) [(Reg.EPO_ALM_CTRLn_EN 15, 1), (whole (Reg.EPO_ALM_CMP_LOn 15), 100000), (whole (Reg.EPO_ALM_REPn 15), 5),
      (Reg.EPO_ALM_CTRLn_IRQ 15, 1)]
     s.get (Reg.EPO_ALM_CTRLn_EN 15) = 1 ∧ s.alarmLate.get alarmFlagDefault 15 = false ∧
     s.get64 (Reg.EPO_ALM_CMP_LOn 15) = s.epoch.toNat ∧ s.rd (Reg.EPO_ALM_REPn 15) ≠ 0 ∧ s.get (Reg.EPO_ALM_CTRLn_IRQ 15) = 1) :=
  ⟨by decide, ⟨by decide, by decide⟩, by decide +kernel⟩

/-- An angle estimator with a period behind it, in ENCODER mode. -/
def angled : State :=
  { (withFlds (up .armed) [(Reg.EPO_ANG_CFG_SOURCE, 2), (Reg.EPO_ANG_STAT_LOCK, 1), (whole Reg.EPO_ANG_PERIOD, 1048576),
      (Reg.EPO_ANG_ENC_N, 4)]) with
    epoch := 10000000, now := 10000000
    angle := { (up .armed).angle with eRef := 8951424, refAt := 7902847, pLast := 1048576, moving := [(10000000, 7, true)] }
    shots := [shotIn (desc 1 1 1 [(48, 0x80), (21, 1), (16, 7)] []) .admitted] }
theorem wit_angle : angled.get Reg.EPO_ANG_CFG_SOURCE ≠ 0 ∧ periodOk 1048576 1048576 (angled.get Reg.EPO_ANG_CFG_TOL) = true ∧
    periodOk 1048575 1048576 (angled.get Reg.EPO_ANG_CFG_TOL) = false ∧ angled.get Reg.EPO_ANG_CFG_SOURCE = 2 ∧
    angled.get Reg.EPO_ANG_STAT_LOCK = 1 ∧ angled.angle.refAt + 2 * (angled.rd Reg.EPO_ANG_PERIOD).toNat < angled.now ∧
    angled.angle.moving.find? (fun m => decide (m.2.1 = 7)) = some (10000000, 7, true) ∧ 10000000 ≤ angled.now := by decide +kernel
theorem wit_angle_outlier : 2 ≤ ({ angled.angle with outliers := 2 } : Angle).outliers := by decide

theorem wit_epochEdges : let s := withFlds (up .armed) [(Reg.EPO_SYNC_ARM, 1), (Reg.EPO_TRIM_LOAD, 65535)]
    s.epochOn = true ∧ s.get Reg.EPO_REF_LOCK = 1 ∧ s.mode = .armed ∧ s.get Reg.EPO_SYNC_ARM = 1 ∧ s.anyShot = false ∧
    (up .run).mode ≠ .setup ∧ (up .run).mode ≠ .armed ∧ (up .run).get Reg.EPO_REF_LOCK = 1 := by decide +kernel

theorem wit_requests : (withFlds (up .setup) [(Reg.BRD_MODE_BUSY, 1)]).get Reg.BRD_MODE_BUSY = 1 ∧
    State.reset.get Reg.BRD_MODE_BUSY = 0 ∧ State.reset.get Reg.BRD_BOOT_STAGE ≠ 0xF := by decide +kernel
theorem wit_requestable : (up .setup).requestable ∧ (up .hold).requestable := ⟨⟨by decide +kernel, by decide +kernel⟩, by decide +kernel, by decide +kernel⟩
theorem wit_setup : (up .sealed).mode = .sealed ∧ (up .armed).anyShot = false ∧ (up .holdover).anyRunning = false ∧
    (let s : State := { up .armed with shots := [shotIn (shotDesc 1 []) .admitted] }
     s.mode = .armed ∧ s.anyShot = true) ∧
    (let s : State := { up .holdover with shots := [shotIn (shotDesc 1 []) .running] }
     s.mode = .holdover ∧ s.anyRunning = true) ∧
    (up .standby).mode = .standby ∧ ({ up .standby with transition := some .setup } : State).transition = some .setup ∧
    (7 : Nat) < (up .setup).part.ranks := by decide +kernel
theorem wit_armed : (up .setup).requestable ∧ (up .setup).mode = .setup ∧
    (withFlds (up .setup) [(Reg.EPO_REF_LOCK, 0)]).get Reg.EPO_REF_LOCK = 0 ∧
    (withFlds (up .setup) [(Reg.EPO_REF_SUSPECT, 1)]).get Reg.EPO_REF_SUSPECT = 1 ∧ (up .setup).get Reg.EPO_REF_LOCK = 1 ∧
    (withFlds (up .setup) [(Reg.EPO_REF_SUSPECT, 0)]).get Reg.EPO_REF_SUSPECT = 0 ∧
    (withFlds (up .setup) [(Reg.EPO_REF_SUSPECT, 0), (Reg.THM_STAT_LEVEL, 7)]).get Reg.THM_STAT_LEVEL = 7 ∧
    (withFlds (up .setup) [(Reg.EPO_REF_SUSPECT, 0), (Reg.THM_STAT_LEVEL, 6)]).get Reg.THM_STAT_LEVEL ≠ 7 :=
  ⟨wit_requestable.1, by decide +kernel⟩
theorem wit_hold : (up .run).mode = .run ∧ (up .hold).mode = .hold ∧ (up .hold).get Reg.BRD_MODE_HOLD_THROTTLE = 0 ∧
    (up .hold).get Reg.BRD_MODE_HOLD_SUPPLY = 0 ∧ (up .hold).shots = [] ∧ (up .quiesce).mode = .quiesce := by decide +kernel
theorem wit_calibrate : (up .setup).thm.running = none ∧ (up .setup).get Reg.EPO_REF_LOCK = 1 ∧
    (let s := withFlds { up .setup with window := some 100001 } [(Reg.CAL_SEAL_SEAL_FITTED, 1)]
     s.get Reg.CAL_SEAL_SEAL_FITTED = 1 ∧ s.mode = .setup ∧ s.window = some 100001 ∧ s.now < 100001) ∧
    (up .setup).get Reg.CAL_SEAL_SEAL_FITTED = 0 := by decide +kernel

theorem wit_restart : (15 : Nat) < 16 ∧ State.reset.powerGoodAt = none := by decide
theorem wit_stages : ∀ n ∈ [1, 2, 3, 4, 5, 6, 7], (withFlds State.reset [(Reg.BRD_BOOT_STAGE, n)]).get Reg.BRD_BOOT_STAGE = n ∧
    (withFlds State.reset [(Reg.BRD_BOOT_STAGE, n)]).get Reg.BRD_BOOT_FAIL = 0 := by decide +kernel
theorem wit_firmware : newestBank [] = none ∧ (∃ h, newestBank State.reset.fwBank = some (0, h)) ∧
    ∃ h, newestBank [(1, ⟨some ⟨1, 0, 0, 0, 0⟩, 0⟩)] = some (1, h) := ⟨by decide, ⟨_, rfl⟩, ⟨_, rfl⟩⟩
theorem wit_reference : (up .quiesce).epochOn = true ∧ (up .quiesce).get Reg.EPO_REF_LOCK = 1 ∧ (up .tripped).get Reg.EPO_REF_LOCK = 1 ∧
    State.reset.get Reg.EPO_REF_LOCK = 0 ∧ State.reset.relocking = false ∧
    ({ up .holdover with relocking := true } : State).relocking = true ∧ (up .holdover).anyRunning = false := by decide +kernel
theorem wit_dips : (15 : Nat) < 16 ∧ (up .run).dip = none ∧
    (let s := withFlds { up .hold with dip := some ⟨97251, 97500, 0x8000⟩ } [(Reg.BRD_MODE_HOLD_SUPPLY, 1)]
     s.dip = some ⟨97251, 97500, 0x8000⟩ ∧ 97500 + 2500 ≤ s.now ∧ s.now - 2499 - 97500 ≤ 2500000 ∧
     s.get Reg.BRD_MODE_HOLD_HOST = 0 ∧ s.get Reg.BRD_MODE_HOLD_THROTTLE = 0) ∧
    2500000 < ({ up .hold with now := 2600000 } : State).now - 2499 - 97500 := by decide +kernel
theorem wit_seal : (up .sealed).mode = .sealed ∧ ({ up .sealed with window := some 100000 } : State).window = some 100000 ∧
    100000 ≤ (up .sealed).now := by decide
theorem wit_clear : (up .run).mode ≠ .tripped ∧ (up .tripped).mode = .tripped ∧ (7 : Nat) < (up .run).part.ranks := by decide
theorem wit_link : State.reset.perst = true ∧ (up .setup).perst = false ∧ (up .setup).get Reg.PCI_LINK_FLIT = 0 ∧
    (up .setup).dmaStopped = false ∧ (up .setup).holdHits = [] ∧ (up .setup).busMaster = true ∧ State.reset.busMaster = false := by
  decide +kernel

theorem wit_rings : (63 : Nat) < 64 ∧ wordBits 0x8004003F 20 16 = 4 ∧ wordBits 0x8010003F 20 16 = 16 ∧ wordBits 0x8004003F 5 0 = 63 ∧
    wordBits 0x80040002 7 0 = 2 ∧
    (let s := withFlds (up .setup) [(Reg.PCI_CQ_CFG_EN 63, 1)]
     s.get (Reg.PCI_SQ_CFG_EN 63) = 0 ∧ s.get (Reg.PCI_CQ_CFG_EN 63) = 1 ∧ (up .setup).get (Reg.PCI_CQ_CFG_EN 63) = 0 ∧
     (s.cq 63).owed = 0 ∧ ∀ q, q < 64 → s.get (Reg.PCI_SQ_CFG_EN q) ≠ 1) ∧
    (ringed (up .setup) []).get (Reg.PCI_SQ_CFG_EN 63) = 1 ∧ ((ringed (up .setup) []).cq 63).owed ≠ 0 := by decide +kernel
theorem wit_ringCfg : wordBits 0x0004003F 31 31 = 0 ∧ wordBits 0x0003003F 20 16 < 4 ∧ 16 < wordBits 0x0011003F 20 16 ∧
    wordBits 0x00040001 7 0 < 2 ∧ (255 : Nat) < 256 ∧
    (withFlds (up .setup) [(pendingBit 255, 1)]).get (pendingBit 255) = 1 ∧ (up .setup).holding = [] := by decide +kernel
theorem wit_doorbells : let s := ringed (up .setup) []
    s.get (Reg.PCI_SQ_CFG_EN 63) = 1 ∧ (s.sq 63).err = none ∧ wordBits 15 15 0 < s.sqSize 63 ∧
    ringDist (s.sqSize 63) 15 (s.sq 63).tail ≤ ringDist (s.sqSize 63) ((s.sq 63).head + s.sqSize 63 - 1) (s.sq 63).tail ∧
    s.sqSize 63 ≤ wordBits 16 15 0 ∧
    ringDist (s.sqSize 63) ((s.sq 63).head + s.sqSize 63 - 1) (s.sq 63).tail < ringDist (s.sqSize 63) 0 (s.sq 63).tail ∧
    (up .setup).get (Reg.PCI_SQ_CFG_EN 63) = 0 ∧ (up .setup).get (Reg.PCI_CQ_CFG_EN 63) = 0 ∧ s.get (Reg.PCI_CQ_CFG_EN 63) = 1 ∧
    s.cqSize 63 ≤ wordBits 16 15 0 ∧
    ringDist (s.cqSize 63) 0 (s.cq 63).head ≤ ringDist (s.cqSize 63) (s.cq 63).tail (s.cq 63).head ∧
    ringDist (s.cqSize 63) (s.cq 63).tail (s.cq 63).head < ringDist (s.cqSize 63) 1 (s.cq 63).head ∧
    ((s.setSq 63 { s.sq 63 with err := some 4 }).sq 63).err ≠ none := by decide +kernel
theorem wit_fetch : let s := ringed (up .setup) []
    s.canFetch 63 2 = true ∧
    (let q : State := s.setSq 63 { s.sq 63 with queue := [⟨9, 2, true, none⟩] }
     q.fetching 63 9 = some ⟨9, 2, true, none⟩ ∧ (q.fetching 63 9).isSome = true) ∧
    slotField (slotWith [(0, 1), (8, 1), (23, 1)]) 8 4 = 1 ∧ slotField (slotWith [(0, 1), (8, 1), (23, 1)]) 23 1 = 1 ∧ (3 : Nat) < 4 ∧
    (let c := withFlds { s with epoch := 100096, now := 100096, cqs := [(63, { cqDefault 0 with count := 1, oldest := 34816 })] }
      [(Reg.PCI_CQ_COAL_TIME 63, 255)]
     c.epoch.toNat % 256 = 0 ∧ c.get (Reg.PCI_CQ_COAL_TIME 63) ≠ 0 ∧ (c.cq 63).count ≠ 0 ∧
     (c.cq 63).oldest + c.get (Reg.PCI_CQ_COAL_TIME 63) * 256 ≤ c.now) := by decide +kernel

/-! ### Decisions -/

theorem wit_fits : (0 : Nat) < 1 ∧ fits [] 0 0 1 0 = true := by decide

/-- The part in ARMED with a descriptor at the front of SQ 63. -/
def offered (d : Desc) : State := ringed (up .armed) [d]

theorem wit_shot : let d := shotDesc 4 []
    (offered d).front 63 = some d ∧ d.sq < 64 ∧ (offered d).gang = none ∧ d.typ = 1 ∧ d.ranks.length ≤ 1 ∧
    shotAnswer (offered d) [] d = none ∧ d.rankMask.testBit 7 = true ∧ (d.engines 7).testBit 23 = true := by decide +kernel
theorem wit_deliverable : (offered (shotDesc 4 [])).deliverable := ⟨by decide +kernel, by decide +kernel, by decide +kernel⟩
theorem wit_shot_declined : let d := desc 4 1 1 [(48, 0x80), (64, 200000), (128, 31), (288, 0xFFFF)] [slotWith [(0, 1)]]
    shotAnswer (offered d) [] d = some (0x48, 8) ∧ d.ranks.length ≤ 1 ∧ extLimit (desc 4 0xFF 0 [] []).typ = none := by decide +kernel

/-- A gang on Ranks 0 and 7. -/
def gangDesc : Desc :=
  desc 4 1 2 [(48, 0x81), (64, 200000), (128, 1000), (288, 0xFFFF), (304, 1)] [slotWith [(0, 1)], slotWith [(0, 0x800000)]]
/-- The gang in preparation, with the answers of its Ranks. -/
def ganged (l : List (Nat × Option Nat)) : State := { offered gangDesc with gang := some ⟨gangDesc, none, l⟩ }
theorem wit_gang : gangDesc.typ = 1 ∧ 1 < gangDesc.ranks.length ∧ formatFail (offered gangDesc) gangDesc = none ∧
    shotBoard (offered gangDesc) [] gangDesc = none ∧ (7 ∈ gangDesc.ranks) ∧ (∀ a ∈ [(0, (none : Option Nat))], a.1 ≠ 7) ∧
    (∀ r ∈ gangDesc.ranks, ∃ a ∈ [(0, (none : Option Nat)), (7, none)], a.1 = r) ∧ epochReset (ganged []) gangDesc = false ∧
    admissionClosed (ganged []) = false ∧ (7, some 0x50) ∈ [(0, (none : Option Nat)), (7, some 0x50)] := by decide +kernel
theorem wit_gang_lowest : ∀ r' c', (r', some c') ∈ [(0, (none : Option Nat)), (7, some 0x7F)] →
    0x7F < c' ∨ (0x7F = c' ∧ 7 ≤ r') := by simp
theorem wit_lowestCode : let d := desc 4 1 1 [(48, 0x80), (64, 200000), (128, 31), (288, 0xFFFF)] [slotWith [(0, 1)]]
    shotAnswer (offered d) [] d = some (0x48, 8) ∧ formatFail (offered d) d = none ∧
    (0x48, 8) ∈ reports (shotBoard (offered d) [] d) (((offered d).namedRanks d).map fun r => (r, shotRank (offered d) [] d r)) := by
  decide +kernel

/-- An ABORT of every shot of SQ 63, with IMMEDIATE. -/
def abortDesc : Desc := desc 6 2 0 [(256, 63), (264, 1)] []
theorem wit_abort : (offered abortDesc).front 63 = some abortDesc ∧ abortDesc.typ = 2 ∧ abortAnswer (offered abortDesc) abortDesc = none ∧
    (offered abortDesc).shots.any (targeted abortDesc) = false ∧
    ({ offered abortDesc with shots := [shotIn (shotDesc 4 []) .running] } : State).shots.any (targeted abortDesc) = true ∧
    (let d := desc 6 2 0 [(64, 1)] []
     abortAnswer (offered d) d = some (0x42, 15)) := by decide +kernel
theorem wit_nop : let d := desc 6 0x30 0 [] []
    (offered d).front 63 = some d ∧ d.typ = 0x30 ∧ nopAnswer (offered d) d = none ∧
    (let e := desc 6 0x30 0 [(256, 1)] []
     nopAnswer (offered e) e = some (0x42, 15)) := by decide +kernel

/-! ### Untimed work and stream windows -/

/-- A LOAD_MICRO of the last word of engine 23 on Rank 7, a LOAD_NANO of the last nanoword, a LOAD_CACHE of the last unit, inline. -/
def microDesc : Desc := desc 6 0x10 1 [(48, 0x80), (256, 0x800000), (288, 8191), (304, 1)] [7]
def nanoDesc : Desc := desc 6 0x11 1 [(48, 0x80), (256, 65535), (272, 1)] [9]
def cacheDesc : Desc := desc 6 0x12 1 [(48, 0x80), (256, 1572863), (288, 1)] [11]
theorem wit_loads : ∀ d ∈ [microDesc, nanoDesc, cacheDesc], (offered d).front 63 = some d ∧ d.extCount ≠ 0 ∧
    loadAnswer (offered d) [] d = none := by decide +kernel
theorem wit_loads_read : let d := desc 6 0x10 0 [(48, 0x80), (256, 0x800000), (288, 8191), (304, 1), (320, 64)] []
    let e := desc 6 0x11 0 [(48, 0x80), (256, 65535), (272, 1), (320, 64)] []
    let c := desc 6 0x12 0 [(48, 0x80), (256, 1572863), (288, 1), (320, 64)] []
    (List.replicate 1 (some (0 : BitVec 32))).length = d.loadCount * d.loadWords ∧ loadAnswer (offered d) [] d = none ∧
    (List.replicate 1 (some (0 : BitVec 256))).length = e.loadCount ∧ loadAnswer (offered e) [] e = none ∧
    (List.replicate 4 (some (0 : BitVec 32))).length = c.loadCount * c.loadWords ∧ loadAnswer (offered c) [] c = none ∧
    (let b := desc 6 0x10 1 [(48, 0x80), (288, 8191), (304, 1)] [7]
     loadAnswer (offered b) [] b = some (0x47, 8)) := by decide +kernel

/-- A load under way with its image. -/
def loading (d : Desc) (k : WorkKind) (l : List (Option (BitVec 32))) : State :=
  { ringed (up .setup) [] with works := [{ newWork (up .setup) d k with image := l }] }
theorem wit_loadComplete : ∀ x ∈ [(microDesc, WorkKind.loadMicro, [none]), (cacheDesc, .loadCache, [some 1, none, some 3, some 4]),
      (nanoDesc, .loadNano, List.replicate 7 (some 1) ++ [none])],
    ((loading x.1 x.2.1 x.2.2).work? 6).map (fun w => (w.desc, w.kind)) = some (x.1, x.2.1) ∧
    x.2.2.any Option.isNone = decide ((8 : BitVec 4) ≠ 0) ∧ x.1.loadDest + x.1.loadCount ≤ x.1.loadLimit ∧
    ∀ r ∈ x.1.ranks, r < (up .setup).part.ranks := by decide +kernel
theorem wit_loadComplete_whole : [some (1 : BitVec 32)].any Option.isNone = decide ((0 : BitVec 4) ≠ 0) := by decide

/-! ### Windows, sets and the life of a shot -/

/-- A shot that claims engine 23 and drive port 31 of Rank 7, and a window of stream 255 that plays for it. -/
def ownerShot : Desc := shotDesc 4 [(63, 1)]
def winDesc (l : List (Nat × Nat)) : Desc :=
  desc 6 0x13 0 ([(48, 0x80), (64, 200000), (128, 1000), (256, 255), (304, 63), (320, 5), (336, 4), (352, 1),
    (368, 1), (384, 25), (448, 64)] ++ l) []
def winFirst : Desc := winDesc [(264, 0x17), (312, 31)]
def winOffer (d : Desc) : State :=
  { withFlds (offered d) [(⟨Reg.PCI_STREAM_CAP, 31, 0⟩, 100000)] with
                   shots := [shotIn ownerShot .admitted],
                   streams := if d.wseq = 0 then [] else [(7 * 256 + 255, ⟨true, false, 23, 4, 0, 0, 1, false⟩)] }
theorem wit_window : let d := winFirst
    (winOffer d).front 63 = some d ∧ d.typ = 0x13 ∧ (winOffer d).gang = none ∧ ([0, 0, 0, 0] : List (BitVec 32)).length * 4 = d.wBytes ∧
    windowAnswer (winOffer d) [] d = none ∧ (d.wRank, d.wStream) = (7, 255) ∧
    (let b := winDesc [(264, 0x17), (312, 30)]
     windowAnswer (winOffer b) [] b = some (0x47, 8) ∧ b.wBytes = 16) := by decide +kernel

/-- An ALLOC of set 4095 with one segment, a RECYCLE and a RELEASE of it. -/
def allocDesc : Desc := desc 6 0x20 0 [(256, 4095), (288, 1), (352, 1), (384, 64)] []
def recycleDesc : Desc := desc 6 0x20 0 [(256, 4095), (272, 1), (288, 1)] []
def releaseDesc : Desc := desc 6 0x21 0 [(256, 4095)] []
def filledOne : Filled := ⟨0, 0, 4, 0, 0, 0, false, none, true⟩
def setReady (s : State) : State :=
  { s with rsets := [(4095, { rsetDefault 0 with st := .ready, segs := 1, stride := 1, base := 64, pages := [firstPage s.part], held := 1,
                                                 count := 1, filled := [filledOne] })] }
theorem wit_sets : (offered allocDesc).front 63 = some allocDesc ∧ allocDesc.typ = 0x20 ∧ allocDesc.setOp ≠ 1 ∧
    allocAnswer (offered allocDesc) [] allocDesc = none ∧
    allocAnswer (setReady (offered allocDesc)) [] allocDesc = some (0x47, 8) ∧
    (setReady (offered recycleDesc)).front 63 = some recycleDesc ∧ recycleDesc.setOp = 1 ∧
    recycleAnswer (setReady (offered recycleDesc)) recycleDesc = none ∧ recycleAnswer (offered recycleDesc) recycleDesc = some (0x46, 8) ∧
    (setReady (offered releaseDesc)).front 63 = some releaseDesc ∧ releaseDesc.typ = 0x21 ∧
    releaseAnswer (setReady (offered releaseDesc)) [] releaseDesc = none ∧
    releaseAnswer (offered releaseDesc) [] releaseDesc = some (0x46, 8) := by decide +kernel
def working (d : Desc) (k : WorkKind) : State := { setReady (ringed (up .setup) []) with works := [newWork (up .setup) d k] }
theorem wit_setWork : (∀ x ∈ [(allocDesc, WorkKind.alloc), (recycleDesc, .recycle), (releaseDesc, .release)],
      (working x.1 x.2).work? 6 = some (newWork (up .setup) x.1 x.2) ∧ (newWork (up .setup) x.1 x.2).done = false) ∧
    [firstPage (up .setup).part + 1].length = allocDesc.setUnits ∧ [firstPage (up .setup).part + 1].Nodup ∧
    (∀ p ∈ [firstPage (up .setup).part + 1], firstPage (up .setup).part ≤ p ∧ p < firstPage (up .setup).part + poolUnits (up .setup).part ∧
      ∀ x ∈ (working allocDesc .alloc).rsets, p ∉ x.2.pages) ∧
    (∀ n ∈ releaseDesc.releaseSets, ((working releaseDesc .release).rset n).recycling = 0 ∧
      ∀ f ∈ ((working releaseDesc .release).rset n).filled, f.delivered = true) := by decide +kernel
theorem wit_setWork_deliverable : (working allocDesc .alloc).deliverable := ⟨by decide +kernel, by decide +kernel, by decide +kernel⟩

/-- The shot admitted, at an epoch; running with its engine in RUN; and with nothing left to do. -/
def atEpoch (n : Nat) (s : State) : State := { s with epoch := BitVec.ofNat 64 n, now := n }
def admitted (n : Nat) : State := atEpoch n { ringed (up .armed) [] with shots := [shotIn ownerShot .admitted] }
def ledShot (n : Nat) : State := (admitted n).setEngine 7 23 { engineDefault 0 with phase := .lead, shot := 4 }
def running (n : Nat) (g : Engine) : State :=
  (atEpoch n { ringed (up .run) [] with shots := [shotIn ownerShot .running] }).setEngine 7 23 { g with shot := 4 }
theorem wit_life : let x := shotIn ownerShot .admitted
    let y := shotIn ownerShot .running
    (admitted 199744).shot? 4 = some x ∧ (admitted 199744).leadShot 7 23 = some x ∧ ((admitted 199744).engine 7 23).phase = .idle ∧
    (ledShot 200000).led x = true ∧ x.phase = .admitted ∧ x.abort = none ∧ claimsPort x.desc 7 31 = true ∧ claimsPort x.desc 7 95 = false ∧
    (running 201000 { engineDefault 0 with phase := .run }).anyEngine y = true ∧ y.started = true ∧
    (running 201000 (engineDefault 0)).anyEngine y = false ∧ y.exclusive = true ∧ y.phase = .running ∧
    (running 201000 (engineDefault 0)).shotSpent y = true ∧ (running 201000 (engineDefault 0)).mode = .run ∧
    y.flow = true ∧ y.desc.startEpoch + y.desc.span + 5000 ≤ (running 206000 (engineDefault 0)).epoch.toNat := by decide +kernel
theorem wit_life_other : let s := { running 201000 (engineDefault 0) with shots := [shotIn ownerShot .running, shotIn (shotDesc 5 []) .running] }
    ∃ z ∈ s.shots, z.desc.uid ≠ 4 ∧ z.phase = .running := ⟨shotIn (shotDesc 5 []) .running, by simp, by decide, rfl⟩

/-- A running gang of which Rank 0 has failed at 200100, with a draining engine on Rank 7. -/
def stopGang : Desc :=
  desc 4 1 2 [(48, 0x81), (64, 200000), (128, 1000), (288, 0xFFFF), (304, 1)] [slotWith [(0, 1)], slotWith [(0, 0x800000)]]
def gangFailed : State :=
  (atEpoch 200124 { ringed (up .run) [] with shots := [{ shotIn stopGang .running with failed := [(0, 200100)] }] }).setEngine 7 23
    { engineDefault 0 with phase := .drain, shot := 4 }
/-- An ABORT at its epoch with its target in a phase, and a stream window of the shot. -/
def aborting (d : Desc) (ph : ShotPhase) : State :=
  { running 200500 { engineDefault 0 with phase := .run } with
    shots := [{ shotIn ownerShot ph with abortedBy := [6] }], works := [{ newWork (up .setup) d .abort with endAt := 200500 }] }
def winPlaying (n : Nat) (e : Bool) : State :=
  { running n (engineDefault 0) with wins := [⟨winFirst, 4, 0, [none, some 1], e, 200600, 24, 0, []⟩] }
theorem wit_stops : (∀ ph ∈ [ShotPhase.admitted, .running], let s := aborting abortDesc ph
      s.work? 6 = some { newWork (up .setup) abortDesc .abort with endAt := 200500 } ∧ 200500 ≤ s.now ∧ (abortDesc.body 33 0 1 = 1) ∧
      s.shots.all fun x => decide (6 ∈ x.abortedBy ∧ x.phase = ph)) ∧
    (let x := { shotIn stopGang .running with failed := [(0, 200100)] }
     gangFailed.shot? 4 = some x ∧ x.failed.find? (fun g => decide (g.1 = 0)) = some (0, 200100) ∧ x.desc.gangStop = true ∧
     1 < x.desc.ranks.length ∧ x.gangStop = none ∧ 7 ∈ x.desc.ranks ∧ (∀ g ∈ x.failed, g.1 ≠ 7) ∧ (gangFailed.engine 7 23).phase = .drain ∧
     (gangFailed.engine 7 23).shot = 4) ∧
    ((winPlaying 201000 false).win? 6).isSome = true ∧ winFirst.startEpoch + winFirst.span ≤ (winPlaying 201000 false).epoch.toNat ∧
    (0 : Nat) < winFirst.wSegs ∧ winFirst.extCount = 0 ∧ winFirst.startEpoch ≤ (winPlaying 183744 false).epoch.toNat + 16256 ∧
    (winPlaying 183744 false).epoch.toNat < winFirst.startEpoch ∧ (winPlaying 199999 false).epoch.toNat < winFirst.startEpoch := by
  decide +kernel

theorem wit_final : let x := { shotIn ownerShot .ended with started := true, endAt := 200000 }
    let s : State := { running 200640 (engineDefault 0) with shots := [x] }
    s.shot? 4 = some x ∧ x.endAt + 640 ≤ s.now ∧ s.wins = [] ∧ s.results = [] ∧
    (let w := { newWork (up .setup) abortDesc .abort with done := true }
     let t : State := { ringed (up .setup) [] with works := [w] }
     t.shot? 6 = none ∧ t.work? 6 = some w ∧ t.shots = []) ∧
    (let t : State := { winPlaying 201000 true with shots := [] }
     t.shot? 6 = none ∧ t.work? 6 = none ∧ (t.win? 6).map StreamWin.ended = some true) := by decide +kernel
theorem wit_final_deliverable : (running 200640 (engineDefault 0)).deliverable := ⟨by decide +kernel, by decide +kernel, by decide +kernel⟩

/-! ### Engines, ports and traps -/

/-- A shot with engine 23, drive port 31, 15 staging slots and the nanoword 65535 of Rank 7. -/
def playShot : Desc := shotDesc 4 [(63, 1), (176, 15), (384, 65535), (400, 1)]
/-- The shot running at 200000, with its engine in a micro-state. -/
def playing (g : Engine) : State :=
  (atEpoch 200000 { ringed (up .run) [] with shots := [shotIn playShot .running] }).setEngine 7 23 { g with shot := 4 }
/-- The engine about to issue a microword at the last address, given by OP, COND and NANO. -/
def word (op cond nano : Nat) : BitVec 32 := BitVec.ofNat 32 (op * 2 ^ 27 + cond * 2 ^ 24 + nano * 256)
def issuing (w : BitVec 32) (g : Engine) : State :=
  { playing { g with phase := .run, nextIssue := 200000, pc := 8191 } with micro := [(1572863, ⟨w, false⟩)] }
def idleEngine : Engine := engineDefault 0
theorem wit_mayIssue : ∀ x ∈ [(0, word 0 7 0 ||| 0xFF), (1, word 1 0 65535), (2, word 2 0 8191), (3, word 3 0 8191), (4, word 4 0 0),
      (5, word 5 3 65535), (6, word 6 3 8191), (7, word 7 3 65535), (8, word 8 3 65535), (9, word 9 3 65535), (10, word 10 3 0),
      (11, word 11 0 15), (12, word 12 0 15), (13, word 13 0 0), (14, word 14 0 0)],
    (issuing x.2 idleEngine).mayIssue 7 23 x.1 x.2 := by unfold State.mayIssue; decide +kernel
theorem wit_issueCases : let g (s : State) : Engine := s.engine 7 23
    let s := issuing (word 3 0 8191) idleEngine
    let f := issuing (word 3 0 8191) { idleEngine with rstack := [1, 2, 3, 4] }
    let l := issuing (word 6 3 8191) { idleEngine with c3 := 1 }
    let m := issuing (word 6 3 8191) { idleEngine with c3 := 2 }
    condHolds s (g s) 0 = true ∧ condHolds s (g s) 7 = false ∧ (g s).rstack.length < 4 ∧ 4 ≤ (g f).rstack.length ∧ (g s).rstack = [] ∧
    (g f).rstack = 1 :: [2, 3, 4] ∧ (g s).counter 3 = 0 ∧ (g l).counter 3 = 1 ∧ (g m).counter 3 ≠ 0 ∧ (g m).counter 3 ≠ 1 := by
  decide +kernel

/-- Nanowords: HALT of drive port 31; ARMS of local tone 255 with 15 distinct targets. -/
def haltNano : BitVec 256 := BitVec.ofNat 256 (2 ^ 252 + 2 ^ 95 + 2 * 2 ^ 93 + 31 * 2 ^ 88)
def armsNano : BitVec 256 :=
  BitVec.ofNat 256 (6 * 2 ^ 252 + 255 * 2 ^ 208 + ((List.range 16).foldl (fun a v => a + (if v = 13 then 0 else v + 1) * 2 ^ (13 * v)) 0))
def withNano (n : BitVec 256) (p : Bool) (s : State) : State := { s with nano := [(524287, ⟨n, p⟩)], nanoRes := [(524287, true)] }
theorem wit_nanowords : let g : Engine := { idleEngine with shot := 4 }
    let s (w : BitVec 32) (n : BitVec 256) (p : Bool) := withNano n p (issuing w g)
    condHolds (s (word 1 0 65535) haltNano false) g 0 = true ∧ nanoClaimed (s (word 1 0 65535) haltNano false) 4 7 65535 = true ∧
    nanoClaimed (s (word 1 0 65534) haltNano false) 4 7 65534 = false ∧ nwPlayOk haltNano.toNat = true ∧ nwPlayOk armsNano.toNat = false ∧
    (s (word 1 0 65535) haltNano true).nanoWord 7 65535 = ⟨haltNano, true⟩ ∧
    (s (word 9 3 65535) armsNano false).nanoWord 7 65535 = ⟨armsNano, false⟩ ∧ nwArmsOk armsNano.toNat = true ∧
    armsSource armsNano.toNat = 255 ∧ (stagedTargets (armsTargets armsNano.toNat)).length = 15 ∧
    (s (word 9 3 65535) armsNano false).stagingOf 7 4 = 0 ∧ (s (word 9 3 65535) armsNano false).gambitClaim 4 7 = 15 ∧
    ((idleEngine.setLatch 3 { latchDefault with st := .armed }).latch 3).st ≠ .unarmed ∧ (idleEngine.latch 3).st = .unarmed := by
  decide +kernel

/-- A latch that holds a verdict, and an engine that waits. -/
def fullLatch : Latch :=
  { latchDefault with st := .full, source := 255, value := 15, targets := (List.range 16).map (8176 + ·), stagedAt := 199000, staged := true }
def waiting (what : WaitFor) (l : Latch) : State :=
  playing { idleEngine.setLatch 3 l with phase := .wait, pc := 8191, nextIssue := 199984, wait := some ⟨what, 199984, 200000⟩ }
theorem wit_staging : let s := waiting (.brv 3) { fullLatch with staged := false, stagedAt := 200000 }
    ((s.engine 7 23).latch 3).st ≠ .unarmed ∧ ((s.engine 7 23).latch 3).stagedAt ≤ s.epoch.toNat ∧
    ((s.engine 7 23).latch 3).staged = false := by decide +kernel
theorem wit_poll : ∀ x ∈ [WaitFor.brv 3, .alarm 15, .window 7 false, .window 7 true],
    (waiting x fullLatch).atPoll 7 23 ⟨x, 199984, 200000⟩ := by unfold State.atPoll; decide +kernel
theorem wit_waits : let w (x : WaitFor) : Wait := ⟨x, 199984, 200000⟩
    let s (x : WaitFor) := waiting x fullLatch
    ((s (.brv 3)).engine 7 23 |>.latch 3).st = .full ∧ ((s (.brv 3)).engine 7 23 |>.latch 3).staged = true ∧
    ((waiting (.brv 3) { fullLatch with st := .armed }).engine 7 23 |>.latch 3).st ≠ .full ∧ (w (.brv 3)).limit ≤ (s (.brv 3)).epoch.toNat ∧
    waitMet (s (.window 7 true)) (w (.window 7 true)) = true ∧ waitMet (s (.window 7 false)) (w (.window 7 false)) = false ∧
    waitMet { s (.alarm 15) with alarmFired := [(15, some 199984)] } (w (.alarm 15)) = true ∧
    waitMet { s (.alarm 15) with alarmFired := [(15, some 199983)] } (w (.alarm 15)) = false := by decide +kernel

/-- The engine with a nanoword of PLAY at its balls. -/
def applying (n : BitVec 256) : State := playing { idleEngine with phase := .run, nextIssue := 200100, balls := [⟨200000, .nano 65535 n⟩] }
theorem wit_apply (n : BitVec 256) : (applying n).part.ranks = 8 ∧ ((applying n).engine 7 23).balls = ⟨200000, .nano 65535 n⟩ :: [] ∧
    (applying n).epoch.toNat = 200000 ∧ (applying n).commanded = [] := ⟨rfl, rfl, rfl, rfl⟩
theorem wit_apply_shot : (applying haltNano).shot? ((applying haltNano).engine 7 23).shot = some (shotIn playShot .running) ∧
    (applying haltNano).unstopped (shotIn playShot .running) = true := by decide +kernel
theorem wit_apply_lower : (∀ i, i < 23 → ((applying haltNano).engine 7 i).dueNano (applying haltNano).epoch.toNat = none) ∧
    (applying haltNano).get (Reg.SE_CFGe_FLUX_ONLY 7 23) = 0 := by decide +kernel
theorem wit_apply_halt : nwKind haltNano.toNat = 1 ∧ pcValid (bitsOf haltNano.toNat 95 0) = true ∧
    pcValid (bitsOf haltNano.toNat 191 96) = false ∧
    portCmdOk playShot 7 (pcTgt (bitsOf haltNano.toNat 95 0)) (pcCommand 23 (bitsOf haltNano.toNat 95 0)) = true := by decide +kernel

/-- A port of the running shot in the middle of a piece, with a command due. -/
def cmd (opc : Nat) (streamed : Bool) : PortCmd := ⟨23, opc, streamed, 255, 2, 31, 1, 65535, 0x7FFF, 4095⟩
def ported (p : Nat) (x : Piece) (q : List (Nat × PortCmd)) : State :=
  { playing idleEngine with ports := [(7 * 96 + p, { portDefault 0 with
      shot := some 4, piece := x, eng := 23, start := 199968, stop := 200032, queue := q })] }
theorem wit_ports : (∀ p ∈ [31, 63, 95], ∀ x ∈ [Piece.rest, .cached 0 4 4095, .streamed 255 0 0 1], ∀ opc ∈ [0, 1, 2, 3],
      ((ported p x [(200000, cmd opc false)]).port 7 p).dueCmd 200000 = some (cmd opc false)) ∧
    (Piece.streamed 255 0 0 1).isStreamed = true ∧ (Piece.cached 0 4 4095).isStreamed = false ∧
    (ported 31 .rest []).streamReady 7 31 (cmd 0 true) 200000 = none ∧
    ((ported 31 (.cached 0 4 4095) [(200000, cmd 1 false)]).port 7 31).commitDue 31 200000 = false := by decide +kernel
/-- A port near its segment boundary. -/
def committing (x : Piece) (c : Option PortCmd) : State :=
  { playing idleEngine with ports := [(7 * 96 + 31, { portDefault 0 with
      shot := some 4, piece := x, eng := 23, start := 199952, stop := 200001, pend := c })] }
theorem wit_commits : ∀ x ∈ [Piece.rest, .cached 0 4 0, .cached 0 4 4095], ∀ c ∈ [none, some (cmd 1 false), some (cmd 2 false)],
    ((committing x c).port 7 31).commitDue 31 (committing x c).epoch.toNat = true ∧ ((committing x c).port 7 31).pend = c ∧
    ((committing x c).port 7 31).piece = x := by decide +kernel

/-- The engine in a trap. -/
def trapped (due : Nat) : State := playing { idleEngine with phase := .run, nextIssue := 200100, trap := some ⟨1, due, 8191, false⟩ }
theorem wit_traps : (7 : Nat) < (trapped 200000).part.ranks ∧ (playing { idleEngine with phase := .lead }).epoch.toNat ≤ 200256 ∧
    200256 ≤ (playing { idleEngine with phase := .lead }).epoch.toNat + 256 ∧
    ((playing { idleEngine with phase := .lead }).engine 7 23).readsAhead = true ∧
    ((trapped 200000).engine 7 23).trap = some ⟨1, 200000, 8191, false⟩ ∧ (trapped 200000).epoch.toNat ≤ 200000 ∧
    ((trapped 200000).memAt (microCopy 7 23 8191)) = wordDefault 0 ∧
    (∀ i, i < 16 → ((trapped 200000).memAt (saveArea 7 23 + i)).poison = false ∧ ((trapped 200000).memAt (saveArea 7 23 + i)).flips = 0) ∧
    199999 < (trapped 199999).epoch.toNat ∧ ((trapped 199999).shot? 4).isSome = true := by decide +kernel
theorem wit_starves : let d := winDesc [(264, 0x17), (312, 31)]
    let s : State := { running 181000 (engineDefault 0) with
      wins := [⟨d, 4, 0, [], false, 200600, 24, 0, []⟩], streams := [(7 * 256 + 255, ⟨true, false, 23, 4, 0, 0, 1, false⟩)] }
    (s.lastWin 7 255).map StreamWin.desc = some d ∧ (s.stream 7 255).isOpen = true ∧ (s.stream 7 255).starved = false ∧ d.wLast = false ∧
    leadTick d ≤ s.epoch.toNat := by decide +kernel
theorem wit_cacheRewrite : let s : State := { up .setup with cache := [(50331647, ⟨5, true⟩)], mem := [(57671679, ⟨7, false, 0⟩)] }
    2 * 3145727 + 1 < cacheWords ∧ (s.cacheWord 7 (2 * 3145727 + 1)).poison = true ∧ (s.memAt (cacheCopy 7 3145727)) = ⟨7, false, 0⟩ := by
  decide +kernel

/-! ### Outputs, windows and verdicts -/

/-- A shot that claims a drive channel of line 15, RO_TX 1, marker 7, FFX and BIAS 31 of Rank 7. -/
def outShot : Desc := shotDesc 4 [(63, 1), (95, 1), (127, 1), (159, 1), (167, 1)]
theorem wit_lineCtrl : (up .setup).rankWritable 7 ∧ lineClaimed (up .setup) 7 17 = false ∧ lineClaimed (up .setup) 7 18 = false ∧
    (let s : State := { up .armed with shots := [shotIn outShot .admitted] }
     s.rankOpen 7 = true ∧ lineClaimed s 7 15 = true ∧ lineClaimed s 7 17 = true ∧ lineClaimed s 7 18 = true) :=
  ⟨⟨by decide, by decide, by decide⟩, by decide +kernel⟩
theorem wit_lineEffects : let s : State := { up .setup with
      lines := [(7 * 18 + 17, { lineDefault 0 with pend := [(100000, false, 3, 7), (100064, true, 0, 0)] })]
      mrkMute := [(7, ⟨0xFF, [(100000, 0x7F)]⟩)], slotWrites := [⟨100000, 7 * 128 + 127, 5, 6⟩]
      interpPend := [(100000, 7 * 64 + 63, true)] }
    s.epoch.toNat % 4 = 0 ∧ 7 < s.part.ranks ∧ (s.line 7 17).pend = (100000, false, 3, 7) :: [(100064, true, 0, 0)] ∧ 100000 ≤ s.now ∧
    (s.mrkMuteAt 7).pend = (100000, 0x7F) :: [] ∧
    s.slotWrites.find? (fun x => decide (x.slot = 7 * 128 + 127)) = some ⟨100000, 7 * 128 + 127, 5, 6⟩ ∧
    s.interpPend.find? (fun e => decide (e.2.1 = 7 * 64 + 63)) = some (100000, 7 * 64 + 63, true) ∧
    (({ s with lines := [(7 * 18 + 17, { lineDefault 0 with settle := some 100000 })] } : State).line 7 17).settle = some 100000 ∧
    (0 : Int) ≤ 32767 := by decide +kernel

/-- Rank 7 with its last flux and bias outputs in a state. -/
def fluxed (f : Ffx) (b : Bia) : State := { up .setup with ffx := [(255, f)], bia := [(255, b)] }
def ffx0 : Ffx := ffxDefault 0
def bia0 : Bia := biaDefault 0
theorem wit_flux : (∀ q ∈ [(⟨1, true, 99936⟩ : RangeReq), ⟨1, false, 99999⟩],
      ((fluxed { ffx0 with range := some q } { bia0 with range := some q }).ffxAt 7 31).range = some q ∧
      ((fluxed { ffx0 with range := some q } { bia0 with range := some q }).biaAt 7 31).range = some q ∧
      fluxClaimed (fluxed ffx0 bia0) 7 false 31 = false ∧ fluxClaimed (fluxed ffx0 bia0) 7 true 31 = false) ∧
    (let s := fluxed { ffx0 with hold := some 100000 } { bia0 with hold := some 100000 }
     (s.ffxAt 7 31).hold = some 100000 ∧ (s.biaAt 7 31).hold = some 100000 ∧ 100000 ≤ s.now) ∧
    (let s := fluxed { ffx0 with valPend := some (100000, -32768), limPend := [(100000, 7)], pdPend := [(100000, true, 8, -32768)] }
       { bia0 with valPend := some (100000, 0xFFFFF), last := some 75000, limPend := [(100000, 7)], clrAt := some 100000, code := 15 }
     (s.ffxAt 7 31).valPend = some (100000, -32768) ∧ (s.ffxAt 7 31).limPend = (100000, 7) :: [] ∧
     (s.ffxAt 7 31).pdPend = (100000, true, 8, -32768) :: [] ∧ (s.ffxAt 7 31).hold = none ∧
     (s.biaAt 7 31).valPend = some (100000, 0xFFFFF) ∧ (∀ z, (s.biaAt 7 31).last = some z → z + 25000 ≤ s.now) ∧
     (s.biaAt 7 31).limPend = (100000, 7) :: [] ∧ (s.biaAt 7 31).clrAt = some 100000 ∧ 7 < s.part.ranks ∧
     biasClamp (s.biaAt 7 31).span 7 (s.biaAt 7 31).code ≠ (s.biaAt 7 31).code ∧ biasClamp 2 7 7 = 7) := by
  refine ⟨by decide +kernel, by decide +kernel, rfl, rfl, rfl, rfl, rfl, ?_, rfl, rfl, by decide, by decide +kernel, by decide +kernel⟩
  intro z h; cases h; decide

/-- An acquisition of tone 31 of Rank 7 for the shot 4, and the last window and trace unit of the Rank in a state. -/
def acq (mode : Nat) : AcqCmd := ⟨4, 23, 7, 31, 199000, 200000, mode, 256, 15, 15, true, false, 255⟩
def rwin0 : RWin := rwinDefault 0
def unit0 : TraceUnit := unitDefault 0
def acquiring (w : RWin) (u : TraceUnit) (l : List AcqCmd) : State :=
  { playing idleEngine with rwins := [(255, w)], traces := [(15, u)], acqs := l }
theorem wit_tones : let s : State := { playing idleEngine with
      tones := [(255, { toneDefault 0 with filtPend := [(200000, 7)] })], feeds := [(15, { feedDefault 0 with gainPend := [(200000, 31)] })] }
    (s.tone 7 31).filtPend = (200000, 7) :: [] ∧ 200000 ≤ s.now ∧ s.epoch.toNat % 4 = 0 ∧ 7 ≠ (s.tone 7 31).filt ∧
    (s.feed 7 (31 / 16)).gainPend = (200000, 31) :: [] ∧ 31 ≠ (s.feed 7 (31 / 16)).gain := by decide +kernel
theorem wit_arms : (∀ m ∈ [0, 1, 2], nextArm (acquiring rwin0 unit0 [acq m]) 7 31 = some (acq m) ∧
      throughBusy (acquiring rwin0 unit0 [acq m]) 4 = false) ∧
    ((acquiring rwin0 unit0 []).rwin 7 31).cmd = none ∧ ((acquiring rwin0 unit0 []).unit 7 1).st = .ready ∧
    (let s := acquiring { rwin0 with cmd := some (acq 1), openAt := some 198977 } unit0 [acq 0]
     nextArm s 7 31 = some (acq 0) ∧ (s.rwin 7 31).cmd = some (acq 1) ∧ s.epoch.toNat < 198977 + 4 * (acq 1).frames) := by decide +kernel
theorem wit_opens : (let s := acquiring { rwin0 with cmd := some (acq 1), armedAt := 199997 } { unit0 with st := .armed, cmd := some (acq 1) } []
      (s.rwin 7 31).cmd = some (acq 1) ∧ (s.rwin 7 31).openAt = none ∧ (s.rwin 7 31).src = 0 ∧ 200000 = nextFrame (s.rwin 7 31).armedAt ∧
      (s.unit 7 1).cmd = some (acq 1) ∧ (s.unit 7 1).st = .armed) ∧
    (let s := acquiring { rwin0 with cmd := some (acq 1), src := 5, trig := some 199999 }
       { unit0 with st := .armed, cmd := some (acq 2), src := 5, trig := some 199999 } []
     (s.rwin 7 31).src ≠ 0 ∧ (s.rwin 7 31).trig = some 199999 ∧ 200000 = nextFrame 199999 ∧ (s.unit 7 1).cmd = some (acq 2) ∧
     (s.unit 7 1).trig = some 199999 ∧ (s.unit 7 1).src ≠ 0) ∧
    (let s := acquiring { rwin0 with cmd := some (acq 1), src := 5, armedAt := 199980, timeout := 16 }
       { unit0 with st := .armed, cmd := some (acq 2), src := 5, armedAt := 199980, timeout := 16 } []
     (s.rwin 7 31).trig = none ∧ (s.rwin 7 31).openAt = none ∧ (s.rwin 7 31).armedAt + (s.rwin 7 31).timeout + 4 ≤ s.epoch.toNat ∧
     (s.unit 7 1).trig = none ∧ (s.unit 7 1).armedAt + (s.unit 7 1).timeout + 4 ≤ s.epoch.toNat) := by decide +kernel
theorem wit_ends : (let s := acquiring { rwin0 with cmd := some (acq 1), openAt := some 198976, aI := 2 ^ 40, inv := 1 } unit0 []
      (s.rwin 7 31).cmd = some (acq 1) ∧ (s.rwin 7 31).openAt = some 198976 ∧ 198976 + 4 * (acq 1).frames ≤ s.epoch.toNat ∧
      (s.rwin 7 31).inv ≠ 0) ∧
    (∀ m ∈ [1, 2], let s := acquiring rwin0 { unit0 with st := .capturing, cmd := some (acq m), openAt := some 198976, endAt := 200000 } []
      (s.unit 7 1).cmd = some (acq m) ∧ (s.unit 7 1).st = .capturing ∧ (s.unit 7 1).openAt = some 198976 ∧
      (s.unit 7 1).endAt ≤ s.epoch.toNat ∧ (s.rwin 7 (acq m).tone).cmd ≠ some (acq m) ∧ recordTurn s (7 * 34 + 1) = true) ∧
    (∀ n ∈ [199960, 199500], let s := acquiring rwin0 { unit0 with st := .rearming, endTick := n } []
      (s.unit 7 1).st = .rearming ∧ (s.unit 7 1).endTick + 40 ≤ s.now ∧ s.now ≤ (s.unit 7 1).endTick + 500) := by decide +kernel

/-- The last tone's result at a place of its way, with its route 63 on port 3. -/
def recData : RecData := ⟨4, kindResult, 7, 31, 255, 15, 0, 0, [], 0, 0, 256, 15, 15, 1, -1, 0, 0, none⟩
def res (e : Nat) (v : Option Nat) (d : Option RecData) (f q : Bool) : Res := ⟨4, 23, 7, 31, e, v, d, f, q, false⟩
def routed (x : Res) (slots v : Nat) (lane : LaneState) : State :=
  { withFlds (playing { idleEngine.setLatch 3 { latchDefault with st := .armed, source := 255 } with phase := .wait })
      [(Reg.MSH_RTEn_STATE 63, 1), (Reg.MSH_RTEn_IN 63, 4), (Reg.MSH_RTEn_OUT 63, 8), (Reg.MSH_RTEn_SLOTS_SLOTS 63, slots),
       (Reg.MSH_SRCt_V 255, v), (Reg.MSH_SRCt_ROUTE 255, 63), (Reg.MSH_SRCt_SLOT 255, 511), (Reg.DLD_PORTp_CFG_LANE_EN 3, 8)] with
    results := [x], lanes := [(15, { laneDefault 0 with st := lane })] }
theorem wit_onFabric : (let x := res 199980 (some 13) none false false
      (routed x 1 1 .trained).res? 7 31 (fabricDue (routed x 1 1 .trained)) = some x) ∧
    (let x := res 199980 none (some recData) false false
     let s := routed x 1 1 .trained
     s.res? 7 31 (fabricDue s) = some x ∧ recordTurn s (recordPlace recData) = true ∧ (s.shot? 4).isSome = true ∧ playShot.recset = 0xFFFF) ∧
    (let x := res 199980 (some 3) (some recData) false false
     let y := { shotIn (desc 4 1 1 [(48, 0x80), (64, 200000), (128, 1000), (288, 4095)] [0]) .running with segsLeft := 1 }
     let s : State := { setReady (routed x 1 1 .trained) with shots := [y] }
     s.shot? recData.shot = some y ∧ y.desc.recset = 4095 ∧ (s.rset 4095).through = false ∧ recData.cap = none ∧
     recordTurn s (recordPlace recData) = true ∧ s.res? 7 31 (fabricDue s) = some x) := by decide +kernel
theorem wit_enqueue : let x := res 199972 (some 13) none true false
    let s (n v : Nat) (l : LaneState) := routed x n v l
    (s 1 1 .trained).res? 7 31 (enqueueDue (s 1 1 .trained)) = some x ∧ enqueueTurn (s 1 1 .trained) x = true ∧
    (s 1 0 .trained).toneRoute 255 = none ∧ (s 1 1 .trained).toneRoute 255 = some (63, 511) ∧
    (s 1 1 .trained).results.any (sameSlot (s 1 1 .trained) x) = false ∧ (s 1 1 .trained).routeOut 63 = [3] ∧
    (s 1 1 .trained).routeUse 3 63 < (s 1 1 .trained).routeSlots 63 ∧ (s 1 1 .trained).portIsUp 3 = true ∧
    (s 0 1 .trained).routeSlots 63 ≤ (s 0 1 .trained).routeUse 3 63 ∧ (s 1 1 .check).portIsUp 3 = false ∧
    (let y : Res := { x with tone := 30, enqueued := true }
     let t : State := { withFlds (s 1 1 .trained) [(Reg.MSH_SRCt_V 254, 1), (Reg.MSH_SRCt_ROUTE 254, 63), (Reg.MSH_SRCt_SLOT 254, 511)] with
       results := [y, x] }
     t.results.any (sameSlot t x) = true ∧ enqueueTurn t x = true ∧ t.res? 7 31 (enqueueDue t) = some x) := by decide +kernel
theorem wit_deliver : (let x := res 199956 (some 14) none true true
      let s := routed x 1 1 .trained
      s.res? 7 31 (deliverDue s) = some x ∧ x.verdict.getD 0xF < 16) ∧
    (let s : State := { routed (res 0 none none true true) 1 1 .trained with rxHeld := [⟨63, 511, 14, 200016, 1, false, false⟩] }
     s.rxHeld.any (forwardDue s 63) = true ∧ s.rxHeld.filter (forwardDue s 63) = [⟨63, 511, 14, 200016, 1, false, false⟩] ∧
     s.routeOut 63 = [3] ∧ s.routeUse 3 63 < s.routeSlots 63 ∧ s.portIsUp 3 = true) ∧
    (let s : State := { playing idleEngine with rxHeld := [⟨63, 511, 14, 200000, 1, true, false⟩] }
     s.rxHeld.any (routedDue s 63) = true) ∧
    ({ playing idleEngine with losses := [(63, 199984)] } : State).lossDue 63 = true := by decide +kernel

/-- Set 4095 with a record to deliver. -/
def toDeliver (th : Bool) (words : Nat) : State :=
  { running 200000 idleEngine with rsets := [(4095, { rsetDefault 0 with
      st := .ready, through := th, segs := 1, pay := 4, stride := 5, base := 64, mirror := some 8, pages := [firstPage (up .run).part],
      held := 1, count := 1, filled := [⟨0, 0, 4, 0xA5, words, 0, th, if th then some ⟨7, 1, 199000, words⟩ else none, false⟩] })] }
theorem wit_records : (toDeliver false 1).delivers = true ∧
    ((toDeliver false 1).rset 4095).nextOut = some ⟨0, 0, 4, 0xA5, 1, 0, false, none, false⟩ ∧
    (∀ a ∈ [16, 24, 32, 40, 48, 56, 64], ((toDeliver false 1).memAt (((toDeliver false 1).rset 4095).word a)).flips = 0 ∧
      ((toDeliver false 1).memAt (((toDeliver false 1).rset 4095).word a)).poison = false) ∧
    ((toDeliver true 64).rset 4095).nextOut = some ⟨0, 0, 4, 0xA5, 64, 0, true, some ⟨7, 1, 199000, 64⟩, false⟩ ∧
    drainSafe ((toDeliver true 64).rset 4095) ⟨0, 0, 4, 0xA5, 64, 0, true, some ⟨7, 1, 199000, 64⟩, false⟩
      (((toDeliver true 64).shot? 4).map fun x => x.desc.d2hBw).get! = false := by decide +kernel
theorem wit_scrub : (withFlds (up .setup) [(Reg.BRD_RS_CFG_SCRUB_EN, 1)]).flag Reg.BRD_RS_CFG_SCRUB_EN = true ∧
    (∀ n ∈ [0, 1, 2, 3], let s : State := { up .setup with scrubPos := memWords (up .setup).part - 1, mem := [(memWords (up .setup).part - 1, ⟨5, true, n⟩)] }
      s.scrubPos < memWords s.part ∧ (s.memAt s.scrubPos).flips = n ∧ (s.memAt s.scrubPos).poison = true) ∧
    memWords (up .setup).part ≤ ({ up .setup with scrubPos := memWords (up .setup).part } : State).scrubPos := by decide +kernel
theorem wit_inject : (up .setup).mode ≠ .test ∧ (up .test).mode = .test ∧
    (up .test).get64 Reg.BRD_MEM_INJ_ADDR_LO / 8 < memWords (up .test).part ∧ ((up .test).memAt 0).flips = 0 ∧
    (({ up .test with mem := [(0, ⟨5, false, 1⟩)] } : State).memAt 0).flips ≠ 0 ∧
    memWords (up .test).part ≤ (withFlds (up .test) [(whole (Reg.BRD_MEM_INJ_ADDR_LO + 4), 255)]).get64 Reg.BRD_MEM_INJ_ADDR_LO / 8 := by
  decide +kernel

/-! ### Lanes, ports, routes, triggers and intervals -/

/-- Port 3 with its last lane in a state and the loopback mode m. -/
def laned (x : DLane) (m : Nat) (l : List (Fld × Nat)) : State :=
  { withFlds (up .setup) ([(Reg.DLD_PORTp_CFG_LANE_EN 3, 8), (Reg.DLD_PORTp_CFG_LOOP 3, m)] ++ l) with lanes := [(15, x)] }
def lane0 : DLane := laneDefault 0
/-- The lane in a lock state, in the middle of a frame. -/
def laneIn (st : LaneState) : DLane := { lane0 with st := st, rxPos := 63, txPos := 62, frames := 200 }
theorem wit_sends : (∀ m ∈ [0, 1, 2], (laned (laneIn .trained) m []).transmits 15 = true) ∧ (laned (laneIn .trained) 0 []).portIsUp 3 = true ∧
    (laneIn .trained).txPos < 64 ∧
    (let s : State := { laned (laneIn .trained) 0 [] with lossNotices := [(3, 63), (3, 0)] }
     (lossBlocks s 3).length = 2) ∧
    (let s : State := { laned (laneIn .trained) 0 [] with txQueue := [⟨3, 63, 511, 14, 5, 1⟩, ⟨3, 63, 504, 2, 5, 1⟩] }
     lossBlocks s 3 = [] ∧ ∃ v ∈ s.txQueue, v.port = 3) ∧
    (laned (laneIn .trained) 0 []).txQueue = [] ∧ (laned (laneIn .trained) 0 []).mgmtTurn 15 = true ∧ (laneIn .trained).lastCheck = 0 ∧
    (let x := { laneIn .trained with lastCheck := 136, lastId := 100 }
     x.lastCheck + 64 ≤ x.frames ∧ x.lastCheck ≠ 0 ∧ x.lastCheck + 32 ≤ x.frames ∧ x.lastId < x.lastCheck + 32) := by
  refine ⟨by decide +kernel, by decide +kernel, by decide, by decide +kernel, ⟨by decide +kernel, ⟨3, 63, 511, 14, 5, 1⟩, by simp, rfl⟩, ?_⟩
  decide +kernel

/-- A verdict block of route 63 and its last group, due at a tick, with a hop count. -/
def block (due hop : Nat) : BitVec 64 := verdictBlock 63 63 due hop fun i => if i = 7 then 14 else 0xD
def receiving (st : LaneState) (inp : Nat) (l : List RxVerdict) : State :=
  { laned (laneIn st) 0 [(Reg.MSH_RTEn_STATE 63, 1), (Reg.MSH_RTEn_IN 63, inp)] with rxHeld := l }
theorem wit_receives : (∀ st ∈ [LaneState.block, .frame, .check, .trained, .loop], (laneIn st).receives = true) ∧
    (laneIn .frame).locked = false ∧ (laneIn .check).locked = true ∧
    ({ up .setup with edgeAcceptedAt := some 99745 } : State).edgeWindow = true ∧ (up .setup).edgeWindow = false := by decide
theorem wit_blocks : (0x1DB3C72E859A64#56).toNat = 0x1DB3C72E859A64 ∧ (0#56).toNat ≠ 0x1DB3C72E859A64 ∧
    blockCrc (block 0 1).toNat = (block 0 1).toNat % 256 ∧ blockCrc (block 0 1 ^^^ 1).toNat ≠ (block 0 1 ^^^ 1).toNat % 256 ∧
    (receiving .trained 3 []).portIsUp 3 = true ∧ (receiving .check 3 []).portIsUp 3 = false ∧ vbRoute (block 0 1).toNat = 63 ∧
    (receiving .trained 3 []).declared 63 = true ∧ (receiving .trained 2 []).routeIn 63 ≠ 3 ∧
    max 1 ((receiving .trained 3 []).get Reg.MSH_CTRL_MAX_HOPS) < vbHop (block 0 15).toNat ∧
    vbHop (block 0 1).toNat ≤ max 1 ((receiving .trained 3 []).get Reg.MSH_CTRL_MAX_HOPS) ∧
    decodeDue 100000 (vbDue (block (100000 + 15) 1).toNat) = none ∧ decodeDue 100000 (vbDue (block (100000 + 16) 1).toNat) = some 100016 ∧
    decodeDue 100000 (vbDue (block (100000 + 150) 1).toNat) = some 100150 ∧ blockVerdicts (block 100150 1).toNat = [(511, 14)] := by
  decide +kernel
theorem wit_duplicate : ∃ y ∈ (receiving .trained 3 [⟨63, 511, 14, 100016, 1, true, true⟩]).rxHeld, y.route = 63 ∧ y.due = 100016 ∧
    ∃ v ∈ blockVerdicts (block 100016 1).toNat, v.1 = y.slot :=
  ⟨⟨63, 511, 14, 100016, 1, true, true⟩, List.mem_cons_self, rfl, rfl, ⟨511, 14⟩, by decide +kernel, rfl⟩
theorem wit_eqReq : eqReqOk 0xFF00001F000F = true ∧ eqReqOk 0x10 = false ∧
    (laned (laneIn .check) 0 []).get (Reg.DLD_LANEl_TXEQ_EQ_REMOTE 15) = 1 ∧
    (laned (laneIn .check) 0 [(Reg.DLD_LANEl_TXEQ_EQ_REMOTE 15, 0)]).get (Reg.DLD_LANEl_TXEQ_EQ_REMOTE 15) = 0 := by decide +kernel

theorem wit_laneStates : (15 : Nat) < 16 ∧
    (let x := { laneIn .block with headers := List.replicate 64 true }
     x.headers.length = 64 ∧ ∀ h ∈ x.headers, h = true) ∧ 2 ≤ { laneIn .frame with commas := 2 }.commas ∧
    (let x := { laneIn .frame with headers := List.replicate 16 false }
     16 ≤ (x.headers.filter fun b => !b).length) ∧
    (let x := { laneIn .trained with missed := 2 }
     x.locked = true ∧ 2 ≤ x.missed) ∧
    (let s : State := { withFlds (up .setup) [(Reg.DLD_PORTp_CFG_AUTO 3, 1)] with now := 2500000, lanes := [(15, laneIn .fault)] }
     (s.lane 15).st = .fault ∧ (s.lane 15).since + 2500000 ≤ s.now ∧ s.get (Reg.DLD_PORTp_CFG_AUTO (15 / 4)) = 1) ∧
    lane0.txPos = 64 := by decide +kernel
theorem wit_portCfg : (laned (laneIn .trained) 0 []).boardOpen ∧ (receiving .trained 3 []).portRouted 3 = true ∧
    wordBits 0x0 3 0 ≠ (receiving .trained 3 []).get (Reg.DLD_PORTp_CFG_LANE_EN 3) ∧
    (let s : State := { receiving .trained 3 [] with shots := [shotIn (desc 1 1 1 [(48, 0x80), (384, 0xFE00)] []) .admitted] }
     s.portClaimed 3 = true ∧ s.routeClaimed 63 = true ∧ wordBits 0x308 10 8 ≠ s.get (Reg.DLD_PORTp_CFG_LOOP 3)) ∧
    (laned (laneIn .trained) 0 []).portRouted 3 = false ∧ (laned (laneIn .trained) 0 []).portClaimed 3 = false ∧
    (laned (laneIn .trained) 0 []).routeClaimed 63 = false :=
  ⟨⟨by decide, by decide⟩, by decide +kernel, by decide +kernel, by decide +kernel, by decide +kernel, by decide +kernel, by decide +kernel⟩

/-- The last TDC channel in a state, with TRIG_IN 3 as START and STOP. -/
def timing (x : Tdc) (rep : Nat) : State :=
  { withFlds (up .setup) [(Reg.TDC_CFGc_START_SRC 7, 0x23), (Reg.TDC_CFGc_STOP_SRC 7, 0x23), (Reg.TDC_CFGc_REPEAT 7, rep)] with tdcs := [(7, x)] }
def measuring (st : TdcState) (start : Nat) (m : List (Nat × Nat)) (r : List Nat) : Tdc := ⟨st, start, start, 399, m, r, 0⟩
theorem wit_tdc : (up .setup).boardOpen ∧ (measuring .armed 0 [] []).active = true ∧ (measuring .done 0 [] []).active = false ∧
    (timing (measuring .armed 0 [] []) 0).sourceFires ((timing (measuring .armed 0 [] []) 0).get (Reg.TDC_CFGc_START_SRC 7)) 399 = true ∧
    (timing (measuring .done 0 [] []) 1).get (Reg.TDC_CFGc_REPEAT 7) = 1 ∧ (timing (measuring .done 0 [] []) 0).get (Reg.TDC_CFGc_REPEAT 7) ≠ 1 :=
  ⟨⟨by decide, by decide⟩, by decide, by decide, by decide +kernel, by decide +kernel, by decide +kernel⟩
theorem wit_tdcStop : let s (start : Nat) (m : List (Nat × Nat)) (r : List Nat) := (timing (measuring .running start m r) 0).put (Reg.TDC_WINc_WIN 7) 99998
    let own := fun (f : Nat) => (100000 : Nat) = (s 100000 [] []).now ∧ (measuring .running 100000 [] []).f0 = f
    own 399 ∧ ¬own 0 ∧ (((s 0 [] []).get (Reg.TDC_WINc_WIN 7) + 1 : Nat) : Int) * 400 < (measuring .running 0 [] []).interval 100000 399 ∧
    (measuring .running 100000 [] []).interval 100000 0 ≤ -2 ∧ -2 < (measuring .running 100000 [] []).interval 100000 398 ∧
    (measuring .running 100000 [] []).stopBusy 100000 0 = false ∧ (measuring .running 99990 [(99998, 0)] []).stopBusy 100000 0 = true ∧
    ((measuring .running 99990 [] []).interval 100000 0 : Int) ≤ ((s 99990 [] []).get (Reg.TDC_WINc_WIN 7) + 1 : Nat) * 400 ∧
    (measuring .running 0 [] []).reported.length < min 16 (max 1 ((s 0 [] []).get (Reg.TDC_CFGc_MAX_STOPS 7))) ∧
    ¬(measuring .running 0 [] (List.range 16)).reported.length < min 16 (max 1 ((s 0 [] []).get (Reg.TDC_CFGc_MAX_STOPS 7))) ∧
    (measuring .running 0 [] []).startTick + (s 0 [] []).get (Reg.TDC_WINc_WIN 7) + 1 ≤ 100000 ∧
    (measuring .converting 0 [] (List.range 16)).reported.length ≤ 16 ∧ (measuring .converting 0 [] []).f0 < 400 := by decide +kernel

/-! ### Sensors, heaters and the monitor -/

def sns0 : Sns := snsDefault 0
def heater0 : Heater := heaterDefault 0
/-- The last sensor in a state, at a tick, with the last heater's loop on it. -/
def sensing (n : Nat) (x : Sns) (h : Heater) (l : List (Fld × Nat)) : State :=
  { atEpoch n (withFlds (up .setup) ([(Reg.SNS_CFGc_EN 7, 1), (Reg.SNS_PERc_PER 7, 256), (Reg.SNS_CFGc_TAU 7, 1), (Reg.SNS_CFGc_CURVE 7, 41),
      (Reg.HTR_LOOPk_SRC 3, 7), (Reg.HTR_CTRLk_LOOP_EN 3, 1)] ++ l)) with
    snss := [(7, x)], heaters := [(3, h)], curves := [(31, [(100, 0xFFFFFFFF), (1000, 7), (2000, 0)])] }
def boundary : Nat := 2 ^ 18 * 256
theorem wit_boundary : (sensing boundary sns0 heater0 []).snsAtBoundary 7 = true ∧
    (sensing boundary sns0 heater0 []).get (Reg.SNS_CFGc_EN 7) = 1 ∧ sns0.on = false ∧
    (let x := { sns0 with on := true, per := 256, tau := 1, cur := some ⟨0, boundary, false⟩ }
     let s := sensing boundary x heater0 []
     s.snsAtBoundary 7 = true ∧ s.get (Reg.SNS_CFGc_EXC 7) = x.exc ∧ s.get (Reg.SNS_PERc_PER 7) = x.per ∧ x.left = 0 ∧ x.faulty = false ∧
     x.cal = false ∧ s.mode ≠ .tripped) ∧
    (let s := sensing boundary sns0 heater0 [(Reg.SNS_CFGc_EN 7, 0)]
     s.snsAtBoundary 7 = true ∧ s.get (Reg.SNS_CFGc_EN 7) ≠ 1) := by decide +kernel
theorem wit_post : (∀ b ∈ [false, true], let s := sensing 200000 { sns0 with on := true, per := 256, post := some (200000, ⟨5, boundary, b⟩) } heater0 []
      (s.sns 7).post = some (200000, ⟨5, boundary, b⟩) ∧ 200000 ≤ s.now ∧
      s.get (Reg.HTR_CTRLk_LOOP_EN 3) = 1 ∧ s.get (Reg.HTR_LOOPk_SRC 3) = 7 ∧ ¬s.get (Reg.HTR_CTRLk_LOOP_EN 0) = 1 ∧
      s.curveTemp 7 1500 = .temp 3 ∧ s.curveTemp 7 2001 = .range ∧ s.curveTemp 7 100 = .temp 0xFFFFFFFF) ∧
    (sensing 0 sns0 heater0 [(⟨Reg.HTR_TMAXk 3, 31, 0⟩, 3)]).rd (Reg.HTR_TMAXk 3) = 3#32 ∧
    4 ≤ ((sensing 0 sns0 heater0 [(⟨Reg.HTR_TMAXk 3, 31, 0⟩, 4)]).rd (Reg.HTR_TMAXk 3)).toNat := by decide +kernel
theorem wit_fault : { sns0 with on := true }.on = true ∧ sns0.faultCm = false ∧ sns0.faultComp = false ∧ outsideWindow sns0.cm (-501) = true ∧
    outsideWindow sns0.cm 501 = true := by decide +kernel
theorem wit_heaters : (∀ e ∈ [0, 1], let s := sensing 200000 sns0 { heater0 with code := 2 ^ 20 - 1, valPend := some (200000, 2 ^ 20 - 1), codePend := some (200000, 5) } [(Reg.HTR_CTRLk_LOOP_EN 3, e), (Reg.HTR_STATk_COMP 3, e)]
      (s.heater 3).valPend = some (200000, 2 ^ 20 - 1) ∧ (s.heater 3).codePend = some (200000, 5) ∧ 200000 ≤ s.now ∧
      s.get (Reg.HTR_CTRLk_LOOP_EN 3) = e ∧ (s.heater 3).code < 2 ^ 20 ∧ s.get (Reg.HTR_STATk_COMP 3) = e ∧ s.mode = .setup) ∧
    (let s := sensing 2500000000 sns0 heater0 [(Reg.HTR_SAFEk_TIMEOUT 3, 1)]
     s.get (Reg.HTR_SAFEk_TIMEOUT 3) ≠ 0 ∧ s.get (Reg.HTR_STATk_STATE 3) ≠ htrNoSensor ∧
     (s.heater 3).last + s.get (Reg.HTR_SAFEk_TIMEOUT 3) * 2500000000 ≤ s.now) := by decide +kernel

/-- A visit of the last entry in a step, and the monitor at the end of a slot. -/
def visit (st : MonStep) (done avg groups : Nat) : MonVisit := ⟨false, false, 127, 0, 5, avg, 8, groups, st, done, 0, 0, false, false⟩
def urgent (st : MonStep) (done avg : Nat) : MonVisit := ⟨true, true, 0, 0, 5, avg, 8, 1, st, done, 0, 0, false, false⟩
def monitored (m : Mode) (run : Nat) (v w : Option MonVisit) (u : List MonReq) : State :=
  { atEpoch 725000 (withFlds (up m) [(Reg.MON_CTRL_RUN, run)]) with mon := ⟨some 100000, false, v, w, 0, false, u⟩ }
theorem wit_monitor : (∀ v ∈ [visit .discharge 0 1 1, visit .settle 3 1 1, visit .settle 4 1 1, visit .sample 0 8 256, visit .sample 255 8 256,
        visit .sample 1 1 1, urgent .sample 1 1],
      let s := monitored .setup 1 (some v) none []
      s.slotEnded = true ∧ s.mon.visit = some v ∧ s.get Reg.MON_CTRL_RUN = 1 ∧ s.mon.fresh = false ∧
      s.mon.lp = decide (s.get Reg.MON_CTRL_LP = 1) ∧ s.mode ≠ .calibrate ∧ s.mon.urgent = []) ∧
    (monitored .setup 1 none none []).monAbsent ((monitored .setup 1 none none []).monVisit 0).src = false ∧
    (let s := monitored .setup 1 (some (urgent .sample 1 1)) (some (visit .discharge 0 1 1)) []
     s.mon.held = some (visit .discharge 0 1 1) ∧ s.monAbsent (visit .discharge 0 1 1).src = false) ∧
    (let q : MonReq := ⟨true, 0, 0, 1, 8⟩
     let s := monitored .setup 1 (some (visit .sample 0 8 1)) none [q]
     s.mon.urgent = q :: [] ∧ s.monAbsent q.src = false ∧ (visit .sample 0 8 1).done + 1 < 2 ^ (visit .sample 0 8 1).avg) ∧
    (monitored .setup 0 (some (visit .settle 0 8 1)) none []).get Reg.MON_CTRL_RUN = 0 ∧
    (monitored .calibrate 1 (some (visit .settle 0 8 1)) none []).mode = .calibrate ∧
    (withFlds (up .setup) [(Reg.MON_URG_BUSY, 1)]).get Reg.MON_URG_BUSY = 1 ∧ (up .setup).get Reg.MON_URG_BUSY = 0 := by decide +kernel

/-! ### The mailbox -/

/-- Slot 7 holding a posted request. -/
def asked (md : Mode) (cmd : Nat) (p : List (BitVec 8)) (len : Nat) : State :=
  { up md with mbx := [(7, ⟨.posted, 255, cmd, len, 0, 1, p, 0, none⟩)] }
/-- A request whose LEN is the length of its payload. -/
def ask (md : Mode) (cmd : Nat) (p : List Nat) : State := asked md cmd (p.map (BitVec.ofNat 8)) p.length
theorem wit_post_mailbox : ((up .setup).slotOf 7).st ≠ .posted ∧ (up .setup).serves 0x0001 = true ∧ (up .setup).server ≠ 0 ∧
    (up .setup).serves 0xFFFF = false ∧ ((ask .setup 1 []).slotOf 7).st = .posted ∧
    (let s : State := { up .setup with mbx := [(7, ⟨.posted, 255, 1, 0, 65535, 1, [], 0, none⟩)], now := 65535 * 2500000 }
     (s.slotOf 7).expire ≠ 0 ∧ (s.slotOf 7).postedAt + (s.slotOf 7).expire * 2500000 ≤ s.now) := by decide +kernel
theorem wit_ready : ∀ c ∈ [0x0001, 0x0002, 0x0101, 0x0102, 0x0103, 0x0104, 0x0201, 0x0202, 0x0203, 0x0204, 0x0301, 0x0302, 0x0303, 0x0401, 0x0402,
    0x0403, 0x0404, 0x0405, 0x0501, 0x0502, 0x0503], ∀ m ∈ [Mode.setup, .sealed], (ask m c []).mbxReady 7 c 40 = true := by decide +kernel
theorem wit_lengths : 2016 < ((asked .setup 1 [] 2017).slotOf 7).len ∧ ((asked .setup 1 [] 2016).slotOf 7).len ≤ 2016 ∧
    (let m := (ask .setup 0x0104 [0, 0, 0, 0, 0xE0, 7]).slotOf 7
     m.len = 6 ∧ m.num 4 2 = 2016) ∧
    (let m := (ask .setup 0x0203 [7, 17]).slotOf 7
     m.len = 2 ∧ m.byte 0 < (up .setup).part.ranks ∧ m.byte 1 < 18) ∧ 18 ≤ ((ask .setup 0x0203 [7, 18]).slotOf 7).byte 1 ∧
    (let s : State := { ask .setup 0x0302 [0, 0, 0, 0] with tripLog := [5] }
     (s.slotOf 7).len = 4 ∧ s.tripLog.reverse[(s.slotOf 7).num 0 4]? = some 5) ∧
    (ask .setup 0x0302 [0, 0, 0, 0]).tripLog.length ≤ ((ask .setup 0x0302 [0, 0, 0, 0]).slotOf 7).num 0 4 ∧
    (let m := (ask .setup 0x0403 [255, 0, 199, 0, 128, 0]).slotOf 7
     m.len = 6 ∧ 1 ≤ m.num 4 2 ∧ m.num 4 2 ≤ 128) ∧ 128 < ((ask .setup 0x0403 [255, 0, 199, 0, 129, 0]).slotOf 7).num 4 2 ∧
    (let s : State := { ask .setup 0x0502 [15] with lanes := [(15, laneIn .trained)] }
     (s.slotOf 7).len = 1 ∧ (s.slotOf 7).byte 0 < 16 ∧ (s.lane ((s.slotOf 7).byte 0)).locked = true) ∧
    16 ≤ ((ask .setup 0x0502 [16]).slotOf 7).byte 0 := by decide +kernel
theorem wit_curves : (let m := (ask .setup 0x0401 (31 :: 0 :: 199 :: 0 :: 1 :: 0 :: 0 :: 0 :: List.replicate 12 9)).slotOf 7
      m.num 4 2 = 1 ∧ m.len = 8 + 12 * m.num 4 2 ∧ m.byte 0 < 32 ∧ m.num 2 2 + m.num 4 2 ≤ 200) ∧
    32 ≤ ((ask .setup 0x0401 [32]).slotOf 7).byte 0 ∧
    (let s : State := { ask .setup 0x0402 [31, 0, 2, 0] with curveShadow := [(6200, (5, 6)), (6201, (9, 1))] }
     let m := s.slotOf 7
     let pts := (List.range (m.num 2 2)).map fun i => s.curveShadow.get curvePointDefault (m.byte 0 * 200 + i)
     m.len = 4 ∧ m.byte 0 < 32 ∧ 2 ≤ m.num 2 2 ∧ m.num 2 2 ≤ 200 ∧ (pts.map Prod.fst).Pairwise (· < ·)) ∧
    ¬2 ≤ ((ask .setup 0x0402 [31, 0, 1, 0]).slotOf 7).num 2 2 ∧ ((ask .setup 0x0405 [31]).slotOf 7).byte 0 < 32 ∧
    ((ask .setup 0x0405 [31]).slotOf 7).len = 1 ∧ ((ask .setup 0x0404 []).slotOf 7).len = 0 := by decide +kernel
theorem wit_flash : (let s := ask .sealed 0x0102 ([1, 0, 0, 0, 0, 0, 0, 0, 1, 0] ++ List.replicate 7 9)
      let m := s.slotOf 7
      m.num 8 2 = 1 ∧ m.len = 16 + m.num 8 2 ∧ s.fwAllowed = true ∧ s.fwSlotOk (m.byte 0) = true ∧ m.num 4 4 + m.num 8 2 ≤ 2 ^ 24 - 4096) ∧
    (ask .setup 0x0102 []).fwAllowed = false ∧ (ask .sealed 0x0102 [0]).fwSlotOk 0 = false ∧
    (let s := ask .sealed 0x0103 [1, 0, 0, 0, 0, 0xF0, 0xFF, 0, 1, 2, 3, 4]
     let m := s.slotOf 7
     m.len = 12 ∧ s.fwAllowed = true ∧ s.fwSlotOk (m.byte 0) = true ∧ m.num 4 4 = 2 ^ 24 - 4096) ∧
    (ask .sealed 0x0202 []).mode = .sealed ∧ (ask .setup 0x0202 []).mode ≠ .sealed := by decide +kernel
/-- A ramp table asked for. -/
def ramped (c : Nat) : Mailbox := (ask .sealed 0x0204 (7 :: c :: List.replicate 130 0x40)).slotOf 7
def ramp : List (BitVec 16) := (List.range 65).map fun i => BitVec.ofNat 16 ((ramped 17).num (2 + 2 * i) 2)
theorem ramp_eq : ramp = List.replicate 65 0x4040#16 := by decide +kernel
theorem ramp_le (x : BitVec 16) (h : x ∈ ramp) : x.toNat ≤ 0x8000 := by
  rw [ramp_eq] at h
  rw [(List.mem_replicate.mp h).2]; decide
theorem wit_ramp : (ramped 17).len = 132 ∧ (ramped 17).byte 0 < 8 ∧ (ramped 17).byte 1 < 18 ∧ ¬(ramped 18).byte 1 < 18 ∧
    ∀ x ∈ ramp, x.toNat ≤ 0x8000 :=
  ⟨by decide +kernel, by decide +kernel, by decide +kernel, by decide +kernel, ramp_le⟩
theorem wit_ports_mailbox : (let s := ask .setup 0x0503 [3]
      (s.slotOf 7).byte 0 < 4 ∧ (s.slotOf 7).len = 1 ∧ s.portClaimed 3 = false) ∧ 4 ≤ ((ask .setup 0x0503 [4]).slotOf 7).byte 0 ∧
    (let s : State := { receiving .trained 3 [] with
       shots := [shotIn (desc 1 1 1 [(48, 0x80), (384, 0xFE00)] []) .admitted], mbx := (ask .setup 0x0503 [3]).mbx }
     s.portClaimed 3 = true ∧ s.mbxReady 7 0x0503 0 = true) ∧
    (let s := ask .setup 0x0501 [3, 1]
     (s.slotOf 7).len = 2 ∧ (s.slotOf 7).byte 0 < 4 ∧ s.trainBegan 7 = none) ∧
    (∀ st ∈ [LaneState.trained, .check], let s : State := { laned (laneIn st) 0 [] with
        mbx := (ask .setup 0x0501 [3, 1]).mbx, training := some (7, 0), now := 250000000 }
      s.trainBegan 7 = some 0 ∧ s.portIsUp 3 = decide (st = .trained) ∧ 0 + 250000000 ≤ s.now) := by decide +kernel

/-! ### Calibration and temperature -/

/-- The calibration routine in a stage. -/
def calibrating (stage : Nat) (six : Bool) (l : List (Nat × Nat × Nat × List (BitVec 16))) : State :=
  { up .calibrate with routine := some ⟨stage, six, l, [], false, 0⟩ }
def stageResults (n : Nat) : List (Nat × Nat × Nat × List (BitVec 16)) :=
  ((calibrating n true []).covers n).map fun u => (u, 1, 0, [])
theorem wit_stageEnds : (∀ n ∈ [1, 2, 3, 4, 5], (calibrating n true []).stageEnds false (stageResults n) = true) ∧
    (calibrating 2 true []).stageEnds true (stageResults 6) = true ∧
    (let v := (calibrating 1 false []).get Reg.CAL_VREF_VREF
     200 * ((10050000 : Int) - (v : Int)).natAbs ≤ v ∧ ¬200 * ((10050001 : Int) - (v : Int)).natAbs ≤ v) ∧
    (calibrating 1 true []).mode = .calibrate := by decide +kernel
theorem wit_calibrationEnd : let q : Routine := ⟨6, false, [(0, 1, 0, []), (lineCal 7 17, 2, 0, [])], [], false, 0⟩
    ({ up .calibrate with routine := some q } : State).mode = .calibrate ∧ q.stage = 6 ∧ q.six = false ∧ q.opening = false ∧
    (q.results.map Prod.fst).Nodup ∧ (∀ e ∈ q.results, (e.1 < 10 ∨ e.1 ∈ (up .calibrate).allCals) ∧ e.2.1 < 16) := by decide +kernel

/-- The thermal supervisor in a state. -/
def thermal (n : Nat) (l : List (Fld × Nat)) (th : Thermal) : State := { atEpoch n (withFlds (up .run) l) with thm := th }
def thm0 : Thermal := ⟨none, false, 0, [], 0, none⟩
theorem wit_sweeps : (thermal 5 [] thm0).boardOpen ∧
    (let s := thermal 2500000 [(Reg.THM_SCHED_PERIOD, 1)] thm0
     s.server = 2 ∧ s.get Reg.THM_SCHED_PERIOD ≠ 0 ∧ s.thm.schedAt + s.get Reg.THM_SCHED_PERIOD * 2500000 ≤ s.now) ∧
    (let s := thermal 125000000 [] thm0
     s.powerGoodAt ≠ none ∧ s.thm.running = none ∧ s.thm.startAt + 125000000 ≤ s.now) ∧
    (let s := thermal 192000 [] { thm0 with running := some 0 }
     s.thm.running = some 0 ∧ 0 + 192000 ≤ s.now ∧ s.converted [none, some 320] 1 = some 320 ∧ s.converted [none, some 320] 0 = none) :=
  ⟨⟨by decide, by decide⟩, by decide +kernel, by decide +kernel, by decide +kernel⟩
theorem wit_sweep_trips : (let s := thermal 192000 [] { thm0 with running := some 0 }
      (∀ c, c < 24 → ((List.range 24).foldl (storeTemp [some 320]) s).trips c = false) ∧
      ((List.range 24).foldl (storeTemp [some 32767]) s).trips 0 = true) := by decide +kernel
theorem wit_throttle : (∀ m ∈ [Mode.armed, .run, .hold, .setup], ∀ l ∈ [7, 6],
      let s : State := { thermal 200000 [(Reg.THM_STAT_LEVEL, l)] { thm0 with changed := some 199999 } with mode := m }
      s.levelMoved = true ∧ s.get Reg.THM_STAT_LEVEL = l ∧ s.get Reg.BRD_MODE_HOLD_HOST = 0 ∧ s.get Reg.BRD_MODE_HOLD_SUPPLY = 0) ∧
    (let s : State := { up .tripped with tripOwed := true, trippedAt := some 0, now := 125000 }
     s.tripOwed = true ∧ s.trippedAt = some 0 ∧ s.dmaStopped = false ∧ s.entriesWritten = true ∧ 0 + 125000 ≤ s.now) := by decide +kernel

/-! ### Worked examples of the spec -/

/-- What a step makes of a state, if it goes on. -/
def after (c : Instr) (s : State) : Option State := match exec c s with | .next t => some t | _ => none
def afterwards (c : Instr) (o : Option State) : Option State := o.bind (after c)

/-- 00_scope.md, "reading BRD_ID". -/
theorem test_brdId : (State.reset.rd Reg.BRD_ID).toNat = 0x08840110 ∧
    (({ State.reset with part := .lq8_2 } : State).rd Reg.BRD_ID).toNat = 0x08220110 := by decide +kernel
/-- 02_timebase.md, "admitting against the cooler angle". -/
theorem test_angle : let s (g : Nat) : State := { withFlds (up .armed) [(Reg.EPO_AWINn_LO 2, 0x4000), (Reg.EPO_AWINn_HI 2, 0xC000),
        (Reg.EPO_ANG_LIM_GUARD, g), (Reg.EPO_ANG_CFG_HORIZON, 1)] with
      angle := { State.reset.angle with eRef := 10000000000, rate := 156374, pAvg := 1800000000 } }
    let d (e : Nat) := desc 1 1 0 [(16, 2), (21, 1), (64, e), (128, 25000000)] []
    angleOutside (s 512) (d 10500000000) = false ∧ angleOutside (s 1820) (d 10500000000) = false ∧
    angleOutside (s 1821) (d 10500000000) = true ∧ angleOutside (s 512) (d 10400000000) = true := by decide +kernel
/-- 03_host_rings.md, "a gang through a wrapping ring": the first bytes of the admission entry. -/
theorem test_entry : entryLow true 1 0 3 0xF 0x0A51 0 = 0x0A510F030081 := by decide
/-- 03_host_rings.md, the same example: 4 new slots from 254 to 2. -/
theorem test_ring : ringDist 256 2 254 = 4 ∧ ringDist 256 255 200 = 55 := by decide
/-- 04_admission_clock.md, "admitting a small gang". -/
theorem test_power : let c (l : List (Nat × Nat)) := slotWith ([(0, 3), (32, 15), (64, 15), (96, 15), (128, 15), (160, 1)] ++ l)
    let d := desc 1 1 2 [(48, 6)] [c [], c [(168, 1)]]
    rankPower d 1 = 382 ∧ rankPower d 2 = 432 ∧ d.power = 814 ∧
    (withFlds { up .armed with part := .lq8_4 } [(Reg.CLK_PWR_CEIL_CEIL, 21400), (Reg.THM_STAT_LEVEL, 1)]).peffNow = 18725 ∧
    ({ up .armed with part := .lq8_4 } : State).get Reg.CLK_PWR_CEIL_CEIL = 21400 := by decide +kernel
/-- 05_sequencer_engines.md, "active reset of one qubit". -/
theorem test_microwords : (mwOp 0x4800400F, mwIndex 0x4800400F, mwNano 0x4800400F, mwCycle 0x4800400F) = (9, 0, 0x40, 16) ∧
    (mwOp 0x08004198, mwNano 0x08004198, mwCycle 0x08004198) = (1, 0x41, 400) ∧
    (mwOp 0x5000000F, mwTimeout 0x5000000F) = (10, 256) ∧ (mwOp 0x70000000, mwLegal 0x70000000) = (14, true) ∧
    (stagedTargets ((List.range 16).map fun v => if v = 1 then 0x112 else if v = 14 then 0x114 else if v = 13 then 0 else 0x110)).length = 3 := by
  decide
/-- 06_segments_streams.md, Table 06-5. -/
theorem test_theta : theta 0x4000000000 0 0 (8 * 3000099 + 7) / 2 ^ 24 = 49152 ∧ theta 0x4020000000 0 0 (8 * 3000100) / 2 ^ 24 = 9216 ∧
    theta 0x4020000000 0 0 (8 * 3000100 + 1) / 2 ^ 24 = 25632 ∧ theta 0x4020000000 0 0 (8 * 3000199) / 2 ^ 24 = 34560 := by decide
/-- 07_drive_synthesis.md, Table 07-3. -/
theorem test_drive : scaleAmp 0x7FFF 0x4000 = 16384 ∧ scaleAmp 0x7FFF 0x2000 = 8192 ∧ cosTable (2 ^ 17) = 92681 ∧ sinTable (2 ^ 17) = 92681 ∧
    ((List.range 4).map fun k => mixSample 16384 0 0x6000 (2 ^ 18 * k)) = [12288, 0, -12288, 0] ∧
    ((List.range 4).map fun k => mixSample 0 8192 0x7000 (2 ^ 17 * k)) = [0, -5068, -7168, -5068] ∧
    clampCode (-12288 - 7168) 0x5000 = (-19456, false, false) ∧ clampCode (-12288 - 7168) 0x4000 = (-16384, false, true) := by decide +kernel
/-- 08_flux_bias.md, "a clamped bias setting" and the span change of FFX 3. -/
theorem test_limits : biasClamp 2 0x10000 0x30000 = 131072 ∧ biasLimit 3 0x10000 = 65536 ∧ ffxLimit 0 0x4000 = 32767 ∧
    ffxLimit 1 0x4000 = 16384 := by decide
/-- 09_readout_acquisition.md, "a weight set and a three-state region set". -/
theorem test_discriminate : let s := withFlds (up .setup) [(⟨Reg.ACQ_RGNd_j_CI 1 2 0, 31, 0⟩, 12000), (⟨Reg.ACQ_RGNd_j_CQ 1 2 0, 31, 0⟩, 4500),
      (⟨Reg.ACQ_RGNd_j_RAD 1 2 0, 31, 0⟩, 1500), (⟨Reg.ACQ_RGNd_j_CI 1 2 1, 31, 0⟩, 0xFFE890), (⟨Reg.ACQ_RGNd_j_CQ 1 2 1, 31, 0⟩, 9000),
      (⟨Reg.ACQ_RGNd_j_RAD 1 2 1, 31, 0⟩, 1500), (⟨Reg.ACQ_RGNd_j_CI 1 2 2, 31, 0⟩, 3000), (⟨Reg.ACQ_RGNd_j_CQ 1 2 2, 31, 0⟩, 0xFFD508),
      (⟨Reg.ACQ_RGNd_j_RAD 1 2 2, 31, 0⟩, 2000), (Reg.ACQ_DHDRd_NSTATES 1 2, 3)]
    pointOf 104265000 13 = 12728 ∧ pointOf 34755000 13 = 4243 ∧ pointOf 74144000 13 = 9051 ∧ pointOf 23170000 13 = 2828 ∧
    discriminate s 1 2 12728 4243 = 0 ∧ discriminate s 1 2 9051 2828 = 0xC ∧ discriminate s 1 2 9000 7000 = 0xC := by decide +kernel
/-- 10_verdict_mesh_dalid.md, "a verdict over two hops": the block sent by A. -/
theorem test_block : (verdictBlock 12 2 0xC2 1 fun i => if i = 5 then 1 else 0xD).toNat / 256 = 0x302C21DD1DDDDD := by decide +kernel
/-- 11_record_store.md, "bandwidth and space of a capture shot". -/
theorem test_pitch : segPitch 313 = 20224 ∧ setUnits 4096 313 = 1264 := by decide
/-- 13_cryostat_monitor.md, "one loop update". -/
theorem test_loop : loopUpdate 4000000 3999400 0x80000 0x4000 600000 2000 250000 250000 false false = (250150, 252000, true) := by
  decide +kernel

/-- A TDC channel with WIN 99 and MAX_STOPS 2, started at (T, 250 ps) with the given stops. -/
def started (n : Nat) (m : List (Nat × Nat)) (r : List Nat) : State :=
  { withFlds (timing ⟨.running, 100000, 100000, 250, m, r, 0⟩ 0) [(Reg.TDC_WINc_WIN 7, 99), (Reg.TDC_CFGc_MAX_STOPS 7, 2),
      (Reg.TDC_CFGc_STOP_SRC 7, 0x22)] with now := n, epoch := BitVec.ofNat 64 n }
def counts (o : Option State) : Option (List Nat × Nat × Nat × Nat) :=
  o.map fun t => ((t.tdc 7).reported, t.get (Reg.TDC_MISSc_BUSY 7), t.get (Reg.TDC_MISSc_EXTRA 7), t.get (Reg.TDC_EARLYc_LATE 7))
/-- 12_tdc_triggers.md, Table 12-3. -/
theorem test_stops : counts (after (.tdcStop 7 10) (started 100004 [(100000, 249)] [0])) = some ([0, 1360], 0, 0, 0) ∧
    counts (after (.tdcStop 7 200) (started 100004 [(100004, 10)] [0])) = some ([0], 1, 0, 0) ∧
    counts (after (.tdcStop 7 249) (started 100100 [(100004, 10)] [0, 1360])) = some ([0, 1360], 0, 1, 0) ∧
    counts (after (.tdcStop 7 251) (started 100100 [(100004, 10)] [0])) = some ([0], 0, 0, 1) ∧
    counts (after (.tdcStop 7 250) (started 100100 [(100004, 10)] [0])) = some ([0, 40000], 0, 0, 0) := by decide +kernel

/-- 14_calibration_power_thermal.md, Table 14-7: W at F + 249, V at F + 32,499 with F = 9,000,000. -/
theorem test_dip : ((afterwards .supplyRecovery ((after (.supplyWarning 3) (atEpoch 9000249 (up .run))).map fun t =>
      { t with now := 9032499, epoch := 9032499 })).map fun t =>
      (t.mode, t.get64 (Reg.PWR_DIPLOGk_START_LO 0), (t.rd (Reg.PWR_DIPLOGk_LEN 0)).toNat, t.get Reg.PWR_DIPCNT_SHORT)) =
    some (.armed, 9000000, 32500, 1) := by decide +kernel

/-! ### Well-formedness: each check refuses a term -/

theorem wf_refuses_rid : Instr.wellFormed (.registerWrite 65536 0 0) = false := by decide
theorem wf_refuses_bar0 : Instr.wellFormed (.registerWrite 0 16777216 0) = false := by decide
theorem wf_refuses_code : Instr.wellFormed (.requestUndefinedMode 0xB) = false ∧ Instr.wellFormed (.requestUndefinedMode 16) = false := by decide
theorem wf_refuses_rail : Instr.wellFormed (.supplyWarning 16) = false := by decide
theorem wf_refuses_rank : Instr.wellFormed (.clrcodeApply 8 0) = false := by decide
theorem wf_refuses_output : Instr.wellFormed (.clrcodeApply 0 32) = false := by decide
theorem wf_refuses_linkForm : Instr.wellFormed (.linkRecovery 3 16 false) = false ∧ Instr.wellFormed (.linkRecovery 1 4 true) = false ∧
    Instr.wellFormed (.linkRecovery 0 8 true) = false ∧ Instr.wellFormed (.linkRecovery 4 8 true) = false := by decide
theorem wf_refuses_alarm : Instr.wellFormed (.alarmFire 16) = false := by decide
theorem wf_refuses_angle : Instr.wellFormed (.angleWindowEdge 8) = false := by decide
theorem wf_refuses_ring : Instr.wellFormed (.sqDisable 0 64) = false := by decide
theorem wf_refuses_extensions : Instr.wellFormed (.descriptorArrival 0 0 0 (List.replicate 16 0)) = false := by decide
theorem wf_refuses_kind : Instr.wellFormed (.fetchError 0 0 4) = false := by decide
theorem wf_refuses_stream : Instr.wellFormed (.msixUnmask 0 256) = false := by decide
theorem wf_refuses_mailbox : Instr.wellFormed (.echo 8 0) = false := by decide
theorem wf_refuses_byte : Instr.wellFormed (.mailboxPost 0 256 0 0 0 0 []) = false := by decide
theorem wf_refuses_half : Instr.wellFormed (.mailboxPost 0 0 65536 0 0 0 []) = false := by decide
theorem wf_refuses_payload : Instr.wellFormed (.mailboxPost 0 0 0 1 0 0 []) = false := by decide
theorem wf_refuses_engine : Instr.wellFormed (.engineLead 0 24) = false := by decide
theorem wf_refuses_latch : Instr.wellFormed (.stagingComplete 0 0 4) = false := by decide
theorem wf_refuses_port : Instr.wellFormed (.portStart 0 96) = false := by decide
theorem wf_refuses_nano : Instr.wellFormed (.microTrap 0 0 false 65536 0) = false := by decide
theorem wf_refuses_cache : Instr.wellFormed (.cacheRewrite 0 3145728) = false := by decide
theorem wf_refuses_line : Instr.wellFormed (.lineSettingEffect 0 19) = false := by decide
theorem wf_refuses_slot : Instr.wellFormed (.slotEffect 0 128) = false := by decide
theorem wf_refuses_channel : Instr.wellFormed (.interpEffect 0 64) = false := by decide
theorem wf_refuses_unit : Instr.wellFormed (.captureEnd 0 2) = false := by decide
theorem wf_refuses_set : Instr.wellFormed (.recordDelivery 4096) = false := by decide
theorem wf_refuses_lane : Instr.wellFormed (.lockLoss 16) = false := by decide
theorem wf_refuses_dalid : Instr.wellFormed (.laneEnable 0 4 0) = false := by decide
theorem wf_refuses_unit8 : Instr.wellFormed (.tdcPost 8) = false := by decide
theorem wf_refuses_ps : Instr.wellFormed (.tdcStop 0 400) = false := by decide
theorem wf_admits : Instr.wellFormed (.tdcStop 7 399) = true ∧ Instr.wellFormed (.linkRecovery 3 16 true) = true ∧
    Instr.wellFormed (.requestUndefinedMode 0xC) = true := by decide

end Sys2Proof.Tests
end

section
/-!
What a mode request comes to before Table 01-8 is read, and a write of BRD_MODE as such a request (R34, R37, R52).
-/
namespace Sys2Proof.Machine

/-! ### A request that is not judged by Table 01-8 -/

/-- R34: a transition in progress refuses every request. -/
theorem request_of_busy {s : State} (f : State → State) (hbusy : s.get Reg.BRD_MODE_BUSY = 1) :
    request s f = s.put Reg.BRD_MODE_REQ_RESULT 9 := by
  simp [request, State.flag, State.answer, hbusy]

/-- R52: so does a power-up that is not complete. -/
theorem request_of_powerUp {s : State} (f : State → State) (hidle : s.get Reg.BRD_MODE_BUSY = 0)
    (hstage : s.get Reg.BRD_BOOT_STAGE ≠ 0xF) : request s f = s.put Reg.BRD_MODE_REQ_RESULT 6 := by
  simp [request, State.flag, State.answer, hidle, hstage]

/-- A command that makes a request waits as the request does. -/
theorem exec_waits_of_request {s : State} {c : Instr} {f : State → State} (hc : exec c s = .next (request s f)) :
    (s.get Reg.BRD_MODE_BUSY = 1 → exec c s = .next (s.put Reg.BRD_MODE_REQ_RESULT 9)) ∧
    (s.get Reg.BRD_MODE_BUSY = 0 → s.get Reg.BRD_BOOT_STAGE ≠ 0xF →
      exec c s = .next (s.put Reg.BRD_MODE_REQ_RESULT 6)) :=
  ⟨fun hbusy => hc.trans (congrArg _ (request_of_busy f hbusy)),
   fun hidle hstage => hc.trans (congrArg _ (request_of_powerUp f hidle hstage))⟩

/-! ### The commands that make a request -/

theorem regRow_brdMode : ∃ row, regRow? Reg.BRD_MODE = some (row, 0) ∧ row.base = Reg.BRD_MODE :=
  ⟨_, rfl, rfl⟩

theorem writeBoard_brdMode (s : State) (rid : Nat) {row : RegRow} (hrow : row.base = Reg.BRD_MODE) (i a : Nat) (v : Word) :
    writeBoard s rid row i a v = taken (requestCode s (wordBits v 7 4)) := if_pos hrow

theorem hostWrite_brdMode (s : State) (rid : Nat) (v : Word) :
    hostWrite s rid Reg.BRD_MODE v = requestCode s (wordBits v 7 4) := by
  obtain ⟨row, hfind, hbase⟩ := regRow_brdMode
  rw [hostWrite_board s rid _ v (by decide) hfind (rankOf_board (by decide)) (modeRefuses_low s (by decide)),
    writeBoard_brdMode s rid hbase, finish_taken]

/-- BRD_MODE is a Board register that no mode guards: every write of it is the request for the code in REQ. -/
theorem exec_registerWrite_brdMode (s : State) (rid : Nat) (v : Word) :
    exec (.registerWrite rid Reg.BRD_MODE v) s = .next (requestCode s (wordBits v 7 4)) :=
  congrArg Host.Outcome.next (hostWrite_brdMode s rid v)

theorem requestCode_is_request (s : State) (code : Nat) : ∃ f, requestCode s code = request s f := by
  unfold requestCode
  exact ⟨_, rfl⟩

theorem exec_requestUndefinedMode (s : State) {code : Nat} (hcode : 0xC ≤ code ∧ code ≤ 0xF) :
    exec (.requestUndefinedMode code) s = .next (request s fun t => t.answer 0xA) := by
  change happen (decide (0xC ≤ code ∧ code ≤ 0xF)) s _ = _
  simp [happen, hcode]

/-- The mode requests that are commands of their own, with the supply conditions `w` and `h` of those that have them. -/
def modeRequests (w h : Bool) : List Instr :=
  [.requestSetup, .requestStandby, .requestArmed w h, .requestHold, .requestQuiesce,
    .requestCalibrate w, .requestTest, .requestSealed, .requestClear, .requestHoldover, .requestTripped,
    .requestUndefinedMode 0xC, .requestUndefinedMode 0xD, .requestUndefinedMode 0xE, .requestUndefinedMode 0xF]

theorem exec_modeRequest (s : State) {c : Instr} {w h : Bool} (hc : c ∈ modeRequests w h) :
    ∃ f, exec c s = .next (request s f) := by
  simp only [modeRequests, List.mem_cons, List.not_mem_nil, or_false] at hc
  obtain rfl | rfl | rfl | rfl | rfl | rfl | rfl | rfl | rfl | rfl | rfl | hundefined := hc
  any_goals exact ⟨_, rfl⟩
  obtain rfl | rfl | rfl | rfl := hundefined <;> exact ⟨_, exec_requestUndefinedMode s (by decide)⟩

/-- Settles O16: a write of BRD_MODE and each command of a mode request are a `request`, whose first two cases are the two
refusals. -/
theorem requestsWaitForPowerUp : Obligations.RequestsWaitForPowerUp := by
  refine ⟨fun s rid v => ?_, fun s c w h hc => ?_⟩
  · obtain ⟨f, hf⟩ := requestCode_is_request s (wordBits v 7 4)
    exact exec_waits_of_request (f := f) (hf ▸ exec_registerWrite_brdMode s rid v)
  · obtain ⟨f, hf⟩ := exec_modeRequest s hc
    exact exec_waits_of_request hf

end Sys2Proof.Machine
end

section
/-!
Fields and words that an operation is known to keep, and the registers of the Board that a command writes by name.
-/
namespace Sys2Proof.Machine

/-! ### What is read of a state that keeps all fields but those of a list -/

/-- What a field reads depends on the stored words only. -/
theorem State.get_of_regs {s t : State} (e : t.regs = s.regs) (p : t.part = s.part) (f : Fld) : t.get f = s.get f := by
  rw [State.get, State.get, State.rd, State.rd, e, p]

theorem State.rd_of_regs {s t : State} (e : t.regs = s.regs) (p : t.part = s.part) (a : Nat) : t.rd a = s.rd a := by
  rw [State.rd, State.rd, e, p]

theorem State.get64_of_regs {s t : State} (e : t.regs = s.regs) (p : t.part = s.part) (lo : Nat) : t.get64 lo = s.get64 lo := by
  rw [State.get64, State.get64, State.rd_of_regs e p, State.rd_of_regs e p]

theorem State.get_whole (s : State) (a : Nat) : s.get (whole a) = (s.rd a).toNat := by
  have := (s.rd a).isLt
  simp only [State.get, whole, wordBits]
  omega

theorem State.rd_of_keeps {s t : State} {l : List Fld} (h : s.keepsFlds t l) {a : Nat} (d : ∀ g ∈ l, g.apart (whole a)) :
    t.rd a = s.rd a := by
  have k := h (whole a) d
  rw [State.get_whole, State.get_whole] at k
  exact BitVec.eq_of_toNat_eq k

theorem State.get64_of_keeps {s t : State} {l : List Fld} (h : s.keepsFlds t l) {lo : Nat}
    (d : ∀ g ∈ l, g.apart (whole lo)) (d' : ∀ g ∈ l, g.apart (whole (lo + 4))) : t.get64 lo = s.get64 lo := by
  rw [State.get64, State.get64, State.rd_of_keeps h d, State.rd_of_keeps h d']

theorem State.keepsFlds_put64 {s t : State} {l : List Fld} (h : s.keepsFlds t l) (lo v : Nat) (m : whole lo ∈ l)
    (m' : whole (lo + 4) ∈ l) : s.keepsFlds (t.put64 lo v) l :=
  State.keepsFlds_wr (State.keepsFlds_wr h _ _ m) _ _ m'

theorem State.keepsFlds_event {s t : State} {l : List Fld} (h : s.keepsFlds t l) {bit : Nat} (hb : bit < 32)
    (m : evtFlds bit ⊆ l) : s.keepsFlds (t.event bit) l :=
  State.keepsFlds_trans h (State.keepsFlds_mono (t.event_keeps hb) m)

/-! ### What changes registers only -/

theorem State.onlyRegs_wr (s : State) (a : Nat) (v : Word) : s.onlyRegs (s.wr a v) := rfl
theorem State.onlyRegs_put (s : State) (f : Fld) (v : Nat) : s.onlyRegs (s.put f v) := rfl

theorem State.onlyRegs_trans {s t u : State} (h : s.onlyRegs t) (k : t.onlyRegs u) : s.onlyRegs u := by
  rw [State.onlyRegs] at *; rw [k, h]

theorem State.onlyRegs_put64 (s : State) (lo v : Nat) : s.onlyRegs (s.put64 lo v) :=
  State.onlyRegs_trans (s.onlyRegs_wr _ _) (State.onlyRegs_wr _ _ _)

theorem State.onlyRegs_bump (s : State) (f : Fld) : s.onlyRegs (s.bump f) := by
  unfold State.bump
  split <;> rfl

theorem State.onlyRegs.onlyHost {s t : State} (h : s.onlyRegs t) : s.onlyHost t := by
  rw [State.onlyRegs] at h; rw [State.onlyHost, h]

theorem State.onlyRegs.posted {s t : State} (h : s.onlyRegs t) : t.posted = s.posted := by
  rw [State.onlyRegs] at h; rw [h]

section
variable {s t : State} (h : s.onlyHost t)
include h

theorem State.onlyHost.epoch : t.epoch = s.epoch := by rw [State.onlyHost] at h; rw [h]
theorem State.onlyHost.calRaw : t.calRaw = s.calRaw := by rw [State.onlyHost] at h; rw [h]
theorem State.onlyHost.calAcc : t.calAcc = s.calAcc := by rw [State.onlyHost] at h; rw [h]
theorem State.onlyHost.mode : t.mode = s.mode := by rw [State.onlyHost] at h; rw [h]
theorem State.onlyHost.shots : t.shots = s.shots := by rw [State.onlyHost] at h; rw [h]
theorem State.onlyHost.mem : t.mem = s.mem := by rw [State.onlyHost] at h; rw [h]
end

/-- A one-bit field reads 1 or 0. -/
theorem State.get_bit_ne_one {s : State} {f : Fld} (hf : f.width = 1) (h : s.get f ≠ 1) : s.get f = 0 := by
  have hlt : s.get f < 2 ^ f.width := s.get_lt f
  rw [hf] at hlt
  omega

/-! ### Commands -/

theorem happen_of {g : Bool} (hg : g = true) (s t : State) : happen g s t = .next t := by rw [happen, if_pos hg]

/-- A command that is a write of one register completes as the write does. -/
theorem completes_of_exec {c : Instr} {s t : State} {p : State → Prop} (h : exec c s = .next t) (hp : p t) : Completes c s p :=
  ⟨t, h, hp⟩

/-! ### Registers of the Board that are no half of a pair -/

/-- An address of the Board is a row of the map of its own and no half of a pair. -/
def isSingle (a : Nat) : Bool :=
  decide (a < 0x100000) && decide (pairLow? a = none) && (regRow? a).any fun x => decide (x.1.base = a)

theorem isSingle_elim {a : Nat} (h : isSingle a = true) :
    a < 0x100000 ∧ pairLow? a = none ∧ ∃ row i, regRow? a = some (row, i) ∧ row.base = a := by
  simp only [isSingle, Bool.and_eq_true, decide_eq_true_eq, Option.any_eq_true] at h
  obtain ⟨⟨hboard, hpair⟩, ⟨row, i⟩, hrow, hbase⟩ := h
  exact ⟨hboard, hpair, row, i, hrow, by simpa using hbase⟩

/-- A write of such a register that the mode allows is the write of its row. -/
theorem hostWrite_single (s : State) (rid : Nat) {a : Nat} (v : Word) (h : isSingle a = true) (hmode : s.modeRefuses a = false)
    {w : WriteOut} (hw : ∀ row i, row.base = a → writeBoard s rid row i a v = w) : hostWrite s rid a v = w.finish rid a := by
  obtain ⟨hboard, hpair, row, i, hrow, hbase⟩ := isSingle_elim h
  rw [hostWrite_board s rid a v hpair hrow (rankOf_board hboard) hmode, hw row i hbase]

theorem hostWrite_single_refused (s : State) (rid : Nat) {a : Nat} (v : Word) (h : isSingle a = true)
    (hmode : s.modeRefuses a = true) : hostWrite s rid a v = s.accessError rid 1 a := by
  obtain ⟨hboard, hpair, -⟩ := isSingle_elim h
  exact hostWrite_refused s rid a v hpair (answers_board s hboard) hmode

theorem isSingle_epoTrim : isSingle Reg.EPO_TRIM = true := by decide

theorem hostWrite_epoTrim (s : State) (rid : Nat) (v : Word) (hmode : s.modeRefuses Reg.EPO_TRIM = false) :
    hostWrite s rid Reg.EPO_TRIM v = (writeEpoTrim s v).finish rid Reg.EPO_TRIM :=
  hostWrite_single s rid v isSingle_epoTrim hmode fun row i hbase => by simp only [writeBoard, hbase]; rfl

section
variable {s : State} (hopen : s.boardOpen) (rid : Nat) (v : Word)
include hopen

theorem hostWrite_epoAngCfg : hostWrite s rid Reg.EPO_ANG_CFG v = (writeAngleCfg s false v).finish rid Reg.EPO_ANG_CFG :=
  hostWrite_single s rid v (by decide) (modeRefuses_board s (by decide) hopen)
    fun row i hbase => by simp only [writeBoard, hbase]; rfl

theorem hostWrite_epoAngEnc : hostWrite s rid Reg.EPO_ANG_ENC v = (writeAngleCfg s true v).finish rid Reg.EPO_ANG_ENC :=
  hostWrite_single s rid v (by decide) (modeRefuses_board s (by decide) hopen)
    fun row i hbase => by simp only [writeBoard, hbase]; rfl

theorem hostWrite_epoCalRateAdj : hostWrite s rid Reg.EPO_CAL_RATE_ADJ v = calendarRate s v :=
  hostWrite_single s rid v (by decide) (modeRefuses_board s (by decide) hopen) (w := taken (calendarRate s v))
    fun row i hbase => by simp only [writeBoard, hbase]; rfl

theorem hostWrite_epoSnapCtrl : hostWrite s rid Reg.EPO_SNAP_CTRL v = (writeSnapCtrl s v).finish rid Reg.EPO_SNAP_CTRL :=
  hostWrite_single s rid v (by decide) (modeRefuses_board s (by decide) hopen)
    fun row i hbase => by simp only [writeBoard, hbase]; rfl
end

end Sys2Proof.Machine
end

section
/-!
The 64-bit pairs (R71-R73): what a read of each half returns, and what a write of each half does.
-/
namespace Sys2Proof.Machine

/-! ### Reads -/

theorem hostRead_low (s : State) (rid : Nat) {lo : Nat} (hlo : pairLow? lo = some lo) :
    hostRead s rid lo = (s.setReadShadow rid (some ⟨lo, s.readReg rid (lo + 4)⟩), s.readReg rid lo) := by
  simp [hostRead, hlo]

theorem hostRead_high_of_shadow (s : State) (rid : Nat) {lo : Nat} {w : Word} (hhi : pairLow? (lo + 4) = some lo)
    (hshadow : s.readShadow.get shadowDefault rid = some ⟨lo, w⟩) :
    hostRead s rid (lo + 4) = (s.setReadShadow rid none, w) := by
  simp [hostRead, hhi, hshadow]

theorem hostRead_high_live (s : State) (rid : Nat) {lo : Nat} (hhi : pairLow? (lo + 4) = some lo)
    (hshadow : ∀ w, s.readShadow.get shadowDefault rid ≠ some ⟨lo, w⟩) :
    hostRead s rid (lo + 4) = (s, s.readReg rid (lo + 4)) := by
  cases hx : s.readShadow.get shadowDefault rid with
  | none => simp [hostRead, hhi, hx]
  | some x =>
    have hother : x.pair ≠ lo := fun e => hshadow x.word (by rw [hx, ← e])
    simp [hostRead, hhi, hx, hother]

theorem inBar0_of {addr : Nat} (h : addr < 2 ^ 24) (t : State) : inBar0 addr t = .next t := if_pos h

theorem exec_pairLowRead {s t : State} {rid addr : Nat} {w : Word} (ha : addr % 4 = 0) (hin : addr < 2 ^ 24)
    (h : hostRead s rid addr = (t, w)) : exec (.pairLowRead rid addr) s = .next { t with lastRead := w.setWidth 64 } := by
  change execPairLowRead .. = _
  simp [execPairLowRead, inBar0_of hin, hostRead4, ha, h]

theorem exec_pairHighRead {s t : State} {rid addr : Nat} {w : Word} (ha : addr % 4 = 0) (hin : addr < 2 ^ 24)
    (h : hostRead s rid addr = (t, w)) : exec (.pairHighRead rid addr) s = .next { t with lastRead := w.setWidth 64 } := by
  change execPairHighRead .. = _
  simp [execPairHighRead, inBar0_of hin, hostRead4, ha, h]

/-! ### Writes -/

theorem exec_pairLowWrite (s : State) (rid : Nat) {addr : Nat} (v : Word) (ha : addr % 4 = 0) (hin : addr < 2 ^ 24) :
    exec (.pairLowWrite rid addr v) s = .next (hostWrite s rid addr v) := by
  change execPairLowWrite .. = _
  simp [execPairLowWrite, inBar0_of hin, ha]

theorem exec_pairHighWrite (s : State) (rid : Nat) {addr : Nat} (v : Word) (ha : addr % 4 = 0) (hin : addr < 2 ^ 24) :
    exec (.pairHighWrite rid addr v) s = .next (hostWrite s rid addr v) := by
  change execPairHighWrite .. = _
  simp [execPairHighWrite, inBar0_of hin, ha]

/-- A low half held for the pair is gone; one held for another pair stays. -/
theorem emptied_same (s : State) (rid lo : Nat) :
    (s.emptied rid lo).get shadowDefault rid =
      (s.writeShadow.get shadowDefault rid).filter fun x => decide (x.pair ≠ lo) := by
  unfold State.emptied
  cases hx : s.writeShadow.get shadowDefault rid with
  | none => simp [hx]
  | some x =>
    by_cases h : x.pair = lo
    · simp [h, Option.filter]
    · simp [h, hx, Option.filter]

theorem emptied_other (s : State) {rid q : Nat} (lo : Nat) (h : q ≠ rid) :
    (s.emptied rid lo).get shadowDefault q = s.writeShadow.get shadowDefault q := by
  unfold State.emptied
  split
  · rfl
  · split
    · exact Table.get_set_ne _ _ h
    · rfl

/-- The two halves of an array of pairs of the Board that can be written: what the map says of the pair of index i. -/
structure BoardPair (lo i : Nat) (row : RegRow) : Prop where
  board : lo + 4 < 0x100000
  aligned : lo % 4 = 0
  pair : pairLow? (lo + 4) = some lo
  low : regRow? lo = some (row, i)
  writable : pairWritable row = true
  high : ∃ top j, regRow? (lo + 4) = some (top, j) ∧ pairWritable top = true

/-- The high half of such a pair commits both halves where the mode allows it. -/
theorem hostWrite_boardPair (s : State) (rid : Nat) (v : Word) {lo i : Nat} {row : RegRow} (hp : BoardPair lo i row)
    (hopen : s.boardOpen) :
    hostWrite s rid (lo + 4) v =
      (commitPair (s.emptyShadow rid lo) row i lo (s.heldLow rid lo) v).finish rid lo := by
  obtain ⟨top, j, htop, hwrite⟩ := hp.high
  exact hostWrite_high s rid lo v hp.pair htop hwrite hp.low hp.writable (answers_board s hp.board)
    (modeRefuses_board _ hp.board hopen)

/-! ### The compare value of an alarm -/

/-- The row of the low halves of the compare values (Table 02-9). -/
def alarmCmpRow : RegRow := ⟨0x40104, false, 16, 16, 1, 4, 0x0, none, 0xFFFFFFFF, 0x0, 0x0, 0x0⟩

theorem regRow_alarmCmp : ∀ n < 16, pairLow? (Reg.EPO_ALM_CMP_LOn n + 4) = some (Reg.EPO_ALM_CMP_LOn n) ∧
    regRow? (Reg.EPO_ALM_CMP_LOn n) = some (alarmCmpRow, n) ∧
    (regRow? (Reg.EPO_ALM_CMP_LOn n + 4)).any (fun x => pairWritable x.1) = true := by decide

theorem alarmCmp_boardPair {n : Nat} (hn : n < 16) : BoardPair (Reg.EPO_ALM_CMP_LOn n) n alarmCmpRow := by
  obtain ⟨hpair, hlow, hhigh⟩ := regRow_alarmCmp n hn
  obtain ⟨⟨top, j⟩, htop, hwrite⟩ := Option.any_eq_true _ _ |>.mp hhigh
  refine ⟨?_, ?_, hpair, hlow, by decide, top, j, htop, hwrite⟩ <;> simp only [Reg.EPO_ALM_CMP_LOn] <;> omega

theorem commitPair_alarmCmp (s : State) {n : Nat} (hn : n < 16) (low high : Word) :
    commitPair s alarmCmpRow n (Reg.EPO_ALM_CMP_LOn n) low high =
      if alarmLocked s n then refusedBy s 2
      else taken ((s.wr (Reg.EPO_ALM_CMP_LOn n) low).wr (Reg.EPO_ALM_CMP_LOn n + 4) high) := by
  have hboard : Reg.EPO_ALM_CMP_LOn n < 0x100000 := by simp only [Reg.EPO_ALM_CMP_LOn]; omega
  have hbase : rowBase alarmCmpRow (Reg.EPO_ALM_CMP_LOn n) = Reg.EPO_ALM_CMP_LOn 0 := if_pos hboard
  simp only [commitPair, hbase]
  rfl

/-- R70 and R73: the write of the high half, with the low half that the requester held. -/
theorem exec_alarmCmpHigh (s : State) (rid : Nat) {n : Nat} (v : Word) (hn : n < 16) (hopen : s.boardOpen) :
    exec (.pairHighWrite rid (Reg.EPO_ALM_CMP_LOn n + 4) v) s = .next
      (if alarmLocked s n then (s.emptyShadow rid (Reg.EPO_ALM_CMP_LOn n)).accessError rid 2 (Reg.EPO_ALM_CMP_LOn n)
       else ((s.emptyShadow rid (Reg.EPO_ALM_CMP_LOn n)).wr (Reg.EPO_ALM_CMP_LOn n)
          (s.heldLow rid (Reg.EPO_ALM_CMP_LOn n))).wr (Reg.EPO_ALM_CMP_LOn n + 4) v) := by
  have hp := alarmCmp_boardPair hn
  have hlocked : alarmLocked (s.emptyShadow rid (Reg.EPO_ALM_CMP_LOn n)) n = alarmLocked s n := rfl
  rw [exec_pairHighWrite s rid v (by have := hp.aligned; omega) (by have := hp.board; omega), hostWrite_boardPair s rid v hp hopen,
    commitPair_alarmCmp _ hn, hlocked]
  by_cases h : alarmLocked s n = true
  · rw [if_pos h, if_pos h, finish_refusedBy]
  · rw [if_neg h, if_neg h, finish_taken]

/-! ### O9 -/

/-- Settles O9: a read by the three cases of `hostRead`, the held low half, and the commit of an alarm's compare value by
whether the alarm is enabled. -/
theorem pairsAreWhole : Obligations.PairsAreWhole := by
  refine ⟨fun s rid lo ha hin hlo hhi => ⟨?_, fun w hshadow => ?_, fun hshadow => ?_⟩,
    fun s rid lo i row v ha hin hlo hrow hwrite => ?_,
    fun s rid n v hn hopen => ⟨fun hen => ?_, fun hen => ?_, ?_, fun q hq => emptied_other s _ hq⟩⟩
  · exact exec_pairLowRead ha (by omega) (hostRead_low s rid hlo)
  · exact exec_pairHighRead (by omega) hin (hostRead_high_of_shadow s rid hhi hshadow)
  · exact exec_pairHighRead (by omega) hin (hostRead_high_live s rid hhi hshadow)
  · rw [exec_pairLowWrite s rid v ha hin, hostWrite_low s rid lo v hlo hrow hwrite]
    rfl
  · have hfree : ¬ alarmLocked s n = true := by simp [alarmLocked, State.flag, hen]
    have hexec := exec_alarmCmpHigh s rid v hn hopen
    rw [if_neg hfree] at hexec
    refine completes_of_exec hexec ⟨?_, ?_, rfl⟩
    · simp [State.get64]
    · exact State.keepsFlds_wr (State.keepsFlds_wr (State.keepsFlds_regs (s.keepsFlds_refl _) rfl rfl) _ _ (by simp)) _ _ (by simp)
  · have hexec := exec_alarmCmpHigh s rid v hn hopen
    rw [if_pos (by simp [alarmLocked, State.flag, hen])] at hexec
    exact hexec
  · rw [emptied_same]
    cases s.writeShadow.get shadowDefault rid with
    | none => rfl
    | some x => by_cases h : x.pair = Reg.EPO_ALM_CMP_LOn n <;> simp [h]

end Sys2Proof.Machine
end

section
/-!
The settings of the timebase (02): trim, angle, calendar and snapshots, each operation first and then the command that makes it.
-/
namespace Sys2Proof.Machine

/-! ### Two fields of the state beside the registers -/

/-- The watch starts anew at a tick (R87). -/
def State.disciplined (s : State) (n : Nat) : State := { s with disciplineAt := n }

@[simp] theorem State.get_disciplined (s : State) (n : Nat) (f : Fld) : (s.disciplined n).get f = s.get f := rfl
@[simp] theorem State.rd_disciplined (s : State) (n a : Nat) : (s.disciplined n).rd a = s.rd a := rfl
@[simp] theorem State.get64_disciplined (s : State) (n lo : Nat) : (s.disciplined n).get64 lo = s.get64 lo := rfl

theorem State.keepsFlds_disciplined {s t : State} {l : List Fld} (h : s.keepsFlds t l) (n : Nat) :
    s.keepsFlds (t.disciplined n) l := h

theorem State.disciplined_of_onlyRegs {s t : State} (h : s.onlyRegs t) (n : Nat) :
    t.disciplined n = { s with regs := t.regs, disciplineAt := n } := by
  rw [State.onlyRegs] at h; rw [h]; rfl

theorem State.onlyHost_of_disciplined {s t u : State} {n : Nat} (h : s.onlyRegs t) (k : (t.disciplined n).onlyHost u) :
    u = { s with regs := u.regs, posted := u.posted, holding := u.holding, disciplineAt := n } := by
  rw [State.onlyHost, State.disciplined_of_onlyRegs h] at k
  exact k

/-- Arm or disarm a capture (R89). -/
def State.setSnapArmed (s : State) (b : Bool) : State := { s with snapArmed := b }

@[simp] theorem State.get_setSnapArmed (s : State) (b : Bool) (f : Fld) : (s.setSnapArmed b).get f = s.get f := rfl
@[simp] theorem State.rd_setSnapArmed (s : State) (b : Bool) (a : Nat) : (s.setSnapArmed b).rd a = s.rd a := rfl

theorem State.keepsFlds_setSnapArmed {s t : State} {l : List Fld} (h : s.keepsFlds t l) (b : Bool) :
    s.keepsFlds (t.setSnapArmed b) l := h

theorem State.setSnapArmed_of_onlyRegs {s t : State} (h : s.onlyRegs t) (b : Bool) :
    t.setSnapArmed b = { s with regs := t.regs, snapArmed := b } := by
  rw [State.onlyRegs] at h; rw [h]; rfl

/-! ### EPO_TRIM -/

theorem exec_epoTrimWrite_setup {s : State} (rid : Nat) (v : Word) (h : s.mode = .setup) :
    exec (.epoTrimWrite rid v) s = .next (s.wr Reg.EPO_TRIM (v &&& 0xFFFF003F)) := by
  have hopen : s.boardOpen := ⟨by simp [h], by simp [h]⟩
  have hw := hostWrite_epoTrim s rid v (modeRefuses_board s (by decide) hopen)
  rw [writeEpoTrim, if_pos h, finish_taken] at hw
  exact congrArg Host.Outcome.next hw

/-- Outside SETUP the register refuses the write, if the mode has not refused it already, and with the same CAUSE (R67, R533). -/
theorem exec_epoTrimWrite_refused {s : State} (rid : Nat) (v : Word) (h : s.mode ≠ .setup) :
    exec (.epoTrimWrite rid v) s = .next (s.accessError rid 1 Reg.EPO_TRIM) := by
  refine congrArg Host.Outcome.next ?_
  cases hmode : s.modeRefuses Reg.EPO_TRIM with
  | true => exact hostWrite_single_refused s rid v isSingle_epoTrim hmode
  | false => rw [hostWrite_epoTrim s rid v hmode, writeEpoTrim, if_neg h, finish_refusedBy]

/-! ### EPO_ANG_CFG and EPO_ANG_ENC -/

theorem restartAngle_lock (s : State) : (restartAngle s).get Reg.EPO_ANG_STAT_LOCK = 0 :=
  s.get_put_val _ _ ⟨by decide, by decide⟩ (by decide)

theorem restartAngle_keeps (s : State) : s.keepsFlds (restartAngle s) [Reg.EPO_ANG_STAT_LOCK] :=
  State.keepsFlds_regs (State.keepsFlds_put (s.keepsFlds_refl _) _ 0 (by simp) ⟨by decide, by decide⟩) rfl rfl

/-- R79: a stored angle setting and the acquisition that it restarts. -/
theorem restartAngle_wr (s : State) (a : Nat) (w : Word) (ha : a ≠ Reg.EPO_ANG_STAT) :
    let t := restartAngle (s.wr a w)
    t.rd a = w ∧ t.get Reg.EPO_ANG_STAT_LOCK = 0 ∧ t.angle.pLast = 0 ∧ t.angle.history = [] ∧ t.angle.accepted = 0 ∧
      s.keepsFlds t [whole a, Reg.EPO_ANG_STAT_LOCK] ∧ t = { s with regs := t.regs, angle := t.angle } := by
  have hkeeps := restartAngle_keeps (s.wr a w)
  refine ⟨?_, restartAngle_lock _, rfl, rfl, rfl, ?_, rfl⟩
  · have hapart : ∀ g ∈ [Reg.EPO_ANG_STAT_LOCK], g.apart (whole a) := by
      simpa [Fld.apart, whole, Reg.EPO_ANG_STAT_LOCK] using fun e => absurd e.symm ha
    rw [State.rd_of_keeps hkeeps hapart, State.rd_wr_same]
  · exact State.keepsFlds_trans (State.keepsFlds_wr (s.keepsFlds_refl _) a w (by simp)) (State.keepsFlds_mono hkeeps (by simp))

theorem writeAngleCfg_free {s : State} (enc : Bool) (v : Word) (h : (s.namesWindow fun _ => true) = false) :
    writeAngleCfg s enc v =
      taken (restartAngle (if enc then s.wr Reg.EPO_ANG_ENC v else s.wr Reg.EPO_ANG_CFG (v &&& 0xFFFFFFF3))) :=
  if_neg (by simp [h])

theorem writeAngleCfg_named {s : State} (enc : Bool) (v : Word) (h : (s.namesWindow fun _ => true) = true) :
    writeAngleCfg s enc v = refusedBy s 2 := if_pos h

/-- The register that ANGLE_CFG_WRITE writes. -/
def angleReg (enc : Bool) : Nat := if enc then Reg.EPO_ANG_ENC else Reg.EPO_ANG_CFG

theorem exec_angleCfgWrite {s : State} (rid : Nat) (enc : Bool) (v : Word) (hopen : s.boardOpen) :
    exec (.angleCfgWrite rid enc v) s = .next ((writeAngleCfg s enc v).finish rid (angleReg enc)) := by
  cases enc with
  | false => exact congrArg Host.Outcome.next (hostWrite_epoAngCfg hopen rid v)
  | true => exact congrArg Host.Outcome.next (hostWrite_epoAngEnc hopen rid v)

theorem exec_angleCfgWrite_named {s : State} (rid : Nat) (enc : Bool) (v : Word) (hopen : s.boardOpen)
    (h : (s.namesWindow fun _ => true) = true) :
    exec (.angleCfgWrite rid enc v) s = .next (s.accessError rid 2 (angleReg enc)) := by
  rw [exec_angleCfgWrite rid enc v hopen, writeAngleCfg_named enc v h, finish_refusedBy]

/-- The bits of an angle setting that are stored (Tables 02-11 and 02-12). -/
def angleWord (enc : Bool) (v : Word) : Word := if enc then v else v &&& 0xFFFFFFF3

theorem exec_angleCfgWrite_free {s : State} (rid : Nat) (enc : Bool) (v : Word) (hopen : s.boardOpen)
    (h : (s.namesWindow fun _ => true) = false) :
    exec (.angleCfgWrite rid enc v) s = .next (restartAngle (s.wr (angleReg enc) (angleWord enc v))) := by
  rw [exec_angleCfgWrite rid enc v hopen, writeAngleCfg_free enc v h, finish_taken]
  cases enc <;> rfl

theorem angleReg_ne_stat (enc : Bool) : angleReg enc ≠ Reg.EPO_ANG_STAT := by cases enc <;> decide

/-! ### The calendar clock -/

/-- The registers of a step commit: the offset, and the generation unless the step is zero (R85). -/
def stepOffset (s : State) (v : Nat) : State := s.put64 Reg.EPO_CAL_OFS_LO ((s.get64 Reg.EPO_CAL_OFS_LO + v) % 2 ^ 64)
def stepRegs (s : State) (v : Nat) : State :=
  if v % 2 ^ 64 = 0 then stepOffset s v else (stepOffset s v).bumpWrap Reg.EPO_CAL_CTRL_STEP_GEN

theorem calendarStep_eq (s : State) (v : Nat) : calendarStep s v = (stepRegs s v).disciplined s.now := rfl

theorem stepRegs_keeps_offset (s : State) (v : Nat) : (stepOffset s v).keepsFlds (stepRegs s v) [Reg.EPO_CAL_CTRL_STEP_GEN] := by
  unfold stepRegs
  split
  · exact State.keepsFlds_refl _ _
  · exact State.keepsFlds_put (State.keepsFlds_refl _ _) _ _ (by simp) ⟨by decide, by decide⟩

theorem calendarStep_ofs (s : State) (v : Nat) :
    (calendarStep s v).get64 Reg.EPO_CAL_OFS_LO = (s.get64 Reg.EPO_CAL_OFS_LO + v) % 2 ^ 64 := by
  rw [calendarStep_eq, State.get64_disciplined, State.get64_of_keeps (stepRegs_keeps_offset s v) (by decide) (by decide)]
  exact s.get64_put64 _ _ (Nat.mod_lt _ (Nat.two_pow_pos 64))

theorem calendarStep_gen (s : State) (v : Nat) :
    (calendarStep s v).get Reg.EPO_CAL_CTRL_STEP_GEN =
      if v % 2 ^ 64 = 0 then s.get Reg.EPO_CAL_CTRL_STEP_GEN else (s.get Reg.EPO_CAL_CTRL_STEP_GEN + 1) % 16 := by
  have hsame : (stepOffset s v).get Reg.EPO_CAL_CTRL_STEP_GEN = s.get Reg.EPO_CAL_CTRL_STEP_GEN :=
    s.get_put64_apart _ _ _ (by decide) (by decide)
  rw [calendarStep_eq, State.get_disciplined]
  unfold stepRegs
  split
  · exact hsame
  · rw [State.get_bumpWrap_same _ _ ⟨by decide, by decide⟩, hsame]
    rfl

theorem calendarStep_keeps (s : State) (v : Nat) : s.keepsFlds (calendarStep s v)
    [whole Reg.EPO_CAL_OFS_LO, whole (Reg.EPO_CAL_OFS_LO + 4), Reg.EPO_CAL_CTRL_STEP_GEN] := by
  have hoffset : s.keepsFlds (stepOffset s v) [whole Reg.EPO_CAL_OFS_LO, whole (Reg.EPO_CAL_OFS_LO + 4)] :=
    State.keepsFlds_put64 (s.keepsFlds_refl _) _ _ (by simp) (by simp)
  rw [calendarStep_eq]
  exact State.keepsFlds_disciplined (State.keepsFlds_trans (State.keepsFlds_mono hoffset (by simp))
    (State.keepsFlds_mono (stepRegs_keeps_offset s v) (by simp))) _

theorem stepRegs_onlyRegs (s : State) (v : Nat) : s.onlyRegs (stepRegs s v) := by
  have hoffset : s.onlyRegs (stepOffset s v) := s.onlyRegs_put64 _ _
  unfold stepRegs
  split
  · exact hoffset
  · exact State.onlyRegs_trans hoffset (State.onlyRegs_put _ _ _)

theorem calendarStep_frame (s : State) (v : Nat) :
    calendarStep s v = { s with regs := (calendarStep s v).regs, disciplineAt := s.now } := by
  rw [calendarStep_eq]
  exact State.disciplined_of_onlyRegs (stepRegs_onlyRegs s v) s.now

/-- The row of the low half of EPO_CAL_STEP (Table 02-7). -/
def calStepRow : RegRow := ⟨0x40320, false, 1, 4, 1, 4, 0x0, none, 0x0, 0x0, 0xFFFFFFFF, 0x0⟩

theorem calStep_boardPair : BoardPair Reg.EPO_CAL_STEP_LO 0 calStepRow :=
  ⟨by decide, by decide, by decide, by decide, by decide, _, _, rfl, by decide⟩

/-- The step that a write of the high half commits, with the low half that the requester held (R73). -/
def State.committedStep (s : State) (rid : Nat) (v : Word) : Nat := (s.heldLow rid Reg.EPO_CAL_STEP_LO).toNat + v.toNat * 2 ^ 32

theorem committedStep_lt (s : State) (rid : Nat) (v : Word) : s.committedStep rid v < 2 ^ 64 := by
  have h1 := (s.heldLow rid Reg.EPO_CAL_STEP_LO).isLt
  have h2 := v.isLt
  unfold State.committedStep
  omega

theorem exec_epoCalStep {s : State} (rid : Nat) (v : Word) (hopen : s.boardOpen) :
    exec (.epoCalStep rid v) s = .next (calendarStep (s.emptyShadow rid Reg.EPO_CAL_STEP_LO) (s.committedStep rid v)) :=
  congrArg Host.Outcome.next ((hostWrite_boardPair s rid v calStep_boardPair hopen).trans rfl)

theorem clampTo_eq {lo hi : Int} (h : lo ≤ hi) (i : Int) : clampTo lo hi i = max lo (min hi i) := by
  unfold clampTo
  split
  · omega
  · split <;> omega

/-- The register fields that a rate adjustment may change (R86). -/
def rateFlds : List Fld := [whole Reg.EPO_CAL_RATE, Reg.EPO_CAL_CTRL_RATE_SAT] ++ evtFlds evtCalendar

/-- RATE with a saturated sum stored in it (R86). -/
def storeRate (s : State) (sum : Int) : State :=
  (s.wr Reg.EPO_CAL_RATE (BitVec.ofInt 32 (max (-2 ^ 31) (min (2 ^ 31 - 1) sum)))).disciplined s.now

/-- R86: what a rate adjustment does with the sum of RATE and the written value. -/
theorem calendarRate_cases (s : State) (v : Word) {sum : Int} (hsum : (s.rd Reg.EPO_CAL_RATE).toInt + v.toInt = sum) :
    (-2 ^ 31 ≤ sum ∧ sum < 2 ^ 31 ∧ calendarRate s v = storeRate s sum) ∨
      ((sum < -2 ^ 31 ∨ 2 ^ 31 ≤ sum) ∧
        calendarRate s v = ((storeRate s sum).put Reg.EPO_CAL_CTRL_RATE_SAT 1).event evtCalendar) := by
  have hclamp : clampTo (-2147483648) 2147483647 sum = max (-2 ^ 31) (min (2 ^ 31 - 1) sum) := clampTo_eq (by decide) sum
  simp only [calendarRate, hsum, hclamp, storeRate]
  split
  next h => exact .inl ⟨by omega, by omega, rfl⟩
  next h => exact .inr ⟨by omega, rfl⟩

theorem toInt_ofInt_clamped (i : Int) :
    (BitVec.ofInt 32 (max (-2 ^ 31) (min (2 ^ 31 - 1) i))).toInt = max (-2 ^ 31) (min (2 ^ 31 - 1) i) :=
  BitVec.toInt_ofInt_eq_self (by decide) (by omega) (by omega)

theorem exec_epoCalRateAdj {s : State} (rid : Nat) (v : Word) (hopen : s.boardOpen) :
    exec (.epoCalRateAdj rid v) s = .next (calendarRate s v) :=
  congrArg Host.Outcome.next (hostWrite_epoCalRateAdj hopen rid v)

theorem storeRate_rate (s : State) (sum : Int) :
    ((storeRate s sum).rd Reg.EPO_CAL_RATE).toInt = max (-2 ^ 31) (min (2 ^ 31 - 1) sum) := by
  rw [storeRate, State.rd_disciplined, State.rd_wr_same, toInt_ofInt_clamped]

theorem storeRate_keeps (s : State) (sum : Int) : s.keepsFlds (storeRate s sum) [whole Reg.EPO_CAL_RATE] :=
  State.keepsFlds_wr (s.keepsFlds_refl _) _ _ (by simp)

/-- RATE_SAT and its event beside a stored rate. -/
theorem saturate_keeps (s : State) :
    s.keepsFlds ((s.put Reg.EPO_CAL_CTRL_RATE_SAT 1).event evtCalendar) (Reg.EPO_CAL_CTRL_RATE_SAT :: evtFlds evtCalendar) :=
  State.keepsFlds_event (State.keepsFlds_put (s.keepsFlds_refl _) _ _ (by simp) ⟨by decide, by decide⟩) (by decide) (by simp)

theorem saturate_onlyHost (s : State) : s.onlyHost ((s.put Reg.EPO_CAL_CTRL_RATE_SAT 1).event evtCalendar) :=
  State.onlyHost_trans (s.onlyHost_put _ _) (State.event_onlyHost _ _)

/-- R86 as a whole: the saturated sum is stored, and only a sum out of range sets RATE_SAT and the event. -/
theorem calendarRate_spec {s t : State} {v : Word} {sum : Int} (hsum : (s.rd Reg.EPO_CAL_RATE).toInt + v.toInt = sum)
    (ht : calendarRate s v = t) :
    (t.rd Reg.EPO_CAL_RATE).toInt = max (-2 ^ 31) (min (2 ^ 31 - 1) sum) ∧
      (-2 ^ 31 ≤ sum → sum < 2 ^ 31 → t.get Reg.EPO_CAL_CTRL_RATE_SAT = s.get Reg.EPO_CAL_CTRL_RATE_SAT) ∧
      (sum < -2 ^ 31 ∨ 2 ^ 31 ≤ sum → t.get Reg.EPO_CAL_CTRL_RATE_SAT = 1 ∧ t.get (evtFld evtCalendar) = 1) ∧
      s.keepsFlds t rateFlds ∧
      t = { s with regs := t.regs, posted := t.posted, holding := t.holding, disciplineAt := s.now } := by
  have hstored := storeRate_keeps s sum
  obtain ⟨hlow, hhigh, e⟩ | ⟨hout, e⟩ := calendarRate_cases s v hsum
  · obtain rfl : storeRate s sum = t := e.symm.trans ht
    exact ⟨storeRate_rate s sum, fun _ _ => hstored _ (by decide), fun _ => by omega,
      State.keepsFlds_mono hstored (by simp [rateFlds]), State.disciplined_of_onlyRegs (s.onlyRegs_wr _ _) _⟩
  · have hsat := saturate_keeps (storeRate s sum)
    rw [← e, ht] at hsat
    obtain rfl := e.symm.trans ht
    refine ⟨?_, fun _ _ => by omega, fun _ => ⟨?_, State.event_flag _ (by decide)⟩, ?_,
      State.onlyHost_of_disciplined (s.onlyRegs_wr _ _) (saturate_onlyHost _)⟩
    · rw [State.rd_of_keeps hsat (by decide), storeRate_rate]
    · rw [State.get_event _ (by decide) _ (by decide) (by decide), State.get_put_val _ _ _ ⟨by decide, by decide⟩ (by decide)]
    · exact State.keepsFlds_trans (State.keepsFlds_mono hstored (by simp [rateFlds]))
        (State.keepsFlds_mono hsat (by simp [rateFlds]))

/-! ### The discipline watch -/

theorem exec_disciplineWatchExpiry {s : State} (h1 : s.get Reg.EPO_CAL_CTRL_DISCIPLINED = 1)
    (h2 : s.get Reg.EPO_CAL_CTRL_WATCH ≠ 0)
    (h3 : s.disciplineAt + s.get Reg.EPO_CAL_CTRL_WATCH * 2500000000 ≤ s.now) :
    exec .disciplineWatchExpiry s = .next ((s.put Reg.EPO_CAL_CTRL_DISCIPLINED 0).event evtCalendar) :=
  happen_of (by simp [State.watchExpired, State.flag, ticksOfSeconds, h1, h2, h3]) _ _

theorem watchExpiry_spec (s : State) :
    let t := (s.put Reg.EPO_CAL_CTRL_DISCIPLINED 0).event evtCalendar
    t.get Reg.EPO_CAL_CTRL_DISCIPLINED = 0 ∧ t.get (evtFld evtCalendar) = 1 ∧
      s.keepsFlds t ([Reg.EPO_CAL_CTRL_DISCIPLINED] ++ evtFlds evtCalendar) ∧ s.onlyHost t := by
  refine ⟨?_, State.event_flag _ (by decide), ?_, State.onlyHost_trans (s.onlyHost_put _ _) (State.event_onlyHost _ _)⟩
  · rw [State.get_event _ (by decide) _ (by decide) (by decide), State.get_put_val _ _ _ ⟨by decide, by decide⟩ (by decide)]
  · exact State.keepsFlds_event (State.keepsFlds_put (s.keepsFlds_refl _) _ _ (by simp) ⟨by decide, by decide⟩) (by decide)
      (by simp)

/-! ### Snapshots -/

/-- The register fields that a capture writes (R89). -/
def captureFlds : List Fld :=
  [whole Reg.EPO_SNAP_EPO_LO, whole (Reg.EPO_SNAP_EPO_LO + 4), whole Reg.EPO_SNAP_CAL_LO, whole (Reg.EPO_SNAP_CAL_LO + 4),
    whole Reg.EPO_SNAP_ANG, Reg.EPO_SNAP_CTRL_DONE]

/-- The registers of a capture as it writes them, but for DONE: the epoch, the calendar value and the angle word. -/
def captureEpoch (s : State) : State := s.put64 Reg.EPO_SNAP_EPO_LO s.epoch.toNat
def captureCalendar (s : State) : State := (captureEpoch s).put64 Reg.EPO_SNAP_CAL_LO s.calendar
def captureAngle (s : State) : State :=
  (captureCalendar s).wr Reg.EPO_SNAP_ANG
    (BitVec.ofNat 32 (s.angleNow * 65536 + s.get Reg.EPO_SYNC_STAT_GEN * 256 + s.stampFlags))

theorem capture_eq (s : State) :
    capture s = ((captureAngle s).put Reg.EPO_SNAP_CTRL_DONE 1).setSnapArmed false := by
  simp only [captureAngle, captureCalendar, captureEpoch]
  rfl

theorem captureEpoch_keeps (s : State) :
    s.keepsFlds (captureEpoch s) [whole Reg.EPO_SNAP_EPO_LO, whole (Reg.EPO_SNAP_EPO_LO + 4)] :=
  State.keepsFlds_put64 (s.keepsFlds_refl _) _ _ (by simp) (by simp)

theorem captureCalendar_keeps (s : State) :
    (captureEpoch s).keepsFlds (captureCalendar s) [whole Reg.EPO_SNAP_CAL_LO, whole (Reg.EPO_SNAP_CAL_LO + 4)] :=
  State.keepsFlds_put64 (State.keepsFlds_refl _ _) _ _ (by simp) (by simp)

/-- What is done after the calendar value is stored. -/
theorem capture_keeps_calendar (s : State) :
    (captureCalendar s).keepsFlds (capture s) [whole Reg.EPO_SNAP_ANG, Reg.EPO_SNAP_CTRL_DONE] := by
  have hangle : (captureCalendar s).keepsFlds (captureAngle s) [whole Reg.EPO_SNAP_ANG, Reg.EPO_SNAP_CTRL_DONE] :=
    State.keepsFlds_wr (State.keepsFlds_refl _ _) _ _ (by simp)
  rw [capture_eq]
  exact State.keepsFlds_setSnapArmed (State.keepsFlds_put hangle _ 1 (by simp) ⟨by decide, by decide⟩) false

theorem capture_keeps (s : State) : s.keepsFlds (capture s) captureFlds :=
  State.keepsFlds_trans (State.keepsFlds_mono (captureEpoch_keeps s) (by simp [captureFlds]))
    (State.keepsFlds_trans (State.keepsFlds_mono (captureCalendar_keeps s) (by simp [captureFlds]))
      (State.keepsFlds_mono (capture_keeps_calendar s) (by simp [captureFlds])))

theorem calendar_lt (s : State) : s.calendar < 2 ^ 64 := by
  unfold State.calendar
  omega

theorem capture_frame (s : State) : capture s = { s with regs := (capture s).regs, snapArmed := false } := by
  have hangle : s.onlyRegs (captureAngle s) := State.onlyRegs_trans (State.onlyRegs_trans (s.onlyRegs_put64 _ _)
    (State.onlyRegs_put64 _ _ _)) (State.onlyRegs_wr _ _ _)
  rw [capture_eq]
  exact State.setSnapArmed_of_onlyRegs (State.onlyRegs_trans hangle (State.onlyRegs_put _ _ _)) false

theorem capture_epoch (s : State) : (capture s).get64 Reg.EPO_SNAP_EPO_LO = s.epoch.toNat := by
  rw [State.get64_of_keeps (capture_keeps_calendar s) (by decide) (by decide),
    State.get64_of_keeps (captureCalendar_keeps s) (by decide) (by decide)]
  exact s.get64_put64 _ _ s.epoch.isLt

theorem capture_calendar (s : State) : (capture s).get64 Reg.EPO_SNAP_CAL_LO = s.calendar := by
  rw [State.get64_of_keeps (capture_keeps_calendar s) (by decide) (by decide)]
  exact State.get64_put64 _ _ _ (calendar_lt s)

theorem capture_angle (s : State) : (capture s).rd Reg.EPO_SNAP_ANG =
    BitVec.ofNat 32 (s.angleNow * 2 ^ 16 + s.get Reg.EPO_SYNC_STAT_GEN * 2 ^ 8 + s.stampFlags) := by
  rw [capture_eq, State.rd_setSnapArmed, State.rd_put_ne _ _ _ _ (by decide), captureAngle]
  exact State.rd_wr_same _ _ _

theorem capture_done (s : State) : (capture s).get Reg.EPO_SNAP_CTRL_DONE = 1 := by
  rw [capture_eq, State.get_setSnapArmed, State.get_put_val _ _ _ ⟨by decide, by decide⟩ (by decide)]

/-- The calendar value depends on its counters and its offset only. -/
theorem calendar_of_keeps {s t : State} {l : List Fld} (h : s.keepsFlds t l) (d : ∀ g ∈ l, g.apart (whole Reg.EPO_CAL_OFS_LO))
    (d' : ∀ g ∈ l, g.apart (whole (Reg.EPO_CAL_OFS_LO + 4))) (hraw : t.calRaw = s.calRaw) (hacc : t.calAcc = s.calAcc) :
    t.calendar = s.calendar := by
  rw [State.calendar, State.calendar, State.get64_of_keeps h d d', hraw, hacc]

theorem wordBits_withBit_zero (v : Word) : wordBits (withBit v 0) 0 0 = 1 := wordBits_wordSet_same v 0 0 1 (by decide) (by decide)

theorem wordBits_withBit_src (v : Word) : wordBits (withBit v 0) 7 4 = wordBits v 7 4 :=
  wordBits_wordSet_apart v 0 0 1 7 4 (by decide) (by decide) (by decide)

/-- The state in which GO finds a snapshot: SRC stored and DONE empty. -/
def snapReady (s : State) (src : Nat) : State := (s.put Reg.EPO_SNAP_CTRL_SRC src).put Reg.EPO_SNAP_CTRL_DONE 0

theorem snapReady_keeps (s : State) (src : Nat) :
    s.keepsFlds (snapReady s src) [Reg.EPO_SNAP_CTRL_SRC, Reg.EPO_SNAP_CTRL_DONE] :=
  State.keepsFlds_put (State.keepsFlds_put (s.keepsFlds_refl _) _ _ (by simp) ⟨by decide, by decide⟩) _ _ (by simp)
    ⟨by decide, by decide⟩

theorem snapReady_src (s : State) {src : Nat} (h : src < 16) : (snapReady s src).get Reg.EPO_SNAP_CTRL_SRC = src :=
  (State.get_put_apart _ _ _ _ (by decide) (by decide) (by decide)).trans (s.get_put_val _ _ ⟨by decide, by decide⟩ h)

theorem snapReady_done (s : State) (src : Nat) : (snapReady s src).get Reg.EPO_SNAP_CTRL_DONE = 0 :=
  State.get_put_val _ _ _ ⟨by decide, by decide⟩ (by decide)

theorem exec_snapshotGo {s : State} (rid : Nat) (v : Word) (hopen : s.boardOpen) :
    exec (.snapshotGo rid v) s = .next (if wordBits v 7 4 = 0 then capture (snapReady s (wordBits v 7 4))
      else (snapReady s (wordBits v 7 4)).setSnapArmed true) := by
  refine congrArg Host.Outcome.next ((hostWrite_epoSnapCtrl hopen rid (withBit v 0)).trans ?_)
  simp only [writeSnapCtrl, wordBits_withBit_zero, wordBits_withBit_src, if_true, finish_taken]
  rfl

theorem snapReady_onlyRegs (s : State) (src : Nat) : s.onlyRegs (snapReady s src) :=
  State.onlyRegs_trans (s.onlyRegs_put _ _) (State.onlyRegs_put _ _ _)

/-- GO with SRC 0: the capture finds the epoch and the calendar value as they were. -/
theorem capture_snapReady_spec (s : State) {src : Nat} (h : src = 0) :
    let t := capture (snapReady s src)
    t.get Reg.EPO_SNAP_CTRL_SRC = 0 ∧ t.get Reg.EPO_SNAP_CTRL_DONE = 1 ∧ t.get64 Reg.EPO_SNAP_EPO_LO = s.epoch.toNat ∧
      t.get64 Reg.EPO_SNAP_CAL_LO = s.calendar ∧ t = { s with regs := t.regs, snapArmed := false } := by
  have hready := snapReady_onlyRegs s src
  have hcalendar : (snapReady s src).calendar = s.calendar :=
    calendar_of_keeps (snapReady_keeps s src) (by decide) (by decide) hready.onlyHost.calRaw hready.onlyHost.calAcc
  refine ⟨?_, capture_done _, ?_, (capture_calendar _).trans hcalendar, ?_⟩
  · rw [capture_keeps _ _ (by decide), snapReady_src s (by omega), h]
  · exact (capture_epoch _).trans (congrArg BitVec.toNat hready.onlyHost.epoch)
  · rw [State.onlyRegs] at hready
    rw [capture_frame, hready]

/-- GO with another SRC: the capture is armed (R89). -/
theorem snapReady_armed_spec (s : State) (v : Word) :
    let t : State := (snapReady s (wordBits v 7 4)).setSnapArmed true
    t.get Reg.EPO_SNAP_CTRL_SRC = wordBits v 7 4 ∧ t.get Reg.EPO_SNAP_CTRL_DONE = 0 ∧
      s.keepsFlds t [Reg.EPO_SNAP_CTRL_SRC, Reg.EPO_SNAP_CTRL_DONE] ∧ t = { s with regs := t.regs, snapArmed := true } := by
  have hready := snapReady_onlyRegs s (wordBits v 7 4)
  have hsrc : wordBits v 7 4 < 16 := Nat.mod_lt _ (by decide)
  refine ⟨?_, ?_, State.keepsFlds_setSnapArmed (snapReady_keeps s _) true, State.setSnapArmed_of_onlyRegs hready true⟩
  · rw [State.get_setSnapArmed, snapReady_src s hsrc]
  · rw [State.get_setSnapArmed, snapReady_done]

theorem exec_snapshotCapture {s : State} (h : s.snapArmed = true) : exec .snapshotCapture s = .next (capture s) := happen_of h _ _

/-! ### O12 -/

/-- Settles O12: each command is the write of its register or the operation of its event, and what the operation does is
stated by the lemmas above. -/
theorem timebaseSettings : Obligations.TimebaseSettings := by
  refine ⟨⟨fun s rid v => ⟨exec_epoTrimWrite_setup rid v, exec_epoTrimWrite_refused rid v⟩, fun s rid enc v hopen => ?_⟩,
    fun s rid v hopen => ⟨?_, ?_, fun hsrc => ?_, fun hsrc => ?_⟩, fun s hdisc hwatch hlate => ?_, fun s harmed => ?_⟩
  · exact ⟨fun h => completes_of_exec (exec_angleCfgWrite_free rid enc v hopen h) (restartAngle_wr s _ _ (angleReg_ne_stat enc)),
      exec_angleCfgWrite_named rid enc v hopen⟩
  · refine completes_of_exec (exec_epoCalStep rid v hopen) ⟨calendarStep_ofs _ _, ?_, calendarStep_keeps _ _,
      calendarStep_frame _ _⟩
    rw [calendarStep_gen, Nat.mod_eq_of_lt (committedStep_lt s rid v)]
    rfl
  · exact completes_of_exec (exec_epoCalRateAdj rid v hopen) (calendarRate_spec rfl rfl)
  · exact completes_of_exec ((exec_snapshotGo rid v hopen).trans (congrArg _ (if_pos hsrc))) (capture_snapReady_spec s hsrc)
  · exact completes_of_exec ((exec_snapshotGo rid v hopen).trans (congrArg _ (if_neg hsrc))) (snapReady_armed_spec s v)
  · exact completes_of_exec (exec_disciplineWatchExpiry hdisc hwatch hlate) (watchExpiry_spec s)
  · exact completes_of_exec (exec_snapshotCapture harmed)
      ⟨capture_epoch s, capture_calendar s, capture_angle s, capture_done s, capture_keeps s, capture_frame s⟩

end Sys2Proof.Machine
end

section
/-!
EPOCH_IN edges (R61-R66): what an edge that is accepted does to the alarms, the registers and the epoch, and what one that is not
leaves behind.
-/
namespace Sys2Proof.Machine

/-! ### The alarms of an accepted edge -/

/-- An alarm at an accepted edge: one that is enabled is disabled and marked LOST (R62). -/
def loseAlarm (s : State) (n : Nat) : State :=
  if s.flag (Reg.EPO_ALM_CTRLn_EN n) then (s.put (Reg.EPO_ALM_CTRLn_EN n) 0).put (Reg.EPO_ALM_CTRLn_LOST n) 1 else s

theorem loseAlarms_eq (s : State) : loseAlarms s = (List.range 16).foldl loseAlarm s := rfl

theorem alarmEn_fits (n : Nat) : (Reg.EPO_ALM_CTRLn_EN n).fits := ⟨Nat.le_refl 0, (by decide : 0 < 32)⟩
theorem alarmLost_fits (n : Nat) : (Reg.EPO_ALM_CTRLn_LOST n).fits := ⟨Nat.le_refl 29, (by decide : 29 < 32)⟩

theorem alarmLost_apart_en (n : Nat) : (Reg.EPO_ALM_CTRLn_LOST n).apart (Reg.EPO_ALM_CTRLn_EN n) :=
  .inr (.inl (by decide : 0 < 29))

theorem loseAlarm_keeps (s : State) (n : Nat) :
    s.keepsFlds (loseAlarm s n) [Reg.EPO_ALM_CTRLn_EN n, Reg.EPO_ALM_CTRLn_LOST n] := by
  unfold loseAlarm
  split
  · exact State.keepsFlds_put (State.keepsFlds_put (s.keepsFlds_refl _) _ _ (by simp) (alarmEn_fits n)) _ _ (by simp)
      (alarmLost_fits n)
  · exact s.keepsFlds_refl _

/-- A field of another register than the alarm's keeps its value. -/
theorem loseAlarm_get_ne (s : State) {n : Nat} {f : Fld} (h : f.addr ≠ Reg.EPO_ALM_CTRLn n) : (loseAlarm s n).get f = s.get f :=
  loseAlarm_keeps s n f (by
    intro g hg
    obtain rfl | rfl : g = _ ∨ g = _ := by simpa using hg
    all_goals exact .inl (Ne.symm h))

theorem loseAlarm_en (s : State) (n : Nat) : (loseAlarm s n).get (Reg.EPO_ALM_CTRLn_EN n) = 0 := by
  unfold loseAlarm
  split
  · rw [State.get_put_apart _ _ _ _ (alarmLost_fits n).1 (alarmLost_fits n).2 (alarmLost_apart_en n),
      State.get_put_val _ _ _ (alarmEn_fits n) (Nat.two_pow_pos _)]
  next h => exact State.get_bit_ne_one rfl (by simpa [State.flag] using h)

theorem loseAlarm_lost (s : State) (n : Nat) :
    (loseAlarm s n).get (Reg.EPO_ALM_CTRLn_LOST n) =
      if s.get (Reg.EPO_ALM_CTRLn_EN n) = 1 then 1 else s.get (Reg.EPO_ALM_CTRLn_LOST n) := by
  unfold loseAlarm
  by_cases h : s.get (Reg.EPO_ALM_CTRLn_EN n) = 1
  · rw [if_pos (by simpa [State.flag] using h), if_pos h]
    exact State.get_put_val _ _ _ (alarmLost_fits n) (by decide : 1 < 2 ^ (29 + 1 - 29))
  · rw [if_neg (by simpa [State.flag] using h), if_neg h]

theorem loseAlarm_onlyRegs (s : State) (n : Nat) : s.onlyRegs (loseAlarm s n) := by
  unfold loseAlarm
  split
  · exact State.onlyRegs_trans (s.onlyRegs_put _ _) (State.onlyRegs_put _ _ _)
  · rfl

theorem alarmCtrl_injective {m n : Nat} (h : Reg.EPO_ALM_CTRLn m = Reg.EPO_ALM_CTRLn n) : m = n := by
  simp only [Reg.EPO_ALM_CTRLn] at h
  omega

/-- The first k alarms are lost, and the others are as before. -/
theorem loseAlarm_first (s : State) (k n : Nat) :
    ((List.range k).foldl loseAlarm s).get (Reg.EPO_ALM_CTRLn_EN n) = (if n < k then 0 else s.get (Reg.EPO_ALM_CTRLn_EN n)) ∧
      ((List.range k).foldl loseAlarm s).get (Reg.EPO_ALM_CTRLn_LOST n) =
        (if n < k ∧ s.get (Reg.EPO_ALM_CTRLn_EN n) = 1 then 1 else s.get (Reg.EPO_ALM_CTRLn_LOST n)) := by
  induction k with
  | zero => simp
  | succ k ih =>
    obtain ⟨hen, hlost⟩ := ih
    rw [List.range_succ, List.foldl_append, List.foldl_cons, List.foldl_nil]
    by_cases h : n = k
    · subst h
      rw [loseAlarm_en, loseAlarm_lost, hen, hlost]
      simp
    · have hother : Reg.EPO_ALM_CTRLn n ≠ Reg.EPO_ALM_CTRLn k := fun e => h (alarmCtrl_injective e)
      have hlt : n < k + 1 ↔ n < k := by omega
      rw [loseAlarm_get_ne _ hother, loseAlarm_get_ne _ hother, hen, hlost]
      simp only [hlt, and_self]

theorem loseAlarms_en (s : State) {n : Nat} (hn : n < 16) : (loseAlarms s).get (Reg.EPO_ALM_CTRLn_EN n) = 0 :=
  (loseAlarm_first s 16 n).1.trans (if_pos hn)

theorem loseAlarms_lost (s : State) {n : Nat} (hn : n < 16) :
    (loseAlarms s).get (Reg.EPO_ALM_CTRLn_LOST n) =
      if s.get (Reg.EPO_ALM_CTRLn_EN n) = 1 then 1 else s.get (Reg.EPO_ALM_CTRLn_LOST n) := by
  rw [loseAlarms_eq, (loseAlarm_first s 16 n).2]
  simp only [hn, true_and]

/-- A field that lies in none of the alarms' control registers. -/
def outsideAlarms (f : Fld) : Bool := decide (f.addr < 0x40100 ∨ 0x40200 ≤ f.addr)

theorem addr_ne_of_outside {f : Fld} (h : outsideAlarms f = true) {n : Nat} (hn : n < 16) : f.addr ≠ Reg.EPO_ALM_CTRLn n := by
  simp only [outsideAlarms, decide_eq_true_eq] at h
  simp only [Reg.EPO_ALM_CTRLn]
  omega

theorem loseAlarms_outside (s : State) {f : Fld} (h : outsideAlarms f = true) : (loseAlarms s).get f = s.get f := by
  rw [loseAlarms_eq]
  refine List.foldlRecOn (motive := fun t : State => t.get f = s.get f) _ _ rfl fun t ht n hn => ?_
  rw [loseAlarm_get_ne t (addr_ne_of_outside h (List.mem_range.1 hn)), ht]

theorem loseAlarms_onlyRegs (s : State) : s.onlyRegs (loseAlarms s) := by
  rw [loseAlarms_eq]
  exact List.foldlRecOn (motive := s.onlyRegs) _ _ rfl fun t ht n _ => State.onlyRegs_trans ht (loseAlarm_onlyRegs t n)

/-! ### The registers of an accepted edge -/

/-- The edge in EPO_SYNC_STAT and EPO_REF (R62, R94). -/
def markEdge (s : State) : State :=
  ((s.bumpWrap Reg.EPO_SYNC_STAT_GEN).put Reg.EPO_SYNC_STAT_ACCEPTED 1).put Reg.EPO_REF_SUSPECT 0

/-- ARM after an edge (R62). -/
def disarmEdge (s : State) : State := if s.flag Reg.EPO_SYNC_EVERY then s else s.put Reg.EPO_SYNC_ARM 0

/-- The epoch and what moves with it (R62, R64, R65). -/
def State.setEpoch (s : State) (load old e : Nat) : State :=
  { s with epoch := BitVec.ofNat 64 load, epochOld := old, edgeAcceptedAt := some s.now, angle := { s.angle with eRef := e } }

@[simp] theorem State.get_setEpoch (s : State) (load old e : Nat) (f : Fld) : (s.setEpoch load old e).get f = s.get f := rfl

/-- The edge in EPO_ANG_REF and EPO_LAST_IN, with its event (R62, R64). -/
def reportEdge (s : State) (load e : Nat) : State :=
  ((s.put64 Reg.EPO_ANG_REF_LO e).put64 Reg.EPO_LAST_IN_LO load).event evtEpoch

/-- The new epoch of the last reference edge of the angle (R64). -/
def shiftedRef (s : State) : Nat :=
  ((disarmEdge (markEdge (loseAlarms s))).angle.eRef + (s.get Reg.EPO_TRIM_LOAD + 2 ^ 64 - s.epoch.toNat)) % 2 ^ 64

theorem acceptEpoch_eq (s : State) : acceptEpoch s =
    reportEdge ((disarmEdge (markEdge (loseAlarms s))).setEpoch (s.get Reg.EPO_TRIM_LOAD) s.epoch.toNat (shiftedRef s))
      (s.get Reg.EPO_TRIM_LOAD) (shiftedRef s) := by
  simp only [reportEdge, State.setEpoch, shiftedRef, disarmEdge, markEdge]
  rfl

theorem markEdge_keeps (s : State) :
    s.keepsFlds (markEdge s) [Reg.EPO_SYNC_STAT_GEN, Reg.EPO_SYNC_STAT_ACCEPTED, Reg.EPO_REF_SUSPECT] :=
  State.keepsFlds_put (State.keepsFlds_put (State.keepsFlds_put (s.keepsFlds_refl _) _ _ (by simp) ⟨by decide, by decide⟩) _ _
    (by simp) ⟨by decide, by decide⟩) _ _ (by simp) ⟨by decide, by decide⟩

theorem markEdge_gen (s : State) :
    (markEdge s).get Reg.EPO_SYNC_STAT_GEN = (s.get Reg.EPO_SYNC_STAT_GEN + 1) % 256 := by
  rw [markEdge, State.get_put_apart _ _ _ _ (by decide) (by decide) (by decide),
    State.get_put_apart _ _ _ _ (by decide) (by decide) (by decide), State.get_bumpWrap_same _ _ ⟨by decide, by decide⟩]
  rfl

theorem markEdge_accepted (s : State) : (markEdge s).get Reg.EPO_SYNC_STAT_ACCEPTED = 1 := by
  rw [markEdge, State.get_put_apart _ _ _ _ (by decide) (by decide) (by decide),
    State.get_put_val _ _ _ ⟨by decide, by decide⟩ (by decide)]

theorem markEdge_suspect (s : State) : (markEdge s).get Reg.EPO_REF_SUSPECT = 0 :=
  State.get_put_val _ _ _ ⟨by decide, by decide⟩ (by decide)

theorem markEdge_onlyRegs (s : State) : s.onlyRegs (markEdge s) :=
  State.onlyRegs_trans (State.onlyRegs_trans (s.onlyRegs_put _ _) (State.onlyRegs_put _ _ _)) (State.onlyRegs_put _ _ _)

theorem disarmEdge_keeps (s : State) : s.keepsFlds (disarmEdge s) [Reg.EPO_SYNC_ARM] := by
  unfold disarmEdge
  split
  · exact s.keepsFlds_refl _
  · exact State.keepsFlds_put (s.keepsFlds_refl _) _ _ (by simp) ⟨by decide, by decide⟩

theorem disarmEdge_arm (s : State) :
    (disarmEdge s).get Reg.EPO_SYNC_ARM = if s.get Reg.EPO_SYNC_EVERY = 1 then s.get Reg.EPO_SYNC_ARM else 0 := by
  unfold disarmEdge
  by_cases h : s.get Reg.EPO_SYNC_EVERY = 1
  · rw [if_pos (by simpa [State.flag] using h), if_pos h]
  · rw [if_neg (by simpa [State.flag] using h), if_neg h]
    exact State.get_put_val _ _ _ ⟨by decide, by decide⟩ (by decide)

theorem disarmEdge_onlyRegs (s : State) : s.onlyRegs (disarmEdge s) := by
  unfold disarmEdge
  split
  · rfl
  · exact s.onlyRegs_put _ _

/-- The register fields of `reportEdge`. -/
def reportFlds : List Fld :=
  [whole Reg.EPO_ANG_REF_LO, whole (Reg.EPO_ANG_REF_LO + 4), whole Reg.EPO_LAST_IN_LO, whole (Reg.EPO_LAST_IN_LO + 4)] ++
    evtFlds evtEpoch

theorem reportEdge_keeps (s : State) (load e : Nat) : s.keepsFlds (reportEdge s load e) reportFlds :=
  State.keepsFlds_event (State.keepsFlds_put64 (State.keepsFlds_put64 (s.keepsFlds_refl _) _ _ (by simp [reportFlds])
    (by simp [reportFlds])) _ _ (by simp [reportFlds]) (by simp [reportFlds])) (by decide) (List.subset_append_right _ _)

theorem reportEdge_lastIn (s : State) {load : Nat} (e : Nat) (h : load < 2 ^ 64) :
    (reportEdge s load e).get64 Reg.EPO_LAST_IN_LO = load := by
  rw [reportEdge, State.get64_of_keeps (State.event_keeps _ (by decide)) (by decide) (by decide), State.get64_put64 _ _ _ h]

theorem reportEdge_event (s : State) (load e : Nat) : (reportEdge s load e).get (evtFld evtEpoch) = 1 :=
  State.event_flag _ (by decide)

theorem reportEdge_onlyHost (s : State) (load e : Nat) : s.onlyHost (reportEdge s load e) :=
  State.onlyHost_trans (State.onlyRegs_trans (s.onlyRegs_put64 _ _) (State.onlyRegs_put64 _ _ _)).onlyHost
    (State.event_onlyHost _ _)

/-! ### The accepted edge as a whole -/

/-- A field that the report of the edge keeps reads as the marks before it left it. -/
theorem acceptEpoch_get (s : State) {f : Fld} (h : ∀ g ∈ reportFlds, g.apart f) :
    (acceptEpoch s).get f = (disarmEdge (markEdge (loseAlarms s))).get f := by
  rw [acceptEpoch_eq, reportEdge_keeps _ _ _ f h, State.get_setEpoch]

theorem acceptEpoch_gen (s : State) :
    (acceptEpoch s).get Reg.EPO_SYNC_STAT_GEN = (s.get Reg.EPO_SYNC_STAT_GEN + 1) % 256 := by
  rw [acceptEpoch_get s (by decide), disarmEdge_keeps _ _ (by decide), markEdge_gen, loseAlarms_outside s (by decide)]

theorem acceptEpoch_accepted (s : State) : (acceptEpoch s).get Reg.EPO_SYNC_STAT_ACCEPTED = 1 := by
  rw [acceptEpoch_get s (by decide), disarmEdge_keeps _ _ (by decide), markEdge_accepted]

theorem acceptEpoch_suspect (s : State) : (acceptEpoch s).get Reg.EPO_REF_SUSPECT = 0 := by
  rw [acceptEpoch_get s (by decide), disarmEdge_keeps _ _ (by decide), markEdge_suspect]

theorem acceptEpoch_arm (s : State) : (acceptEpoch s).get Reg.EPO_SYNC_ARM =
    if s.get Reg.EPO_SYNC_EVERY = 1 then s.get Reg.EPO_SYNC_ARM else 0 := by
  rw [acceptEpoch_get s (by decide), disarmEdge_arm, markEdge_keeps _ Reg.EPO_SYNC_EVERY (by decide),
    markEdge_keeps _ Reg.EPO_SYNC_ARM (by decide), loseAlarms_outside s (by decide), loseAlarms_outside s (by decide)]

/-- An alarm's control register is written by the loss of the alarms only. -/
theorem acceptEpoch_alarm (s : State) {n : Nat} (hn : n < 16) {f : Fld} (hf : f.addr = Reg.EPO_ALM_CTRLn n) :
    (acceptEpoch s).get f = (loseAlarms s).get f := by
  have hapart : ∀ l : List Fld, l.all outsideAlarms = true → ∀ g ∈ l, g.apart f := fun l hl g hg =>
    .inl (hf ▸ addr_ne_of_outside (List.all_eq_true.1 hl g hg) hn)
  rw [acceptEpoch_get s (hapart _ (by decide)), disarmEdge_keeps _ f (hapart _ (by decide)),
    markEdge_keeps _ f (hapart _ (by decide))]

theorem acceptEpoch_lastIn (s : State) : (acceptEpoch s).get64 Reg.EPO_LAST_IN_LO = s.get Reg.EPO_TRIM_LOAD := by
  have hload : s.get Reg.EPO_TRIM_LOAD < 2 ^ 16 := s.get_lt _
  rw [acceptEpoch_eq, reportEdge_lastIn _ _ (by omega)]

theorem acceptEpoch_event (s : State) : (acceptEpoch s).get (evtFld evtEpoch) = 1 := by
  rw [acceptEpoch_eq, reportEdge_event]

theorem acceptEpoch_others (s : State) :
    (acceptEpoch s).epoch = BitVec.ofNat 64 (s.get Reg.EPO_TRIM_LOAD) ∧ (acceptEpoch s).mode = s.mode ∧
      (acceptEpoch s).calRaw = s.calRaw ∧ (acceptEpoch s).shots = s.shots ∧ (acceptEpoch s).mem = s.mem := by
  have hregs : s.onlyHost (disarmEdge (markEdge (loseAlarms s))) :=
    (State.onlyRegs_trans (State.onlyRegs_trans (loseAlarms_onlyRegs s) (markEdge_onlyRegs _)) (disarmEdge_onlyRegs _)).onlyHost
  rw [acceptEpoch_eq]
  generalize disarmEdge (markEdge (loseAlarms s)) = u at hregs
  have hreport := reportEdge_onlyHost (u.setEpoch (s.get Reg.EPO_TRIM_LOAD) s.epoch.toNat (shiftedRef s))
    (s.get Reg.EPO_TRIM_LOAD) (shiftedRef s)
  exact ⟨hreport.epoch, hreport.mode.trans hregs.mode, hreport.calRaw.trans hregs.calRaw, hreport.shots.trans hregs.shots,
    hreport.mem.trans hregs.mem⟩

/-! ### What follows an accepted edge in the units -/

theorem snsCut_frame (s : State) : snsCut s = { s with snss := (snsCut s).snss } := by
  unfold snsCut State.eachSns
  refine List.foldlRecOn (motive := fun t : State => t = { s with snss := t.snss }) _ _ rfl fun t ht c _ => ?_
  rw [ht]
  rfl

/-- The sensor channels and the epochs that units keep move with the epoch; registers, mode, calendar, shots and stores stay. -/
theorem shiftUnits_frame (s : State) (old new : Nat) :
    let t := shiftEpochs (snsCut s) old new
    t.regs = s.regs ∧ t.part = s.part ∧ t.epoch = s.epoch ∧ t.mode = s.mode ∧ t.calRaw = s.calRaw ∧ t.shots = s.shots ∧
      t.mem = s.mem := by
  rw [snsCut_frame]
  exact ⟨rfl, rfl, rfl, rfl, rfl, rfl, rfl⟩

theorem edgeAcceptable_of {s : State} (hlock : s.get Reg.EPO_REF_LOCK = 1) (hmode : s.mode = .setup ∨ s.mode = .armed)
    (harm : s.get Reg.EPO_SYNC_ARM = 1 ∨ s.get Reg.EPO_SYNC_EVERY = 1) : s.edgeAcceptable = true := by
  simp [State.edgeAcceptable, State.flag, hlock, hmode, harm]

theorem exec_epochInEdge {s : State} (hon : s.epochOn = true) (hlock : s.get Reg.EPO_REF_LOCK = 1) :
    exec .epochInEdge s = .next (epochInEdge s) := happen_of (by simp [State.refin, State.flag, hon, hlock]) _ _

theorem epochInEdge_accepted {s : State} (hacceptable : s.edgeAcceptable = true) (hshot : s.anyShot = false) :
    epochInEdge s = shiftEpochs (snsCut (acceptEpoch s)) s.ep (snsCut (acceptEpoch s)).ep :=
  if_pos ⟨hacceptable, by simp [hshot]⟩

/-! ### The edge that is not accepted -/

/-- The edge in EPO_LAST_IN and IGNORED (R66). -/
def recordEdge (s : State) : State := (s.put64 Reg.EPO_LAST_IN_LO s.epoch.toNat).bump Reg.EPO_SYNC_STAT_IGNORED

/-- The edge does not meet the check period (R66). -/
def State.edgeMisses (s : State) : Bool :=
  decide ((s.rd Reg.EPO_PERIOD).toNat ≠ 0) &&
    decide (((s.epoch.toNat : Int) - s.get Reg.EPO_TRIM_LOAD) % (s.rd Reg.EPO_PERIOD).toNat ≠ 0)

/-- MISMATCH and its event. -/
def markMismatch (s : State) : State := (s.put Reg.EPO_SYNC_STAT_MISMATCH 1).event evtEpoch

theorem edgeAcceptable_of_mode {s : State} (h1 : s.mode ≠ .setup) (h2 : s.mode ≠ .armed) : s.edgeAcceptable = false := by
  simp [State.edgeAcceptable, h1, h2]

theorem epochInEdge_ignored {s : State} (h : s.edgeAcceptable = false) :
    epochInEdge s = if s.edgeMisses then markMismatch (recordEdge s) else recordEdge s := by
  have hignore : epochInEdge s = ignoreEpoch s := if_neg (by simp [h])
  rw [hignore]
  cases hmiss : s.edgeMisses
  all_goals
    unfold State.edgeMisses at hmiss
    simp only [ignoreEpoch, h, hmiss, Bool.or_false, Bool.false_eq_true, if_false, if_true]
    rfl

theorem recordEdge_lastIn (s : State) : (recordEdge s).get64 Reg.EPO_LAST_IN_LO = s.epoch.toNat := by
  have hbump : (s.put64 Reg.EPO_LAST_IN_LO s.epoch.toNat).keepsFlds (recordEdge s) [Reg.EPO_SYNC_STAT_IGNORED] :=
    State.keepsFlds_bump (State.keepsFlds_refl _ _) _ (by simp) ⟨by decide, by decide⟩
  rw [State.get64_of_keeps hbump (by decide) (by decide), State.get64_put64 _ _ _ s.epoch.isLt]

theorem recordEdge_ignored (s : State) :
    (recordEdge s).get Reg.EPO_SYNC_STAT_IGNORED = min (s.get Reg.EPO_SYNC_STAT_IGNORED + 1) 65535 := by
  rw [recordEdge, State.get_bump_same _ _ ⟨by decide, by decide⟩, State.get_put64_apart _ _ _ _ (by decide) (by decide)]
  rfl

/-- The register fields of an edge that is not accepted, but for MISMATCH and the event. -/
theorem recordEdge_keeps (s : State) : s.keepsFlds (recordEdge s)
    [whole Reg.EPO_LAST_IN_LO, whole (Reg.EPO_LAST_IN_LO + 4), Reg.EPO_SYNC_STAT_IGNORED] :=
  State.keepsFlds_bump (State.keepsFlds_put64 (s.keepsFlds_refl _) _ _ (by simp) (by simp)) _ (by simp) ⟨by decide, by decide⟩

theorem recordEdge_onlyRegs (s : State) : s.onlyRegs (recordEdge s) :=
  State.onlyRegs_trans (s.onlyRegs_put64 _ _) (State.onlyRegs_bump _ _)

theorem markMismatch_keeps (s : State) : s.keepsFlds (markMismatch s) (Reg.EPO_SYNC_STAT_MISMATCH :: evtFlds evtEpoch) :=
  State.keepsFlds_event (State.keepsFlds_put (s.keepsFlds_refl _) _ _ (by simp) ⟨by decide, by decide⟩) (by decide) (by simp)

theorem markMismatch_mismatch (s : State) : (markMismatch s).get Reg.EPO_SYNC_STAT_MISMATCH = 1 := by
  rw [markMismatch, State.get_event _ (by decide) _ (by decide) (by decide),
    State.get_put_val _ _ _ ⟨by decide, by decide⟩ (by decide)]

theorem markMismatch_event (s : State) : (markMismatch s).get (evtFld evtEpoch) = 1 := State.event_flag _ (by decide)

theorem markMismatch_onlyHost (s : State) : s.onlyHost (markMismatch s) :=
  State.onlyHost_trans (s.onlyHost_put _ _) (State.event_onlyHost _ _)

/-! ### O15 -/

/-- Settles O15: the accepted edge by what `acceptEpoch` writes and the frame of the units, the other edge by whether it meets
the check period. -/
theorem epochEdges : Obligations.EpochEdges := by
  refine fun s hon hlock => ⟨fun hmode harm hshot => ?_, fun h1 h2 => ?_⟩
  · have hedge := epochInEdge_accepted (edgeAcceptable_of hlock hmode harm) hshot
    obtain ⟨hregs, hpart, hepoch, hmode', hraw, hshots, hmem⟩ :=
      shiftUnits_frame (acceptEpoch s) s.ep (snsCut (acceptEpoch s)).ep
    obtain ⟨aepoch, amode, araw, ashots, amem⟩ := acceptEpoch_others s
    rw [← hedge] at hregs hpart hepoch hmode' hraw hshots hmem
    have hget : ∀ f, (epochInEdge s).get f = (acceptEpoch s).get f := State.get_of_regs hregs hpart
    refine completes_of_exec (exec_epochInEdge hon hlock) ⟨hepoch.trans aepoch,
      (State.get64_of_regs hregs hpart _).trans (acceptEpoch_lastIn s), (hget _).trans (acceptEpoch_gen s),
      (hget _).trans (acceptEpoch_accepted s), (hget _).trans (acceptEpoch_suspect s), (hget _).trans (acceptEpoch_arm s),
      fun n hn => ⟨?_, ?_⟩, (hget _).trans (acceptEpoch_event s), hmode'.trans amode, hraw.trans araw, hshots.trans ashots,
      hmem.trans amem⟩
    · rw [hget, acceptEpoch_alarm s hn rfl, loseAlarms_en s hn]
    · rw [hget, acceptEpoch_alarm s hn rfl, loseAlarms_lost s hn]
  · have hexec := exec_epochInEdge hon hlock
    have hrecord := recordEdge_keeps s
    rw [epochInEdge_ignored (edgeAcceptable_of_mode h1 h2)] at hexec
    cases hmiss : s.edgeMisses with
    | true =>
      have hper : (s.rd Reg.EPO_PERIOD).toNat ≠ 0 ∧
          ((s.epoch.toNat : Int) - s.get Reg.EPO_TRIM_LOAD) % (s.rd Reg.EPO_PERIOD).toNat ≠ 0 := by
        simpa [State.edgeMisses] using hmiss
      have hmark := markMismatch_keeps (recordEdge s)
      rw [if_pos hmiss] at hexec
      refine completes_of_exec hexec ⟨?_, ?_, fun _ _ => ⟨markMismatch_mismatch _, markMismatch_event _⟩,
        fun h => absurd h (not_or.2 hper), ?_,
        State.onlyHost_trans (recordEdge_onlyRegs s).onlyHost (markMismatch_onlyHost _)⟩
      · rw [State.get64_of_keeps hmark (by decide) (by decide), recordEdge_lastIn]
      · rw [hmark _ (by decide), recordEdge_ignored]
      · exact State.keepsFlds_trans (State.keepsFlds_mono hrecord (by simp)) (State.keepsFlds_mono hmark (by simp [evtFlds]))
    | false =>
      have hmeets : (s.rd Reg.EPO_PERIOD).toNat ≠ 0 →
          ((s.epoch.toNat : Int) - s.get Reg.EPO_TRIM_LOAD) % (s.rd Reg.EPO_PERIOD).toNat = 0 := by
        simpa [State.edgeMisses] using hmiss
      rw [if_neg (by simp [hmiss])] at hexec
      exact completes_of_exec hexec ⟨recordEdge_lastIn s, recordEdge_ignored s, fun hper hlate => absurd (hmeets hper) hlate,
        fun _ => ⟨hrecord _ (by decide), (recordEdge_onlyRegs s).posted⟩, State.keepsFlds_mono hrecord (by simp),
        (recordEdge_onlyRegs s).onlyHost⟩

end Sys2Proof.Machine
end

section
/-!
Rings (03): what an operation on one ring leaves of the others, the two configuration registers, the words written to them, and what
an access error records.
-/
namespace Sys2Proof.Machine

/-! ### A ring after an operation on another part of the state -/

theorem State.sq_setSq_ne (s : State) {n m : Nat} (q : Sq) (h : m ≠ n) : (s.setSq n q).sq m = s.sq m := Table.get_set_ne _ _ h
theorem State.cq_setCq_ne (s : State) {n m : Nat} (q : Cq) (h : m ≠ n) : (s.setCq n q).cq m = s.cq m := Table.get_set_ne _ _ h

@[simp] theorem State.sq_setCq (s : State) (n : Nat) (q : Cq) (m : Nat) : (s.setCq n q).sq m = s.sq m := rfl
@[simp] theorem State.cq_setSq (s : State) (n : Nat) (q : Sq) (m : Nat) : (s.setSq n q).cq m = s.cq m := rfl
@[simp] theorem State.sq_wr (s : State) (a : Nat) (v : Word) (m : Nat) : (s.wr a v).sq m = s.sq m := rfl
@[simp] theorem State.cq_wr (s : State) (a : Nat) (v : Word) (m : Nat) : (s.wr a v).cq m = s.cq m := rfl
@[simp] theorem State.sq_put (s : State) (f : Fld) (v m : Nat) : (s.put f v).sq m = s.sq m := rfl
@[simp] theorem State.cq_put (s : State) (f : Fld) (v m : Nat) : (s.put f v).cq m = s.cq m := rfl

theorem State.keepsFlds_setSq {s t : State} {l : List Fld} (h : s.keepsFlds t l) (n : Nat) (q : Sq) :
    s.keepsFlds (t.setSq n q) l := h

theorem State.keepsFlds_setCq {s t : State} {l : List Fld} (h : s.keepsFlds t l) (n : Nat) (q : Cq) :
    s.keepsFlds (t.setCq n q) l := h

theorem State.onlyHost.sqs {s t : State} (h : s.onlyHost t) : t.sqs = s.sqs := by rw [State.onlyHost] at h; rw [h]

/-! ### Enabled and disabled -/

section
variable {s : State} {n : Nat}

theorem State.sqEn_of_one (h : s.get (Reg.PCI_SQ_CFG_EN n) = 1) : s.sqEn n = true := decide_eq_true h
theorem State.cqEn_of_one (h : s.get (Reg.PCI_CQ_CFG_EN n) = 1) : s.cqEn n = true := decide_eq_true h
theorem State.sqEn_of_zero (h : s.get (Reg.PCI_SQ_CFG_EN n) = 0) : s.sqEn n = false := decide_eq_false (by omega)
theorem State.cqEn_of_zero (h : s.get (Reg.PCI_CQ_CFG_EN n) = 0) : s.cqEn n = false := decide_eq_false (by omega)

/-- An SQ is enabled if its EN reads 1. -/
theorem State.sqEn_iff : s.sqEn n = true ↔ s.get (Reg.PCI_SQ_CFG_EN n) = 1 := decide_eq_true_iff
end

/-! ### Bits of a written word -/

/-- A mask that covers a field leaves it. -/
theorem wordBits_and_mask (w m : Word) {hi lo : Nat} (h : ∀ i < hi + 1 - lo, m.getLsbD (lo + i) = true) :
    wordBits (w &&& m) hi lo = wordBits w hi lo := by
  apply Nat.eq_of_testBit_eq
  intro i
  rw [testBit_wordBits, testBit_wordBits, BitVec.getLsbD_and]
  by_cases hi' : i < hi + 1 - lo
  · rw [h i hi', Bool.and_true]
  · simp [hi']

theorem wordBits_withBit_self (v : Word) {b : Nat} (hb : b < 32) : wordBits (withBit v b) b b = 1 :=
  (wordBits_wordSet_same v b b 1 (Nat.le_refl b) hb).trans (Nat.mod_eq_of_lt (Nat.one_lt_two_pow (by omega)))

theorem wordBits_withBit_apart (v : Word) {b hi lo : Nat} (hb : b < 32) (d : hi < b ∨ b < lo) :
    wordBits (withBit v b) hi lo = wordBits v hi lo := wordBits_wordSet_apart v b b 1 hi lo (Nat.le_refl b) hb d

/-- A field of a register that has just been written. -/
theorem State.get_wr_same (s : State) {f : Fld} {a : Nat} (v : Word) (h : f.addr = a) :
    (s.wr a v).get f = wordBits v f.hi f.lo := by
  rw [State.get, h, State.rd_wr_same]

/-! ### Access errors -/

theorem State.accessError_flag (s : State) (rid cause offset : Nat) :
    (s.accessError rid cause offset).get Reg.BRD_ACC_ERR_FLAG = 1 := by
  unfold State.accessError
  dsimp only
  rw [State.get_event _ (by decide) _ (by decide) (by decide)]
  split
  next h => exact (State.get_bump_apart _ _ _ ⟨by decide, by decide⟩ (by decide)).trans (of_decide_eq_true h)
  next =>
    rw [State.get_wr_ne _ _ _ _ (by decide), State.get_put_apart _ _ _ _ (by decide) (by decide) (by decide),
      State.get_put_apart _ _ _ _ (by decide) (by decide) (by decide), State.get_put_val _ _ _ ⟨by decide, by decide⟩ (by decide)]

/-- R109: only the first access error since FLAG was cleared records its CAUSE. -/
theorem State.accessError_cause {s : State} (hfirst : s.get Reg.BRD_ACC_ERR_FLAG = 0) (rid : Nat) {cause : Nat}
    (hcause : cause < 16) (offset : Nat) : (s.accessError rid cause offset).get Reg.BRD_ACC_ERR_CAUSE = cause := by
  have hflag : ¬ s.flag Reg.BRD_ACC_ERR_FLAG = true := by simp [State.flag, hfirst]
  simp only [State.accessError, if_neg hflag]
  rw [State.get_event _ (by decide) _ (by decide) (by decide), State.get_wr_ne _ _ _ _ (by decide),
    State.get_put_apart _ _ _ _ (by decide) (by decide) (by decide), State.get_put_val _ _ _ ⟨by decide, by decide⟩ hcause]

/-! ### The configuration registers in the map -/

/-- The rows of PCI_SQ_CFG and PCI_CQ_CFG (Tables 03-9 and 03-11). -/
def sqCfgRow : RegRow := ⟨0x21008, false, 64, 32, 1, 4, 0x40000, some 0, 0x801F003F, 0x0, 0x0, 0x0⟩
def cqCfgRow : RegRow := ⟨0x22008, false, 64, 32, 1, 4, 0x40002, some 0, 0x801F00FF, 0x0, 0x0, 0x0⟩

theorem map_sqCfg : ∀ n < 64, pairLow? (Reg.PCI_SQ_CFG n) = none ∧ regRow? (Reg.PCI_SQ_CFG n) = some (sqCfgRow, n) := by decide
theorem map_cqCfg : ∀ n < 64, pairLow? (Reg.PCI_CQ_CFG n) = none ∧ regRow? (Reg.PCI_CQ_CFG n) = some (cqCfgRow, n) := by decide

section
variable {n : Nat} (hn : n < 64)
include hn

theorem sqCfg_lt : Reg.PCI_SQ_CFG n < 0x22000 := by unfold Reg.PCI_SQ_CFG; omega
theorem cqCfg_lt : Reg.PCI_CQ_CFG n < 0x23000 := by unfold Reg.PCI_CQ_CFG; omega

/-- No mode refuses a write of a ring's configuration, and both configuration registers have writes of their own. -/
theorem hostWrite_sqCfg (s : State) (rid : Nat) (v : Word) :
    hostWrite s rid (Reg.PCI_SQ_CFG n) v = (writeSqCfg s n v).finish rid (Reg.PCI_SQ_CFG n) := by
  have hlt := sqCfg_lt hn
  obtain ⟨hpair, hrow⟩ := map_sqCfg n hn
  exact hostWrite_board s rid _ v hpair hrow (rankOf_board (by omega)) (modeRefuses_low s (.inl (by omega)))

theorem hostWrite_cqCfg (s : State) (rid : Nat) (v : Word) :
    hostWrite s rid (Reg.PCI_CQ_CFG n) v = (writeCqCfg s n v).finish rid (Reg.PCI_CQ_CFG n) := by
  have hlt := cqCfg_lt hn
  obtain ⟨hpair, hrow⟩ := map_cqCfg n hn
  exact hostWrite_board s rid _ v hpair hrow (rankOf_board (by omega)) (modeRefuses_low s (.inl (by omega)))

/-- An access error leaves the configuration of the SQs alone. -/
theorem accFlds_apart_sqCfg {f : Fld} (hf : f.addr = Reg.PCI_SQ_CFG n) : ∀ g ∈ accFlds, g.apart f := by
  have houtside : ∀ g ∈ accFlds, g.addr < 0x21000 ∨ 0x22000 ≤ g.addr := by decide
  intro g hg
  have hlt := sqCfg_lt hn
  have hge : 0x21000 ≤ Reg.PCI_SQ_CFG n := by unfold Reg.PCI_SQ_CFG; omega
  have := houtside g hg
  exact .inl (by omega)
end

end Sys2Proof.Machine
end

section
/-!
Doorbells (R118-R121): each case of a doorbell, and the ring event that a bad tail makes.
-/
namespace Sys2Proof.Machine

/-! ### A ring event -/

/-- From s to t only registers, messages to the host and completion rings change. -/
def State.onlyDelivery (s t : State) : Prop :=
  t = { s with regs := t.regs, posted := t.posted, holding := t.holding, cqs := t.cqs }

theorem State.onlyDelivery_trans {s t u : State} (h : s.onlyDelivery t) (k : t.onlyDelivery u) : s.onlyDelivery u := by
  rw [State.onlyDelivery] at *; rw [k, h]

theorem State.onlyHost.onlyDelivery {s t : State} (h : s.onlyHost t) : s.onlyDelivery t := by
  rw [State.onlyHost] at h; rw [State.onlyDelivery, h]

theorem State.onlyDelivery_setCq (s : State) (n : Nat) (q : Cq) : s.onlyDelivery (s.setCq n q) := rfl

theorem State.onlyDelivery.sqs {s t : State} (h : s.onlyDelivery t) : t.sqs = s.sqs := by rw [State.onlyDelivery] at h; rw [h]

theorem State.cqRaise_onlyDelivery (s : State) (n : Nat) : s.onlyDelivery (s.cqRaise n) :=
  State.onlyDelivery_trans (s.onlyDelivery_setCq _ _) (State.raiseVector_onlyHost _ _).onlyDelivery

/-- A conditional is one of its branches. (Mathlib's `ite_eq_or_eq`; the package's modules import core Lean only.) -/
theorem ite_is_branch {α : Type} (c : Prop) [Decidable c] (a b : α) : ite c a b = a ∨ ite c a b = b := by
  by_cases h : c
  · exact .inl (if_pos h)
  · exact .inr (if_neg h)

/-- A completion entry is two messages and a new state of its CQ, which may then raise its vector (R116, R117, R134). -/
theorem State.writeEntry_cases (s : State) (n kind status sq detail tag flags stamp : Nat) (irq final : Bool) (due : Nat) :
    ∃ first second q, let u := ((s.send first false 0).send second final due).setCq n q
      let t := s.writeEntry n kind status sq detail tag flags stamp irq final due
      t = u.cqRaise n ∨ t = u :=
  ⟨_, _, _, ite_is_branch _ _ _⟩

theorem State.writeEntry_onlyDelivery (s : State) (n kind status sq detail tag flags stamp : Nat) (irq final : Bool) (due : Nat) :
    s.onlyDelivery (s.writeEntry n kind status sq detail tag flags stamp irq final due) := by
  obtain ⟨first, second, q, h⟩ := s.writeEntry_cases n kind status sq detail tag flags stamp irq final due
  have hsent : s.onlyDelivery (((s.send first false 0).send second final due).setCq n q) :=
    State.onlyDelivery_trans (State.onlyHost_trans (s.send_onlyHost _ _ _) (State.send_onlyHost _ _ _ _)).onlyDelivery
      (State.onlyDelivery_setCq _ _ _)
  obtain h | h := h
  · rw [h]; exact State.onlyDelivery_trans hsent (State.cqRaise_onlyDelivery _ _)
  · rw [h]; exact hsent

theorem State.ringEvent_onlyDelivery (s : State) (sq status : Nat) : s.onlyDelivery (s.ringEvent sq status) := by
  unfold State.ringEvent
  dsimp only
  split
  · exact s.writeEntry_onlyDelivery ..
  · exact s.onlyDelivery_setCq _ _

/-- No Pending Bit lies in BRD_EVT. -/
theorem State.get_raiseVector_evt (s : State) (v bit : Nat) : (s.raiseVector v).get (evtFld bit) = s.get (evtFld bit) :=
  s.raiseVector_keeps v _ fun g hg => by
    rw [List.mem_singleton.1 hg]
    exact .inl (by simp only [pendingBit, evtFld, Reg.PCI_PBAw, Reg.BRD_EVT]; omega)

theorem State.get_writeEntry_evt (s : State) (n kind status sq detail tag flags stamp : Nat) (irq final : Bool) (due bit : Nat) :
    (s.writeEntry n kind status sq detail tag flags stamp irq final due).get (evtFld bit) = s.get (evtFld bit) := by
  obtain ⟨first, second, q, h | h⟩ := s.writeEntry_cases n kind status sq detail tag flags stamp irq final due
  · rw [h, State.cqRaise, State.get_raiseVector_evt, State.get_setCq, State.get_setCq, State.get_send, State.get_send]
  · rw [h, State.get_setCq, State.get_send, State.get_send]

theorem State.get_ringEvent_evt (s : State) (sq status bit : Nat) :
    (s.ringEvent sq status).get (evtFld bit) = s.get (evtFld bit) := by
  unfold State.ringEvent
  dsimp only
  split
  · exact s.get_writeEntry_evt ..
  · exact s.get_setCq ..

/-! ### An SQ in ERROR -/

theorem State.sq_sqError (s : State) (n status : Nat) : (s.sqError n status).sq n = { s.sq n with err := some (status % 16) } := by
  have hsqs : (s.sqError n status).sqs = (s.setSq n { s.sq n with err := some (status % 16) }).sqs :=
    (State.ringEvent_onlyDelivery _ _ _).sqs.trans (State.event_onlyHost _ _).sqs
  rw [State.sq, hsqs]
  exact s.sq_setSq n _

theorem State.sqError_event (s : State) (n status : Nat) : (s.sqError n status).get (evtFld evtRing) = 1 := by
  rw [State.sqError, State.get_ringEvent_evt, State.event_flag _ (by decide)]

theorem State.sqError_frame (s : State) (n status : Nat) :
    let t := s.sqError n status
    t = { s with regs := t.regs, posted := t.posted, holding := t.holding, sqs := t.sqs, cqs := t.cqs } := by
  have hafter : (s.setSq n { s.sq n with err := some (status % 16) }).onlyDelivery (s.sqError n status) :=
    State.onlyDelivery_trans (State.event_onlyHost _ _).onlyDelivery (State.ringEvent_onlyDelivery _ _ _)
  rw [State.onlyDelivery] at hafter
  dsimp only
  rw [hafter]
  rfl

/-! ### The cases of an SQ tail doorbell -/

section
variable {s : State} {n : Nat} (rid : Nat) {v : Word}

theorem sqDoorbell_disabled (hen : s.sqEn n = false) : sqDoorbell s rid n v = s.accessError rid 0xC (n * 0x1000) := by
  simp [sqDoorbell, hen]

theorem sqDoorbell_inError (hen : s.sqEn n = true) (herr : (s.sq n).err ≠ none) : sqDoorbell s rid n v = s := by
  simp [sqDoorbell, hen, Option.isSome_iff_ne_none.2 herr]

theorem sqDoorbell_range (hen : s.sqEn n = true) (herr : (s.sq n).err = none) (hrange : s.sqSize n ≤ wordBits v 15 0) :
    sqDoorbell s rid n v = s.sqError n 0x84 := by
  simp [sqDoorbell, hen, herr, hrange]

section
variable (hen : s.sqEn n = true) (herr : (s.sq n).err = none) (hrange : wordBits v 15 0 < s.sqSize n)
include hen herr hrange

theorem sqDoorbell_overrun (hover : ringDist (s.sqSize n) ((s.sq n).head + s.sqSize n - 1) (s.sq n).tail <
    ringDist (s.sqSize n) (wordBits v 15 0) (s.sq n).tail) : sqDoorbell s rid n v = s.sqError n 0x85 := by
  simp [sqDoorbell, hen, herr, Nat.not_le.2 hrange, hover]

theorem sqDoorbell_taken (hfree : ringDist (s.sqSize n) (wordBits v 15 0) (s.sq n).tail ≤
      ringDist (s.sqSize n) ((s.sq n).head + s.sqSize n - 1) (s.sq n).tail) :
    sqDoorbell s rid n v = s.setSq n { s.sq n with tail := wordBits v 15 0 } := by
  simp [sqDoorbell, hen, herr, Nat.not_le.2 hrange, Nat.not_lt.2 hfree]
end

/-! ### The cases of a CQ head doorbell -/

theorem cqDoorbell_disabled (hen : s.cqEn n = false) :
    cqDoorbell s rid n v = s.accessError rid 0xC (n * 0x1000 + 0x40) := by
  simp [cqDoorbell, hen]

theorem cqDoorbell_refused (hen : s.cqEn n = true) (hbad : s.cqSize n ≤ wordBits v 15 0 ∨
      ringDist (s.cqSize n) (s.cq n).tail (s.cq n).head < ringDist (s.cqSize n) (wordBits v 15 0) (s.cq n).head) :
    cqDoorbell s rid n v = s.accessError rid 6 (n * 0x1000 + 0x40) := by
  simp [cqDoorbell, hen, hbad]

theorem cqDoorbell_taken (hen : s.cqEn n = true) (hrange : wordBits v 15 0 < s.cqSize n)
    (hused : ringDist (s.cqSize n) (wordBits v 15 0) (s.cq n).head ≤ ringDist (s.cqSize n) (s.cq n).tail (s.cq n).head) :
    cqDoorbell s rid n v = s.setCq n { s.cq n with head := wordBits v 15 0 } := by
  simp [cqDoorbell, hen, Nat.not_le.2 hrange, Nat.not_lt.2 hused]

/-! ### O29 -/

theorem exec_sqTailDoorbell (hn : n < 64) : exec (.sqTailDoorbell rid n v) s = .next (sqDoorbell s rid n v) := if_pos hn
theorem exec_cqHeadDoorbell (hn : n < 64) : exec (.cqHeadDoorbell rid n v) s = .next (cqDoorbell s rid n v) := if_pos hn
end

/-- Settles O29: a doorbell to one of the 64 pages is `sqDoorbell` or `cqDoorbell`, by their cases. -/
theorem doorbellsMoveTheRings : Obligations.DoorbellsMoveTheRings := by
  intro s rid n v hn
  have hsq := exec_sqTailDoorbell (s := s) rid (v := v) hn
  have hcq := exec_cqHeadDoorbell (s := s) rid (v := v) hn
  refine ⟨fun hen herr => ⟨fun hrange hfree => ?_, fun hrange => ?_, fun hrange hover => ?_⟩, fun hen herr => ?_, fun hen => ?_,
    fun hen => ?_, fun hen => ⟨fun hrange hused => ?_, fun hbad => ?_⟩⟩
  · rw [hsq, sqDoorbell_taken rid (State.sqEn_of_one hen) herr hrange hfree]
  · rw [sqDoorbell_range rid (State.sqEn_of_one hen) herr hrange] at hsq
    exact completes_of_exec hsq ⟨by rw [State.sq_sqError], State.sqError_event s n _, by rw [State.sq_sqError],
      State.sqError_frame s n _⟩
  · rw [sqDoorbell_overrun rid (State.sqEn_of_one hen) herr hrange hover] at hsq
    exact completes_of_exec hsq (by rw [State.sq_sqError])
  · rw [hsq, sqDoorbell_inError rid (State.sqEn_of_one hen) herr]
  · rw [hsq, sqDoorbell_disabled rid (State.sqEn_of_zero hen)]
  · rw [hcq, cqDoorbell_disabled rid (State.cqEn_of_zero hen)]
  · rw [hcq, cqDoorbell_taken rid (State.cqEn_of_one hen) hrange hused]
  · rw [hcq, cqDoorbell_refused rid (State.cqEn_of_one hen) hbad]

end Sys2Proof.Machine
end

section
/-!
Enabling and disabling rings (R112-R114, R535): the cases of a write of PCI_SQ_CFG and PCI_CQ_CFG, and what each leaves.
-/
namespace Sys2Proof.Machine

/-! ### The cases of the two configuration writes -/

/-- SIZE_LOG2 is one of 4-16 (R535). -/
theorem badSize_eq_false {v : Word} (hmin : 4 ≤ wordBits v 20 16) (hmax : wordBits v 20 16 ≤ 16) : badSize v = false :=
  decide_eq_false (by omega)

/-- A ring as enabling it leaves it (R113). -/
def Sq.restarted (q : Sq) : Sq := { q with head := 0, tail := 0, fetchPos := 0, err := none }
def Cq.restarted (q : Cq) : Cq := { q with head := 0, tail := 0, pass := 0 }

section
variable {s : State} {n : Nat} {v : Word}

theorem writeSqCfg_disable (hen : s.sqEn n = true) (hoff : wordBits v 31 31 = 0) : writeSqCfg s n v = disableSq s n := by
  simp [writeSqCfg, hen, hoff]

theorem writeCqCfg_disable (hen : s.cqEn n = true) (hoff : wordBits v 31 31 = 0) : writeCqCfg s n v = disableCq s n := by
  simp [writeCqCfg, hen, hoff]

section
variable (hsize : badSize v = false) (hon : wordBits v 31 31 = 1)
include hsize hon

theorem writeSqCfg_enable (hen : s.sqEn n = false) (hcq : s.cqEn (wordBits v 5 0) = true) :
    writeSqCfg s n v = taken ((storeSqCfg s n v).setSq n (s.sq n).restarted) := by
  simp [writeSqCfg, hen, hsize, hon, hcq, storeSqCfg, Sq.restarted]

/-- R113: the other fields are stored, EN stays 0. -/
theorem writeSqCfg_noCq (hen : s.sqEn n = false) (hcq : s.cqEn (wordBits v 5 0) = false) :
    writeSqCfg s n v = ⟨storeSqCfg s n (v &&& 0x7FFFFFFF), some 0xA⟩ := by
  simp [writeSqCfg, hen, hsize, hon, hcq]

theorem writeCqCfg_enable (hen : s.cqEn n = false) (hvector : 2 ≤ wordBits v 7 0) :
    writeCqCfg s n v = taken ((storeCqCfg s n v).setCq n (s.cq n).restarted) := by
  simp [writeCqCfg, hen, hsize, hon, Nat.not_lt.2 hvector, storeCqCfg, Cq.restarted]
end

theorem disableCq_free (howed : (s.cq n).owed = 0) (hnamed : s.cqNamed n = false) :
    disableCq s n = taken (s.put (Reg.PCI_CQ_CFG_EN n) 0) := by
  simp [disableCq, howed, hnamed]

theorem disableCq_refused (h : (s.cq n).owed ≠ 0 ∨ s.cqNamed n = true) : disableCq s n = refusedBy s 8 := if_pos h

theorem State.cqNamed_iff : s.cqNamed n = true ↔ ∃ q, q < 64 ∧ s.get (Reg.PCI_SQ_CFG_EN q) = 1 ∧ s.cqOf q = n := by
  simp [State.cqNamed, State.sqEn_iff]
end

/-! ### The four commands as writes -/

section
variable {s : State} {n : Nat} (rid : Nat) (v : Word) (hn : n < 64)
include hn

theorem exec_sqEnable : exec (.sqEnable rid n v) s = .next ((writeSqCfg s n (withBit v 31)).finish rid (Reg.PCI_SQ_CFG n)) :=
  (happen_of (decide_eq_true hn) _ _).trans (congrArg _ (hostWrite_sqCfg hn s rid _))

theorem exec_cqEnable : exec (.cqEnable rid n v) s = .next ((writeCqCfg s n (withBit v 31)).finish rid (Reg.PCI_CQ_CFG n)) :=
  (happen_of (decide_eq_true hn) _ _).trans (congrArg _ (hostWrite_cqCfg hn s rid _))

theorem exec_sqDisable (hen : s.sqEn n = true) :
    exec (.sqDisable rid n) s = .next ((disableSq s n).finish rid (Reg.PCI_SQ_CFG n)) := by
  rw [← writeSqCfg_disable (v := 0) hen (by decide), ← hostWrite_sqCfg hn s rid 0]
  exact happen_of (by simp [hn, hen]) _ _

theorem exec_cqDisable (hen : s.cqEn n = true) :
    exec (.cqDisable rid n) s = .next ((disableCq s n).finish rid (Reg.PCI_CQ_CFG n)) := by
  rw [← writeCqCfg_disable (v := 0) hen (by decide), ← hostWrite_cqCfg hn s rid 0]
  exact happen_of (by simp [hn, hen]) _ _
end

/-! ### The stored words -/

section
variable (s : State) (n : Nat) (v : Word)

theorem storeSqCfg_keeps : s.keepsFlds (storeSqCfg s n v) [whole (Reg.PCI_SQ_CFG n)] :=
  State.keepsFlds_wr (s.keepsFlds_refl _) _ _ (by simp)

theorem storeCqCfg_keeps : s.keepsFlds (storeCqCfg s n v) [whole (Reg.PCI_CQ_CFG n)] :=
  State.keepsFlds_wr (s.keepsFlds_refl _) _ _ (by simp)

theorem storeSqCfg_en : (storeSqCfg s n v).get (Reg.PCI_SQ_CFG_EN n) = wordBits v 31 31 :=
  (s.get_wr_same (f := Reg.PCI_SQ_CFG_EN n) _ rfl).trans (wordBits_and_mask v 0x801F003F (hi := 31) (lo := 31) (by decide))

theorem storeSqCfg_size : (storeSqCfg s n v).get (Reg.PCI_SQ_CFG_SIZE_LOG2 n) = wordBits v 20 16 :=
  (s.get_wr_same (f := Reg.PCI_SQ_CFG_SIZE_LOG2 n) _ rfl).trans (wordBits_and_mask v 0x801F003F (hi := 20) (lo := 16) (by decide))

theorem storeSqCfg_cq : (storeSqCfg s n v).get (Reg.PCI_SQ_CFG_CQ n) = wordBits v 5 0 :=
  (s.get_wr_same (f := Reg.PCI_SQ_CFG_CQ n) _ rfl).trans (wordBits_and_mask v 0x801F003F (hi := 5) (lo := 0) (by decide))

theorem storeCqCfg_en : (storeCqCfg s n v).get (Reg.PCI_CQ_CFG_EN n) = wordBits v 31 31 :=
  (s.get_wr_same (f := Reg.PCI_CQ_CFG_EN n) _ rfl).trans (wordBits_and_mask v 0x801F00FF (hi := 31) (lo := 31) (by decide))

theorem storeCqCfg_vector : (storeCqCfg s n v).get (Reg.PCI_CQ_CFG_VECTOR n) = wordBits v 7 0 :=
  (s.get_wr_same (f := Reg.PCI_CQ_CFG_VECTOR n) _ rfl).trans (wordBits_and_mask v 0x801F00FF (hi := 7) (lo := 0) (by decide))
end

/-- The top bit of a word that is masked out of it. -/
theorem wordBits_and_low31 (v : Word) : wordBits (v &&& 0x7FFFFFFF) 31 31 = 0 := by
  have htop : (v &&& 0x7FFFFFFF).toNat < 2 ^ 31 := by
    rw [BitVec.toNat_and]
    exact Nat.lt_of_le_of_lt Nat.and_le_right (by decide)
  rw [wordBits, Nat.div_eq_of_lt htop, Nat.zero_mod]

/-! ### What enabling and disabling leave -/

/-- R113 for a CQ that is disabled: EN reads 0 and the access error is recorded. -/
theorem enableSq_noCq_spec (s : State) (rid : Nat) {n : Nat} (v : Word) (hn : n < 64) :
    let t := (storeSqCfg s n (v &&& 0x7FFFFFFF)).accessError rid 0xA (Reg.PCI_SQ_CFG n)
    t.get (Reg.PCI_SQ_CFG_EN n) = 0 ∧ t.get Reg.BRD_ACC_ERR_FLAG = 1 ∧
      (s.get Reg.BRD_ACC_ERR_FLAG = 0 → t.get Reg.BRD_ACC_ERR_CAUSE = 0xA) ∧
      s.keepsFlds t (whole (Reg.PCI_SQ_CFG n) :: accFlds) ∧ s.onlyHost t := by
  have hstored := storeSqCfg_keeps s n (v &&& 0x7FFFFFFF)
  have herror := State.accessError_keeps (storeSqCfg s n (v &&& 0x7FFFFFFF)) rid 0xA (Reg.PCI_SQ_CFG n)
  have hflag : Reg.BRD_ACC_ERR_FLAG.addr ≠ Reg.PCI_SQ_CFG n := by
    simp only [Reg.BRD_ACC_ERR_FLAG, Reg.BRD_ACC_ERR, Reg.PCI_SQ_CFG]; omega
  refine ⟨?_, State.accessError_flag _ _ _ _, fun hfirst => ?_, ?_,
    State.onlyHost_trans (s.onlyHost_wr _ _) (State.accessError_onlyHost _ _ _ _)⟩
  · rw [herror _ (accFlds_apart_sqCfg hn rfl), storeSqCfg_en, wordBits_and_low31]
  · exact State.accessError_cause ((s.get_wr_ne _ _ _ hflag).trans hfirst) rid (by decide) _
  · exact State.keepsFlds_trans (State.keepsFlds_mono hstored (by simp)) (State.keepsFlds_mono herror (by simp))

/-- The queue of an SQ without its fetches that have not arrived, and its barrier if the fetch that set it remains. -/
theorem lapse_eq (s : State) (n : Nat) (p : Fetch → Bool) : ∃ b, lapse s n p =
    (s.payOwed (s.cqOf n) (2 * ((s.sq n).queue.filter p).length)).setSq n
      { s.sq n with queue := (s.sq n).queue.filter fun f => !p f, barrier := b } :=
  ⟨_, rfl⟩

/-- R114: EN reads 0, the fetches that have not arrived lapse, and their credit is released. -/
theorem disableSq_spec (s : State) (n : Nat) :
    let t := (disableSq s n).st
    t.get (Reg.PCI_SQ_CFG_EN n) = 0 ∧ s.keepsFlds t [Reg.PCI_SQ_CFG_EN n] ∧
      (t.sq n).queue = (s.sq n).queue.filter (fun f => f.desc.isSome) ∧
      (t.cq (s.cqOf n)).owed = (s.cq (s.cqOf n)).owed - 2 * ((s.sq n).queue.filter fun f => f.desc.isNone).length ∧
      (∀ m, m ≠ n → t.sq m = s.sq m) ∧ (∀ m, m ≠ s.cqOf n → t.cq m = s.cq m) ∧
      t = { s with regs := t.regs, sqs := t.sqs, cqs := t.cqs } := by
  have hfits : (Reg.PCI_SQ_CFG_EN n).fits := ⟨Nat.le_refl 31, (by decide : 31 < 32)⟩
  obtain ⟨b, hlapse⟩ := lapse_eq s n fun f => f.desc.isNone
  rw [State.payOwed] at hlapse
  simp only [disableSq, taken, hlapse]
  refine ⟨State.get_put_val _ _ _ hfits (Nat.two_pow_pos _), ?_, ?_, ?_, fun m hm => ?_, fun m hm => ?_, rfl⟩
  · exact State.keepsFlds_put (State.keepsFlds_setSq (State.keepsFlds_setCq (s.keepsFlds_refl _) _ _) _ _) _ _ (by simp) hfits
  · simp
  · simp
  · rw [State.sq_put, State.sq_setSq_ne _ _ hm, State.sq_setCq]
  · rw [State.cq_put, State.cq_setSq, State.cq_setCq_ne _ _ hm]

/-! ### O27 -/

/-- Settles O27: each command is a write of the ring's configuration register, taken apart by the cases of that write. -/
theorem ringsAreEnabledAndDisabled : Obligations.RingsAreEnabledAndDisabled := by
  refine ⟨fun s rid n v hn hmin hmax => ?_, fun s rid n hn => ⟨fun hen => ?_, fun hen => ⟨fun howed hnamed => ?_, fun hbusy => ?_⟩⟩⟩
  · have hon : wordBits (withBit v 31) 31 31 = 1 := wordBits_withBit_self v (by decide)
    have hother : ∀ {hi lo}, hi < 31 → wordBits (withBit v 31) hi lo = wordBits v hi lo := fun h =>
      wordBits_withBit_apart v (by decide) (.inl h)
    have hcqNo : wordBits (withBit v 31) 5 0 = wordBits v 5 0 := hother (by decide)
    have hsize : badSize (withBit v 31) = false := by
      rw [← hother (by decide)] at hmin hmax
      exact badSize_eq_false hmin hmax
    refine ⟨fun hen => ⟨fun hcq => ?_, fun hcq => ?_⟩, fun hen hvector => ?_⟩
    · have hexec := exec_sqEnable (s := s) rid v hn
      rw [writeSqCfg_enable hsize hon (State.sqEn_of_zero hen) (hcqNo ▸ State.cqEn_of_one hcq), finish_taken] at hexec
      have hsq := State.sq_setSq (storeSqCfg s n (withBit v 31)) n (s.sq n).restarted
      refine completes_of_exec hexec ⟨(storeSqCfg_en s n _).trans hon, (storeSqCfg_size s n _).trans (hother (by decide)),
        (storeSqCfg_cq s n _).trans hcqNo, ?_, ?_, ?_, ?_, ?_, fun m hm => State.sq_setSq_ne _ _ hm,
        State.keepsFlds_setSq (storeSqCfg_keeps s n _) _ _, rfl⟩
      all_goals rw [hsq]; rfl
    · have hexec := exec_sqEnable (s := s) rid v hn
      rw [writeSqCfg_noCq hsize hon (State.sqEn_of_zero hen) (hcqNo ▸ State.cqEn_of_zero hcq)] at hexec
      exact completes_of_exec hexec (enableSq_noCq_spec s rid _ hn)
    · have hexec := exec_cqEnable (s := s) rid v hn
      rw [writeCqCfg_enable hsize hon (State.cqEn_of_zero hen) (by rwa [hother (by decide)]), finish_taken] at hexec
      have hcq := State.cq_setCq (storeCqCfg s n (withBit v 31)) n (s.cq n).restarted
      refine completes_of_exec hexec ⟨(storeCqCfg_en s n _).trans hon, (storeCqCfg_vector s n _).trans (hother (by decide)),
        ?_, ?_, ?_, fun m hm => State.cq_setCq_ne _ _ hm, State.keepsFlds_setCq (storeCqCfg_keeps s n _) _ _, rfl⟩
      all_goals rw [hcq]; rfl
  · exact completes_of_exec (exec_sqDisable rid hn (State.sqEn_of_one hen)) (disableSq_spec s n)
  · have hfree : s.cqNamed n = false := by
      rw [← Bool.not_eq_true, State.cqNamed_iff]
      exact fun ⟨q, hq, hq1, hqn⟩ => hnamed q hq hq1 hqn
    rw [exec_cqDisable rid hn (State.cqEn_of_one hen), disableCq_free howed hfree, finish_taken]
  · rw [exec_cqDisable rid hn (State.cqEn_of_one hen), disableCq_refused (hbusy.imp_right State.cqNamed_iff.2), finish_refusedBy]

end Sys2Proof.Machine
end

section
/-!
The issue of a microword (05): what an engine that may issue one comes to, for every operation, and the microwords of control
(Table 05-4).
-/
namespace Sys2Proof.Machine

/-! ### Fields of a microword -/

/-- The low bits of a field are the field that begins with it and ends sooner. -/
theorem wordBits_mod (w : Word) {hi mid lo : Nat} (h : mid ≤ hi) : wordBits w hi lo % 2 ^ (mid + 1 - lo) = wordBits w mid lo :=
  Nat.mod_mod_of_dvd _ (Nat.pow_dvd_pow 2 (by omega))

theorem mwTarget_eq (w : Word) : mwTarget w = wordBits w 20 8 := wordBits_mod w (by decide : 20 ≤ 23)
theorem mwIndex_eq (w : Word) : mwIndex w = wordBits w 25 24 := wordBits_mod w (by decide : 25 ≤ 26)

/-! ### The counters of an engine -/

theorem Engine.setCounter_counter (g : Engine) : ∀ k, g.setCounter k (g.counter k) = g
  | 0 | 1 | 2 | _ + 3 => rfl

section
variable (g : Engine) (k : Nat) (v : BitVec 16)

theorem Engine.setCounter_pc : (g.setCounter k v).pc = g.pc := by unfold Engine.setCounter; split <;> rfl
theorem Engine.setCounter_phase : (g.setCounter k v).phase = g.phase := by unfold Engine.setCounter; split <;> rfl
theorem Engine.setCounter_balls : (g.setCounter k v).balls = g.balls := by unfold Engine.setCounter; split <;> rfl

theorem Engine.setCounter_advance : (g.setCounter k v).advance = { g.setCounter k v with pc := (g.pc + 1) % 8192 } := by
  rw [Engine.advance, Engine.setCounter_pc]
end

/-! ### An engine put back with its issue counted -/

/-- Engine e of Rank r becomes x, and its issue counts in SE_ISSUED. -/
def State.countIssue (s : State) (r e : Nat) (x : Engine) : State := (s.add64 (Reg.SE_ISSUED_LOe r e) 1).setEngine r e x

/-- Of the 24 engines of each Rank, a write of one leaves the others. -/
theorem State.engine_setEngine_ne (s : State) {r e r' e' : Nat} (x : Engine) (he : e < 24) (he' : e' < 24)
    (hne : (r', e') ≠ (r, e)) : (s.setEngine r e x).engine r' e' = s.engine r' e' := by
  refine Table.get_set_ne _ _ fun hkey => hne ?_
  rw [Prod.mk.injEq]
  omega

theorem State.countIssue_issued (s : State) (r : Nat) {e : Nat} (x : Engine) (he : e < 24) :
    s.issued (s.countIssue r e x) r e x := by
  refine ⟨State.engine_setEngine .., fun _ _ he' hne => State.engine_setEngine_ne _ x he he' hne, ?_⟩
  rw [State.countIssue, State.get64_setEngine, State.add64, State.get64_put64 _ _ _ (Nat.mod_lt _ (by decide))]

theorem State.countIssue_keeps (s : State) (r e : Nat) (x : Engine) : s.keepsFlds (s.countIssue r e x) (issueFlds r e) := by
  have hcount : s.keepsFlds (s.add64 (Reg.SE_ISSUED_LOe r e) 1) (issueFlds r e) := by
    rw [State.add64]
    exact State.keepsFlds_put64 (s.keepsFlds_refl _) _ _ (by simp [issueFlds]) (by simp [issueFlds])
  exact State.keepsFlds_regs hcount (State.setEngine_regs ..) (State.setEngine_part ..)

/-! ### The issue -/

section
variable {s : State} {r e op : Nat} {w : Word} {c : Instr} {f : Word → Engine → Issued}

theorem State.mayIssue.engine_lt (h : s.mayIssue r e op w) : e < 24 := by
  obtain ⟨hissues, -⟩ := h
  simp only [State.issues, Bool.and_eq_true, decide_eq_true_eq] at hissues
  omega

theorem State.mayIssue.not_waiting (h : s.mayIssue r e op w) : (s.engine r e).phase ≠ .wait := by
  obtain ⟨hissues, -⟩ := h
  intro hwait
  simp [State.issues, hwait] at hissues

theorem State.mayIssue.fallback_none (h : s.mayIssue r e op w) : fallbackAt s r (s.engine r e) = none := by
  obtain ⟨-, -, -, -, -, hfallback⟩ := h
  exact hfallback

/-- No stop, poison or illegal form comes before the meaning of the OP (R186, R207). -/
theorem State.mayIssue.issueWith_eq (h : s.mayIssue r e op w) (f : Word → Engine → Issued) :
    issueWith s r e f = settleIssue s r e w (f w (s.engine r e)) := by
  obtain ⟨-, hword, -, hlegal, hstop, -⟩ := h
  simp [issueWith, hword, hlegal, hstop]

/-- The command of an operation whose engine may issue it settles what the operation gives. -/
theorem State.mayIssue.exec_settles (h : s.mayIssue r e op w) (hc : exec c s = happen (s.issues r e op) s (issueWith s r e f)) :
    exec c s = .next (settleIssue s r e w (f w (s.engine r e))) := by
  have ⟨hissues, _⟩ := h
  rw [hc, happen_of hissues, h.issueWith_eq]

theorem settleIssue_done {g : Engine} (hphase : g.phase ≠ .wait) (hfallback : fallbackAt s r (s.engine r e) = none) :
    settleIssue s r e w (done g) = s.countIssue r e { g with
      cur := (s.engine r e).pc, phase := .run, nextIssue := (s.engine r e).nextIssue + mwCycle w,
      balls := g.balls ++ [⟨(s.engine r e).nextIssue + s.engineL r e, .boundary⟩] } := by
  simp [settleIssue, done, hphase, hfallback, State.countIssue]

/-- A microword that leaves its engine running and makes no act is done in its cycle length (R183). -/
theorem State.mayIssue.completes_done (h : s.mayIssue r e op w) {g : Engine}
    (hc : exec c s = happen (s.issues r e op) s (issueWith s r e f)) (hf : f w (s.engine r e) = done g)
    (hphase : g.phase = (s.engine r e).phase) (hballs : g.balls = (s.engine r e).balls) :
    Completes c s fun t => s.issuesTo t r e w g [.boundary] := by
  have hexec := h.exec_settles hc
  rw [hf, settleIssue_done (hphase ▸ h.not_waiting) h.fallback_none, hballs] at hexec
  exact completes_of_exec hexec ⟨s.countIssue_issued r _ h.engine_lt, s.countIssue_keeps r e _, rfl⟩

/-- A microword that raises a fault leaves the micro-state as it was (R209). -/
theorem State.mayIssue.completes_fault (h : s.mayIssue r e op w) {code : Nat}
    (hc : exec c s = happen (s.issues r e op) s (issueWith s r e f))
    (hf : f w (s.engine r e) = ⟨s.engine r e, [], some code⟩) :
    Completes c s fun t => s.faultsTo t r e code (s.engine r e) := by
  have hexec := h.exec_settles hc
  rw [hf] at hexec
  exact completes_of_exec hexec ⟨s.countIssue_issued r _ h.engine_lt, s.countIssue_keeps r e _, rfl⟩
end

/-! ### The operations with cases -/

section
variable (g : Engine) (k tgt : Nat) {c : Bool}

theorem opJmp_eq (c : Bool) : opJmp c tgt g = done { g with pc := if c = true then tgt else (g.pc + 1) % 8192 } := by
  cases c <;> rfl

theorem opCall_of_false (hc : c = false) : opCall c tgt g = done g.advance := by
  simp [opCall, hc]

theorem opCall_of_room (hc : c = true) (hroom : g.rstack.length < 4) :
    opCall c tgt g = done { g with pc := tgt, rstack := (g.pc + 1) % 8192 :: g.rstack } := by
  simp [opCall, hc, Nat.not_le.2 hroom, Engine.goto]

theorem opCall_of_full (hc : c = true) (hfull : 4 ≤ g.rstack.length) : opCall c tgt g = ⟨g, [], some 3⟩ := by
  simp [opCall, hc, hfull]

theorem opRet_of_false (hc : c = false) : opRet c g = done g.advance := by
  simp [opRet, hc]

theorem opRet_of_cons (hc : c = true) {a : Nat} {l : List Nat} (hstack : g.rstack = a :: l) :
    opRet c g = done { g with pc := a, rstack := l } := by
  simp [opRet, hc, hstack]

theorem opRet_of_empty (hc : c = true) (hempty : g.rstack = []) : opRet c g = ⟨g, [], some 4⟩ := by
  simp [opRet, hc, hempty]

theorem opLdc_eq (n : Nat) :
    opLdc k n g = done { g.setCounter k (BitVec.ofNat 16 n) with pc := (g.pc + 1) % 8192 } :=
  congrArg done (g.setCounter_advance k _)

theorem opAddc_eq (n : Nat) :
    opAddc k n g = done { g.setCounter k (g.counter k + BitVec.ofNat 16 n) with pc := (g.pc + 1) % 8192 } :=
  congrArg done (g.setCounter_advance k _)

/-- R187: a counter at 0 stays at 0. -/
theorem opLoop_of_zero (h : g.counter k = 0) : opLoop k tgt g = done g.advance := by
  have hsame : g.setCounter k 0 = g := h ▸ g.setCounter_counter k
  rw [opLoop, if_pos h, if_neg (fun hne => hne rfl), hsame]

theorem opLoop_of_one (h : g.counter k = 1) :
    opLoop k tgt g = done { g.setCounter k 0 with pc := (g.pc + 1) % 8192 } := by
  rw [← Engine.setCounter_advance]
  simp [opLoop, h]

theorem opLoop_taken (h0 : g.counter k ≠ 0) (h1 : g.counter k ≠ 1) :
    opLoop k tgt g = done { g.setCounter k (g.counter k - 1) with pc := tgt } := by
  have hleft : g.counter k - 1 ≠ 0 := fun hzero => h1 (by bv_omega)
  rw [opLoop, if_neg h0, if_pos hleft, Engine.goto]
end

/-! ### O41 -/

/-- Settles O41: each command is the issue of its operation, which is done with a micro-state or raises a fault by the operation's
cases. -/
theorem microwordsOfControl : Obligations.MicrowordsOfControl := by
  intro s r e w g next tgt k v c
  have htgt : mwTarget w = tgt := mwTarget_eq w
  have hk : mwIndex w = k := mwIndex_eq w
  refine ⟨fun h => ?nop, fun h => ?jmp, fun h => ⟨fun hc => ?callNot, fun hc hroom => ?call, fun hc hfull => ?callOver⟩,
    fun h => ⟨fun hc => ?retNot, fun a l hc hstack => ?ret, fun hc hempty => ?retUnder⟩, fun h => ?ldc,
    fun h => ⟨fun h0 => ?loopZero, fun h1 => ?loopOne, fun h0 h1 => ?loop⟩, fun h => ?addc, fun h => ?test⟩
  case nop => exact h.completes_done rfl rfl rfl rfl
  case jmp => exact h.completes_done rfl (htgt ▸ opJmp_eq g _ c) rfl rfl
  case callNot => exact h.completes_done rfl (opCall_of_false g _ hc) rfl rfl
  case call => exact h.completes_done rfl (htgt ▸ opCall_of_room g _ hc hroom) rfl rfl
  case callOver => exact h.completes_fault rfl (opCall_of_full g _ hc hfull)
  case retNot => exact h.completes_done rfl (opRet_of_false g hc) rfl rfl
  case ret => exact h.completes_done rfl (opRet_of_cons g hc hstack) rfl rfl
  case retUnder => exact h.completes_fault rfl (opRet_of_empty g hc hempty)
  case ldc => exact h.completes_done rfl (hk ▸ opLdc_eq g _ _) (g.setCounter_phase k _) (g.setCounter_balls k _)
  case loopZero => exact h.completes_done rfl (hk ▸ opLoop_of_zero g _ _ (hk ▸ h0)) rfl rfl
  case loopOne => exact h.completes_done rfl (hk ▸ opLoop_of_one g _ _ (hk ▸ h1)) (g.setCounter_phase k _) (g.setCounter_balls k _)
  case loop =>
    exact h.completes_done rfl (hk ▸ htgt ▸ opLoop_taken g _ _ (hk ▸ h0) (hk ▸ h1)) (g.setCounter_phase k _)
      (g.setCounter_balls k _)
  case addc => exact h.completes_done rfl (hk ▸ opAddc_eq g _ _) (g.setCounter_phase k _) (g.setCounter_balls k _)
  case test => exact h.completes_done rfl (hk ▸ rfl) rfl rfl

end Sys2Proof.Machine
end

section
/-!
A write of a register of a Rank (R8, R105, R533): where the register lies in the map, and that such a write is its row's.
-/
namespace Sys2Proof.Machine

theorem rankBase_ge (r off : Nat) : 0x100000 ≤ rankBase r + off := by unfold rankBase; omega

section
variable {r off : Nat}

theorem rankBase_window (hoff : off < 0x100000) : (rankBase r + off) / 0x100000 - 1 = r := by unfold rankBase; omega

theorem rankBase_offset (hoff : off < 0x100000) : (rankBase r + off) % 0x100000 = off := by unfold rankBase; omega

theorem rankOf_rankBase (hoff : off < 0x100000) : rankOf? (rankBase r + off) = some (r, off) := by
  rw [rankOf?, if_neg (Nat.not_lt.2 (rankBase_ge r off)), rankBase_window hoff, rankBase_offset hoff]

/-- The map is the same in the window of each of the eight Ranks. -/
theorem regRow_rankBase (hr : r < 8) (hoff : off < 0x100000) : regRow? (rankBase r + off) = findRow regRowsRank off := by
  rw [regRow?, rankOf_rankBase hoff]
  exact if_pos hr

/-- A row of a Rank's window whose registers are no halves of pairs. -/
def RegRow.rankSingle (row : RegRow) : Prop := row.base + 0x100000 ∉ pairLows ∧ row.base + 0x100000 - 4 ∉ pairLows

variable {row : RegRow} {i : Nat} (hr : r < 8) (hoff : off < 0x80000) (hrow : findRow regRowsRank off = some (row, i))
  (hsingle : row.rankSingle)
include hr hoff hrow hsingle

theorem pairLow_rankBase : pairLow? (rankBase r + off) = none := by
  obtain ⟨hlow, hhigh⟩ := hsingle
  have hbase : rowBase row (rankBase r + off) = row.base + 0x100000 := if_neg (Nat.not_lt.2 (rankBase_ge r off))
  rw [pairLow?, regRow_rankBase hr (by omega), hrow]
  simp only [hbase, if_neg hlow, if_neg hhigh]

/-- Where the mode allows it and the Rank answers, a write of such a register is the write of its row. -/
theorem hostWrite_rankSingle {s : State} (rid : Nat) (v : Word) (hw : s.rankWritable r) :
    hostWrite s rid (rankBase r + off) v = (writeRank s r row i (rankBase r + off) v).finish rid (rankBase r + off) := by
  obtain ⟨hopen, hmode⟩ := hw
  have hwindow : off < 0x100000 := by omega
  exact hostWrite_rank s rid _ r off v (pairLow_rankBase hr hoff hrow hsingle) ((regRow_rankBase hr hwindow).trans hrow)
    (rankOf_rankBase hwindow) (modeRefuses_rank s hmode (rankBase_ge r off)) hopen
end

end Sys2Proof.Machine
end

section
/-!
The output lines (07, Output states): writes of their control registers, and the waiting settings that take effect.
-/
namespace Sys2Proof.Machine

/-! ### Lines and markers after an operation on one of them -/

/-- Of the 18 RF lines of each Rank, a write of one leaves the others. -/
theorem State.line_setLine_ne (s : State) {r l r' l' : Nat} (x : Line) (hl : l < 18) (hl' : l' < 18) (hne : (r', l') ≠ (r, l)) :
    (s.setLine r l x).line r' l' = s.line r' l' := by
  refine Table.get_set_ne _ _ fun hkey => hne ?_
  simp only [lineKey] at hkey
  rw [Prod.mk.injEq]
  omega

theorem State.mrkMuteAt_setMrkMute_ne (s : State) {r r' : Nat} (m : MrkMute) (hne : r' ≠ r) :
    (s.setMrkMute r m).mrkMuteAt r' = s.mrkMuteAt r' := Table.get_set_ne _ _ hne

theorem State.keepsFlds_setLine {s t : State} {l : List Fld} (h : s.keepsFlds t l) (r k : Nat) (x : Line) :
    s.keepsFlds (t.setLine r k x) l := h

theorem State.keepsFlds_setMrkMute {s t : State} {l : List Fld} (h : s.keepsFlds t l) (r : Nat) (m : MrkMute) :
    s.keepsFlds (t.setMrkMute r m) l := h

/-! ### The control registers in the map -/

/-- The rows of DRV_CTRL, DRV_ROTX_CTRL and DRV_MRK_CTRL (Table 07-12). -/
def drvCtrlRow : RegRow := ⟨0x40100, true, 16, 16, 1, 4, 0x80000001, none, 0x31, 0x0, 0x0, 0x0⟩
def rotxCtrlRow : RegRow := ⟨0x40200, true, 2, 16, 1, 4, 0x80000401, none, 0x731, 0x0, 0x0, 0x0⟩
def mrkCtrlRow : RegRow := ⟨0x40300, true, 1, 4, 1, 4, 0x800000FF, none, 0xFF, 0x0, 0x0, 0x0⟩

theorem findRow_drvCtrl : ∀ d < 16, findRow regRowsRank (0x40100 + d * 16) = some (drvCtrlRow, d) := by decide
theorem findRow_rotxCtrl : ∀ f < 2, findRow regRowsRank (0x40200 + f * 16) = some (rotxCtrlRow, f) := by decide
theorem findRow_mrkCtrl : findRow regRowsRank 0x40300 = some (mrkCtrlRow, 0) := by decide

theorem drvCtrlRow_single : drvCtrlRow.rankSingle := ⟨by decide, by decide⟩
theorem rotxCtrlRow_single : rotxCtrlRow.rankSingle := ⟨by decide, by decide⟩
theorem mrkCtrlRow_single : mrkCtrlRow.rankSingle := ⟨by decide, by decide⟩

/-! Each of these rows has a write of its own, and is found by its base. -/

theorem writeRank_drvCtrl (s : State) (r i a : Nat) (v : Word) : writeRank s r drvCtrlRow i a v = writeLineCtrl s r i v := by
  have hbase : drvCtrlRow.base + 0x100000 = Reg.DRV_CTRLd 0 0 := rfl
  simp only [writeRank, hbase]; rfl

theorem writeRank_rotxCtrl (s : State) (r i a : Nat) (v : Word) :
    writeRank s r rotxCtrlRow i a v = writeLineCtrl s r (16 + i) v := by
  have hbase : rotxCtrlRow.base + 0x100000 = Reg.DRV_ROTX_CTRLf 0 0 := rfl
  simp only [writeRank, hbase]; rfl

theorem writeRank_mrkCtrl (s : State) (r i a : Nat) (v : Word) : writeRank s r mrkCtrlRow i a v = writeMrkCtrl s r v := by
  have hbase : mrkCtrlRow.base + 0x100000 = Reg.DRV_MRK_CTRL 0 := rfl
  simp only [writeRank, hbase]; rfl

section
variable {s : State} {r : Nat} (hr : r < 8) (hw : s.rankWritable r) (rid : Nat) (v : Word)
include hr hw

theorem hostWrite_lineCtrl {l : Nat} (hl : l < 18) :
    hostWrite s rid (lineCtrl r l) v = (writeLineCtrl s r l v).finish rid (lineCtrl r l) := by
  by_cases hdrv : l < 16
  · have haddr : lineCtrl r l = rankBase r + (0x40100 + l * 16) := by simp [lineCtrl, hdrv, Reg.DRV_CTRLd, Nat.add_assoc]
    rw [haddr, hostWrite_rankSingle hr (by omega) (findRow_drvCtrl l hdrv) drvCtrlRow_single rid v hw, writeRank_drvCtrl]
  · have haddr : lineCtrl r l = rankBase r + (0x40200 + (l - 16) * 16) := by
      simp [lineCtrl, hdrv, Reg.DRV_ROTX_CTRLf, Nat.add_assoc]
    have hindex : 16 + (l - 16) = l := by omega
    rw [haddr, hostWrite_rankSingle hr (by omega) (findRow_rotxCtrl (l - 16) (by omega)) rotxCtrlRow_single rid v hw,
      writeRank_rotxCtrl, hindex]

theorem hostWrite_mrkCtrl :
    hostWrite s rid (Reg.DRV_MRK_CTRL r) v = (writeMrkCtrl s r v).finish rid (Reg.DRV_MRK_CTRL r) := by
  rw [Reg.DRV_MRK_CTRL, hostWrite_rankSingle hr (by decide) findRow_mrkCtrl mrkCtrlRow_single rid v hw, writeRank_mrkCtrl]

/-! ### DRV_CTRL_WRITE -/

theorem exec_drvCtrlWrite_line {l : Nat} (hl : l < 18) :
    exec (.drvCtrlWrite rid r l v) s = .next ((writeLineCtrl s r l v).finish rid (lineCtrl r l)) := by
  have hreg : lineRegister r l = lineCtrl r l := if_neg (by omega)
  rw [← hostWrite_lineCtrl hr hw rid v hl, ← hreg]
  exact happen_of (decide_eq_true ⟨hr, by omega⟩) _ _

theorem exec_drvCtrlWrite_markers :
    exec (.drvCtrlWrite rid r 18 v) s = .next ((writeMrkCtrl s r v).finish rid (Reg.DRV_MRK_CTRL r)) := by
  rw [← hostWrite_mrkCtrl hr hw rid v]
  exact happen_of (by simp [hr]) _ _
end

/-! ### The cases of the two control writes -/

/-- A line with a written setting that waits its 64 t; a released line is muted until then (R266, R268). -/
def requestedLine (s : State) (r l : Nat) (v : Word) : Line :=
  { s.line r l with
    mute := s.flag ⟨lineCtrl r l, 31, 31⟩ || (s.line r l).mute,
    pend := (s.line r l).pend ++ [(s.now + 64, decide (wordBits v 0 0 = 1), wordBits v 5 4, wordBits v 10 8)] }

/-- The markers of a Rank with a written setting that waits. -/
def requestedMarkers (s : State) (r : Nat) (v : Word) : MrkMute :=
  ⟨if s.get (Reg.DRV_MRK_CTRL_CLEAR r) = 1 then 0xFF else (s.mrkMuteAt r).mask,
    (s.mrkMuteAt r).pend ++ [(s.now + 64, wordBits v 7 0)]⟩

section
variable {s : State} {r : Nat} (v : Word)

theorem writeLineCtrl_free {l : Nat} (hfree : lineClaimed s r l = false) : writeLineCtrl s r l v =
    taken ((s.wr (lineCtrl r l) (v &&& if l < 16 then 0x31 else 0x731)).setLine r l (requestedLine s r l v)) :=
  if_neg (by simp [hfree])

theorem writeLineCtrl_claimed {l : Nat} (hclaimed : lineClaimed s r l = true) : writeLineCtrl s r l v = refusedBy s 4 :=
  if_pos hclaimed

theorem writeMrkCtrl_free (hfree : lineClaimed s r 18 = false) : writeMrkCtrl s r v =
    taken ((s.wr (Reg.DRV_MRK_CTRL r) (v &&& 0xFF)).setMrkMute r (requestedMarkers s r v)) := by
  simp [writeMrkCtrl, hfree, requestedMarkers, State.flag, State.mrkMuteAt]

theorem writeMrkCtrl_claimed (hclaimed : lineClaimed s r 18 = true) : writeMrkCtrl s r v = refusedBy s 4 := if_pos hclaimed
end

/-! ### Settings that take effect -/

section
variable {s : State} {r : Nat}

theorem State.frameTick_of (h : s.epoch.toNat % 4 = 0) : s.frameTick = true := decide_eq_true h

section
variable {l due : Nat} {m : Bool} {f sh : Nat} {rest : List (Nat × Bool × Nat × Nat)} (hl : l < 18)
  (hpend : (s.line r l).pend = (due, m, f, sh) :: rest)
include hl hpend

/-- R268 and R271: the oldest waiting setting of an RF line. -/
theorem lineEffect_line : lineEffect s r l = s.setLine r l { s.line r l with
    mute := m, fsc := f, shift := if l < 16 then (s.line r l).shift else min sh 4, pend := rest,
    settle := if f = (s.line r l).fsc then (s.line r l).settle else some (s.now + 5000) } := by
  simp [lineEffect, hl, hpend]

theorem exec_lineSettingEffect_line (htick : s.epoch.toNat % 4 = 0) (hr : r < s.part.ranks) (hdue : due ≤ s.now) :
    exec (.lineSettingEffect r l) s = .next (lineEffect s r l) := by
  have hready : lineDue s r l = true := by simp [lineDue, State.frameTick_of htick, hl, hpend, hdue]
  have hline : l < 19 := by omega
  exact happen_of (by simp [hr, hline, hready]) _ _
end

section
variable {due m : Nat} {rest : List (Nat × Nat)} (hpend : (s.mrkMuteAt r).pend = (due, m) :: rest)
include hpend

theorem lineEffect_markers : lineEffect s r 18 = s.setMrkMute r ⟨m, rest⟩ := by
  simp [lineEffect, hpend]

theorem exec_lineSettingEffect_markers (htick : s.epoch.toNat % 4 = 0) (hr : r < s.part.ranks) (hdue : due ≤ s.now) :
    exec (.lineSettingEffect r 18) s = .next (lineEffect s r 18) := by
  have hready : lineDue s r 18 = true := by simp [lineDue, State.frameTick_of htick, hpend, hdue]
  exact happen_of (by simp [hr, hready]) _ _
end

theorem exec_fscSettleEnd {l u : Nat} (hsettle : (s.line r l).settle = some u) (hu : u ≤ s.now) :
    exec (.fscSettleEnd r l) s = .next (s.setLine r l { s.line r l with settle := none }) :=
  happen_of (by simp [hsettle, hu]) _ _
end

end Sys2Proof.Machine
end

section
/-!
The synthesis (07): waiting slot writes and INTERP settings that take effect, the clamp of a line, and O45.
-/
namespace Sys2Proof.Machine

/-! ### A change of a frequency slot -/

/-- Of the 128 slots of each Rank, a write of one leaves the others. -/
theorem State.slot_setSlot_ne (s : State) {r f r' f' : Nat} (x : Slot) (hf : f < 128) (hf' : f' < 128) (hne : (r', f') ≠ (r, f)) :
    (s.setSlot r f x).slot r' f' = s.slot r' f' := by
  refine Table.get_set_ne _ _ fun hkey => hne ?_
  rw [Prod.mk.injEq]
  omega

/-- Invalid frames are recorded in the tones alone (R318). -/
theorem State.spoilSlot_frame (s : State) (r f : Nat) : s.spoilSlot r f = { s with tones := (s.spoilSlot r f).tones } := by
  unfold State.spoilSlot
  refine List.foldlRecOn (motive := fun t : State => t = { s with tones := t.tones }) _ _ rfl fun t ht k _ => ?_
  split
  · rw [ht]; rfl
  · exact ht

/-- A change of a slot to the value it has is none. -/
theorem State.changeSlot_cases (s : State) (r f : Nat) (x : Slot) :
    (x = s.slot r f ∧ s.changeSlot r f x = s) ∨ ∃ tones, s.changeSlot r f x = { s.setSlot r f x with tones := tones } := by
  unfold State.changeSlot
  split
  · exact .inl ⟨‹_›, rfl⟩
  · exact .inr ⟨_, State.spoilSlot_frame _ r f⟩

theorem State.slot_changeSlot (s : State) (r f : Nat) (x : Slot) : (s.changeSlot r f x).slot r f = x := by
  obtain ⟨hx, h⟩ | ⟨tones, h⟩ := s.changeSlot_cases r f x
  · rw [h, hx]
  · rw [h]; exact s.slot_setSlot r f x

theorem State.slot_changeSlot_ne (s : State) {r f r' f' : Nat} (x : Slot) (hf : f < 128) (hf' : f' < 128)
    (hne : (r', f') ≠ (r, f)) : (s.changeSlot r f x).slot r' f' = s.slot r' f' := by
  obtain ⟨-, h⟩ | ⟨tones, h⟩ := s.changeSlot_cases r f x
  · rw [h]
  · rw [h]; exact s.slot_setSlot_ne x hf hf' hne

theorem State.changeSlot_frame (s : State) (r f : Nat) (x : Slot) :
    s.changeSlot r f x = { s with slots := (s.changeSlot r f x).slots, tones := (s.changeSlot r f x).tones } := by
  obtain ⟨-, h⟩ | ⟨tones, h⟩ := s.changeSlot_cases r f x
  · rw [h]
  · rw [h]; rfl

/-! ### SLOT_EFFECT and INTERP_EFFECT -/

section
variable {s : State} {r : Nat} (htick : s.epoch.toNat % 4 = 0)

section
variable {f : Nat} {w : SlotWrite} (hw : slotPending s r f = some w)
include hw

theorem slotEffect_of_pending : slotEffect s r f = { s.changeSlot r f ⟨w.freq, w.phofs⟩ with
    slotWrites := s.slotWrites.eraseP fun x => decide (x.slot = r * 128 + f) } := by
  rw [slotEffect, hw]

include htick in
theorem exec_slotEffect (hf : f < 128) (hdue : w.due ≤ s.now) : exec (.slotEffect r f) s = .next (slotEffect s r f) :=
  happen_of (by simp [hf, State.frameTick_of htick, hw, hdue]) _ _
end

section
variable {c due key : Nat} {b : Bool} (hb : interpPending s r c = some (due, key, b))
include hb

theorem interpEffect_of_pending : interpEffect s r c = { s with
    interp := s.interp.set interpDefault (r * 64 + c) b,
    interpPend := s.interpPend.eraseP fun e => decide (e.2.1 = r * 64 + c) } := by
  rw [interpEffect, hb]

include htick in
theorem exec_interpEffect (hc : c < 64) (hdue : due ≤ s.now) : exec (.interpEffect r c) s = .next (interpEffect s r c) :=
  happen_of (by simp [hc, State.frameTick_of htick, hb, hdue]) _ _
end
end

/-! ### The clamp of a line (R263) -/

/-- The full scale of the DAC saturates the sum first; the limit of the line then cuts the code. -/
theorem clampCode_eq (sum : Int) {lim : Int} (hlim : 0 ≤ lim) :
    clampCode sum lim =
      let full := max (-32767) (min 32767 sum)
      let code := max (-lim) (min lim full)
      (code, decide (full ≠ sum), decide (code ≠ full)) := by
  have hline : -lim ≤ lim := by omega
  simp only [clampCode, clampTo_eq (show (-32767 : Int) ≤ 32767 by decide), clampTo_eq hline]

/-- Every code lies within the limit; a sum within it is its own code; saturation tells a sum beyond the full scale, and the
limit one beyond the limit. -/
theorem clampCode_spec (sum : Int) {lim : Int} (hlim : 0 ≤ lim) (hfull : lim ≤ 32767) :
    -lim ≤ (clampCode sum lim).1 ∧ (clampCode sum lim).1 ≤ lim ∧
      (-lim ≤ sum → sum ≤ lim → (clampCode sum lim).1 = sum) ∧
      ((clampCode sum lim).2.1 = true ↔ sum < -32767 ∨ 32767 < sum) ∧
      (lim < 32767 → ((clampCode sum lim).2.2 = true ↔ sum < -lim ∨ lim < sum)) := by
  rw [clampCode_eq sum hlim]
  simp only [decide_eq_true_eq]
  refine ⟨?_, ?_, fun _ _ => ?_, ?_, fun _ => ?_⟩ <;> omega

/-! ### O45 -/

/-- Settles O45: a control write by whether the line is claimed, each waiting setting by the operation that its command makes, and
the clamp as two saturations. -/
theorem linesFollowTheirSettings : Obligations.LinesFollowTheirSettings := by
  refine ⟨fun s rid r l v hr hw => ⟨fun hl hfree => ?write, fun hl hclaimed => ?writeClaimed, fun hclaimed => ?markersClaimed,
      fun hfree => ?markers⟩,
    fun s r htick => ⟨fun l due m f sh rest hr hl hpend hdue => ?setting, fun due m rest hr hpend hdue => ?markersSetting,
      fun f w hf hpend hdue => ?slot, fun c due b hc hpend hdue => ?interp⟩,
    fun s r l u hl hsettle hu => ?settled, fun sum lim hlim hfull => clampCode_spec sum hlim hfull⟩
  case write =>
    have hexec := exec_drvCtrlWrite_line hr hw rid v hl
    rw [writeLineCtrl_free v hfree, finish_taken] at hexec
    refine completes_of_exec hexec ⟨?_, State.line_setLine .., fun _ _ hl' hne => State.line_setLine_ne _ _ hl hl' hne, ?_, rfl⟩
    · rw [State.rd_setLine, State.rd_wr_same]
    · exact State.keepsFlds_setLine (State.keepsFlds_wr (s.keepsFlds_refl _) _ _ (by simp)) _ _ _
  case writeClaimed =>
    rw [exec_drvCtrlWrite_line hr hw rid v hl, writeLineCtrl_claimed v hclaimed, finish_refusedBy]
  case markersClaimed =>
    rw [exec_drvCtrlWrite_markers hr hw rid v, writeMrkCtrl_claimed v hclaimed, finish_refusedBy]
  case markers =>
    have hexec := exec_drvCtrlWrite_markers hr hw rid v
    rw [writeMrkCtrl_free v hfree, finish_taken] at hexec
    refine completes_of_exec hexec
      ⟨?_, State.mrkMuteAt_setMrkMute .., fun _ hne => State.mrkMuteAt_setMrkMute_ne _ _ hne, ?_, rfl⟩
    · rw [State.rd_setMrkMute, State.rd_wr_same]
    · exact State.keepsFlds_setMrkMute (State.keepsFlds_wr (s.keepsFlds_refl _) _ _ (by simp)) _ _
  case setting =>
    have hexec := exec_lineSettingEffect_line hl hpend htick hr hdue
    rw [lineEffect_line hl hpend] at hexec
    exact completes_of_exec hexec ⟨State.line_setLine .., fun _ _ hl' hne => State.line_setLine_ne _ _ hl hl' hne, rfl⟩
  case markersSetting =>
    have hexec := exec_lineSettingEffect_markers hpend htick hr hdue
    rw [lineEffect_markers hpend] at hexec
    exact completes_of_exec hexec
      ⟨State.mrkMuteAt_setMrkMute .., fun _ hne => State.mrkMuteAt_setMrkMute_ne _ _ hne, rfl⟩
  case slot =>
    have hexec := exec_slotEffect htick hpend hf hdue
    rw [slotEffect_of_pending hpend, s.changeSlot_frame] at hexec
    exact completes_of_exec hexec ⟨s.slot_changeSlot r f _, fun _ _ hf' hne => s.slot_changeSlot_ne _ hf hf' hne, rfl, rfl⟩
  case interp =>
    have hexec := exec_interpEffect htick hpend hc hdue
    rw [interpEffect_of_pending hpend] at hexec
    exact completes_of_exec hexec ⟨Table.get_set_same .., fun _ hne => Table.get_set_ne _ _ hne, rfl⟩
  case settled =>
    exact completes_of_exec (exec_fscSettleEnd hsettle hu)
      ⟨State.line_setLine .., fun _ _ hl' hne => State.line_setLine_ne _ _ hl hl' hne, rfl⟩

end Sys2Proof.Machine
end

section
/-!
The heater outputs (13): what a change of one leaves of the others, the fields of their registers, and the cases of a write of
HTR_CTRLk.
-/
namespace Sys2Proof.Machine

/-! ### A heater after an operation on another part of the state -/

theorem State.heater_setHeater_ne (s : State) {k j : Nat} (h : Heater) (hne : j ≠ k) : (s.setHeater k h).heater j = s.heater j :=
  Table.get_set_ne _ _ hne

theorem State.keepsFlds_setHeater {s t : State} {l : List Fld} (h : s.keepsFlds t l) (k : Nat) (x : Heater) :
    s.keepsFlds (t.setHeater k x) l := h

theorem State.onlyHost.heater {s t : State} (h : s.onlyHost t) (k : Nat) : t.heater k = s.heater k := by
  rw [State.onlyHost] at h; rw [h]; rfl

theorem State.setHeater_of_onlyRegs {s t : State} (h : s.onlyRegs t) (k : Nat) (x : Heater) :
    t.setHeater k x = { s with regs := t.regs, heaters := (t.setHeater k x).heaters } := by
  rw [State.onlyRegs] at h; rw [h]; rfl

theorem State.setHeater_of_onlyHost {s t : State} (h : s.onlyHost t) (k : Nat) (x : Heater) :
    t.setHeater k x = { s with
      regs := t.regs, heaters := (t.setHeater k x).heaters, posted := t.posted, holding := t.holding } := by
  rw [State.onlyHost] at h; rw [h]; rfl

/-! ### A field that is written with the value it has -/

theorem wordSet_wordBits_self (w : Word) {hi lo : Nat} (h : lo ≤ hi) (h' : hi < 32) : wordSet w hi lo (wordBits w hi lo) = w := by
  refine BitVec.eq_of_getLsbD_eq fun i _ => ?_
  rw [getLsbD_wordSet _ _ _ _ _ h h']
  split
  · rw [testBit_wordBits, Nat.add_sub_cancel' (by omega), decide_eq_true (by omega), Bool.true_and]
  · rfl

theorem State.keepsFlds_put_self {s t : State} {l : List Fld} (h : s.keepsFlds t l) {g : Fld} {v : Nat} (hv : t.get g = v)
    (w : g.fits) : s.keepsFlds (t.put g v) l := fun f a => by
  have hword : wordSet (t.rd g.addr) g.hi g.lo v = t.rd g.addr := by
    rw [← hv]; exact wordSet_wordBits_self _ w.1 w.2
  rw [← h f a, State.get, State.get, State.rd_put, hword]
  split
  · rename_i e; rw [e]
  · rfl

/-! ### Fields of the heater registers -/

section
variable (k : Nat)

theorem htrClear_fits : (Reg.HTR_CTRLk_CLEAR k).fits := ⟨Nat.le_refl 31, (by decide : 31 < 32)⟩
theorem htrLoopEn_fits : (Reg.HTR_CTRLk_LOOP_EN k).fits := ⟨Nat.le_refl 0, (by decide : 0 < 32)⟩
theorem htrState_fits : (Reg.HTR_STATk_STATE k).fits := ⟨(by decide : 28 ≤ 31), (by decide : 31 < 32)⟩
theorem htrComp_fits : (Reg.HTR_STATk_COMP k).fits := ⟨Nat.le_refl 1, (by decide : 1 < 32)⟩
theorem htrIacc_fits : (Reg.HTR_IACCk_IACC k).fits := ⟨(by decide : 0 ≤ 19), (by decide : 19 < 32)⟩

theorem htrClear_apart_loopEn : (Reg.HTR_CTRLk_CLEAR k).apart (Reg.HTR_CTRLk_LOOP_EN k) := .inr (.inl (by decide : 0 < 31))
theorem htrLoopEn_apart_clear : (Reg.HTR_CTRLk_LOOP_EN k).apart (Reg.HTR_CTRLk_CLEAR k) := .inr (.inr (by decide : 0 < 31))

/-- HTR_STATk and HTR_IACCk are two registers, and neither is HTR_CTRLk or HTR_LOOPk. -/
theorem htrRegs_ne : Reg.HTR_STATk k ≠ Reg.HTR_CTRLk k ∧ Reg.HTR_IACCk k ≠ Reg.HTR_CTRLk k ∧ Reg.HTR_IACCk k ≠ Reg.HTR_STATk k ∧
    Reg.HTR_STATk k ≠ Reg.HTR_LOOPk k ∧ Reg.HTR_IACCk k ≠ Reg.HTR_LOOPk k := by
  unfold Reg.HTR_STATk Reg.HTR_CTRLk Reg.HTR_IACCk Reg.HTR_LOOPk
  omega

/-- The event CRYO leaves the heater registers alone: they lie above BRD_EVT and the Pending Bits. -/
theorem State.get_event_htr (s : State) {f : Fld} (hf : Reg.HTR_CTRLk 0 ≤ f.addr) : (s.event evtCryo).get f = s.get f := by
  have hbelow : ∀ g ∈ evtFlds evtCryo, g.addr < Reg.HTR_CTRLk 0 := by decide
  exact s.event_keeps (by decide) f fun g hg => .inl (Nat.ne_of_lt (Nat.lt_of_lt_of_le (hbelow g hg) hf))

theorem htrStat_above : Reg.HTR_CTRLk 0 ≤ Reg.HTR_STATk k := by unfold Reg.HTR_CTRLk Reg.HTR_STATk; omega
theorem htrIacc_above : Reg.HTR_CTRLk 0 ≤ Reg.HTR_IACCk k := by unfold Reg.HTR_CTRLk Reg.HTR_IACCk; omega
theorem htrLoop_above : Reg.HTR_CTRLk 0 ≤ Reg.HTR_LOOPk k := by unfold Reg.HTR_CTRLk Reg.HTR_LOOPk; omega
end

/-! ### STATE and IACC -/

/-- A loop enters a state with an integrator value (R437, R438). -/
def State.loopRegs (s : State) (k state iacc : Nat) : State :=
  (s.put (Reg.HTR_STATk_STATE k) state).put (Reg.HTR_IACCk_IACC k) iacc

section
variable (s : State) (k : Nat)

theorem State.loopRegs_state {state : Nat} (iacc : Nat) (h : state < 16) :
    (s.loopRegs k state iacc).get (Reg.HTR_STATk_STATE k) = state := by
  obtain ⟨-, -, hne, -⟩ := htrRegs_ne k
  have hapart : (Reg.HTR_IACCk_IACC k).apart (Reg.HTR_STATk_STATE k) := .inl hne
  rw [State.loopRegs, State.get_put_apart _ _ _ _ (htrIacc_fits k).1 (htrIacc_fits k).2 hapart,
    State.get_put_val _ _ _ (htrState_fits k) h]

theorem State.loopRegs_iacc (state : Nat) {iacc : Nat} (h : iacc < 2 ^ 20) :
    (s.loopRegs k state iacc).get (Reg.HTR_IACCk_IACC k) = iacc := State.get_put_val _ _ _ (htrIacc_fits k) h

theorem State.loopRegs_keeps (state iacc : Nat) :
    s.keepsFlds (s.loopRegs k state iacc) [Reg.HTR_STATk_STATE k, Reg.HTR_IACCk_IACC k] :=
  State.keepsFlds_put (State.keepsFlds_put (s.keepsFlds_refl _) _ _ (by simp) (htrState_fits k)) _ _ (by simp) (htrIacc_fits k)

theorem State.loopRegs_onlyRegs (state iacc : Nat) : s.onlyRegs (s.loopRegs k state iacc) :=
  State.onlyRegs_trans (s.onlyRegs_put _ _) (State.onlyRegs_put _ _ _)

/-- STATE and IACC lie in two registers: a field of a third keeps its value. -/
theorem State.get_loopRegs (state iacc : Nat) {f : Fld} (hstat : Reg.HTR_STATk k ≠ f.addr) (hiacc : Reg.HTR_IACCk k ≠ f.addr) :
    (s.loopRegs k state iacc).get f = s.get f :=
  s.loopRegs_keeps k state iacc f fun g hg => by
    rcases List.mem_cons.1 hg with rfl | hg
    · exact .inl hstat
    · rw [List.mem_singleton.1 hg]; exact .inl hiacc
end

/-! ### HTR_CTRLk -/

/-- A write of HTR_CTRLk releases the output and stores LOOP_EN (R30). -/
def State.htrCtrl (s : State) (k en : Nat) : State := (s.put (Reg.HTR_CTRLk_CLEAR k) 0).put (Reg.HTR_CTRLk_LOOP_EN k) en

section
variable (s : State) (k en : Nat)

theorem State.htrCtrl_clear : (s.htrCtrl k en).get (Reg.HTR_CTRLk_CLEAR k) = 0 := by
  rw [State.htrCtrl, State.get_put_apart _ _ _ _ (htrLoopEn_fits k).1 (htrLoopEn_fits k).2 (htrLoopEn_apart_clear k),
    State.get_put_val _ _ _ (htrClear_fits k) (Nat.two_pow_pos _)]

theorem State.htrCtrl_loopEn {en : Nat} (h : en < 2) : (s.htrCtrl k en).get (Reg.HTR_CTRLk_LOOP_EN k) = en :=
  State.get_put_val _ _ _ (htrLoopEn_fits k) h

theorem State.htrCtrl_keeps : s.keepsFlds (s.htrCtrl k en) [Reg.HTR_CTRLk_CLEAR k, Reg.HTR_CTRLk_LOOP_EN k] :=
  State.keepsFlds_put (State.keepsFlds_put (s.keepsFlds_refl _) _ _ (by simp) (htrClear_fits k)) _ _ (by simp) (htrLoopEn_fits k)

/-- With LOOP_EN as it was, the write only releases the output. -/
theorem State.htrCtrl_keeps_of_same {en : Nat} (h : s.get (Reg.HTR_CTRLk_LOOP_EN k) = en) :
    s.keepsFlds (s.htrCtrl k en) [Reg.HTR_CTRLk_CLEAR k] := by
  have hen : (s.put (Reg.HTR_CTRLk_CLEAR k) 0).get (Reg.HTR_CTRLk_LOOP_EN k) = en := by
    rw [State.get_put_apart _ _ _ _ (htrClear_fits k).1 (htrClear_fits k).2 (htrClear_apart_loopEn k), h]
  exact State.keepsFlds_put_self (State.keepsFlds_put (s.keepsFlds_refl _) _ _ (by simp) (htrClear_fits k)) hen (htrLoopEn_fits k)

theorem State.htrCtrl_onlyRegs : s.onlyRegs (s.htrCtrl k en) :=
  State.onlyRegs_trans (s.onlyRegs_put _ _) (State.onlyRegs_put _ _ _)
end

/-! ### The cases of a write of HTR_CTRLk (R438) -/

/-- The loop starts in HOLD from the output in force. -/
def startLoop (s : State) (k : Nat) : State :=
  ((s.htrCtrl k 1).loopRegs k htrHold (s.htrOut k)).setHeater k
    { s.heater k with out := s.htrOut k, satHi := false, satLo := false, last := s.now }

/-- The loop ends, and a code of it that waits is dropped. -/
def endLoop (s : State) (k : Nat) : State :=
  ((s.htrCtrl k 0).put (Reg.HTR_STATk_STATE k) htrOff).setHeater k { s.heater k with codePend := none }

section
variable {s : State} {k : Nat} {v : Word}

theorem writeHtrCtrl_start (hoff : s.get (Reg.HTR_CTRLk_LOOP_EN k) = 0) (hon : wordBits v 0 0 = 1) :
    writeHtrCtrl s k v = taken (startLoop s k) := by
  simp [writeHtrCtrl, State.flag, hoff, hon, startLoop, State.loopRegs, State.htrCtrl]

theorem writeHtrCtrl_end (hon : s.get (Reg.HTR_CTRLk_LOOP_EN k) = 1) (hoff : wordBits v 0 0 = 0) :
    writeHtrCtrl s k v = taken (endLoop s k) := by
  simp [writeHtrCtrl, State.flag, hoff, hon, endLoop, State.htrCtrl]

theorem writeHtrCtrl_same (h : s.get (Reg.HTR_CTRLk_LOOP_EN k) = wordBits v 0 0) :
    writeHtrCtrl s k v = taken (s.htrCtrl k (wordBits v 0 0)) := by
  simp [writeHtrCtrl, State.flag, h, State.htrCtrl]
end

/-- The output in force is a loop output (R438). -/
theorem State.htrOut_eq (s : State) (k : Nat) : s.htrOut k =
    if s.get (Reg.HTR_LOOPk_OUT_MODE k) = 1 then (s.heater k).code * (s.heater k).code / 2 ^ 20 else (s.heater k).code := by
  simp [State.htrOut, State.flag]

theorem State.htrOut_lt {s : State} {k : Nat} (h : (s.heater k).code < 2 ^ 20) : s.htrOut k < 2 ^ 20 := by
  rw [State.htrOut_eq]
  split
  · exact Nat.div_lt_of_lt_mul (Nat.mul_lt_mul'' h h)
  · exact h

/-! ### LOOP_ENABLE and LOOP_DISABLE as writes -/

/-- The row of HTR_CTRLk (Table 13-12). -/
def htrCtrlRow : RegRow := ⟨0xE0100, false, 4, 64, 1, 4, 0x80000000, none, 0x1, 0x0, 0x0, 0x0⟩

theorem map_htrCtrl : ∀ k < 4, pairLow? (Reg.HTR_CTRLk k) = none ∧ regRow? (Reg.HTR_CTRLk k) = some (htrCtrlRow, k) := by decide

theorem wordBits_withoutBit_zero (v : Word) : wordBits (withoutBit v 0) 0 0 = 0 :=
  wordBits_wordSet_same v 0 0 0 (by decide) (by decide)

section
variable {s : State} {k : Nat} (hk : k < 4) (hopen : s.boardOpen) (rid : Nat) (v : Word)
include hk hopen

theorem hostWrite_htrCtrl :
    hostWrite s rid (Reg.HTR_CTRLk k) v = (writeHtrCtrl s k v).finish rid (Reg.HTR_CTRLk k) := by
  have hboard : Reg.HTR_CTRLk k < 0x100000 := by unfold Reg.HTR_CTRLk; omega
  obtain ⟨hpair, hrow⟩ := map_htrCtrl k hk
  exact hostWrite_board s rid _ v hpair hrow (rankOf_board hboard) (modeRefuses_board s hboard hopen)

theorem exec_loopEnable :
    exec (.loopEnable rid k v) s = .next ((writeHtrCtrl s k (withBit v 0)).finish rid (Reg.HTR_CTRLk k)) :=
  (happen_of (decide_eq_true hk) _ _).trans (congrArg _ (hostWrite_htrCtrl hk hopen rid _))

theorem exec_loopDisable :
    exec (.loopDisable rid k v) s = .next ((writeHtrCtrl s k (withoutBit v 0)).finish rid (Reg.HTR_CTRLk k)) :=
  (happen_of (decide_eq_true hk) _ _).trans (congrArg _ (hostWrite_htrCtrl hk hopen rid _))

theorem exec_loopEnable_start (hoff : s.get (Reg.HTR_CTRLk_LOOP_EN k) = 0) :
    exec (.loopEnable rid k v) s = .next (startLoop s k) := by
  rw [exec_loopEnable hk hopen, writeHtrCtrl_start hoff (wordBits_withBit_zero v), finish_taken]

theorem exec_loopEnable_same (hon : s.get (Reg.HTR_CTRLk_LOOP_EN k) = 1) :
    exec (.loopEnable rid k v) s = .next (s.htrCtrl k 1) := by
  have hbit := wordBits_withBit_zero v
  rw [exec_loopEnable hk hopen, writeHtrCtrl_same (hon.trans hbit.symm), hbit, finish_taken]

theorem exec_loopDisable_end (hon : s.get (Reg.HTR_CTRLk_LOOP_EN k) = 1) :
    exec (.loopDisable rid k v) s = .next (endLoop s k) := by
  rw [exec_loopDisable hk hopen, writeHtrCtrl_end hon (wordBits_withoutBit_zero v), finish_taken]

theorem exec_loopDisable_same (hoff : s.get (Reg.HTR_CTRLk_LOOP_EN k) = 0) :
    exec (.loopDisable rid k v) s = .next (s.htrCtrl k 0) := by
  have hbit := wordBits_withoutBit_zero v
  rw [exec_loopDisable hk hopen, writeHtrCtrl_same (hoff.trans hbit.symm), hbit, finish_taken]
end

end Sys2Proof.Machine
end

section
/-!
The events of a heater (13): codes that come into force, a loop that starts, ends or loses its sensor, compliance, and O55.
-/
namespace Sys2Proof.Machine

/-! ### Codes that come into force (R434, R436) -/

section
variable {s : State} {k due v : Nat} (hdue : due ≤ s.now)
include hdue

theorem exec_htrValEffect (hpend : (s.heater k).valPend = some (due, v)) :
    exec (.htrValEffect k) s = .next (s.setHeater k { s.heater k with code := v, valPend := none }) := by
  change execHtrValEffect k s = _
  rw [execHtrValEffect, hpend]
  exact happen_of (decide_eq_true hdue) _ _

theorem exec_heaterCodeEffect (hpend : (s.heater k).codePend = some (due, v)) :
    exec (.heaterCodeEffect k) s = .next (s.setHeater k { s.heater k with code := v, codePend := none }) := by
  change execHeaterCodeEffect k s = _
  rw [execHeaterCodeEffect, hpend]
  exact happen_of (decide_eq_true hdue) _ _
end

/-! ### A loop that starts and ends (R438) -/

section
variable (s : State) (k : Nat)

theorem startLoop_keeps : s.keepsFlds (startLoop s k)
    [Reg.HTR_CTRLk_CLEAR k, Reg.HTR_CTRLk_LOOP_EN k, Reg.HTR_STATk_STATE k, Reg.HTR_IACCk_IACC k] := by
  rw [startLoop]
  exact State.keepsFlds_setHeater (State.keepsFlds_trans (State.keepsFlds_mono (s.htrCtrl_keeps k 1) (by simp))
    (State.keepsFlds_mono (State.loopRegs_keeps _ k htrHold (s.htrOut k)) (by simp))) _ _

/-- A start of the loop leaves HTR_CTRLk as the write stored it. -/
theorem startLoop_ctrl {f : Fld} (hf : f.addr = Reg.HTR_CTRLk k) : (startLoop s k).get f = (s.htrCtrl k 1).get f := by
  obtain ⟨hstat, hiacc, -⟩ := htrRegs_ne k
  rw [startLoop, State.get_setHeater, State.get_loopRegs _ k _ _ (hf ▸ hstat) (hf ▸ hiacc)]

theorem startLoop_state : (startLoop s k).get (Reg.HTR_STATk_STATE k) = htrHold := by
  rw [startLoop, State.get_setHeater, State.loopRegs_state _ k _ (by decide)]

theorem startLoop_iacc {s : State} {k : Nat} (h : (s.heater k).code < 2 ^ 20) :
    (startLoop s k).get (Reg.HTR_IACCk_IACC k) = s.htrOut k := by
  rw [startLoop, State.get_setHeater, State.loopRegs_iacc _ k _ (State.htrOut_lt h)]

theorem startLoop_frame : startLoop s k = { s with regs := (startLoop s k).regs, heaters := (startLoop s k).heaters } :=
  State.setHeater_of_onlyRegs (State.onlyRegs_trans (s.htrCtrl_onlyRegs k 1) (State.loopRegs_onlyRegs _ k _ _)) k _

theorem endLoop_ctrl {f : Fld} (hf : f.addr = Reg.HTR_CTRLk k) : (endLoop s k).get f = (s.htrCtrl k 0).get f := by
  obtain ⟨hstat, -⟩ := htrRegs_ne k
  have hapart : (Reg.HTR_STATk_STATE k).apart f := .inl (hf ▸ hstat)
  rw [endLoop, State.get_setHeater, State.get_put_apart _ _ _ _ (htrState_fits k).1 (htrState_fits k).2 hapart]

theorem endLoop_state : (endLoop s k).get (Reg.HTR_STATk_STATE k) = htrOff := by
  rw [endLoop, State.get_setHeater, State.get_put_val _ _ _ (htrState_fits k) (by decide : htrOff < 16)]

theorem endLoop_keeps : s.keepsFlds (endLoop s k)
    [Reg.HTR_CTRLk_CLEAR k, Reg.HTR_CTRLk_LOOP_EN k, Reg.HTR_STATk_STATE k] := by
  rw [endLoop]
  exact State.keepsFlds_setHeater (State.keepsFlds_put (State.keepsFlds_mono (s.htrCtrl_keeps k 0) (by simp)) _ _ (by simp)
    (htrState_fits k)) _ _

theorem endLoop_frame : endLoop s k = { s with regs := (endLoop s k).regs, heaters := (endLoop s k).heaters } :=
  State.setHeater_of_onlyRegs (State.onlyRegs_trans (s.htrCtrl_onlyRegs k 0) (State.onlyRegs_put _ _ _)) k _
end

/-! ### A loop without its sensor (R437) -/

theorem exec_noSensor {s : State} {k : Nat} (hk : k < 4) (hon : s.get (Reg.HTR_CTRLk_LOOP_EN k) = 1)
    (htimeout : s.get (Reg.HTR_SAFEk_TIMEOUT k) ≠ 0) (hstate : s.get (Reg.HTR_STATk_STATE k) ≠ htrNoSensor)
    (hlate : (s.heater k).last + s.get (Reg.HTR_SAFEk_TIMEOUT k) * 2500000000 ≤ s.now) :
    exec (.noSensor k) s = .next (loseSensor s k) :=
  happen_of (by simp [State.noSensor, State.flag, ticksOfSeconds, hk, hon, htimeout, hstate, hlate]) _ _

theorem State.htrCode_of_mode {s t : State} {k : Nat} (h : t.get (Reg.HTR_LOOPk_OUT_MODE k) = s.get (Reg.HTR_LOOPk_OUT_MODE k))
    (out : Nat) : t.htrCode k out = s.htrCode k out := by
  rw [State.htrCode, State.htrCode, State.flag, State.flag, h]

/-- NO_SENSOR with its integrator value, and the event. -/
def sensorLost (s : State) (k : Nat) : State :=
  (s.loopRegs k htrNoSensor (s.get (Reg.HTR_SAFEk_FALLBACK k))).event evtCryo

section
variable (s : State) (k : Nat)

theorem sensorLost_onlyHost : s.onlyHost (sensorLost s k) :=
  State.onlyHost_trans (s.loopRegs_onlyRegs k _ _).onlyHost (State.event_onlyHost _ _)

theorem sensorLost_keeps :
    s.keepsFlds (sensorLost s k) ([Reg.HTR_STATk_STATE k, Reg.HTR_IACCk_IACC k] ++ evtFlds evtCryo) :=
  State.keepsFlds_event (State.keepsFlds_mono (s.loopRegs_keeps k _ _) (by simp)) (by decide) (by simp)

theorem sensorLost_state : (sensorLost s k).get (Reg.HTR_STATk_STATE k) = htrNoSensor := by
  rw [sensorLost, State.get_event_htr _ (htrStat_above k), State.loopRegs_state _ k _ (by decide)]

theorem sensorLost_iacc : (sensorLost s k).get (Reg.HTR_IACCk_IACC k) = s.get (Reg.HTR_SAFEk_FALLBACK k) := by
  rw [sensorLost, State.get_event_htr _ (htrIacc_above k), State.loopRegs_iacc _ k _ (s.get_lt _)]

theorem sensorLost_code (out : Nat) : (sensorLost s k).htrCode k out = s.htrCode k out := by
  obtain ⟨-, -, -, hstat, hiacc⟩ := htrRegs_ne k
  refine State.htrCode_of_mode ?_ out
  rw [sensorLost, State.get_event_htr _ (htrLoop_above k), State.get_loopRegs _ k _ _ hstat hiacc]

/-- The output takes FALLBACK at once, and a code of the loop that waits is dropped. -/
theorem loseSensor_eq : loseSensor s k = (sensorLost s k).setHeater k { s.heater k with
    out := s.get (Reg.HTR_SAFEk_FALLBACK k), code := s.htrCode k (s.get (Reg.HTR_SAFEk_FALLBACK k)), codePend := none } := by
  rw [← sensorLost_code s k, ← (sensorLost_onlyHost s k).heater k]
  rfl
end

/-! ### Compliance (R435) -/

theorem exec_heaterCompliance (s : State) {k : Nat} (hk : k < 4) (bad : Bool) :
    exec (.heaterCompliance k bad) s = .next (htrCompliance s k bad) := happen_of (decide_eq_true hk) _ _

theorem htrCompliance_rise {s : State} {k : Nat} (h : s.get (Reg.HTR_STATk_COMP k) = 0) :
    htrCompliance s k true = (s.put (Reg.HTR_STATk_COMP k) 1).event evtCryo := by
  simp [htrCompliance, State.flag, h]

theorem htrCompliance_again {s : State} {k : Nat} (h : s.get (Reg.HTR_STATk_COMP k) = 1) : htrCompliance s k true = s := by
  simp [htrCompliance, State.flag, h]

section
variable (s : State) (k : Nat)

theorem compRise_comp : ((s.put (Reg.HTR_STATk_COMP k) 1).event evtCryo).get (Reg.HTR_STATk_COMP k) = 1 := by
  rw [State.get_event_htr _ (htrStat_above k), State.get_put_val _ _ _ (htrComp_fits k) (by decide : 1 < 2)]

theorem compRise_keeps :
    s.keepsFlds ((s.put (Reg.HTR_STATk_COMP k) 1).event evtCryo) (Reg.HTR_STATk_COMP k :: evtFlds evtCryo) :=
  State.keepsFlds_event (State.keepsFlds_put (s.keepsFlds_refl _) _ _ (by simp) (htrComp_fits k)) (by decide) (by simp)
end

/-! ### O55 -/

/-- Settles O55: the codes that wait by their effects, LOOP_EN by the cases of a write of HTR_CTRLk, NO_SENSOR as STATE and IACC
with the event and then the output, and compliance by whether COMP was set. -/
theorem heatersFollowTheirSettings : Obligations.HeatersFollowTheirSettings := by
  refine fun s k hk => ⟨fun due v hpend hdue => ?value, fun due v hpend hdue => ?code,
    fun rid v hopen => ⟨fun hoff hcode => ?start, fun hon => ⟨?stay, ?stop⟩, fun hoff => ?release⟩,
    fun hon htimeout hstate hlate => ?noSensor, fun hoff => ?rise, fun hcomp => ?again, ?fall⟩
  case value =>
    exact completes_of_exec (exec_htrValEffect hdue hpend)
      ⟨State.heater_setHeater .., fun _ => State.heater_setHeater_ne _ _, rfl⟩
  case code =>
    exact completes_of_exec (exec_heaterCodeEffect hdue hpend)
      ⟨State.heater_setHeater .., fun _ => State.heater_setHeater_ne _ _, rfl⟩
  case start =>
    rw [← s.htrOut_eq k]
    exact completes_of_exec (exec_loopEnable_start hk hopen rid v hoff)
      ⟨(startLoop_ctrl s k rfl).trans (s.htrCtrl_clear k 1), (startLoop_ctrl s k rfl).trans (s.htrCtrl_loopEn k (by decide)),
        startLoop_state s k, startLoop_iacc hcode, State.heater_setHeater .., fun _ => State.heater_setHeater_ne _ _,
        startLoop_keeps s k, startLoop_frame s k⟩
  case stay =>
    exact completes_of_exec (exec_loopEnable_same hk hopen rid v hon)
      ⟨s.htrCtrl_clear k 1, s.htrCtrl_loopEn k (by decide), s.htrCtrl_keeps_of_same k hon, s.htrCtrl_onlyRegs k 1⟩
  case stop =>
    exact completes_of_exec (exec_loopDisable_end hk hopen rid v hon)
      ⟨(endLoop_ctrl s k rfl).trans (s.htrCtrl_clear k 0), (endLoop_ctrl s k rfl).trans (s.htrCtrl_loopEn k (by decide)),
        endLoop_state s k, State.heater_setHeater .., fun _ => State.heater_setHeater_ne _ _, endLoop_keeps s k,
        endLoop_frame s k⟩
  case release =>
    exact completes_of_exec (exec_loopDisable_same hk hopen rid v hoff)
      ⟨s.htrCtrl_clear k 0, s.htrCtrl_keeps_of_same k hoff, s.htrCtrl_onlyRegs k 0⟩
  case noSensor =>
    have hexec := exec_noSensor hk hon htimeout hstate hlate
    rw [loseSensor_eq] at hexec
    have hheater := (sensorLost_onlyHost s k).heater
    exact completes_of_exec hexec
      ⟨sensorLost_state s k, sensorLost_iacc s k, State.event_flag _ (by decide), State.heater_setHeater ..,
        fun j hj => (State.heater_setHeater_ne _ _ hj).trans (hheater j), sensorLost_keeps s k,
        State.setHeater_of_onlyHost (sensorLost_onlyHost s k) k _⟩
  case rise =>
    have hexec := exec_heaterCompliance s hk true
    rw [htrCompliance_rise hoff] at hexec
    exact completes_of_exec hexec ⟨compRise_comp s k, State.event_flag _ (by decide), compRise_keeps s k,
      State.onlyHost_trans (s.onlyHost_put _ _) (State.event_onlyHost _ _)⟩
  case again =>
    rw [exec_heaterCompliance s hk true, htrCompliance_again hcomp]
  case fall =>
    exact completes_of_exec (exec_heaterCompliance s hk false)
      ⟨State.get_put_val _ _ _ (htrComp_fits k) (Nat.two_pow_pos _),
        State.keepsFlds_put (s.keepsFlds_refl _) _ _ (by simp) (htrComp_fits k), s.onlyRegs_put _ _⟩

end Sys2Proof.Machine
end
